-- ==== Sys2Proof/Word.lean ====
section
/-!
DEFINITION. The word types of the SKS-6416 and their plainest arithmetic (R3, R4).
-/

namespace Sys2Proof

/-- A register word, an address or a bus word: 32 bits (R4). -/
abbrev Word := BitVec 32

/-- A byte (R4). -/
abbrev Byte := BitVec 8

/-- A 64-bit quantity: device time in nanoseconds, a cycle number (R4, R184). -/
abbrev DWord := BitVec 64

/-- The field `[lo + n - 1 : lo]` of a word as a number (R3). -/
def fieldOf (w : Word) (lo n : Nat) : Nat := (w.toNat >>> lo) % 2 ^ n

/-- Bit `i` of a word (R3). -/
def bitOf (w : Word) (i : Nat) : Bool := w.getLsbD i

/-- A number placed in the field that starts at bit `lo`. -/
def place (lo v : Nat) : Word := BitVec.ofNat 32 (v <<< lo)

/-- A flag placed at bit `lo`. -/
def placeB (lo : Nat) (b : Bool) : Word := if b then place lo 1 else 0

/-- The signed reading of a number as an `n`-bit two's complement field. -/
def signedOf (n v : Nat) : Int := if v % 2 ^ n < 2 ^ (n - 1) then (v % 2 ^ n : Nat) else (v % 2 ^ n : Nat) - (2 ^ n : Nat)

/-- The `n`-bit two's complement code of an integer. -/
def codeOf (n : Nat) (i : Int) : Nat := (i % (2 ^ n : Nat)).toNat

/-- Saturation of a count at `m`. -/
def satAdd (m a b : Nat) : Nat := min m (a + b)

/-- Saturation of an integer to a signed field of `n` bits. -/
def satInt (n : Nat) (i : Int) : Int := max (-(2 ^ (n - 1) : Nat)) (min ((2 ^ (n - 1) : Nat) - 1) i)

/-- The low and the high word of a 64-bit value. -/
def loWord (v : Nat) : Word := BitVec.ofNat 32 v
def hiWord (v : Nat) : Word := BitVec.ofNat 32 (v >>> 32)

end Sys2Proof
end

