-- ==== Sys2Proof/Syntax.lean ====
section
/-!
DEFINITION. The commands of the block: one constructor per row of spec/opcode_table.json, with the operands that the row's rule gives the command or that the rule takes from outside the device. An operand with a value in its binder has that value where it is left out.
-/

namespace Sys2Proof

/-- The serving ports of Table 12.1 (R334): HP0 is 0, HP1 is 1, PP is 2. -/
abbrev Port := Fin 3
/-- The lanes A, B, C (R11, R145). -/
abbrev Lane := Fin 3
/-- The isolated dies (R11): 0 to 3 for F0 to F3, 4 for LD. -/
abbrev Die := Fin 5
/-- The field dies F0 to F3 (R11). -/
abbrev FDie := Fin 4
/-- A local channel of a field die (R43) or a loop of LD (R281). -/
abbrev Chan := Fin 16
/-- The CAN controllers CAN_A and CAN_B (R362). -/
abbrev Ctrl := Fin 2
/-- A general register number of a lane (R146). -/
abbrev Reg := Fin 16

/-- A serial link across the barrier (R14, R15): lane to die, die to snapshot slice, time master to die. -/
inductive Link where
  | down (l : Lane) (d : Die)
  | up (l : Lane) (d : Die)
  | time (d : Die)
deriving DecidableEq, Repr

/-- What a link frame carries (R16, R113, R117). -/
inductive FrameKind where
  | idle
  | close
  | freeze
  | event
deriving DecidableEq, Repr

/-- How a CLAIM or APPLY frame travels (R336, R337): its page and offset, the exclusive-or of its check word with the right one, how many whole data words were clocked (two is the command and its check word), and whether it ends inside a word. -/
structure HowSent where
  page : Nat
  off : Nat
  damage : Word
  words : Nat
  part : Bool
deriving DecidableEq, Repr

/-- A whole frame to page 1 with the right check word. -/
def wholeFrame (off : Nat) : HowSent := { page := 1, off := off, damage := 0, words := 2, part := false }

/-- What the error correction of a lane memory finds at an access (R171). -/
inductive Ecc where
  | clean
  | single
  | double
deriving DecidableEq, Repr

/-- A CAN frame as the bus carries it (R362). -/
structure CanFrame where
  /-- 1: 29-bit identifier. -/
  ide : Bool
  /-- 1: FD format. -/
  fdf : Bool
  /-- 1: bit-rate switch. -/
  brs : Bool
  /-- 1: the sender was error passive. -/
  esi : Bool
  /-- 1: remote frame. -/
  rtr : Bool
  id : BitVec 29
  dlc : BitVec 4
  data : List Byte
deriving DecidableEq, Repr

/-- How a transmission attempt ends (R379, R383). -/
inductive CanTxResult where
  | sent
  | lost
  | error
deriving DecidableEq, Repr

/-- Instructions of the test access port (R52). -/
inductive TapIns where
  | bypass
  | idcode
  | extest
  | sample
deriving DecidableEq, Repr

/-- The signals of the control-side pads that boundary scan reaches (Table 2.8, R52). -/
inductive CtlPad where
  | hpSck (n : Fin 2)
  | hpSi (n : Fin 2)
  | hpCsN (n : Fin 2)
  | hpSo (n : Fin 2)
  | hpRdy (n : Fin 2)
  | intN (n : Fin 2)
  | ppSck
  | ppSi
  | ppCsN
  | ppSo
  | ppRdy
  | faultN
  | mpSck
  | mpSo
  | mpCsN (n : Fin 2)
  | mpSi
  | mpRstN
  | canTxd (c : Ctrl)
  | canRxd (c : Ctrl)
  | canStb (c : Ctrl)
  | tsyncIn
  | tsyncOut
  | resetN
  | rstoutN
  | bootSel (i : Fin 2)
  | wake
  | testEn
deriving DecidableEq, Repr

/-- What stands at a pad: a level that is driven, nothing (high impedance, or an open drain released), or the bits of a frame in progress. -/
inductive PadLevel where
  | low
  | high
  | released
  | frame
deriving DecidableEq, Repr

/-- A command of the block: one row of opcode_table.json. -/
inductive Instr where
  /-- LINK_FRAME_RX (R16): A downlink or uplink frame arrives whole, is CRC-checked, and is taken or discarded. -/
  | linkFrameRx (link : Link) (crcOk : Bool) (kind : FrameKind)
  /-- IDLE_FRAME (R16): A link sender with no other traffic transmits an idle frame every 10 µs. -/
  | idleFrame (link : Link) (crcOk : Bool)
  /-- LINK_LOST (R16): A receiver declares its link lost when no CRC-valid frame has arrived for 32 µs. -/
  | linkLost (link : Link)
  /-- INPUT_EVENT_FRAME (R113): An isolated die stamps a change of an input, status flag or measurement word and sends it on all three uplinks. -/
  | inputEventFrame (d : Die) (t : Nat)
  /-- TIME_FRAME (R19): The time link delivers a time frame every 1 µs with the time base and the next commit time, to which the die locks. -/
  | timeFrame (d : Die) (crcOk : Bool) (offset : Int)
  /-- TRANSFORMER_FAIL (R21): A failed barrier transformer or driver is disconnected by its monitor and BPWR_SINGLE is recorded. -/
  | transformerFail (d : Die) (t : Fin 2)
  /-- RAIL_REGULATION_RESTORED (R21): The surviving transformer returns the die's isolated rail to regulation and switching channels resume. -/
  | railRegulationRestored (d : Die)
  /-- CLOCK_MONITOR_FAIL (R33): A clock monitor detects a stopped lane clock or OSC_B/OSC_C fault and the lane is treated as faulty. -/
  | clockMonitorFail (l : Lane)
  /-- REF_SWITCH (R186): REF_P fails and the time master switches to REF_S with an advance of at most 8 ns. -/
  | refSwitch (adv : Nat)
  /-- REF_P_REVERT (R186): With REVERT 1, after REF_P has run within limits for 1 s the time master returns to REF_P. -/
  | refPRevert (adv : Nat)
  /-- TM_SECTION_FAULT (R185): The two time-master sections differ at a tick, and the faulty section is found and dropped. -/
  | tmSectionFault (v0 : Nat) (v1 : Nat := 0)
  /-- MCORE_WATCHDOG_RESET (R33): The management core's own watchdog expires and resets the core alone, suspending host access. -/
  | mcoreWatchdogReset
  /-- COMMIT (R28): At T0(n+1) dies freeze inputs and vote and act on the previous cycle's outputs, and the next cycle begins. -/
  | commit (rb : BitVec 64)
  /-- IMAGE_DELIVERED (R112): A lane's input image is complete and the slices' digests are compared, starting the compute window. -/
  | imageDelivered (l : Lane) (dig : List Word)
  /-- VOTE_CLOSE (R117): At VC(n) each member lane sends its close transfers, bus requests, permit bits and report words. -/
  | voteClose
  /-- FINAL_PASS_DONE (R140): The final pass ends, copying remaining blocks and special registers, and the joining lane starts its shadow cycle. -/
  | finalPassDone
  /-- REINT_RESET_DONE (R139): The RESET stage of reintegration completes and CODE begins. -/
  | reintResetDone (l : Lane)
  /-- REINT_CODE_DONE (R139): Code SRAM has been copied and compared and BULK begins, or CODE_MISMATCH fails the attempt. -/
  | reintCodeDone (l : Lane)
  /-- REINT_BULK_DONE (R139): Data, retain, output SRAM and IMAGE_IN have been copied and CATCHUP begins. -/
  | reintBulkDone (l : Lane)
  /-- REINT_STAGE_TIME (R139): A RESET, CODE or BULK stage runs past its maximum and the attempt fails with STAGE_TIME. -/
  | reintStageTime (l : Lane)
  /-- REINT_NOCONVERGE (R140): CONVMAX vote closes pass without a final pass and the attempt fails with NOCONVERGE. -/
  | reintNoconverge (l : Lane)
  /-- POR (R56): A control-side rail leaves its range and the control die enters reset with barrier power stopped. -/
  | por
  /-- POR_RELEASE (R55): The power-on reset is released 2 ms to 3 ms after the last control rail enters range. -/
  | porRelease (bootSel : BitVec 2) (testEn : Bool) (resetN : Bool := true)
  /-- PIN_RESET (R442): A qualified low level on RESET_N puts the control die in reset. -/
  | pinReset
  /-- RSTCTL_COLD (R71): An owner write of RSTCTL KIND cold starts a software cold reset. -/
  | rstctlCold (p : Port) (key : Byte)
  /-- RSTCTL_WARM (R71): An owner write of RSTCTL KIND warm starts a software warm reset. -/
  | rstctlWarm (p : Port) (key : Byte)
  /-- FATAL_RESET (R66): Both time-master sections fail or the boot ROM self-test fails and the control die resets. -/
  | fatalReset
  /-- RESET_RELEASE (R68): The reset is released 100 µs after the last trigger ends, BOOT_SEL is sampled and the boot begins. -/
  | resetRelease (bootSel : BitVec 2) (testEn : Bool)
  /-- BOOT_COMPLETE (R79): Boot phase 8 ends and the device leaves BOOT for the mode that MODECFG.INIT names. -/
  | bootComplete
  /-- RSTOUT_RELEASE (R70): RSTOUT_N is released 1 ms after reset release. -/
  | rstoutRelease
  /-- CONFIRM (R76): A write of BOOTCTL.CONFIRM during a trial starts a directory write confirming the running bank. -/
  | confirm (p : Port)
  /-- CONFIRM_WRITE_DONE (R76): The confirming directory write completes and BOOTSTAT.TRIAL reads 0, or it fails and TRIAL stays 1. -/
  | confirmWriteDone (ok : Bool)
  /-- QUOTE (R83): A QUOTE frame with a 32-byte nonce starts a signed quote on its port. -/
  | quote (p : Port) (page : Nat) (off : Nat) (nonce : List Word) (part : Bool := false)
  /-- QUOTE_COMPLETE (R84): The attestation engine finishes a quote into QBUF_p, or fails it on a random generator fault. -/
  | quoteComplete (ok : Bool)
  /-- JRNCTL_NOW (R88): A write of JRNCTL.NOW makes the next cycle a journal cycle. -/
  | jrnctlNow (p : Port)
  /-- JOURNAL_CAPTURE_DONE (R88): The retain captures of a journal cycle are read and compared, and a matching copy is journalled or JRN_DISAGREE set. -/
  | journalCaptureDone
  /-- JOURNAL_WRITE_DONE (R89): The retain journal slot write completes and the record becomes valid. -/
  | journalWriteDone (ok : Bool)
  /-- MODECMD_QUIET (R102): An owner MODECMD with target QUIET is accepted as pending or rejected. -/
  | modecmdQuiet (p : Port) (key : Byte)
  /-- MODECMD_HOLD (R102): An owner MODECMD with target HOLD is accepted as pending or rejected, and wakes from QUIET. -/
  | modecmdHold (p : Port) (key : Byte)
  /-- MODECMD_PRIME (R104): An owner MODECMD with target PRIME, warm or cold, is accepted if conditions hold. -/
  | modecmdPrime (p : Port) (key : Byte) (warm : Bool)
  /-- MODECMD_SAFE (R102): An owner MODECMD with target SAFE is accepted as pending or rejected. -/
  | modecmdSafe (p : Port) (key : Byte)
  /-- LANE_START (R104): Before PRIME begins the device clears or restores lane memories and starts the lanes. -/
  | laneStart
  /-- PRIME_TIMEOUT (R100): PRIME lasts PRIME_TMO cycles without agreement and the device leaves to DEGRADED or SAFE. -/
  | primeTimeout (rb : BitVec 64)
  /-- BPWR_ON (R106): An owner write of 1 to a PWRCTL.BPWR bit switches a die's barrier power on and starts its microcode load. -/
  | bpwrOn (p : Port) (d : Die) (viso : Nat)
  /-- BPWR_OFF (R106): An owner write of 0 to a PWRCTL.BPWR bit switches a die's barrier power off. -/
  | bpwrOff (p : Port) (d : Die)
  /-- LCLK_SET (R106): An owner write changes the PWRCTL.LCLK lane clock enables. -/
  | lclkSet (p : Port) (v : BitVec 3)
  /-- LOOPMOD_SET (R106): An owner write changes PWRCTL.LOOPMOD modulator bits, taking effect at the next T0. -/
  | loopmodSet (p : Port) (v : BitVec 16)
  /-- PWRHART_SET (R106): An owner write changes PWRHART modem bits, taking effect at the next T0. -/
  | pwrhartSet (p : Port) (v : BitVec 16)
  /-- DIE_UCODE_CHECK (R107): A loaded die reports its microcode digest; it becomes ready on a match or is switched off with DIE_UCODE. -/
  | dieUcodeCheck (d : Die) (digest : List Word)
  /-- VISO_LOW (R57): VISO falls below 4.60 V and VISO_LOW is recorded. -/
  | visoLow (mV : Nat)
  /-- VISO_COLLAPSE (R57): VISO falls below 4.20 V, the transformer drivers stop and every BPWR bit clears. -/
  | visoCollapse (mV : Nat := 0)
  /-- VBB_LOW (R58): VBB_Fn falls below its undervoltage threshold and the die switches every channel off. -/
  | vbbLow (d : FDie) (mV : Nat)
  /-- VBB_RESTORED (R58): VBB_Fn rises above 8.8 V and the die acts on voted commands again from the next commit. -/
  | vbbRestored (d : FDie)
  /-- VBB_HIGH (R58): VBB_Fn rises above 64 V typical and VBB_HIGH is recorded. -/
  | vbbHigh (d : FDie) (mV : Nat)
  /-- WAKE_PAD (R109): WAKE high for 10 µs in QUIET with the pad enabled wakes the device to HOLD. `high`: the level that the pad has had for 10 µs. -/
  | wakePad (viso : Nat) (high : Bool := true)
  /-- WAKE_CAN (R109): A frame accepted by filter pair 0 of a wake-enabled controller in QUIET wakes the device. -/
  | wakeCan (c : Ctrl) (f : CanFrame) (viso : Nat)
  /-- WAKE_ALARM (R109): The time base reaches WAKETIME in QUIET with the alarm enabled and wakes the device. -/
  | wakeAlarm (viso : Nat)
  /-- LANECMD_EXCLUDE (R144): An owner LANECMD op 1 excludes the named lane with cause OWNER. -/
  | lanecmdExclude (p : Port) (key : Byte) (l : BitVec 2)
  /-- LANECMD_REINT (R144): An owner LANECMD op 2 starts reintegration of a lane in state OUT. -/
  | lanecmdReint (p : Port) (key : Byte) (l : BitVec 2)
  /-- LANECMD_SLACK_RESET (R144): An owner LANECMD op 3 sets every LSLACK_l to 0xFFFF_FFFF. -/
  | lanecmdSlackReset (p : Port) (key : Byte)
  /-- ADD (R158): ALU ADD adds two registers with carry and overflow flags. -/
  | add (l : Lane) (rd ra rb : Reg)
  /-- SUB (R158): ALU SUB subtracts two registers with flags. -/
  | sub (l : Lane) (rd ra rb : Reg)
  /-- ADC (R158): ALU ADC adds with carry in. -/
  | adc (l : Lane) (rd ra rb : Reg)
  /-- SBC (R158): ALU SBC subtracts with borrow. -/
  | sbc (l : Lane) (rd ra rb : Reg)
  /-- ADDS (R158): ALU ADDS adds with signed saturation. -/
  | adds (l : Lane) (rd ra rb : Reg)
  /-- SUBS (R158): ALU SUBS subtracts with signed saturation. -/
  | subs (l : Lane) (rd ra rb : Reg)
  /-- CMP (R158): ALU CMP sets flags from a subtraction and discards the result. -/
  | cmp (l : Lane) (ra rb : Reg)
  /-- AND (R158): ALU AND computes the bitwise and. -/
  | and (l : Lane) (rd ra rb : Reg)
  /-- OR (R158): ALU OR computes the bitwise or. -/
  | or (l : Lane) (rd ra rb : Reg)
  /-- XOR (R158): ALU XOR computes the bitwise exclusive-or. -/
  | xor (l : Lane) (rd ra rb : Reg)
  /-- ANDN (R158): ALU ANDN computes a and not b. -/
  | andn (l : Lane) (rd ra rb : Reg)
  /-- TST (R158): ALU TST sets flags from a bitwise and and discards the result. -/
  | tst (l : Lane) (ra rb : Reg)
  /-- SLL (R159): ALU SLL shifts left by a register amount. -/
  | sll (l : Lane) (rd ra rb : Reg)
  /-- SRL (R159): ALU SRL shifts right logically by a register amount. -/
  | srl (l : Lane) (rd ra rb : Reg)
  /-- SRA (R159): ALU SRA shifts right arithmetically by a register amount. -/
  | sra (l : Lane) (rd ra rb : Reg)
  /-- ROR (R159): ALU ROR rotates right by a register amount. -/
  | ror (l : Lane) (rd ra rb : Reg)
  /-- MUL (R158): ALU MUL writes the low 32 bits of the signed product. -/
  | mul (l : Lane) (rd ra rb : Reg)
  /-- MULHS (R158): ALU MULHS writes the high word of the signed product. -/
  | mulhs (l : Lane) (rd ra rb : Reg)
  /-- MULHU (R158): ALU MULHU writes the high word of the unsigned product. -/
  | mulhu (l : Lane) (rd ra rb : Reg)
  /-- DIVS (R160): ALU DIVS writes the signed quotient with defined results for zero and overflow. -/
  | divs (l : Lane) (rd ra rb : Reg)
  /-- DIVU (R160): ALU DIVU writes the unsigned quotient. -/
  | divu (l : Lane) (rd ra rb : Reg)
  /-- REMS (R160): ALU REMS writes the signed remainder. -/
  | rems (l : Lane) (rd ra rb : Reg)
  /-- REMU (R160): ALU REMU writes the unsigned remainder. -/
  | remu (l : Lane) (rd ra rb : Reg)
  /-- MIN (R158): ALU MIN writes the signed minimum. -/
  | min (l : Lane) (rd ra rb : Reg)
  /-- MAX (R158): ALU MAX writes the signed maximum. -/
  | max (l : Lane) (rd ra rb : Reg)
  /-- MINU (R158): ALU MINU writes the unsigned minimum. -/
  | minu (l : Lane) (rd ra rb : Reg)
  /-- MAXU (R158): ALU MAXU writes the unsigned maximum. -/
  | maxu (l : Lane) (rd ra rb : Reg)
  /-- CLZ (R158): ALU CLZ counts leading zero bits. -/
  | clz (l : Lane) (rd ra : Reg)
  /-- POPC (R158): ALU POPC counts one bits. -/
  | popc (l : Lane) (rd ra : Reg)
  /-- ADDI (R158): ADDI adds a sign-extended immediate. -/
  | addi (l : Lane) (rd ra : Reg) (imm : BitVec 18)
  /-- CMPI (R158): CMPI compares a register with a sign-extended immediate. -/
  | cmpi (l : Lane) (ra : Reg) (imm : BitVec 18)
  /-- ANDI (R158): ANDI ands a zero-extended immediate. -/
  | andi (l : Lane) (rd ra : Reg) (imm : BitVec 18)
  /-- ORI (R158): ORI ors a zero-extended immediate. -/
  | ori (l : Lane) (rd ra : Reg) (imm : BitVec 18)
  /-- XORI (R158): XORI exclusive-ors a zero-extended immediate. -/
  | xori (l : Lane) (rd ra : Reg) (imm : BitVec 18)
  /-- SHI (R159): SHI shifts or rotates by an immediate amount and kind. -/
  | shi (l : Lane) (rd ra : Reg) (kind : BitVec 2) (amt : BitVec 5)
  /-- LUI (R158): LUI loads imm22 shifted left by 10. -/
  | lui (l : Lane) (rd : Reg) (imm : BitVec 22)
  /-- CSEL (R158): CSEL selects one of two registers by a condition. -/
  | csel (l : Lane) (rd ra rb : Reg) (cond : BitVec 4)
  /-- LDW (R148): LDW loads a word after alignment and region checks. -/
  | ldw (l : Lane) (rd ra : Reg) (imm : BitVec 18) (ecc : Ecc)
  /-- LDH (R148): LDH loads a sign-extended halfword. -/
  | ldh (l : Lane) (rd ra : Reg) (imm : BitVec 18) (ecc : Ecc)
  /-- LDHU (R148): LDHU loads a zero-extended halfword. -/
  | ldhu (l : Lane) (rd ra : Reg) (imm : BitVec 18) (ecc : Ecc)
  /-- LDB (R148): LDB loads a sign-extended byte. -/
  | ldb (l : Lane) (rd ra : Reg) (imm : BitVec 18) (ecc : Ecc)
  /-- LDBU (R148): LDBU loads a zero-extended byte. -/
  | ldbu (l : Lane) (rd ra : Reg) (imm : BitVec 18) (ecc : Ecc)
  /-- STW (R449): STW stores a word with new check bits, subject to region and record budget checks. -/
  | stw (l : Lane) (rs ra : Reg) (imm : BitVec 18)
  /-- STH (R449): STH stores a halfword by read-merge-write. -/
  | sth (l : Lane) (rs ra : Reg) (imm : BitVec 18) (ecc : Ecc)
  /-- STB (R449): STB stores a byte by read-merge-write. -/
  | stb (l : Lane) (rs ra : Reg) (imm : BitVec 18) (ecc : Ecc)
  /-- CRC_VAL_SET (R154): A word store to CRC_VAL sets the lane CRC unit's running value. -/
  | crcValSet (l : Lane) (rs : Reg)
  /-- CRC_W (R154): A word store to CRC_W feeds four bytes into the lane CRC unit. -/
  | crcW (l : Lane) (rs : Reg)
  /-- CRC_B (R154): A word store to CRC_B feeds one byte into the lane CRC unit. -/
  | crcB (l : Lane) (rs : Reg)
  /-- B (R158): B branches by a word offset when its condition is true. -/
  | b (l : Lane) (cond : BitVec 4) (imm : BitVec 22)
  /-- JAL (R158): JAL jumps by a word offset and links the return address. -/
  | jal (l : Lane) (rd : Reg) (imm : BitVec 22)
  /-- JALR (R158): JALR jumps to a register plus offset and links the return address. -/
  | jalr (l : Lane) (rd ra : Reg) (imm : BitVec 18)
  /-- ENDCYC (R161): ENDCYC completes stores, marks the lane done for the cycle and waits for the next image. -/
  | endcyc (l : Lane)
  /-- TRAP (R163): TRAP raises SOFT with a code, withdrawing the lane's vote. -/
  | trap (l : Lane) (code : BitVec 18)
  /-- SCHED (R164): SCHED places one manifest entry for a die or refuses it. -/
  | sched (l : Lane) (rd ra rb : Reg) (ecc : List Ecc)
  /-- EMIT (R165): EMIT places one bus transmission request for a controller or refuses it. -/
  | emit (l : Lane) (rd ra rb : Reg) (ecc : List Ecc)
  /-- PERMIT_SET (R166): PERMIT SET ors a mask into the lane's permit word. -/
  | permitSet (l : Lane) (ra rb : Reg)
  /-- PERMIT_CLR (R166): PERMIT CLR clears masked bits of the lane's permit word. -/
  | permitClr (l : Lane) (ra rb : Reg)
  /-- PERMIT_WRITE (R166): PERMIT WRITE replaces the lane's permit word. -/
  | permitWrite (l : Lane) (ra rb : Reg)
  /-- SERVE (R167): SERVE sends a check-in word to the lane's watchdog. -/
  | serve (l : Lane) (ra : Reg)
  /-- RDS (R168): RDS reads a special register into a general register. -/
  | rds (l : Lane) (rd : Reg) (num : BitVec 8)
  /-- WRS (R168): WRS writes a general register to a writable special register. -/
  | wrs (l : Lane) (ra : Reg) (num : BitVec 8)
  /-- XIP_LINE_FILL (R176): The memory port delivers a checked window line into all three lanes' prefetch buffers. -/
  | xipLineFill (addr : Word) (ok1 ok2 : Bool)
  /-- XIP_FAIL (R169): A line fill not complete within XIPWAIT + 50 µs traps the requesting lane with XIP_FAIL. -/
  | xipFail (l : Lane)
  /-- PL_START (R182): PLCTL START checks TYPE and range, claims them and erases the store range. -/
  | plStart (p : Port) (key : Byte) (type : BitVec 8)
  /-- PL_CHUNK (R183): PLCTL CHUNK programs N words of PLBUF into the store. -/
  | plChunk (p : Port) (key : Byte) (n : BitVec 8)
  /-- PL_FINISH (R183): PLCTL FINISH reads back, checks and writes the new directory entry. -/
  | plFinish (p : Port) (key : Byte)
  /-- PL_ABORT (R183): PLCTL ABORT ends the load with ABORTED leaving the directory unchanged. -/
  | plAbort (p : Port) (key : Byte)
  /-- PL_TRIAL (R183): PLCTL TRIAL writes a directory generation granting N trial boots. -/
  | plTrial (p : Port) (key : Byte) (n : BitVec 8)
  /-- PL_ERASE_DONE (R182): The erase of a load range completes and PLSTAT becomes READY or FAILED. -/
  | plEraseDone (ok : Bool)
  /-- PL_CHUNK_DONE (R183): A chunk program completes and PLSTAT becomes READY or FAILED. -/
  | plChunkDone (ok : Bool)
  /-- PL_FINISH_DONE (R183): The read-back check and directory write complete and PLSTAT becomes DONE or FAILED. -/
  | plFinishDone (ok : Bool)
  /-- PL_TRIAL_DONE (R183): The TRIAL directory write completes. -/
  | plTrialDone (ok : Bool)
  /-- TSYNC_IN_EDGE (R192): A TSYNC_IN edge is measured against the expected instant and accepted or rejected. -/
  | tsyncInEdge (t : Nat)
  /-- TSYNC_LOST (R192): MISSMAX expected edges pass without an accepted edge and the source enters HOLDOVER. -/
  | tsyncLost
  /-- TSET (R188): An owner write of TSET_HI steps the time base outside running modes. -/
  | tset (p : Port) (lo hi : Word)
  /-- TSYNC_OUT_PULSE (R194): TSYNC_OUT rises at its period or commit and falls after WIDTH_US. -/
  | tsyncOutPulse
  /-- WS_SYNC_DUE (R196): A waystation source readies a SYNC frame at each multiple of PERIOD_MS. -/
  | wsSyncDue
  /-- WS_SYNC_ABANDON (R196): A SYNC not sent within PERIOD/2 is abandoned without FOLLOW. -/
  | wsSyncAbandon
  /-- WS_OWN_SYNC_STAMP (R196): The source stamps its own SYNC on reception and readies FOLLOW. -/
  | wsOwnSyncStamp (t : Nat)
  /-- WS_SYNC_RX (R195): A receiver takes a SYNC of its domain for pairing: the frame that the controller passed, with its DOMAIN, sequence number and stamp. -/
  | wsSyncRx (domain seq : Byte) (t : Nat)
  /-- WS_FOLLOW_RX (R195): A receiver pairs a FOLLOW with its SYNC and computes the offset and rate, or rejects the pair: the frame that the controller passed, with the stamp that it carries and the tick count at which it came. -/
  | wsFollowRx (ts t : Nat)
  /-- WS_LOST (R192): LOSTMAX periods pass without a complete pair and the source is lost. -/
  | wsLost
  /-- MANIFEST_ENTRY_DUE (R202): A pending manifest entry reaches its TIME and acts on its channels, generator, sample or held bus request. -/
  | manifestEntryDue (u : Fin 5)
  /-- PULSE_END (R199): The width of a PULSE entry elapses and the channel returns to OFF. -/
  | pulseEnd (d : FDie) (k : Chan)
  /-- PG_EDGE (R217): A pulse generator reaches an on or off edge and changes its followers' demand. -/
  | pgEdge (d : FDie) (j : Fin 4)
  /-- DUTY_EDGE (R219): The duty carrier reaches an edge and changes the demand of ACT 2 channels. -/
  | dutyEdge (d : FDie)
  /-- TURN_ON (R221): A waiting channel passes all checks of R221 and its switch turns on into INRUSH. -/
  | turnOn (d : FDie) (k : Chan)
  /-- TURN_OFF (R220): A conducting channel's demand goes off and its switch opens, freeing its slot. -/
  | turnOff (d : FDie) (k : Chan) (iLast : Nat) (clamp : Bool)
  /-- BLANKING_END (R220): Profile time reaches B and the channel moves from INRUSH to ON. -/
  | blankingEnd (d : FDie) (k : Chan)
  /-- INRUSH_WINDOW_END (R241): Profile time reaches W and the channel's inrush slot is freed to the queue head. -/
  | inrushWindowEnd (d : FDie) (k : Chan)
  /-- OT_TRIP (R229): Sensor or model reaches 175 °C and the channel trips. -/
  | otTrip (d : FDie) (k : Chan) (iLast : Nat) (clamp : Bool)
  /-- DT_TRIP (R229): Sensor minus substrate reaches 90 K and the channel trips. -/
  | dtTrip (d : FDie) (k : Chan) (iLast : Nat) (clamp : Bool)
  /-- SC_TRIP (R229): The SC condition persists for 200 µs and the channel trips. -/
  | scTrip (d : FDie) (k : Chan) (mV : Int) (iLast : Nat) (clamp : Bool := false)
  /-- SC_FAST_TRIP (R229): The current reaches the fast-trip level and the channel trips within 1 µs. -/
  | scFastTrip (d : FDie) (k : Chan) (uA : Nat) (iLast : Nat) (clamp : Bool := false)
  /-- LIMTIME_TRIP (R229): The channel stays in current limit for LIMTIME ms past blanking and trips. -/
  | limtimeTrip (d : FDie) (k : Chan) (iLast : Nat) (clamp : Bool)
  /-- SENSOR_TRIP (R229): Sensor and model differ by more than 30 K for 1 ms and the channel trips and latches. -/
  | sensorTrip (d : FDie) (k : Chan) (iLast : Nat) (clamp : Bool)
  /-- RETRY_CONDITIONS_MET (R229): A channel in RWAIT has cooled and waited RDELAY and leaves to WAIT or OFF. -/
  | retryConditionsMet (d : FDie) (k : Chan)
  /-- RLEFT_RELOAD (R231): A channel accumulates RTYRST × 100 ms of conduction and RLEFT is reloaded. -/
  | rleftReload (d : FDie) (k : Chan)
  /-- THERMAL_SAMPLE (R226): Every 10 µs the die reads sensors and updates each channel's thermal model, OT and thermal hold. -/
  | thermalSample (d : FDie) (tsub : Int) (tj : List Int) (p : List Nat) (uA : List Nat := [])
  /-- CLAMP_EVENT_END (R234): A clamp event ends when current falls below 10 mA; its energy is held and taken from the toll bucket. -/
  | clampEventEnd (d : FDie) (k : Chan) (e : Nat)
  /-- TOLL_REFILL (R235): Every 1 ms of device time the toll bucket refills and a lock may end. -/
  | tollRefill (d : FDie)
  /-- OL_ON_DETECT (R237): On-state current stays below the open-load threshold for OLT ms and OL is set. -/
  | olOnDetect (d : FDie) (k : Chan) (uA : Nat := 0)
  /-- OL_ON_CLEAR (R237): 1 ms of conduction at or above 110 % of the threshold clears OL. -/
  | olOnClear (d : FDie) (k : Chan) (uA : Nat := 0)
  /-- OL_OFF_TEST (R238): The off-state test sees the terminal above 4.0 V or below 2.5 V and sets or clears OL. -/
  | olOffTest (d : FDie) (k : Chan) (mV : Nat)
  /-- STB_DETECT (R238): An off terminal stays above VBB_Fn − 2.0 V for 1 ms and STB is set. -/
  | stbDetect (d : FDie) (k : Chan) (mV : Int)
  /-- GOV_ALLOWANCE (R239): Every 1 ms each governor slice computes EST and sends each die its allowance. -/
  | govAllowance (l : Lane) (diss : List Nat)
  /-- DIE_SUM_OVER (R211): The 1 s mean of ISUM exceeds 16.0 A and DIE_SUM is recorded. -/
  | dieSumOver (d : FDie) (mA : Nat)
  /-- SSEL_STEP (R246): A rising edge of SSEL_Fn steps the sense selection to the next channel in MASK. -/
  | sselStep (d : FDie) (lowLong : Bool)
  /-- INPUT_SAMPLE (R252): At each sample instant the comparators of INPUT channels are read and filters updated. -/
  | inputSample (d : FDie) (mV : List Nat) (dead : BitVec 16 := 0)
  /-- SINK_WINDOW_START (R252): The input sink turns on WIN before a sample instant. -/
  | sinkWindowStart (d : FDie)
  /-- PERMIT_EDGE (R260): A coupler edge ends a half-period that is judged valid or not, making the permit present or absent. -/
  | permitEdge (d : FDie) (k : Chan) (half : Nat)
  /-- PERMIT_STOP (R260): 25 µs pass without a coupler edge and the permit is absent, applying the safe state. -/
  | permitStop (d : FDie) (k : Chan)
  /-- PFAULT_CLEAR (R263): 1 ms passes without an invalid half-period and PFAULT clears. -/
  | pfaultClear (d : FDie) (k : Chan)
  /-- PERMIT_WAIT_END (R262): The 40 µs wait for a newly granted permit ends without presence and the channel stays safe. -/
  | permitWaitEnd (d : FDie) (k : Chan)
  /-- COAST_END (R267): A HOLD-LAST coast window ends and the demand becomes off. -/
  | coastEnd (d : FDie) (k : Chan)
  /-- CH_STUCK (R271): An open switch carries 50 mA or more for 1 ms, setting STUCK and cause FAULT. -/
  | chStuck (d : FDie) (k : Chan) (uA : Nat)
  /-- LIMP_HOME (R277): LH_EN_Fn is asserted after 1 ms and mapped channels leave Table 8.4 to follow their pads. -/
  | limpHome (d : FDie)
  /-- LH_EN_RELEASE (R278): LH_EN_Fn is released after 1 ms and mapped channels return to Table 9.4. -/
  | lhEnRelease (d : FDie)
  /-- LH_IN_CHANGE (R275): An LH_IN pad takes a new level after 100 µs and mapped channels follow. -/
  | lhInChange (d : FDie) (j : Fin 4) (level : Bool)
  /-- LH_TRIP (R276): A channel under limp-home trips on its stage protection and LH_TRIP is recorded. -/
  | lhTrip (d : FDie) (k : Chan) (cause : BitVec 4)
  /-- LOOP_FOLD (R285): A loop supply in limit below 6.0 V for 2 ms folds back and records LOOP_FOLD. -/
  | loopFold (k : Chan) (limiting : Bool := true) (supMv : Int := 0)
  /-- FOLDBACK_RELEASE_TRY (R285): Every 1,000 ms the foldback is released for 5 ms and ends or folds back again. -/
  | foldbackReleaseTry (k : Chan) (limiting : Bool) (supMv : Int := 0)
  /-- LOOP_MISWIRE (R287): A miswire condition lasting 5 µs opens the loop switch and turns its supply off. -/
  | loopMiswire (k : Chan) (cond : BitVec 3)
  /-- MISWIRE_RECONNECT (R288): After the hold time within limits the loop switch closes and the supply ramps up. -/
  | miswireReconnect (k : Chan)
  /-- MISWIRE_RAMP_END (R288): The 5 ms supply ramp ends and MISWIRE clears. -/
  | miswireRampEnd (k : Chan)
  /-- VLB_LOW (R286): VLB falls below 17.0 V and VLB_LOW is set and recorded. -/
  | vlbLow (mV : Nat)
  /-- LOOP_HEADROOM (R289): V_TX stays below HMIN for 10 ms and HEADROOM is set. -/
  | loopHeadroom (k : Chan)
  /-- HEADROOM_CLEAR (R289): V_TX stays above HMIN + 0.5 V for the hold time and HEADROOM clears. -/
  | headroomClear (k : Chan)
  /-- OW_FIELD_SET (R291): The loop current stays below 1.0 mA for 100 ms and OW_FIELD is set. -/
  | owFieldSet (k : Chan)
  /-- OW_FIELD_CLEAR (R291): The loop current stays at or above 1.5 mA for 100 ms and OW_FIELD clears. -/
  | owFieldClear (k : Chan)
  /-- OW_PATH_SET (R291): V(LPk_SP) above 7.0 V for 1 ms sets OW_PATH. -/
  | owPathSet (k : Chan)
  /-- OW_PATH_CLEAR (R291): V(LPk_SP) at or below 7.0 V for 100 ms with no failed test clears OW_PATH. -/
  | owPathClear (k : Chan)
  /-- OW_TEST_START (R292): OWCMD START claims the loop and begins the open-wire test. -/
  | owTestStart (p : Port) (key : Byte) (k : Chan)
  /-- OW_TEST_ABORT (R292): OWCMD ABORT ends the open-wire test with ABORTED. -/
  | owTestAbort (p : Port) (key : Byte) (k : Chan)
  /-- OW_TEST_DONE (R292): The open-wire test finishes with PASS, FAIL or INCONCLUSIVE and releases the loop. -/
  | owTestDone (k : Chan)
  /-- TRIM_POINT1 (R296): TRIMCMD POINT1 claims the loop and starts averaging the first reference. -/
  | trimPoint1 (p : Port) (key : Byte) (k : Chan)
  /-- TRIM_POINT2 (R296): TRIMCMD POINT2 starts averaging the second reference. -/
  | trimPoint2 (p : Port) (key : Byte) (k : Chan)
  /-- TRIM_COMPUTE (R296): TRIMCMD COMPUTE derives gain and offset or fails with SPAN or RANGE. -/
  | trimCompute (p : Port) (key : Byte) (k : Chan)
  /-- TRIM_ABORT (R298): TRIMCMD ABORT ends the trim and releases the claim. -/
  | trimAbort (p : Port) (key : Byte) (k : Chan)
  /-- TRIM_POINT_DONE (R296): Averaging of a trim point completes into TRIMRAW and P1_DONE or P2_DONE. -/
  | trimPointDone (k : Chan)
  /-- TRIM_TIMEOUT (R298): 600 s pass between two trim ops and the trim fails with TIMEOUT. -/
  | trimTimeout (k : Chan)
  /-- HART_GO (R301): HCTL GO queues a HART transaction on a loop. -/
  | hartGo (p : Port) (k : Chan) (ctl : Word)
  /-- HART_CANCEL (R301): HCTL CANCEL ends a queued or running transaction with ABORTED. -/
  | hartCancel (p : Port) (k : Chan)
  /-- HART_REQUEST_TX (R300): The modem starts a request frame when no carrier is present and burst timing allows. -/
  | hartRequestTx (k : Chan)
  /-- HART_RESPONSE (R300): A response frame arrives and is accepted or counted as a failed try. -/
  | hartResponse (k : Chan) (parityOk : Bool) (frame : List Byte)
  /-- HART_RESPONSE_TIMEOUT (R300): No response begins within 28 character times and the try fails. -/
  | hartResponseTimeout (k : Chan)
  /-- HART_BURST (R303): A burst frame arrives and replaces HBURST_k with its end time. -/
  | hartBurst (k : Chan) (parityOk : Bool) (frame : List Byte)
  /-- HSCAN (R304): HSCAN sends command 0 to a range of polling addresses on a loop. -/
  | hscan (p : Port) (key : Byte) (k : Chan) (first last : BitVec 6)
  /-- HDIR_STORE_WRITE (R304): The management core writes the HART device directory into store region 0x50. -/
  | hdirStoreWrite (ok : Bool)
  /-- MODULATOR_OVERLOAD (R309): A modulator's second integrator stays at its limit for 64 clocks and the chain restarts. -/
  | modulatorOverload (k : Chan)
  /-- CHURN_OUTPUT (R323): A loop's churn chain produces an output at its instant, classed and delivered as an input event. -/
  | churnOutput (k : Chan) (bits : List Bool)
  /-- REPHASE (R321): At t_p the loop's decimation phase moves so an output centres on the SAMPLE time. -/
  | rephase (k : Chan)
  /-- SURVEY_CONVERSION_DONE (R325): A survey conversion completes and the scan moves to the next item. -/
  | surveyConversionDone (d : Die) (samples : List Int) (lsb : Int)
  /-- URGENT_REQUEST (R330): An urgent conversion request arrives and aborts an unguarded routine conversion or queues. -/
  | urgentRequest (d : Die)
  /-- CHAIN_TEST_START (R332): CVTEST START replaces a loop's modulator bits with a test pattern. -/
  | chainTestStart (p : Port) (key : Byte) (k : Chan) (pattern : BitVec 4)
  /-- CHAIN_TEST_STOP (R332): CVTEST STOP ends the chain test and restarts the chain with its settings. -/
  | chainTestStop (p : Port) (key : Byte) (k : Chan)
  /-- PORT_SELECT (R345): CS_N falls and the port gives the select handshake on RDY. -/
  | portSelect (p : Port) (rdy : Bool := true)
  /-- READ (R340): A READ frame returns register values from consecutive offsets. -/
  | read (p : Port) (page off n : Nat) (part : Bool)
  /-- WRITE (R344): A WRITE frame writes registers that have no row of their own, applied at frame end as one step. -/
  | write (p : Port) (page off : Nat) (words : List Word) (part : Bool)
  /-- READ_SNAP (R403): A READ-SNAP frame returns pages 6 or 7 from one published generation. -/
  | readSnap (p : Port) (page off n : Nat) (part : Bool) (ends : Bool)
  /-- STATUS (R339): A STATUS frame returns the record of the latest non-STATUS frame. -/
  | status (p : Port) (n : Nat) (part : Bool := false)
  /-- BAD_CMD (R342): A frame with CMD 7 is rejected whole with BAD_CMD. -/
  | badCmd (p : Port) (page off : Nat) (words : List Word) (part : Bool)
  /-- FRAME_TIMEOUT (R346): A selected frame sees no SCK edge for TMO × 10 µs and ends with TIMEOUT. -/
  | frameTimeout (p : Port) (cmd : BitVec 3) (page off : Nat) (words : List Word)
  /-- PEER_PUSH (R351): At every PUSHK-th acting commit the device pushes report words to the PP partner. -/
  | peerPush (collisions : Nat) (reply : Byte)
  /-- PP_STALL (R350): PP_RDY stays low 100 µs within a master frame and the device ends it. -/
  | ppStall
  /-- MP_TIMEOUT (R359): A store operation runs past its limit, the store is reset and MP_TIMEOUT recorded. -/
  | mpTimeout (sel : Fin 2)
  /-- MP_SUSPEND (R357): A fill request for a programming NOR select suspends the operation at the segment end. -/
  | mpSuspend (sel : Fin 2)
  /-- MPX_READ (R360): MPXCTL READ reads store words into MPXBUF. -/
  | mpxRead (p : Port) (key n : Byte)
  /-- MPX_PROGRAM (R360): MPXCTL PROGRAM writes MPXBUF into the store outside protected ranges. -/
  | mpxProgram (p : Port) (key n : Byte)
  /-- MPX_ERASE (R360): MPXCTL ERASE erases a unit or block outside protected ranges. -/
  | mpxErase (p : Port) (key : Byte)
  /-- MPX_READID (R360): MPXCTL READID reads the store identification into MPXBUF. -/
  | mpxReadid (p : Port) (key : Byte)
  /-- MPX_DONE (R360): A raw memory-port operation ends DONE or FAILED. -/
  | mpxDone (err : BitVec 3) (id : Word)
  /-- CAN_FRAME_RX (R369): A CAN frame is received valid, stamped, looked up in the object table, filtered and staged. -/
  | canFrameRx (c : Ctrl) (f : CanFrame)
  /-- PROTOCOL_EXCEPTION (R364): An FD frame with FDEN 0 makes the controller wait for 11 recessive bits. -/
  | protocolException (c : Ctrl)
  /-- RXQ_POP (R377): An accepted frame that read word 19 of a locked queue window removes the head frame. -/
  | rxqPop (p : Port) (c : Ctrl) (q : Fin 2)
  /-- RXQ_LOCK_LAPSE (R377): A queue lock unused for 10 ms lapses. -/
  | rxqLockLapse (c : Ctrl) (q : Fin 2)
  /-- CAN_TX_END (R379): A transmission attempt of the FIFO head ends sent, lost or in error and the next head is offered. -/
  | canTxEnd (c : Ctrl) (result : CanTxResult) (lec : BitVec 3) (tdcv : Nat) (exc : Bool := false)
  /-- CAN_RECOVER (R383): Bus-off recovery completes after 128 occurrences of 11 recessive bits. -/
  | canRecover (c : Ctrl)
  /-- CAN_INTEGRATED (R368): A started controller sees 11 recessive bits and joins the bus. -/
  | canIntegrated (c : Ctrl)
  /-- CANCMD_RECOVER (R383): CANCMD RECOVER starts bus-off recovery with AUTOREC 0. -/
  | cancmdRecover (p : Port) (c : Ctrl) (key : Byte)
  /-- CANCMD_FLUSH (R380): CANCMD FLUSH empties the controller's transmit FIFO. -/
  | cancmdFlush (p : Port) (c : Ctrl) (key : Byte)
  /-- CLAIM_TAKE (R389): CLAIM TAKE makes the port owner if no owner or a grant allows. -/
  | claimTake (p : Port) (key : Byte) (how : HowSent := wholeFrame 0)
  /-- CLAIM_RELEASE (R389): CLAIM RELEASE by the owner leaves no owner and discards shadows. -/
  | claimRelease (p : Port) (key : Byte) (how : HowSent := wholeFrame 0)
  /-- CLAIM_HANDOVER (R389): CLAIM HANDOVER starts a 1,000 ms grant to the target port. -/
  | claimHandover (p : Port) (target : BitVec 2) (key : Byte) (how : HowSent := wholeFrame 0)
  /-- GRANT_EXPIRE (R389): A handover grant lasts 1,000 ms without a TAKE and ends. -/
  | grantExpire
  /-- OWN_LAPSE (R390): The owner timer reaches TMO, ownership lapses and HOST_LOST follows. -/
  | ownLapse
  /-- APPLY (R395): An APPLY frame with OP APPLY starts the check of the staged configuration. -/
  | apply (p : Port) (key : Byte) (how : HowSent := wholeFrame 1)
  /-- DISCARD (R395): An APPLY frame with OP DISCARD sets every shadow to its active value. -/
  | discard (p : Port) (key : Byte) (how : HowSent := wholeFrame 1)
  /-- APPLY_CHECK_DONE (R396): The APPLY check ends, making it PENDING or REJECTED with a reason. -/
  | applyCheckDone
  /-- APPLY_QUIET_EFFECT (R397): In QUIET a pending APPLY takes effect 200 µs after its check ends. -/
  | applyQuietEffect
  /-- WDOG_CHECKIN (R409): A lane check-in arrives at its watchdog and is accepted, restarting a period, or bad. -/
  | wdogCheckin (l : Lane)
  /-- WDHOST (R409): An owner write of WDHOST delivers a check-in to the host watchdog. -/
  | wdhost (p : Port) (word : Word)
  /-- WDOG_EXP (R412): A watchdog's count reaches TMO and it takes its expiry action. -/
  | wdogExp (w : Fin 4)
  /-- WDOG_CLOCK (R408): A watchdog's selected clock stops for 20 µs and its monitor trips. -/
  | wdogClock (w : Fin 4)
  /-- LEDGER_CLEAR (R417): An owner write of 1 to sticky bits clears them and makes a CLEAR record. -/
  | ledgerClear (p : Port) (r : Fin 4) (bits : Word)
  /-- LEDGER_JOURNAL_WRITE (R420): A pending ledger record is written to the journal region, erasing a unit when needed. -/
  | ledgerJournalWrite (ok : Bool)
  /-- JREADY (R421): The core locates the newest journal record, writes a BOOT record and numbers queued events. -/
  | jready
  /-- MNT_SV_TEST (R425): MNTCMD SV_TEST starts a converter self-test of a unit. -/
  | mntSvTest (p : Port) (key : Byte) (unit : BitVec 3)
  /-- MNT_IN_TEST (R425): MNTCMD IN_TEST starts an input comparator test on masked channels. -/
  | mntInTest (p : Port) (key : Byte) (unit : BitVec 3) (mask : BitVec 16)
  /-- MNT_OL_PROBE (R425): MNTCMD OL_PROBE starts an off-state open-load probe on masked channels. -/
  | mntOlProbe (p : Port) (key : Byte) (unit : BitVec 3) (mask : BitVec 16)
  /-- MNT_ABORT (R426): MNTCMD ABORT ends a running test of the unit with ABORTED. -/
  | mntAbort (p : Port) (key : Byte) (unit : BitVec 3)
  /-- MAINT_END (R424): A maintenance activity ends, releases its claims and records MAINT_END. Of an open-load probe: the terminal voltages, and the channels that were seen to conduct, or to clamp, although their stage was open. -/
  | maintEnd (j : Fin 32) (mV : List Nat) (conducts clamps : BitVec 16)
  /-- TAP_INSTRUCTION (R52): The test access port takes an instruction, acting on pads only in BOOT and QUIET. -/
  | tapInstruction (ins : TapIns) (cells : List (CtlPad × PadLevel) := []) (inputs : List (CtlPad × PadLevel) := [])
  /-- STB_CLEAR (R238): While the switch is off, the terminal falls below VBB_Fn − 3.0 V and STB clears. -/
  | stbClear (d : FDie) (k : Chan) (mV : Int := 0)
  /-- CURRENT_LIMIT (R225): The load asks for more than L(t), or stops asking for it, and the stage starts or ends linear regulation with STATUS.LIMIT set or cleared. -/
  | currentLimit (d : FDie) (k : Chan) (askUa : Nat)
  /-- CARRIER_DETECT (R299): The modem detects HART carrier on a loop, or loses it, which changes HSTAT.CD and the HART bit of LPSTAT and withholds transmission. -/
  | carrierDetect (k : Chan) (on : Bool)
  /-- BUS_ERROR (R383): A bus error during reception raises REC under ISO 11898-1 and may make the controller error passive. -/
  | busError (c : Ctrl) (errCnt : Nat) (lec : BitVec 3)
  /-- CORE_RESET_COMPLETE (R33): The reset of the management core completes and host access resumes. -/
  | coreResetComplete
  /-- PERMIT_READBACK (R33): The permit read-back finds a fault in one permit-voter slice, which is treated as a fault of that slice's lane. -/
  | permitReadback (l : Lane)
  /-- REFP_OK_RESTORED (R186): REF_P returns within its monitor limits and sets TIMESTAT.REFP_OK, which starts the 1 s count towards revert. -/
  | refpOkRestored
  /-- VDDIO_ABSENT (R50): A VDDIO rail is lost or returns, so its pads go to high impedance and its port becomes inert, or the port serves again. -/
  | vddioAbsent (rail : Fin 5) (present : Bool)
  /-- ILLEGAL (R155): A lane fetches a word whose major opcode, func, cond or fixed field is not allowed, and the lane traps with ILLEGAL. -/
  | illegal (l : Lane) (word : Word)
  /-- FETCH_FAULT (R171): A lane fetches from outside a fetchable region, or meets an uncorrectable error in the fetch, and traps with ADDR or ECC. -/
  | fetchFault (l : Lane) (ecc : Ecc)
deriving DecidableEq, Repr

end Sys2Proof
end

