-- ==== Sys2Proof/Machine/AMap.lean ====
section
/-!
DEFINITION. Association lists in one canonical form: addresses strictly rising, no entry equal to what an unlisted address reads as. Registers, lane memories and the external store are held this way.
-/

namespace Sys2Proof.Machine

/-- What address `k` reads as, `d` being what an unlisted address reads as. -/
def amGet {α : Type} (d : α) : List (Nat × α) → Nat → α
  | [], _ => d
  | (a, v) :: r, k => if a = k then v else if k < a then d else amGet d r k

/-- The list with address `k` holding `v`; a value equal to `d` removes the entry. -/
def amSet {α : Type} [DecidableEq α] (d : α) : List (Nat × α) → Nat → α → List (Nat × α)
  | [], k, v => if v = d then [] else [(k, v)]
  | (a, w) :: r, k, v =>
    if k < a then (if v = d then (a, w) :: r else (k, v) :: (a, w) :: r)
    else if a = k then (if v = d then r else (k, v) :: r)
    else (a, w) :: amSet d r k v

/-- Every address of the list is above `lo` and they rise strictly, and no entry holds `d`. -/
def amWfFrom {α : Type} [DecidableEq α] (d : α) : Nat → List (Nat × α) → Bool
  | _, [] => true
  | lo, (a, v) :: r => decide (lo ≤ a) && !decide (v = d) && amWfFrom d (a + 1) r

/-- The canonical form. -/
def amWf {α : Type} [DecidableEq α] (d : α) (m : List (Nat × α)) : Bool := amWfFrom d 0 m

/-- The entries of `m` whose address lies in `[lo, hi)` taken out. -/
def amErase {α : Type} (m : List (Nat × α)) (lo hi : Nat) : List (Nat × α) :=
  m.filter fun e => !(decide (lo ≤ e.1) && decide (e.1 < hi))

/-- The entries of `src` in `[lo, hi)` put in place of those of `dst`. -/
def amCopy {α : Type} (dst src : List (Nat × α)) (lo hi : Nat) : List (Nat × α) :=
  (dst.filter fun e => decide (e.1 < lo)) ++ (src.filter fun e => decide (lo ≤ e.1) && decide (e.1 < hi)) ++
    (dst.filter fun e => decide (hi ≤ e.1))

/-- Register words, by page × 65,536 + offset; an unlisted register reads 0 (R340). -/
abbrev RegMap := List (Nat × Word)

def rmGet (m : RegMap) (k : Nat) : Word := amGet 0 m k
def rmSet (m : RegMap) (k : Nat) (v : Word) : RegMap := amSet 0 m k v

/-- Byte memories. A lane byte nothing has written reads 0 (R85); a store byte nothing has written reads 0xFF (erased, log entry 3). -/
abbrev Memory := List Host.Cell

def Memory.wf (d : Byte) (m : Memory) : Bool := amWf d m

def memGet (d : Byte) (m : Memory) (a : Nat) : Byte := amGet d m a
def memSet (d : Byte) (m : Memory) (a : Nat) (v : Byte) : Memory := amSet d m a v

/-- Bytes written at consecutive addresses. -/
def memPut (d : Byte) (m : Memory) (a : Nat) : List Byte → Memory
  | [] => m
  | b :: bs => memPut d (memSet d m a b) (a + 1) bs

/-- Bytes read at consecutive addresses. -/
def memTake (d : Byte) (m : Memory) (a : Nat) : Nat → List Byte
  | 0 => []
  | n + 1 => memGet d m a :: memTake d m (a + 1) n

/-- The bytes of a word, most significant first (R4: serial ports and store). -/
def beBytes (w : Word) : List Byte :=
  [BitVec.ofNat 8 (w.toNat >>> 24), BitVec.ofNat 8 (w.toNat >>> 16), BitVec.ofNat 8 (w.toNat >>> 8), BitVec.ofNat 8 w.toNat]

/-- The bytes of a word, least significant first (R4: lane memory). -/
def leBytes (w : Word) : List Byte := (beBytes w).reverse

/-- The number that bytes spell, most significant first. -/
def beNat (bs : List Byte) : Nat := bs.foldl (fun n b => n * 256 + b.toNat) 0

/-- The number that bytes spell, least significant first. -/
def leNat (bs : List Byte) : Nat := beNat bs.reverse

/-- A number as `n` bytes, most significant first. -/
def natBe : Nat → Nat → List Byte
  | 0, _ => []
  | n + 1, v => BitVec.ofNat 8 (v >>> (8 * n)) :: natBe n v

/-- A number as `n` bytes, least significant first. -/
def natLe (n v : Nat) : List Byte := (natBe n v).reverse

/-- Store bytes as a number, most significant first (R74). -/
def beAt (m : Memory) (a n : Nat) : Nat := beNat (memTake 0xFF m a n)

/-- Lane bytes as a number, least significant first (R4). -/
def leAt (m : Memory) (a n : Nat) : Nat := leNat (memTake 0 m a n)

end Sys2Proof.Machine
end

