-- ==== Sys2Proof/Machine/Crc.lean ====
section
/-!
DEFINITION. CRC-32C (R337) and SHA-256 (R80, FIPS 180-4), the two sums that frames, records, images and measurements use.
-/

namespace Sys2Proof.Machine

/-- One bit of the reflected CRC-32C with polynomial 0x82F6_3B78 (R337). -/
def crcBit (c : Word) : Word := if c.getLsbD 0 then (c >>> 1) ^^^ 0x82F63B78#32 else c >>> 1

/-- `n` bits of it. -/
def crcBits : Nat → Word → Word
  | 0, c => c
  | n + 1, c => crcBits n (crcBit c)

/-- One byte into a running CRC value (R154, R337). -/
def crcFeed (c : Word) (b : Byte) : Word := crcBits 8 (c ^^^ b.setWidth 32)

/-- CRC-32C of bytes: initial value and final exclusive-or 0xFFFF_FFFF (R337). -/
def crc32c (bs : List Byte) : Word := (bs.foldl crcFeed 0xFFFFFFFF#32) ^^^ 0xFFFFFFFF#32

/-! ## SHA-256 (R80) -/

/-- The largest `k`-th root of `n` that extends `r` by the bits below `b`, found from the top bit down. -/
def rootBits (k n : Nat) : Nat → Nat → Nat
  | 0, r => r
  | b + 1, r => rootBits k n b (if (r + 2 ^ b) ^ k ≤ n then r + 2 ^ b else r)

/-- The first 32 bits of the fraction of the `k`-th root of `p`. -/
def rootFraction (k p : Nat) : Word := BitVec.ofNat 32 (rootBits k (p * 2 ^ (32 * k)) 36 0)

/-- The primes up to 311, the 64 that the standard's constants come from. -/
def shaPrimes : List Nat :=
  (List.range 312).filter fun n => decide (2 ≤ n) && (List.range 18).all fun d => decide (d < 2) || decide (d = n) || decide (n % d ≠ 0)

/-- The constants of the 64 steps: cube roots of the primes; and the initial value: square roots of the first eight. -/
def shaStepWords : List Word := shaPrimes.map (rootFraction 3)
def shaInit : List Word := (shaPrimes.take 8).map (rootFraction 2)

/-- The exclusive-or of three rotations, and of two rotations and a shift. -/
def spin (i j k : Nat) (x : Word) : Word := x.rotateRight i ^^^ x.rotateRight j ^^^ x.rotateRight k
def spinShift (i j k : Nat) (x : Word) : Word := x.rotateRight i ^^^ x.rotateRight j ^^^ (x >>> k)

/-- One step on the eight working words and the sixteen schedule words that lie ahead: the first schedule word is used, and one is made sixteen places on. -/
def shaStep (x : List Word × List Word) (k : Word) : List Word × List Word :=
  match x.1 with
  | [a, b, c, d, e, f, g, h] =>
    let w (i : Nat) := x.2.getD i 0
    let t := h + (spin 6 11 25 e + (g ^^^ (e &&& (f ^^^ g)))) + (k + w 0)
    let u := spin 2 13 22 a + ((a &&& b) ||| (c &&& (a ||| b)))
    ([u + t, a, b, c, d + t, e, f, g], x.2.drop 1 ++ [spinShift 17 19 10 (w 14) + w 9 + spinShift 7 18 3 (w 1) + w 0])
  | _ => x

/-- One block of sixteen words into the eight words of the sum. -/
def shaFold (h block : List Word) : List Word := List.zipWith (· + ·) h (shaStepWords.foldl shaStep (h, block)).1

/-- Bytes as words, most significant byte first. -/
def wordsBe : List Byte → List Word
  | a :: b :: c :: d :: r => BitVec.ofNat 32 (beNat [a, b, c, d]) :: wordsBe r
  | _ => []

/-- `n` blocks, each folded into the sum of those before it. -/
def shaOver (words : List Word) (n : Nat) : List Word :=
  (List.range n).foldl (fun h i => shaFold h ((words.drop (16 * i)).take 16)) shaInit

/-- The message with its 1 bit, zeros up to eight bytes short of a whole block, and its length in bits. -/
def shaPadded (bs : List Byte) : List Byte :=
  bs ++ 0x80#8 :: List.replicate ((119 - bs.length % 64) % 64) 0#8 ++ natBe 8 (bs.length * 8)

/-- SHA-256 of bytes, as eight words (FIPS 180-4). -/
def sha256Words (bs : List Byte) : List Word := shaOver (wordsBe (shaPadded bs)) ((bs.length + 72) / 64)

/-- SHA-256 of bytes, as 32 bytes. -/
def sha256 (bs : List Byte) : List Byte := ((sha256Words bs).map beBytes).flatten

end Sys2Proof.Machine
end

