-- ==== Sys2Proof/Machine/Registers.lean ====
section
/-!
DEFINITION. The register catalogue (R6, R35, Table 1.7): for every register that the home chapters' locator lines introduce, its page, its offsets and the bits of each field type. A register whose masks are all zero is read-only. The last implemented offset of each page is the one its home chapter names.
-/

namespace Sys2Proof.Machine

/-- One locator line: registers at `base + stride * i` for i below `count`, on `pages` consecutive pages from `page`. The masks give the bits of each type of Table 0.4, and `cs` those whose reset value is CS. -/
structure RegRow where
  page : Nat
  pages : Nat
  base : Nat
  stride : Nat
  count : Nat
  sr : Nat
  lk : Nat
  rw : Nat
  w1c : Nat
  wo : Nat
  cs : Nat
deriving DecidableEq, Repr

/-- Page 0: IDENT, RSTCAUSE, RSTCTL, BOOTSTAT, BOOTCTL, RSTPOL, JRNCFG, JRNCTL, JRNSTAT, JRNGEN, MODESTAT, MODECMD, MODECFG, PWRCTL, PWRHART, PWRSTAT, WAKECFG, WAKESTAT, WAKETIME_LO, WAKETIME_HI, WAKEPWR, IRQSTAT_p, IRQEN_p. -/
def regRowsSys : List RegRow :=
  [⟨0, 1, 0x0, 0x1, 1, 0x0, 0x0, 0x0, 0x0, 0x0, 0x0⟩,
   ⟨0, 1, 0x10, 0x1, 1, 0x0, 0x0, 0x0, 0x3F, 0x0, 0x0⟩,
   ⟨0, 1, 0x11, 0x1, 1, 0x0, 0x0, 0x0, 0x0, 0xFF000003, 0x0⟩,
   ⟨0, 1, 0x12, 0x1, 1, 0x0, 0x0, 0x0, 0x0, 0x0, 0x0⟩,
   ⟨0, 1, 0x13, 0x1, 1, 0x0, 0x0, 0x0, 0x0, 0x1, 0x0⟩,
   ⟨0, 1, 0x14, 0x1, 1, 0x0, 0x0, 0x0, 0x0, 0x0, 0xF⟩,
   ⟨0, 1, 0x15, 0x1, 1, 0x1FFFF, 0x0, 0x0, 0x0, 0x0, 0x1FFFF⟩,
   ⟨0, 1, 0x16, 0x1, 1, 0x0, 0x0, 0x0, 0x0, 0x1, 0x0⟩,
   ⟨0, 1, 0x17, 0x1, 1, 0x0, 0x0, 0x0, 0x4, 0x0, 0x0⟩,
   ⟨0, 1, 0x18, 0x1, 1, 0x0, 0x0, 0x0, 0x0, 0x0, 0x0⟩,
   ⟨0, 1, 0x20, 0x1, 1, 0x0, 0x0, 0x0, 0x40, 0x0, 0x0⟩,
   ⟨0, 1, 0x21, 0x1, 1, 0x0, 0x0, 0x0, 0x0, 0xFF00000F, 0x0⟩,
   ⟨0, 1, 0x22, 0x1, 1, 0xFFFFFF0F, 0x0, 0x0, 0x0, 0x0, 0xFFFFFF0F⟩,
   ⟨0, 1, 0x23, 0x1, 1, 0x0, 0x0, 0xFFFF00FF, 0x0, 0x0, 0xFFFF00FF⟩,
   ⟨0, 1, 0x24, 0x1, 1, 0x0, 0x0, 0xFFFF, 0x0, 0x0, 0xFFFF⟩,
   ⟨0, 1, 0x25, 0x1, 1, 0x0, 0x0, 0x0, 0x3E0, 0x0, 0x0⟩,
   ⟨0, 1, 0x26, 0x1, 1, 0x0, 0x0, 0x1F, 0x0, 0x0, 0x0⟩,
   ⟨0, 1, 0x27, 0x1, 1, 0x0, 0x0, 0x0, 0xF, 0x0, 0x0⟩,
   ⟨0, 1, 0x28, 0x1, 1, 0x0, 0x0, 0xFFFFFFFF, 0x0, 0x0, 0x0⟩,
   ⟨0, 1, 0x29, 0x1, 1, 0x0, 0x0, 0xFFFFFFFF, 0x0, 0x0, 0x0⟩,
   ⟨0, 1, 0x2A, 0x1, 1, 0x0, 0x0, 0x1F, 0x0, 0x0, 0x0⟩,
   ⟨0, 1, 0x30, 0x1, 2, 0x0, 0x0, 0x0, 0x1FFF, 0x0, 0x0⟩,
   ⟨0, 1, 0x32, 0x1, 2, 0x0, 0x0, 0x1FFF, 0x0, 0x0, 0x0⟩]

/-- Page 1: OWNSTAT, APPLYSTAT, APPLYINFO, APPLYCYC, OWNCFG, MBOX_w. -/
def regRowsOwn : List RegRow :=
  [⟨1, 1, 0x0, 0x1, 1, 0x0, 0x0, 0x0, 0x0, 0x0, 0x0⟩,
   ⟨1, 1, 0x1, 0x1, 1, 0x0, 0x0, 0x0, 0x0, 0x0, 0x0⟩,
   ⟨1, 1, 0x2, 0x1, 1, 0x0, 0x0, 0x0, 0x0, 0x0, 0x0⟩,
   ⟨1, 1, 0x3, 0x1, 4, 0x0, 0x0, 0x0, 0x0, 0x0, 0x0⟩,
   ⟨1, 1, 0x8, 0x1, 1, 0x1FFFF, 0x0, 0x0, 0x0, 0x0, 0x1FFFF⟩,
   ⟨1, 1, 0x100, 0x1, 128, 0x0, 0x0, 0xFFFFFFFF, 0x0, 0x0, 0x0⟩]

/-- Page 2: LEDGER_r, LEDSEQ, LEDJSEQ, LEDSTAT, LEDCFG, LEDCNT_c, Ring slots. -/
def regRowsLedger : List RegRow :=
  [⟨2, 1, 0x0, 0x1, 4, 0x0, 0x0, 0x0, 0xFFFFFFFF, 0x0, 0x0⟩,
   ⟨2, 1, 0x4, 0x1, 1, 0x0, 0x0, 0x0, 0x0, 0x0, 0x0⟩,
   ⟨2, 1, 0x5, 0x1, 1, 0x0, 0x0, 0x0, 0x0, 0x0, 0x0⟩,
   ⟨2, 1, 0x6, 0x1, 1, 0x0, 0x0, 0x0, 0x0, 0x0, 0x0⟩,
   ⟨2, 1, 0x7, 0x1, 1, 0xFF, 0x0, 0x0, 0x0, 0x0, 0xFF⟩,
   ⟨2, 1, 0x80, 0x1, 128, 0x0, 0x0, 0x0, 0x0, 0x0, 0x0⟩,
   ⟨2, 1, 0x800, 0x1, 2048, 0x0, 0x0, 0x0, 0x0, 0x0, 0x0⟩]

/-- Page 3: TIME_LO, TIME_HI, TSET_LO, TSET_HI, TIMECFG, GRIDORG_LO, GRIDORG_HI, TSINCFG, TSINPHASE, TSOUTCFG, WSCFG, WSID, WSDELAY, TIMESTAT, TOFFSET, TRATE, TSCNT, WSCNT, MANSTAT_d, MANERR_d, MANCLR. -/
def regRowsTime : List RegRow :=
  [⟨3, 1, 0x0, 0x1, 1, 0x0, 0x0, 0x0, 0x0, 0x0, 0x0⟩,
   ⟨3, 1, 0x1, 0x1, 1, 0x0, 0x0, 0x0, 0x0, 0x0, 0x0⟩,
   ⟨3, 1, 0x6, 0x1, 1, 0x0, 0xFFFFFFFF, 0x0, 0x0, 0x0, 0x0⟩,
   ⟨3, 1, 0x7, 0x1, 1, 0x0, 0xFFFFFFFF, 0x0, 0x0, 0x0, 0x0⟩,
   ⟨3, 1, 0x8, 0x1, 1, 0xFFFF000F, 0x0, 0x0, 0x0, 0x0, 0xFFFF000F⟩,
   ⟨3, 1, 0x9, 0x1, 1, 0xFFFFFFFF, 0x0, 0x0, 0x0, 0x0, 0xFFFFFFFF⟩,
   ⟨3, 1, 0xA, 0x1, 1, 0xFFFFFFFF, 0x0, 0x0, 0x0, 0x0, 0xFFFFFFFF⟩,
   ⟨3, 1, 0xB, 0x1, 1, 0xFF1FFF, 0x0, 0x0, 0x0, 0x0, 0xFF1FFF⟩,
   ⟨3, 1, 0xC, 0x1, 1, 0xFFFFFFFF, 0x0, 0x0, 0x0, 0x0, 0xFFFFFFFF⟩,
   ⟨3, 1, 0xD, 0x1, 1, 0xFFFFFFF3, 0x0, 0x0, 0x0, 0x0, 0xFFFFFFF3⟩,
   ⟨3, 1, 0x10, 0x1, 1, 0xFFFFFFFF, 0x0, 0x0, 0x0, 0x0, 0xFFFFFFFF⟩,
   ⟨3, 1, 0x11, 0x1, 1, 0x1FFFFFFF, 0x0, 0x0, 0x0, 0x0, 0x1FFFFFFF⟩,
   ⟨3, 1, 0x12, 0x1, 1, 0xFFFF, 0x0, 0x0, 0x0, 0x0, 0xFFFF⟩,
   ⟨3, 1, 0x18, 0x1, 1, 0x0, 0x0, 0x0, 0x0, 0x0, 0x0⟩,
   ⟨3, 1, 0x19, 0x1, 1, 0x0, 0x0, 0x0, 0x0, 0x0, 0x0⟩,
   ⟨3, 1, 0x1A, 0x1, 1, 0x0, 0x0, 0x0, 0x0, 0x0, 0x0⟩,
   ⟨3, 1, 0x1B, 0x1, 1, 0x0, 0x0, 0x0, 0x0, 0x0, 0x0⟩,
   ⟨3, 1, 0x1C, 0x1, 1, 0x0, 0x0, 0x0, 0x0, 0x0, 0x0⟩,
   ⟨3, 1, 0x20, 0x1, 5, 0x0, 0x0, 0x0, 0x0, 0x0, 0x0⟩,
   ⟨3, 1, 0x28, 0x1, 5, 0x0, 0x0, 0x0, 0x0, 0x0, 0x0⟩,
   ⟨3, 1, 0x30, 0x1, 1, 0x0, 0x0, 0x0, 0x0, 0x1F, 0x0⟩]

/-- Page 4: CYCCFG, BUDGET, REINTCFG, DELIV, DELIVX, LSTAT_l, LEXC_l, LECC_l, LSLACK_l, LANECMD, NOMAJ_d. -/
def regRowsLane : List RegRow :=
  [⟨4, 1, 0x0, 0x1, 1, 0xFFFFF, 0x0, 0x0, 0x0, 0x0, 0xFFFFF⟩,
   ⟨4, 1, 0x1, 0x1, 1, 0x7F1F, 0x0, 0x0, 0x0, 0x0, 0x7F1F⟩,
   ⟨4, 1, 0x2, 0x1, 1, 0x3FFFF0F, 0x0, 0x0, 0x0, 0x0, 0x3FFFF0F⟩,
   ⟨4, 1, 0x4, 0x1, 5, 0x0, 0x0, 0x0, 0x0, 0x0, 0x0⟩,
   ⟨4, 1, 0x9, 0x1, 1, 0x0, 0x0, 0x0, 0x0, 0x0, 0x0⟩,
   ⟨4, 1, 0x10, 0x1, 3, 0x0, 0x0, 0x0, 0x0, 0x0, 0x0⟩,
   ⟨4, 1, 0x14, 0x1, 3, 0x0, 0x0, 0x0, 0x0, 0x0, 0x0⟩,
   ⟨4, 1, 0x18, 0x1, 3, 0x0, 0x0, 0x0, 0x0, 0x0, 0x0⟩,
   ⟨4, 1, 0x1C, 0x1, 3, 0x0, 0x0, 0x0, 0x0, 0x0, 0x0⟩,
   ⟨4, 1, 0x20, 0x1, 1, 0x0, 0x0, 0x0, 0x0, 0xFF000033, 0x0⟩,
   ⟨4, 1, 0x28, 0x1, 5, 0x0, 0x0, 0x0, 0x0, 0x0, 0x0⟩]

/-- Page 5: PIMG_ENTRY, PLCTL, PLBASE, PLLEN, PLCRC, PLSTAT, PLPOS, TRAP, LMSEL, PLBUF, LMWIN. -/
def regRowsProg : List RegRow :=
  [⟨5, 1, 0x0, 0x1, 6, 0x0, 0x0, 0x0, 0x0, 0x0, 0x0⟩,
   ⟨5, 1, 0x10, 0x1, 1, 0x0, 0x0, 0x0, 0x0, 0xFFFFFF07, 0x0⟩,
   ⟨5, 1, 0x11, 0x1, 1, 0x0, 0x0, 0xFFFFFFFF, 0x0, 0x0, 0x0⟩,
   ⟨5, 1, 0x12, 0x1, 1, 0x0, 0x0, 0xFFFFFFFF, 0x0, 0x0, 0x0⟩,
   ⟨5, 1, 0x13, 0x1, 1, 0x0, 0x0, 0xFFFFFFFF, 0x0, 0x0, 0x0⟩,
   ⟨5, 1, 0x14, 0x1, 1, 0x0, 0x0, 0x0, 0x0, 0x0, 0x0⟩,
   ⟨5, 1, 0x15, 0x1, 1, 0x0, 0x0, 0x0, 0x0, 0x0, 0x0⟩,
   ⟨5, 1, 0x20, 0x1, 12, 0x0, 0x0, 0x0, 0x0, 0x0, 0x0⟩,
   ⟨5, 1, 0x30, 0x1, 1, 0x0, 0x0, 0xFFFFFF03, 0x0, 0x0, 0x0⟩,
   ⟨5, 1, 0x100, 0x1, 64, 0x0, 0x0, 0xFFFFFFFF, 0x0, 0x0, 0x0⟩,
   ⟨5, 1, 0x200, 0x1, 64, 0x0, 0x0, 0x0, 0x0, 0x0, 0x0⟩]

/-- Page 8: FDSTAT, ISUM, DUTYCFG, CHCNTCLR, SNSCFG, SNSSTAT, GOVBUDGET, GOVBASE, GOVEST, GOVSTAT, PGPER_j, PGON_j, PGORG_j_LO, DEFSTAT, INSAMP, LHSTAT, PERMSTAT, SAFESTAT, DLSTAT, CHCFG_k, CHLIM_k, CHRTY_k, CHTOLL_k, CHOL_k, CHPH_k, CHSTAT_k, CHTOLLST_k, CHTEMP_k, CHEVT_k, CHELAST_k, CHILAST_k, CHIN_k, CHSAFE_k, CHLH_k, CHINST_k. -/
def regRowsField : List RegRow :=
  [⟨8, 4, 0x0, 0x1, 1, 0x0, 0x0, 0x0, 0x0, 0x0, 0x0⟩,
   ⟨8, 4, 0x1, 0x1, 1, 0x0, 0x0, 0x0, 0x0, 0x0, 0x0⟩,
   ⟨8, 4, 0x2, 0x1, 1, 0xFFFF, 0x0, 0x0, 0x0, 0x0, 0xFFFF⟩,
   ⟨8, 4, 0x3, 0x1, 1, 0x0, 0x0, 0x0, 0x0, 0xFFFF, 0x0⟩,
   ⟨8, 4, 0x4, 0x1, 1, 0xFFFF00F3, 0x0, 0x0, 0x0, 0x0, 0xFFFF00F3⟩,
   ⟨8, 4, 0x5, 0x1, 1, 0x0, 0x0, 0x0, 0x0, 0x0, 0x0⟩,
   ⟨8, 1, 0x8, 0x1, 1, 0xFFFF, 0x0, 0x0, 0x0, 0x0, 0xFFFF⟩,
   ⟨8, 1, 0x9, 0x1, 1, 0xFFFF, 0x0, 0x0, 0x0, 0x0, 0xFFFF⟩,
   ⟨8, 1, 0xA, 0x1, 1, 0x0, 0x0, 0x0, 0x0, 0x0, 0x0⟩,
   ⟨8, 1, 0xB, 0x1, 1, 0x0, 0x0, 0x0, 0x0, 0x0, 0x0⟩,
   ⟨8, 4, 0x10, 0x1, 4, 0xFFFFFF, 0x0, 0x0, 0x0, 0x0, 0xFFFFFF⟩,
   ⟨8, 4, 0x14, 0x1, 4, 0xFFFFFF, 0x0, 0x0, 0x0, 0x0, 0xFFFFFF⟩,
   ⟨8, 4, 0x18, 0x1, 8, 0x0, 0x0, 0x0, 0x0, 0x0, 0x0⟩,
   ⟨8, 4, 0x20, 0x1, 1, 0x0, 0x0, 0x0, 0x0, 0x0, 0x0⟩,
   ⟨8, 4, 0x30, 0x1, 1, 0x3FFF, 0x0, 0x0, 0x0, 0x0, 0x3FFF⟩,
   ⟨8, 4, 0x31, 0x1, 1, 0x0, 0x0, 0x0, 0x0, 0x0, 0x0⟩,
   ⟨8, 4, 0x32, 0x1, 1, 0x0, 0x0, 0x0, 0x0, 0x0, 0x0⟩,
   ⟨8, 4, 0x33, 0x1, 1, 0x0, 0x0, 0x0, 0x0, 0x0, 0x0⟩,
   ⟨8, 4, 0x34, 0x1, 1, 0x0, 0x0, 0x0, 0x0, 0x0, 0x0⟩,
   ⟨8, 4, 0x40, 0x10, 16, 0x7F, 0x0, 0x0, 0x0, 0x0, 0x7F⟩,
   ⟨8, 4, 0x41, 0x10, 16, 0xFF1F, 0x0, 0x0, 0x0, 0x0, 0xFF1F⟩,
   ⟨8, 4, 0x42, 0x10, 16, 0xFFFF7F1F, 0x0, 0x0, 0x0, 0x0, 0xFFFF7F1F⟩,
   ⟨8, 4, 0x43, 0x10, 16, 0xFFFF03FF, 0x0, 0x0, 0x0, 0x0, 0xFFFF03FF⟩,
   ⟨8, 4, 0x44, 0x10, 16, 0xFFFF, 0x0, 0x0, 0x0, 0x0, 0xFFFF⟩,
   ⟨8, 4, 0x45, 0x10, 16, 0xFFFFFF, 0x0, 0x0, 0x0, 0x0, 0xFFFFFF⟩,
   ⟨8, 4, 0x46, 0x10, 16, 0x0, 0x0, 0x0, 0x0, 0x0, 0x0⟩,
   ⟨8, 4, 0x47, 0x10, 16, 0x0, 0x0, 0x0, 0x0, 0x0, 0x0⟩,
   ⟨8, 4, 0x48, 0x10, 16, 0x0, 0x0, 0x0, 0x0, 0x0, 0x0⟩,
   ⟨8, 4, 0x49, 0x10, 16, 0x0, 0x0, 0x0, 0x0, 0x0, 0x0⟩,
   ⟨8, 4, 0x4A, 0x10, 16, 0x0, 0x0, 0x0, 0x0, 0x0, 0x0⟩,
   ⟨8, 4, 0x4B, 0x10, 16, 0x0, 0x0, 0x0, 0x0, 0x0, 0x0⟩,
   ⟨8, 4, 0x4C, 0x10, 16, 0x3FFFF1F, 0x0, 0x0, 0x0, 0x0, 0x3FFFF1F⟩,
   ⟨8, 4, 0x4D, 0x10, 16, 0x7FF3F, 0x0, 0x0, 0x0, 0x0, 0x7FF3F⟩,
   ⟨8, 4, 0x4E, 0x10, 16, 0xF, 0x0, 0x0, 0x0, 0x0, 0xF⟩,
   ⟨8, 4, 0x4F, 0x10, 16, 0x0, 0x0, 0x0, 0x0, 0x0, 0x0⟩]

/-- Page 12: LDSTAT, LDVLB, OWCMD, TRIMCMD, LPCNTCLR, OWSTAT, OWDELTA, LPCFG_k, LPHEAD_k, NE43A_k, NE43B_k, LPGAIN_k, LPOFS_k, LPSTAT_k, LPI_k, LPV_k, LPEVT_k, TRIMREF_k, TRIMSTAT_k, TRIMRAW1_k, TRIMRAW2_k, TRIMGAIN_k, TRIMOFS_k. -/
def regRowsLoop : List RegRow :=
  [⟨12, 1, 0x0, 0x1, 1, 0x0, 0x0, 0x0, 0x0, 0x0, 0x0⟩,
   ⟨12, 1, 0x1, 0x1, 1, 0x0, 0x0, 0x0, 0x0, 0x0, 0x0⟩,
   ⟨12, 1, 0x2, 0x1, 1, 0x0, 0x0, 0x0, 0x0, 0xFF00003F, 0x0⟩,
   ⟨12, 1, 0x3, 0x1, 1, 0x0, 0x0, 0x0, 0x0, 0xFF00007F, 0x0⟩,
   ⟨12, 1, 0x4, 0x1, 1, 0x0, 0x0, 0x0, 0x0, 0xFFFF, 0x0⟩,
   ⟨12, 1, 0x5, 0x1, 1, 0x0, 0x0, 0x0, 0x0, 0x0, 0x0⟩,
   ⟨12, 1, 0x6, 0x1, 1, 0x0, 0x0, 0x0, 0x0, 0x0, 0x0⟩,
   ⟨12, 1, 0x40, 0x10, 16, 0xFF03, 0x0, 0x0, 0x0, 0x0, 0xFF03⟩,
   ⟨12, 1, 0x41, 0x10, 16, 0xFF03FFFF, 0x0, 0x0, 0x0, 0x0, 0xFF03FFFF⟩,
   ⟨12, 1, 0x42, 0x10, 16, 0xFFFFFFFF, 0x0, 0x0, 0x0, 0x0, 0xFFFFFFFF⟩,
   ⟨12, 1, 0x43, 0x10, 16, 0xFFFFFFFF, 0x0, 0x0, 0x0, 0x0, 0xFFFFFFFF⟩,
   ⟨12, 1, 0x44, 0x10, 16, 0xFFFFFFFF, 0x0, 0x0, 0x0, 0x0, 0xFFFFFFFF⟩,
   ⟨12, 1, 0x45, 0x10, 16, 0xFFFFFFFF, 0x0, 0x0, 0x0, 0x0, 0xFFFFFFFF⟩,
   ⟨12, 1, 0x46, 0x10, 16, 0x0, 0x0, 0x0, 0x0, 0x0, 0x0⟩,
   ⟨12, 1, 0x47, 0x10, 16, 0x0, 0x0, 0x0, 0x0, 0x0, 0x0⟩,
   ⟨12, 1, 0x48, 0x10, 16, 0x0, 0x0, 0x0, 0x0, 0x0, 0x0⟩,
   ⟨12, 1, 0x49, 0x10, 16, 0x0, 0x0, 0x0, 0x0, 0x0, 0x0⟩,
   ⟨12, 1, 0x4A, 0x10, 16, 0x0, 0x0, 0xFFFFFFFF, 0x0, 0x0, 0x0⟩,
   ⟨12, 1, 0x4B, 0x10, 16, 0x0, 0x0, 0x0, 0x0, 0x0, 0x0⟩,
   ⟨12, 1, 0x4C, 0x10, 16, 0x0, 0x0, 0x0, 0x0, 0x0, 0x0⟩,
   ⟨12, 1, 0x4D, 0x10, 16, 0x0, 0x0, 0x0, 0x0, 0x0, 0x0⟩,
   ⟨12, 1, 0x4E, 0x10, 16, 0x0, 0x0, 0x0, 0x0, 0x0, 0x0⟩,
   ⟨12, 1, 0x4F, 0x10, 16, 0x0, 0x0, 0x0, 0x0, 0x0, 0x0⟩]

/-- Page 13: HCFG, HSTAT, HSCAN, HREQ, HLA_HI, HLA_LO, HCTL, HRES, HRSP, HBST, HBUF_k, HBURST_k, HDIR. -/
def regRowsHart : List RegRow :=
  [⟨13, 1, 0x0, 0x1, 1, 0xFF, 0x0, 0x0, 0x0, 0x0, 0xFF⟩,
   ⟨13, 1, 0x1, 0x1, 1, 0x0, 0x0, 0x0, 0x0, 0x0, 0x0⟩,
   ⟨13, 1, 0x2, 0x1, 1, 0x0, 0x0, 0x0, 0x0, 0xFF00FFFF, 0x0⟩,
   ⟨13, 1, 0x40, 0x8, 16, 0x0, 0x0, 0xFFFF7F, 0x0, 0x0, 0x0⟩,
   ⟨13, 1, 0x41, 0x8, 16, 0x0, 0x0, 0x3F, 0x0, 0x0, 0x0⟩,
   ⟨13, 1, 0x42, 0x8, 16, 0x0, 0x0, 0xFFFFFFFF, 0x0, 0x0, 0x0⟩,
   ⟨13, 1, 0x43, 0x8, 16, 0x0, 0x0, 0x0, 0x0, 0xFF000003, 0x0⟩,
   ⟨13, 1, 0x44, 0x8, 16, 0x0, 0x0, 0x0, 0x0, 0x0, 0x0⟩,
   ⟨13, 1, 0x45, 0x8, 16, 0x0, 0x0, 0x0, 0x0, 0x0, 0x0⟩,
   ⟨13, 1, 0x46, 0x8, 16, 0x0, 0x0, 0x0, 0x0, 0x0, 0x0⟩,
   ⟨13, 1, 0x200, 0x1, 1024, 0x0, 0x0, 0xFFFFFFFF, 0x0, 0x0, 0x0⟩,
   ⟨13, 1, 0x600, 0x1, 1088, 0x0, 0x0, 0x0, 0x0, 0x0, 0x0⟩,
   ⟨13, 1, 0x1000, 0x1, 8192, 0x0, 0x0, 0x0, 0x0, 0x0, 0x0⟩]

/-- Page 14: SVCFG_d, SVSTAT_d, SVSCAN_d, SVURG_d, CVCLR, CVTEST, CVTSTAT, CVTY1, FIRSEL, CHURNCFG_k, CHURNSTAT_k, CHURNSEQ_k, CHURNT_k, FIRUSER_i, FIRWIN_i. -/
def regRowsConv : List RegRow :=
  [⟨14, 1, 0x0, 0x1, 5, 0x1FF, 0x0, 0x0, 0x0, 0x0, 0x1FF⟩,
   ⟨14, 1, 0x8, 0x1, 5, 0x0, 0x0, 0x0, 0x0, 0x0, 0x0⟩,
   ⟨14, 1, 0x10, 0x1, 5, 0x0, 0x0, 0x0, 0x0, 0x0, 0x0⟩,
   ⟨14, 1, 0x18, 0x1, 5, 0x0, 0x0, 0x0, 0x0, 0x0, 0x0⟩,
   ⟨14, 1, 0x20, 0x1, 1, 0x0, 0x0, 0x0, 0x0, 0xFFFF001F, 0x0⟩,
   ⟨14, 1, 0x30, 0x1, 1, 0x0, 0x0, 0x0, 0x0, 0xFF0000FF, 0x0⟩,
   ⟨14, 1, 0x31, 0x1, 1, 0x0, 0x0, 0x0, 0x0, 0x0, 0x0⟩,
   ⟨14, 1, 0x32, 0x1, 3, 0x0, 0x0, 0x0, 0x0, 0x0, 0x0⟩,
   ⟨14, 1, 0x38, 0x1, 1, 0x0, 0x0, 0x3, 0x0, 0x0, 0x0⟩,
   ⟨14, 1, 0x40, 0x4, 16, 0x3FFFF, 0x0, 0x0, 0x0, 0x0, 0x3FFFF⟩,
   ⟨14, 1, 0x41, 0x4, 16, 0x0, 0x0, 0x0, 0x0, 0x0, 0x0⟩,
   ⟨14, 1, 0x42, 0x4, 16, 0x0, 0x0, 0x0, 0x0, 0x0, 0x0⟩,
   ⟨14, 1, 0x43, 0x4, 16, 0x0, 0x0, 0x0, 0x0, 0x0, 0x0⟩,
   ⟨14, 1, 0x80, 0x1, 32, 0xFFFFFF, 0x0, 0x0, 0x0, 0x0, 0xFFFFFF⟩,
   ⟨14, 1, 0xA0, 0x1, 32, 0x0, 0x0, 0x0, 0x0, 0x0, 0x0⟩]

/-- Page 15: CANCFG, NBT, DBT, TDCCFG, CANSTAT, CANERR, CANCMD, TXSTAT, TXDROP, RXCNT, CNTCLR, OBJBUILD, RXQSTAT_q, RXQWIN_q, FMATCH_f, FMASK_f, FDEST_f, OBJID_i, OBJCTL_i, OBJALT_i, OBJPOS_i. -/
def regRowsCan : List RegRow :=
  [⟨15, 2, 0x0, 0x1, 1, 0xFF3F, 0x0, 0x0, 0x0, 0x0, 0xFF3F⟩,
   ⟨15, 2, 0x1, 0x1, 1, 0xFFFFFFF, 0x0, 0x0, 0x0, 0x0, 0xFFFFFFF⟩,
   ⟨15, 2, 0x2, 0x1, 1, 0x3FFFFF, 0x0, 0x0, 0x0, 0x0, 0x3FFFFF⟩,
   ⟨15, 2, 0x3, 0x1, 1, 0xFFFF, 0x0, 0x0, 0x0, 0x0, 0xFFFF⟩,
   ⟨15, 2, 0x4, 0x1, 1, 0x0, 0x0, 0x0, 0x0, 0x0, 0x0⟩,
   ⟨15, 2, 0x5, 0x1, 1, 0x0, 0x0, 0x0, 0x0, 0x0, 0x0⟩,
   ⟨15, 2, 0x6, 0x1, 1, 0x0, 0x0, 0x0, 0x0, 0xFF000003, 0x0⟩,
   ⟨15, 2, 0x7, 0x1, 1, 0x0, 0x0, 0x0, 0x0, 0x0, 0x0⟩,
   ⟨15, 2, 0x8, 0x1, 1, 0x0, 0x0, 0x0, 0x0, 0x0, 0x0⟩,
   ⟨15, 2, 0x9, 0x1, 1, 0x0, 0x0, 0x0, 0x0, 0x0, 0x0⟩,
   ⟨15, 2, 0xA, 0x1, 1, 0x0, 0x0, 0x0, 0x0, 0xF, 0x0⟩,
   ⟨15, 2, 0xB, 0x1, 1, 0x0, 0x0, 0x0, 0x0, 0x0, 0x0⟩,
   ⟨15, 2, 0x10, 0x1, 2, 0x0, 0x0, 0x0, 0x0, 0x0, 0x0⟩,
   ⟨15, 2, 0x20, 0x1, 20, 0x0, 0x0, 0x0, 0x0, 0x0, 0x0⟩,
   ⟨15, 2, 0x40, 0x1, 20, 0x0, 0x0, 0x0, 0x0, 0x0, 0x0⟩,
   ⟨15, 2, 0x100, 0x4, 64, 0x3FFFFFFF, 0x0, 0x0, 0x0, 0x0, 0x3FFFFFFF⟩,
   ⟨15, 2, 0x101, 0x4, 64, 0x3FFFFFFF, 0x0, 0x0, 0x0, 0x0, 0x3FFFFFFF⟩,
   ⟨15, 2, 0x102, 0x4, 64, 0x87, 0x0, 0x0, 0x0, 0x0, 0x87⟩,
   ⟨15, 2, 0x1000, 0x4, 1024, 0xFFFFFFFF, 0x0, 0x0, 0x0, 0x0, 0xFFFFFFFF⟩,
   ⟨15, 2, 0x1001, 0x4, 1024, 0x8FFF, 0x0, 0x0, 0x0, 0x0, 0x8FFF⟩,
   ⟨15, 2, 0x1002, 0x4, 1024, 0x3FFFFFFF, 0x0, 0x0, 0x0, 0x0, 0x3FFFFFFF⟩,
   ⟨15, 2, 0x1003, 0x4, 1024, 0x0, 0x0, 0x0, 0x0, 0x0, 0x0⟩]

/-- Page 17: PCFG_p, PSTAT_p, PCNT_p, PCNTCLR, PPCFG, PPDST, PPSTAT. -/
def regRowsPorts : List RegRow :=
  [⟨17, 1, 0x0, 0x1, 3, 0x0, 0xFF07, 0x0, 0x0, 0x0, 0xFF07⟩,
   ⟨17, 1, 0x4, 0x1, 3, 0x0, 0x0, 0x0, 0x0, 0x0, 0x0⟩,
   ⟨17, 1, 0x8, 0x1, 3, 0x0, 0x0, 0x0, 0x0, 0x0, 0x0⟩,
   ⟨17, 1, 0xC, 0x1, 1, 0x0, 0x0, 0x0, 0x0, 0x7, 0x0⟩,
   ⟨17, 1, 0x10, 0x1, 1, 0x1FFFFF7F, 0x0, 0x0, 0x0, 0x0, 0x1FFFFF7F⟩,
   ⟨17, 1, 0x11, 0x1, 1, 0xFFFF00FF, 0x0, 0x0, 0x0, 0x0, 0xFFFF00FF⟩,
   ⟨17, 1, 0x12, 0x1, 1, 0x0, 0x0, 0x0, 0x0, 0x0, 0x0⟩]

/-- Page 18: WDCFG_w, WDTMO_w, WDMASK_w, WDSTAT_i, WDLEFT_i, WDBAD_i, WDHOST, WDCLR. -/
def regRowsWdog : List RegRow :=
  [⟨18, 1, 0x0, 0x4, 2, 0xFFFF003F, 0x0, 0x0, 0x0, 0x0, 0xFFFF003F⟩,
   ⟨18, 1, 0x1, 0x4, 2, 0xFFFFFF, 0x0, 0x0, 0x0, 0x0, 0xFFFFFF⟩,
   ⟨18, 1, 0x2, 0x4, 2, 0xFFFF, 0x0, 0x0, 0x0, 0x0, 0xFFFF⟩,
   ⟨18, 1, 0x10, 0x1, 4, 0x0, 0x0, 0x0, 0x0, 0x0, 0x0⟩,
   ⟨18, 1, 0x14, 0x1, 4, 0x0, 0x0, 0x0, 0x0, 0x0, 0x0⟩,
   ⟨18, 1, 0x18, 0x1, 4, 0x0, 0x0, 0x0, 0x0, 0x0, 0x0⟩,
   ⟨18, 1, 0x20, 0x1, 1, 0x0, 0x0, 0x0, 0x0, 0xFFFFFFFF, 0x0⟩,
   ⟨18, 1, 0x21, 0x1, 1, 0x0, 0x0, 0x0, 0x0, 0xF, 0x0⟩]

/-- Page 19: MNTCMD, MNTREF, MNTRES_u, MNTMASK_u, MNTACT_j. -/
def regRowsMaint : List RegRow :=
  [⟨19, 1, 0x0, 0x1, 1, 0x0, 0x0, 0x0, 0x0, 0xFFFFFF3F, 0x0⟩,
   ⟨19, 1, 0x1, 0x1, 1, 0x0, 0x0, 0x0, 0x0, 0x0, 0x0⟩,
   ⟨19, 1, 0x8, 0x1, 5, 0x0, 0x0, 0x0, 0x0, 0x0, 0x0⟩,
   ⟨19, 1, 0x10, 0x1, 5, 0x0, 0x0, 0x0, 0x0, 0x0, 0x0⟩,
   ⟨19, 1, 0x20, 0x1, 32, 0x0, 0x0, 0x0, 0x0, 0x0, 0x0⟩]

/-- Page 20: MEAS, MEASSTAT, EXTCNT, QSTAT_p, PUBKEY, DEVID, QBUF_HP0, QBUF_HP1, QBUF_PP. -/
def regRowsAttest : List RegRow :=
  [⟨20, 1, 0x0, 0x1, 32, 0x0, 0x0, 0x0, 0x0, 0x0, 0x0⟩,
   ⟨20, 1, 0x20, 0x1, 1, 0x0, 0x0, 0x0, 0x0, 0x0, 0x0⟩,
   ⟨20, 1, 0x21, 0x1, 1, 0x0, 0x0, 0x0, 0x0, 0x0, 0x0⟩,
   ⟨20, 1, 0x22, 0x1, 3, 0x0, 0x0, 0x0, 0x0, 0x0, 0x0⟩,
   ⟨20, 1, 0x30, 0x1, 16, 0x0, 0x0, 0x0, 0x0, 0x0, 0x0⟩,
   ⟨20, 1, 0x40, 0x1, 2, 0x0, 0x0, 0x0, 0x0, 0x0, 0x0⟩,
   ⟨20, 1, 0x100, 0x1, 68, 0x0, 0x0, 0x0, 0x0, 0x0, 0x0⟩,
   ⟨20, 1, 0x180, 0x1, 68, 0x0, 0x0, 0x0, 0x0, 0x0, 0x0⟩,
   ⟨20, 1, 0x200, 0x1, 68, 0x0, 0x0, 0x0, 0x0, 0x0, 0x0⟩]

/-- Page 21: MPCLK, MPCFG_s, MPOPC_s, MPSTAT, XIPWAIT, MPERR, MPXADDR, MPXCTL, MPXSTAT, MPXBUF. -/
def regRowsMemport : List RegRow :=
  [⟨21, 1, 0x0, 0x1, 1, 0x0, 0x7, 0x0, 0x0, 0x0, 0x7⟩,
   ⟨21, 1, 0x2, 0x1, 2, 0x0, 0x1FFF01FF, 0x0, 0x0, 0x0, 0x1FFF01FF⟩,
   ⟨21, 1, 0x4, 0x1, 2, 0x0, 0xFFFFFF, 0x0, 0x0, 0x0, 0xFFFFFF⟩,
   ⟨21, 1, 0x6, 0x1, 1, 0x0, 0x0, 0x0, 0x0, 0x0, 0x0⟩,
   ⟨21, 1, 0x7, 0x1, 1, 0x0, 0x0, 0x0, 0x0, 0x0, 0x0⟩,
   ⟨21, 1, 0x8, 0x1, 1, 0x0, 0x0, 0x0, 0x0, 0x0, 0x0⟩,
   ⟨21, 1, 0x10, 0x1, 1, 0x0, 0x0, 0xFFFFFFFF, 0x0, 0x0, 0x0⟩,
   ⟨21, 1, 0x11, 0x1, 1, 0x0, 0x0, 0x0, 0x0, 0xFF00FF07, 0x0⟩,
   ⟨21, 1, 0x12, 0x1, 1, 0x0, 0x0, 0x0, 0x0, 0x0, 0x0⟩,
   ⟨21, 1, 0x100, 0x1, 64, 0x0, 0x0, 0xFFFFFFFF, 0x0, 0x0, 0x0⟩]

/-- The rows of a page (pages 9 to 11 and 16 repeat the rows of pages 8 and 15 that name several pages). -/
def pageRows (page : Nat) : List RegRow :=
  match page with
  | 0 => regRowsSys
  | 1 => regRowsOwn
  | 2 => regRowsLedger
  | 3 => regRowsTime
  | 4 => regRowsLane
  | 5 => regRowsProg
  | 8 => regRowsField
  | 12 => regRowsLoop
  | 13 => regRowsHart
  | 14 => regRowsConv
  | 15 => regRowsCan
  | 17 => regRowsPorts
  | 18 => regRowsWdog
  | 19 => regRowsMaint
  | 20 => regRowsAttest
  | 21 => regRowsMemport
  | 9 | 10 | 11 => regRowsField.filter fun r => decide (r.pages = 4)
  | 16 => regRowsCan
  | _ => []

/-- The row covers the offset. -/
def RegRow.covers (r : RegRow) (off : Nat) : Bool :=
  decide (r.base ≤ off) && decide ((off - r.base) % r.stride = 0) && decide ((off - r.base) / r.stride < r.count)

/-- The register at a page and offset, if one is there. -/
def regAt (page off : Nat) : Option RegRow := (pageRows page).find? fun r => r.covers off

/-- The last implemented offset of a page (R340, R341). -/
def pageLast (page : Nat) : Nat :=
  match page with
  | 0 => 0x0033
  | 1 => 0x017F
  | 2 => 0x0FFF
  | 3 => 0x0030
  | 4 => 0x002C
  | 5 => 0x023F
  | 6 => 0x58FF
  | 7 => 0x023F
  | 8 | 9 | 10 | 11 => 0x013F
  | 12 => 0x013F
  | 13 => 0x2FFF
  | 14 => 0x00BF
  | 15 | 16 => 0x1FFF
  | 17 => 0x0012
  | 18 => 0x0021
  | 19 => 0x003F
  | 20 => 0x0243
  | 21 => 0x013F
  | _ => 0

/-- The key of a register in a register map. -/
def regKey (page off : Nat) : Nat := page * 65536 + off

/-- The SR bits of the register with this key. -/
def srMask (key : Nat) : Word := ((regAt (key / 65536) (key % 65536)).map fun r => BitVec.ofNat 32 r.sr).getD 0

/-- Its CS bits. -/
def csMask (key : Nat) : Word := ((regAt (key / 65536) (key % 65536)).map fun r => BitVec.ofNat 32 r.cs).getD 0

end Sys2Proof.Machine
end

