-- ==== Sys2Proof/Config.lean ====
section
/-!
DEFINITION. What one part or one implementation fixes and the manual does not state: constants without a value (opaque), so that no proof can see what they are, and the free values of log entry 4.
-/

namespace Sys2Proof

/-- A value the manual leaves open at its n-th use (log entry 4). -/
opaque Config.freeValue : Nat → Nat

/-- ATTEST: the device identity word (R82, Table 3.7), per part. -/
opaque Config.devId : List Byte

/-- The number that the part's private key comes from, generated at manufacture and readable nowhere (R82), per part. -/
opaque Config.privateKey : Nat

/-- Grade code of IDENT: 1 TA or 2 TX, fixed per part (R1). -/
opaque Config.grade : Bool

/-- The first 15 coefficients of FIR ROM set 0 or 1; the other 17 follow from the symmetry and the sum that R313 states, their values being given nowhere. -/
opaque Config.firHalf : Bool → Nat → Int

/-- A threshold of one part inside the limits that the manual gives: kind and index (Table 9.1, R257, R258); the operations clamp it to the limits. -/
opaque Config.part : Nat → Nat → Nat

end Sys2Proof
end

