-- ==== Sys2Proof/Machine/StateCore.lean ====
section
/-!
DEFINITION. The control die's state, block by block, as plain data: reset control and boot (03), modes and power (04), cycle and lanes (05, 06), time (07), ports and memory port (12), ownership and APPLY (14), watchdogs, ledger and maintenance (15). Counts are numbers kept within their field by the operations; register words that no block computes stand in the register maps of State.
-/

namespace Sys2Proof.Machine

/-- The test access port (R52): its instruction, the boundary cells' values that EXTEST drives, and the levels that the cells captured last. -/
structure TapSt where
  ins : TapIns
  cells : List (CtlPad × PadLevel)
  seen : List (CtlPad × PadLevel)
deriving DecidableEq, Repr

/-- Reset control and boot (R66 to R79). -/
structure BootSt where
  /-- The control die is in reset (R68). -/
  inReset : Bool
  /-- Sources seen during the present reset, in the order of RSTCAUSE[5:0] (R68). -/
  sources : BitVec 6
  /-- RSTCAUSE[5:0] and BOOTCNT (R70). -/
  cause : BitVec 6
  bootCnt : Nat
  /-- Table 3.6: 0 before a boot, 2 to 8 the phase that runs next, 9 after phase 8. -/
  phase : Nat
  /-- BOOTSTAT (R79). -/
  sel : BitVec 2
  bank : Bool
  trial : Bool
  fallback : Bool
  recovery : Bool
  warm : Bool
  warmFail : Nat
  err : Nat
  /-- TEST_EN was high at the release (R51): the die stays in reset until a new release. -/
  testHold : Bool
  /-- Header of the running code image (R179, Table 6.12). -/
  entry : Word
  body : Word
  retainId : Word
  retainLen : Word
  xipBase : Word
  xipSpan : Word
  /-- The cycle number of the first cycle after the restart (R85). -/
  firstCycle : Nat
  /-- RSTOUT_N and MP_RST_N are driven low (R70). -/
  rstoutLow : Bool
  mpRstLow : Bool
  /-- Digests of the field and the loop microcode regions, computed in phase 4 (R107). -/
  ucodeField : List Word
  ucodeLoop : List Word
  /-- A CONFIRM directory write runs (R76). -/
  confirming : Bool
deriving DecidableEq, Repr

/-- Measurements and quotes (R80 to R84). -/
structure AttestSt where
  /-- MEAS_0 to MEAS_3, eight words each; empty reads zero. -/
  meas : List (List Word)
  valid : BitVec 4
  extCnt : Nat
  /-- QSTAT_p.STATE and QBUF_p. -/
  qstate : Vector Nat 3
  qbuf : Vector (List Word) 3
  /-- The quote in work with its bytes 0x00 to 0xCF, and the quotes that wait, in order of arrival (R84). -/
  active : Option (Fin 3 × List Byte)
  waiting : List (Fin 3 × List Word)
deriving DecidableEq, Repr

/-- The retain journal engine (R87 to R89). -/
structure JrnSt where
  /-- JRNCTL.NOW written since the last T0. -/
  now : Bool
  /-- The running cycle is a journal cycle, and its number and T0. -/
  active : Bool
  cycle : Nat
  t0 : Nat
  /-- The retain contents that each lane captured at its ENDCYC. -/
  cap : Vector (Option (List Byte)) 3
  /-- The lanes in the vote whose captures are read. -/
  members : BitVec 3
  /-- The record being written and its slot. -/
  writing : Option (Bool × List Byte)
  slot : Bool
  disagree : Bool
  skip : Nat
  gen : Nat
deriving DecidableEq, Repr

/-- The eight modes of Table 4.1. -/
inductive Mode where
  | boot
  | quiet
  | hold
  | prime
  | run
  | degraded
  | limp
  | safe
deriving DecidableEq, Repr

/-- An accepted MODECMD that waits for its T0 (R102). -/
inductive ModeCmd where
  | quiet
  | hold
  | prime (warm : Bool)
  | safe
deriving DecidableEq, Repr

/-- Modes and PRIME (R94 to R104, R110, R453). -/
structure ModeSt where
  mode : Mode
  lastCause : Nat
  drop : Bool
  primeCnt : Nat
  /-- Cycles that PRIME has lasted (R100). -/
  primeLasted : Nat
  /-- By lane: consecutive cycles in which the two other lanes agreed (R100). -/
  pairCnt : Vector Nat 3
  cmd : Option ModeCmd
  /-- A watchdog expiry with action SAFE waits for the next T0 (row 15). -/
  safePending : Bool
  /-- Row 4 waits for its conditions (R110, R453): after a wake (with a lane start) or after a boot (without). -/
  row4 : Option Bool
  /-- LANE_START was carried out for the PRIME that begins at the next T0. -/
  laneStarted : Bool
  /-- The first cycle after a lane start carries START, and WARM when retain was restored. -/
  start : Bool
  startWarm : Bool
deriving DecidableEq, Repr

/-- Power elements (R105 to R107, R57). -/
structure PwrSt where
  bpwr : BitVec 5
  lclk : BitVec 3
  loopmod : BitVec 16
  /-- The LOOPMOD and MODEM bits in effect (they change at the next T0, R106). -/
  loopmodEff : BitVec 16
  modem : BitVec 16
  modemEff : BitVec 16
  dieFail : BitVec 5
  wakeStat : BitVec 4
  /-- VISO in mV. -/
  viso : Nat
  /-- The WAKE pad has been high for 10 µs (R109). -/
  wakeHigh : Bool
  /-- WAKETIME_HI was written since the pair was last taken (R109). -/
  alarmArmed : Bool
deriving DecidableEq, Repr

/-- Discipline state of TIMESTAT.SYNC. -/
inductive SyncSt where
  | free
  | acquiring
  | locked
  | holdover
deriving DecidableEq, Repr

/-- The time master and its external references (R184 to R194). -/
structure TmSt where
  /-- TIMESTAT.REF: true is REF_S. -/
  ref : Bool
  refpOk : Bool
  /-- Tick time since which REF_P has been within its limits. -/
  refpSince : Nat
  sect : BitVec 2
  sync : SyncSt
  far : Bool
  /-- TOFFSET and TRATE. -/
  toffset : Int
  trate : Int
  /-- Offset still to be removed by single-tick corrections, ns (R187). -/
  residual : Int
  /-- Tick time of the last phase correction, of the last rate correction, and of any correction. -/
  lastPhase : Nat
  lastRate : Nat
  lastCorr : Nat
  /-- Rate correction not yet applied, in 10^-9 ns (R187: applied evenly). -/
  rateAcc : Int
  /-- Consecutive accepted offsets within the lock limit. -/
  good : Nat
  /-- Last expected TSYNC_IN instant whose window took an edge, and the instant from which missed edges count. -/
  lastExp : Nat
  missFrom : Nat
  tsOk : Nat
  tsRej : Nat
  tsLost : Nat
  wsOk : Nat
  wsRej : Nat
  wsLost : Nat
  /-- TSYNC_OUT is high until this tick time. -/
  tsyncOut : Bool
  tsyncOutEnd : Nat
  /-- The last accepted measurement: own instant and reference instant (R195: rate from the last two). -/
  lastOwn : Nat
  lastRef : Nat
  haveLast : Bool
deriving DecidableEq, Repr

/-- A waystation frame as the controller passes it to the time master (R197): SYNC with its sequence number, stamp and tick count, FOLLOW with the source's stamp and tick count. -/
inductive WsFrame where
  | sync (seq : Byte) (stamp at_ : Nat)
  | follow (stamp at_ : Nat)
deriving DecidableEq, Repr

/-- The last SYNC received and not paired: whether another came before it unpaired (R195). -/
structure WsSync where
  seq : Byte
  stamp : Nat
  at_ : Nat
  twice : Bool
deriving DecidableEq, Repr

/-- Waystation state (R195 to R197). -/
structure WsSt where
  /-- Frames passed to the time master and not yet taken, the earliest first. -/
  given : List WsFrame
  sync : Option WsSync
  /-- Sequence number and tick count of the last accepted pair. -/
  lastSeq : Option (Byte × Nat)
  /-- Source: sequence number of the next SYNC; a SYNC that is ready or in its attempt, with the tick count at which it became due. -/
  nextSeq : Byte
  syncReady : Option (Byte × Nat)
  /-- The SYNC was sent and its stamp has not come; the stamp has come and the attempt has not ended. -/
  awaiting : Bool
  stamped : Option Nat
  /-- FOLLOW ready with its stamp. -/
  followReady : Option Nat
  /-- Tick count from which LOSTMAX periods count. -/
  since : Nat
deriving DecidableEq, Repr

/-- The cycle (R28, R111, R116). -/
structure CycSt where
  n : Nat
  t0 : Nat
  nextT0 : Nat
  /-- The cycle runs (a next T0 exists). -/
  running : Bool
  /-- Some cycle has run since the boot. -/
  everRan : Bool
  /-- The commit T0(n) acted (header flag ACTING). -/
  acting : Bool
  /-- VC(n) has passed. -/
  closed : Bool
  /-- Lanes in the vote. -/
  member : BitVec 3
  /-- The period in force for the next commit, µs. -/
  period : Nat
  /-- The image of cycle n as the slices assemble it, by IMAGE_IN offset (R119). -/
  image : Memory
  /-- Listed bus receptions of the running interval that did not fit (RXLIST_LOST). -/
  rxLost : Nat
  /-- Words staged for the next image (R115). -/
  staged : Nat
  delivx : Nat
  /-- Acting commits counted for the peer push (R351). -/
  acts : Nat
  /-- Delivery excess X of the running cycle, ns (R115). -/
  late : Nat
  /-- Final pass in progress for this lane (R140). -/
  finalPass : Option (Fin 3)
deriving DecidableEq, Repr

/-- What a lane does now. -/
inductive LaneRun where
  | halted
  | waiting
  | computing
  | done
deriving DecidableEq, Repr

/-- TRAPREC of a lane (R169). -/
structure TrapRec where
  cause : Nat
  code : Nat
  pc : Word
  addr : Word
  cyc : Word
deriving DecidableEq, Repr

/-- What a lane sends at vote close (R117, R200): taken at VC(n). -/
structure CloseData where
  present : Bool
  /-- Changed command records: channel number and 16 bytes. -/
  recs : List (Nat × List Byte)
  /-- Record-set CRC of each die's sixteen records after the cycle. -/
  crcs : List Word
  /-- Manifest entries per die, 16 bytes each, in SCHED order. -/
  man : List (List (List Byte))
  /-- Bus requests per controller, 80 bytes each. -/
  req : List (List (List Byte))
  permit : BitVec 64
  reports : List Word
deriving DecidableEq, Repr

/-- A lane (R145 to R171) with its place in the vote and in reintegration (R135 to R144). -/
structure LaneSt where
  /-- X0 to X15; X0 is read as zero whatever stands here (R145). -/
  x : Vector Word 16
  flN : Bool
  flZ : Bool
  flC : Bool
  flV : Bool
  pc : Word
  crcVal : Word
  xipBase : Word
  xipSpan : Word
  /-- Lane memory by lane address (R148). -/
  mem : Memory
  /-- The closed copy of the 64 command records, by offset (R151). -/
  closedCopy : Memory
  /-- Prefetch buffer: lines by store address, the earliest first (R174). -/
  pf : List (Nat × List Byte)
  /-- The line whose fill the lane waits for, and the tick time of its request (R176). -/
  lineReq : Option Nat
  lineAt : Nat
  /-- Data address of the access that missed; 0 for a fetch. -/
  lineData : Word
  run : LaneRun
  /-- The image of cycle n was delivered, and it is valid (R112). -/
  delivered : Bool
  imgValid : Bool
  trapped : Bool
  trap : TrapRec
  close : CloseData
  /-- LSTAT_l. -/
  state : Nat
  triesLeft : Nat
  cause : Nat
  rfail : Nat
  attempts : Nat
  exc : Nat
  ecc : Nat
  slack : Nat
  /-- Cause learned since the last commit (R135); 0 none. -/
  pendCause : Nat
  /-- The present exclusion came by LANECMD op 1 (R144). -/
  ownerExcl : Bool
  /-- The lane was in the vote at the last commit that it left. -/
  stageAt : Nat
  convCnt : Nat
  /-- Blocks of 256 bytes written by a member since their copy (R140), by lane address / 256, the next to be recopied first; the tick count up to which the engine has recopied. -/
  dirty : List Nat
  copyAt : Nat
  /-- Compute-window time that the IMAGE_IN copy of stage BULK could use in the cycles that have closed, ns (R139). -/
  winUsed : Nat
  /-- The shadow cycle runs, whether a difference was found, and whether it was computed to ENDCYC in time (R141). -/
  shadowDiff : Bool
  shadowEnds : Nat
  /-- Check-in words on their way to the watchdog (R167). -/
  serve : List Word
  clockOk : Bool
  /-- By die: the number of the latest event frame that came to the lane's snapshot slice, the lowest number of an event that it lacks, and the freeze frame of the present cycle (R113). -/
  evSeq : Vector Nat 5
  evLost : Vector (Option Nat) 5
  frozen : BitVec 5
deriving DecidableEq, Repr

/-- A serving port (R334 to R348, R401). -/
structure PortSt where
  /-- Status byte, number, CRC and word count of the latest non-STATUS frame (R338, R339). -/
  last : Byte
  seq : Nat
  crc : Word
  count : Nat
  /-- The three bytes that SO carried during the header of the latest frame (R338), and the words that it returned. -/
  echo : List Byte
  so : List Word
  /-- PCNT_p. -/
  okCnt : Nat
  rejCnt : Nat
  tmoCnt : Nat
  /-- Latched _HI values by register key (R401). -/
  latch : List (Nat × Word)
  /-- A READ-SNAP frame still open holds this buffer (R403). -/
  hold : Option (Fin 3)
  /-- CS_N is low and the select handshake was given (R345). -/
  selected : Bool
deriving DecidableEq, Repr

/-- A frame that the device sends as master on PP: its command, page, offset, dummy bytes and data words (Table 12.2). -/
structure PushFrame where
  cmd : Nat
  page : Nat
  off : Nat
  dummy : Nat
  words : List Word
deriving DecidableEq, Repr

/-- Peer push (R350, R351). -/
structure PeerSt where
  lastStat : Byte
  faults : Nat
  drops : Nat
  /-- A push that has not finished: the data words of its first frame. -/
  busy : Option (List Word)
  /-- The frames of the latest push that the partner took. -/
  sent : List PushFrame
deriving DecidableEq, Repr

/-- What a store operation does. -/
inductive MpKind where
  | read
  | program
  | erase
deriving DecidableEq, Repr

/-- A store operation in progress on a select (R356 to R359). -/
structure MpOp where
  /-- Who asked: 2 retain journal, 3 ledger journal, 4 PROG load and directory, 5 raw, 6 HART directory (the classes of R356). -/
  owner : Nat
  kind : MpKind
  suspended : Bool
deriving DecidableEq, Repr

/-- A request that waits for a segment boundary (R356). -/
structure MpReq where
  sel : Nat
  owner : Nat
  kind : MpKind
deriving DecidableEq, Repr

/-- The memory port (R352 to R360). -/
structure MpSt where
  bootClk : Nat
  op : Vector (Option MpOp) 2
  /-- Requests that wait, in order of arrival (R356). -/
  wait : List MpReq
  /-- The stored line that the port fetches next without a request, and its line number (R174). -/
  stream : Option (Nat × Nat)
  /-- Continuous read is open on the select (R355). -/
  cont : BitVec 2
  readErr : Nat
  progFail : Nat
  eraseFail : Nat
  timeouts : Nat
  /-- Raw operation: MPXSTAT, and the operation with its address and length while BUSY. -/
  xstate : Nat
  xerr : Nat
  xop : Nat
  xaddr : Nat
  xn : Nat
deriving DecidableEq, Repr

/-- The PROG load (R182, R183). -/
structure PlSt where
  state : Nat
  err : Nat
  pos : Nat
  /-- A load is in progress: its TYPE, base, length and expected CRC at START. -/
  loading : Bool
  type : Nat
  base : Nat
  len : Nat
  crc : Word
  /-- The chunk being programmed. -/
  chunk : List Byte
  trialN : Nat
deriving DecidableEq, Repr

/-- Ownership (R386 to R393). -/
structure OwnSt where
  owner : Option (Fin 3)
  grant : Option (Fin 3)
  grantAt : Nat
  timerAt : Nat
  /-- A lapse since the last successful TAKE, and HOST_LOST as of the last T0 (R392). -/
  lapsed : Bool
  hostLost : Bool
  lapses : Nat
  changes : Nat
deriving DecidableEq, Repr

/-- APPLY (R394 to R397). -/
structure ApplySt where
  state : Nat
  reason : Nat
  seq : Nat
  infoPage : Nat
  infoOff : Nat
  cyc : Word
  /-- The copy that the check took (R396) and when the check ended. -/
  copy : RegMap
  endedAt : Nat
deriving DecidableEq, Repr

/-- A watchdog (R407 to R412). -/
structure WdSt where
  /-- 0 OFF, 1 ARMED, 2 HELD, 3 EXPIRED. -/
  state : Nat
  clkFail : Bool
  /-- The stopped clock has run again since this tick time. -/
  clkSince : Nat
  exp : Nat
  seen : BitVec 16
  /-- Tick time at which the present period started, and the count kept by a hold, ns. -/
  start : Nat
  held : Nat
  bad : Nat
  badTask : Nat
deriving DecidableEq, Repr

/-- A ledger record (R415) without its CRC. -/
structure LedRec where
  type : Nat
  supp : Nat
  seq : Nat
  time : Nat
  cycle : Nat
  code : Nat
  src : Nat
  arg : Nat
deriving DecidableEq, Repr

/-- Suppression state of one CODE and SRC (R418). -/
structure SuppSt where
  code : Nat
  src : Nat
  /-- Tick time of the last record, and the occurrences suppressed since. -/
  at_ : Nat
  count : Nat
deriving DecidableEq, Repr

/-- The ledger (R414 to R421). -/
structure LedSt where
  bits : Vector Word 4
  /-- LEDCNT_c by code. -/
  cnt : List (Nat × Nat)
  /-- The newest 256 records, newest first. -/
  ring : List LedRec
  /-- Events that wait for JREADY, oldest first (256 at most). -/
  queue : List LedRec
  seq : Nat
  jseq : Nat
  jen : Bool
  jready : Bool
  jlost : Nat
  /-- Records not yet in the store, oldest first. -/
  pend : List LedRec
  /-- Offset in the journal region at which the next record is written. -/
  pos : Nat
  supp : List SuppSt
deriving DecidableEq, Repr

/-- A maintenance activity (R422) with the resources that it claims. -/
structure ActSt where
  kind : Nat
  port : Nat
  index : Nat
  mask : BitVec 16
  /-- Store range claimed, [lo, hi); empty for none. -/
  lo : Nat
  hi : Nat
  /-- The directory is claimed too. -/
  dir : Bool
  /-- A test of R425: its start, the conversions or sample instants that it takes in all and has taken, and the FAIL and SKIP bits found so far. -/
  start : Nat := 0
  total : Nat := 0
  count : Nat := 0
  fail : BitVec 16 := 0
  skip : BitVec 16 := 0
deriving DecidableEq, Repr

/-- Test results of a unit (R425). -/
structure MntRes where
  state : Nat
  kind : Nat
  fail : BitVec 16
  skip : BitVec 16
deriving DecidableEq, Repr

/-- The maintenance arbiter (R422 to R426). -/
structure MntSt where
  slot : Vector (Option ActSt) 32
  refKind : Nat
  refBlocker : Nat
  refSlot : Nat
  refCode : Nat
  refCount : Nat
  res : Vector MntRes 5
deriving DecidableEq, Repr

/-- Pages 6 and 7 in their three buffers each (R403): page 6 as bytes, page 7 as words by offset. -/
structure SnapSt where
  p6 : Vector Memory 3
  p7 : Vector RegMap 3
  latest : Fin 3
  skip : Nat
  /-- The committed page 7 of the latest commit (R123). -/
  out : RegMap
deriving DecidableEq, Repr

/-- The host mailbox (R405, R406); its words stand in the register map. -/
structure MboxSt where
  seq : Nat
deriving DecidableEq, Repr

end Sys2Proof.Machine
end

