-- ==== Sys2Proof/Machine/StateDie.lean ====
section
/-!
DEFINITION. The isolated dies' state that every die has (R11 to R21, R107, R190, R451): power and microcode, links, time, events, and the settings in force.
-/

namespace Sys2Proof.Machine

/-- One link as its receiver sees it (R16). -/
structure LinkSt where
  up : Bool
  /-- Consecutive CRC-valid frames since the link was lost; three restore it. -/
  good : Nat
deriving DecidableEq, Repr

/-- The payload of a freeze frame (R113): the cycle number, the sequence number of the last event stamped before T0, and the die health word. -/
structure FreezeFrame where
  cycle : Nat
  seq : Nat
  health : Word
deriving DecidableEq, Repr

/-- An isolated die. -/
structure DieSt where
  /-- PWRSTAT.READY of the die (R107). -/
  ready : Bool
  /-- The microcode load after a switch-on runs (R107). -/
  loading : Bool
  /-- SHA-256 of the loaded microcode; empty before a load. -/
  ucode : List Word
  down : Vector LinkSt 3
  up : Vector LinkSt 3
  time : LinkSt
  /-- Link error counter of the die (R16). -/
  linkErr : Nat
  /-- R20, R190. -/
  holdover : Bool
  lock : Bool
  /-- Die time minus link time, ns, as it stood when the die last measured it, and the tick count from which the die corrects it at 250 ppm; none while it runs without its link's time (R190). -/
  offset : Int
  corrFrom : Option Nat
  /-- Transformers PT_0 and PT_1 in service, and a transfer running (R21). -/
  pt : BitVec 2
  transfer : Bool
  /-- Sequence number and stamp of the die's latest event; the inputs, flags and measurement words as its events have told them; and the freeze frame of the present T0 (R113). -/
  evSeq : Nat
  evAt : Nat
  told : List Byte
  frz : FreezeFrame
  /-- Ledger events kept while the three uplinks are down, oldest first (R414). -/
  kept : List LedRec
  /-- The settings in force at the die (R451): the SR words of its pages. -/
  settings : RegMap
  /-- The die has had no commit since it started from reset (R48), and none since the boot (R451). -/
  fresh : Bool
  firstCommit : Bool
  /-- LINK is declared: all three downlinks lost (R269). -/
  linkDown : Bool
  /-- Lanes that the die reports in its next freeze frame: minorities, close failures, shadow differences (R135, R141). -/
  repMinority : BitVec 3
  repClose : BitVec 3
  repShadow : BitVec 3
  /-- Close transfers received whole since the last commit, and the lane's entries in them (R117, R132). -/
  closeRx : BitVec 3
  manRx : Vector (List (List Byte)) 3
  /-- Record copies of the three lanes: channel records by local channel, 16 bytes each as one memory by offset (R128). -/
  copy : Vector Memory 3
deriving DecidableEq, Repr

end Sys2Proof.Machine
end

