-- ==== Sys2Proof/Machine/StateField.lean ====
section
/-!
DEFINITION. The field dies' state (08, 09, 11): channels, pulse generators, the duty carrier, inrush slots and the budget queue, manifest stores (07), inputs, permits, limp-home and the survey converters; and the thermal governor of the control die.
-/

namespace Sys2Proof.Machine

/-- The fields of a command record that reach a channel (Table 5.10). -/
structure Cmd where
  act : Nat
  pgsel : Nat
  clr : Bool
  oltest : Bool
  duty : Nat
deriving DecidableEq, Repr

/-- States of an output channel (Table 8.4). -/
inductive OutSt where
  | off
  | wait
  | inrush
  | on
  | rwait
  | latched
deriving DecidableEq, Repr

/-- The active limp-home mapping of a channel (R274, R275). -/
structure LhMap where
  en : Bool
  src : Nat
  inv : Bool
deriving DecidableEq, Repr

/-- The half-period receiver of a dynamic permit (R260 to R263). -/
structure PermSt where
  present : Bool
  /-- Tick count of the latest edge; consecutive valid and invalid half-periods. -/
  edgeAt : Nat
  good : Nat
  bad : Nat
  fault : Bool
  /-- Tick counts of the invalid half-periods of the last 1 ms, latest first. -/
  badAt : List Nat
deriving DecidableEq, Repr

/-- A field channel. -/
structure ChanSt where
  /-- Voted command record, and its replacement of ACT, PGSEL and DUTY by a manifest action (R203). -/
  vrec : Cmd
  repl : Option Cmd
  /-- Tick count at which a PULSE returns to OFF. -/
  pulseEnd : Option Nat
  /-- CLR at the latest acting commit at which it had a majority (R216); none since the die's reset. -/
  clrRef : Option Bool
  /-- The latest effective command whose ACT was not 4 (R267). -/
  lastNon4 : Cmd
  /-- Table 8.4. -/
  st : OutSt
  /-- The present request is a retry (row 7), and the check of R221 that it waits at: 0 thermal, 1 toll, 2 budget, 3 slot. -/
  retry : Bool
  stage : Nat
  queued : Bool
  bhold : Bool
  thold : Bool
  toll : Bool
  /-- Budget reservation of the waiting request, in 10^-12 mW. -/
  resv : Nat
  /-- Tick count at which the demand rose, at which the switch turned on; LOAD of the present profile (R224). -/
  demandAt : Nat
  onAt : Nat
  load : Nat
  slot : Bool
  limit : Bool
  limitAt : Nat
  rleft : Nat
  lbc : Bool
  cause : Nat
  tripAt : Nat
  /-- Conduction since the last trip, before the present turn-on, ns, and the tick count from which the present one counts (R231). -/
  condAcc : Nat
  condAt : Nat
  ol : Bool
  /-- Conduction below the open-load threshold, ns, before the tick count from which the present on-phase counts (R237). -/
  olAcc : Nat
  olFrom : Nat
  stb : Bool
  stuck : Bool
  /-- Tick counts since which the 10 µs checks of the open switch have read below 50 mA, and 50 mA or more (R271). -/
  lowSince : Option Nat
  highSince : Option Nat
  /-- Toll bucket, µJ (R235), CHELAST and CHILAST. -/
  level : Int
  elast : Nat
  ilast : Nat
  /-- A clamp event runs; tick count of the end of the last one. -/
  clamp : Bool
  clampEnd : Nat
  /-- Sensor, 1/16 °C, and thermal model, 10^-6 °C (R226). -/
  tj : Int
  tm : Int
  /-- Tick count of the first reading since which sensor and model differ by more than 30 K (R229). -/
  diffAt : Option Nat
  trips : Nat
  retries : Nat
  defers : Nat
  locks : Nat
  /-- Active causes of Table 9.3 by code, and the held command and window of R267. -/
  causes : BitVec 8
  held : Cmd
  coast : Option Nat
  /-- The wait of R262: its end and its start. -/
  permWait : Option Nat
  perm : PermSt
  /-- Input stage (R252 to R258). -/
  sink : Bool
  /-- Terminal voltage of the latest sample, while the sink draws, mV (R253). -/
  vT : Nat
  raw : Bool
  rawCnt : Nat
  level1 : Bool
  valid : Bool
  wb : Bool
  wbCnt : Nat
  wbRaw : Bool
  short : Bool
  shortCnt : Nat
  shortRaw : Bool
  /-- Latest converted pair and its hold instant (R326); the routine pair's hold instant and I while it is locked; a sample pair that waits for its conversion. -/
  iUa : Int
  vMv : Int
  holdAt : Nat
  routineI : Int
  routineAt : Nat
  sampleI : Int
  sample : Option Nat
  /-- I, V and hold instant of a sample pair converted since the last T0 (R207). -/
  smp : Option (Int × Int × Nat)
  /-- Tick count of the latest change of demand, and the demand (R327). -/
  demand : Bool
  demandEdge : Nat
  /-- Limp-home (R274 to R278), and the ILIM last configured (R222). -/
  map : LhMap
  lhIlim : Nat
  lhOn : Bool
  lhShut : Bool
deriving DecidableEq, Repr

/-- A manifest entry (Table 7.4). -/
structure Entry where
  time : Nat
  mask : BitVec 16
  action : Nat
  flags : Nat
  arg : Nat
deriving DecidableEq, Repr

/-- Counts of a manifest store (MANSTAT_d, MANERR_d). -/
structure ManCnt where
  full : Nat
  invalid : Nat
  late : Nat
  horizon : Nat
  dup : Nat
  conflict : Nat
deriving DecidableEq, Repr

/-- A field die's output, input and manifest blocks. -/
structure FieldSt where
  ch : Vector ChanSt 16
  pgOrg : Vector Nat 4
  dutyOrg : Nat
  /-- Requests queued for a slot, first first (R242), and held by the budget in order of arrival (R240). -/
  queue : List Nat
  bqueue : List Nat
  rot : Nat
  /-- Additions reserved since the latest allowance, 10^-12 mW, and each lane's allowance with its arrival (R239). -/
  reserved : Nat
  allow : Vector (Nat × Option Nat) 3
  pend : List Entry
  man : ManCnt
  snsCur : Nat
  sumOver : Bool
  noact : Bool
  losses : Nat
  defCount : Nat
  defMax : Nat
  /-- Substrate temperature, 1/16 °C; VBB, mV. -/
  tsub : Int
  vbb : Int
  /-- VBB is below its undervoltage threshold; outputs wait for the commit after its return (R58). -/
  vbbLow : Bool
  vbbOff : Bool
  /-- Tick count of the latest thermal sample; die times of the latest toll refill and of the latest input sample. -/
  thermAt : Nat
  tollAt : Nat
  sampleAt : Option Nat
  lhEn : Bool
  lhIn : BitVec 4
  /-- Channels whose switching stands still during a transfer of barrier power (R21). -/
  stopped : BitVec 16
deriving DecidableEq, Repr

/-- The governor on the control die (R239, R240). -/
structure GovSt where
  /-- EST of each lane's slice, mW, and the device time of its latest computation. -/
  est : Vector Nat 3
  at_ : Vector Nat 3
  overBudget : Bool
  holds : Nat
deriving DecidableEq, Repr

/-- A survey item (Table 11.6): I or V of a channel, V_L of a loop, or one of the five health items in the table's order. -/
inductive SvItem where
  | chI (k : Nat)
  | chV (k : Nat)
  | loopV (k : Nat)
  | supply
  | aux
  | temp2
  | ref
  | gnd
deriving DecidableEq, Repr

/-- An urgent request (R329): I and V of a sample pair, or V(LPk_SN). -/
inductive UrgItem where
  | sampleI (k : Nat)
  | sampleV (k : Nat)
  | loopSn (k : Nat)
  | testRef
  | testGnd
deriving DecidableEq, Repr

/-- A survey converter (R325 to R331). -/
structure SurveySt where
  /-- The routine item in conversion or next, the times it was aborted, and whether its conversion has started. -/
  item : SvItem
  /-- The item's conversion has started once (R326). -/
  begun : Bool
  aborts : Nat
  guard : Bool
  /-- The conversion that runs is urgent. -/
  urgent : Bool
  /-- Urgent requests that wait, in order of hold instant, with that instant and the tick count of the request. -/
  queue : List (UrgItem × Nat × Nat)
  /-- A burst of urgent requests is under way: its first conversion has started, and requests wait. -/
  burst : Bool
  /-- Urgent conversions since the last routine start. -/
  row : Nat
  /-- Channels whose pair is taken late (R327), and the item at which the scan goes on after such a pair. -/
  late : List Nat
  resume : Option SvItem
  startAt : Nat
  scanAt : Nat
  refErr : Bool
  gndErr : Bool
  supErr : Bool
  tempErr : Bool
  /-- Consecutive results inside the window, by flag: REF, GND, supply, TEMP2. -/
  okRef : Nat
  okGnd : Nat
  okSup : Nat
  okTemp : Nat
  guards : Nat
  scans : Nat
  last : Nat
  max : Nat
  urgCount : Nat
  maxWait : Nat
  lost : Nat
deriving DecidableEq, Repr

end Sys2Proof.Machine
end

