-- ==== Sys2Proof/Machine/StateLoop.lean ====
section
/-!
DEFINITION. The loop die's state (10, 11): loops with their supplies and protection, the churn chains, open-wire test, trims, HART modems and directory; and the two CAN controllers with the staged receptions (13).
-/

namespace Sys2Proof.Machine

/-- One output of a churn chain as delivered (R323): stamp, I, V_L at the output, SEQ. -/
structure LoopOut where
  stamp : Nat
  i : Int
  v : Int
  seq : Nat
deriving DecidableEq, Repr

/-- The churn chain of a loop (R311 to R322). Edges count MODCLK from device time 0. -/
structure ChurnSt where
  running : Bool
  /-- The next edge, and the edge from which the combs count. -/
  edge : Nat
  grid : Nat
  /-- Ratio and set in use (the chain test has its own). -/
  n : Nat
  set : Nat
  a1 : BitVec 50
  a2 : BitVec 50
  a3 : BitVec 50
  z1 : BitVec 50
  z2 : BitVec 50
  z3 : BitVec 50
  /-- Histories of stages 2 and 3, newest first; empty before their shift-in. -/
  h2 : List Int
  h3 : List Int
  /-- Bits taken since the chain's latest start of phase: stage 1 spans, and since the latest disturbance: clean spans. -/
  bits : Nat
  cleanBits : Nat
  /-- The histories are filled without a shift-in (R321). -/
  fill : Bool
  /-- Edge of the centred output that a re-phase makes, and whether it is not clean (R322). -/
  target : Option Nat
  lateTarget : Bool
  /-- Re-phases that wait: the edge of t_o, and the TIME of their entry. -/
  waiting : List (Nat × Nat)
  /-- Last edge of the latest STEP and its first (R320). -/
  stepFrom : Nat
  stepTo : Nat
  hasStep : Bool
  seq : Nat
  clean : Bool
  settling : Bool
  ovl : Nat
  rpLate : Nat
  starts : Nat
  /-- CHURNSEQ and CHURNT. -/
  lastSeq : Nat
  lastStamp : Nat
  /-- Latest stage outputs. -/
  y1 : Int
  y2 : Int
  y3 : Int
  /-- Test pattern in place of the modulator, and bits of it given. -/
  test : Option (BitVec 2)
  testPos : Nat
deriving DecidableEq, Repr

/-- Trim states (R296, R298). -/
structure TrimSt where
  state : Nat
  err : Nat
  /-- Point that averages, 0 none; its window's start, sum and number of readings. -/
  point : Nat
  wfrom : Option Nat
  sum : Int
  cnt : Nat
  i1 : Int
  i2 : Int
  raw1 : Int
  raw2 : Int
  gain : Int
  ofs : Int
  /-- Tick count of the last op. -/
  opAt : Nat
deriving DecidableEq, Repr

/-- The open-wire test of a loop (R292). -/
structure OwSt where
  /-- OWSTAT.STATE of the loop's latest test. -/
  state : Nat
  /-- Step of the running test (1 to 5; 6 all averaged), and the die time of step 2's start. -/
  step : Nat
  startAt : Nat
  /-- The averaging window's start, its sum and count, and the means R0, R1, R2 as sum and count. -/
  avgFrom : Option Nat
  sum : Int
  cnt : Nat
  /-- V(LPk_SN) was read above 0.5 V; die time of the next reading (R329). -/
  sn : Bool
  snNext : Nat
  r0 : Int × Nat
  r1 : Int × Nat
  r2 : Int × Nat
deriving DecidableEq, Repr

/-- A HART modem with its transaction (R299 to R304). -/
structure HartSt where
  cd : Bool
  /-- HRES.STATE, ERR, NRESP, TRIES; HRSP. -/
  state : Nat
  err : Nat
  nresp : Nat
  tries : Nat
  rc : Nat
  fds : Nat
  cmd : Nat
  /-- What occupies the loop: 0 nothing, 1 a transaction, 2 a scan; and the tries of its present request. -/
  job : Nat
  att : Nat
  /-- A request frame is out and its response is awaited; tick count of the request's end. -/
  waiting : Bool
  sentAt : Nat
  /-- Bytes of the request frame from its delimiter. -/
  req : List Byte
  /-- Tick counts of the last activity on the loop and of the last burst frame's end; a burst frame was seen. -/
  quietFrom : Nat
  burstAt : Option Nat
  /-- Reason of the last failed try. -/
  failErr : Nat
  /-- Scan in progress: next address and last (R304). -/
  scan : Option (Nat × Nat)
  bCount : Nat
  bLen : Nat
  bCmd : Nat
  /-- HBURST words. -/
  burst : List Word
deriving DecidableEq, Repr

/-- A loop. -/
structure LoopSt where
  supon : Bool
  connected : Bool
  limit : Bool
  foldback : Bool
  foldAt : Nat
  miswire : Bool
  /-- The supply ramps up after a reconnection; tick counts of trips in the last 60 s, latest first, and of the last trip. -/
  ramp : Bool
  rampAt : Nat
  trips : List Nat
  tripAt : Nat
  headroom : Bool
  /-- Tick count since which the condition that would change HEADROOM holds (R289). -/
  headAt : Option Nat
  owField : Bool
  owPath : Bool
  owFailed : Bool
  cls : Nat
  /-- Class that the outputs give, and the stamp of the first output that gave it (R294). -/
  cand : Nat
  candAt : Nat
  special : Bool
  i : Int
  raw : Int
  v : Int
  evMis : Nat
  evFold : Nat
  evHead : Nat
  evOw : Nat
  out : Option LoopOut
  prev : Option LoopOut
  centred : Option LoopOut
  churn : ChurnSt
  trim : TrimSt
  ow : OwSt
  hart : HartSt
deriving DecidableEq, Repr

/-- Loop-die registers (R286, R292, R332). -/
structure LdSt where
  vlbLow : Bool
  vlb : Int
  /-- Substrate temperature of LD, 1/16 °C. -/
  temp : Int
  /-- OWSTAT.LOOP and OWDELTA. -/
  owLoop : Nat
  owDelta : Int
  /-- CVTSTAT. -/
  cvState : Nat
  cvLoop : Nat
  cvOuts : Nat
  /-- CVTY1 to CVTY3. -/
  cvY1 : Int
  cvY2 : Int
  cvY3 : Int
  /-- HART directory words by page 13 offset (R304), and a change that is not in the store. -/
  hdir : RegMap
  hdirDirty : Bool
  /-- Accepted SAMPLE entries with a loop mask (R200). -/
  pend : List Entry
deriving DecidableEq, Repr

/-- A frame in a transmit FIFO (R378, R379). -/
structure TxFrame where
  ide : Bool
  fdf : Bool
  brs : Bool
  id : Nat
  data : List Byte
  /-- Commits since it entered the FIFO. -/
  age : Nat
deriving DecidableEq, Repr

/-- A reception (Table 5.8): ID word, INFO without the count, stamp, data bytes. -/
structure RxRec where
  idw : Word
  info : Word
  stamp : Nat
  data : List Byte
deriving DecidableEq, Repr

/-- A host receive queue (R376, R377). -/
structure RxqSt where
  frames : List RxRec
  /-- Accepted frames, modulo 65,536; the count of each queued frame is in its INFO. -/
  count : Nat
  ovf : Nat
  logged : Bool
  /-- Port that holds the lock, and the tick count of its last read. -/
  lock : Option (Port × Nat)
deriving DecidableEq, Repr

/-- A CAN controller (13). -/
structure CanSt where
  /-- CANSTAT.STATE. -/
  state : Nat
  tdcv : Nat
  txErr : Nat
  rxErr : Nat
  lec : Nat
  fifo : List TxFrame
  /-- A flushed frame that finishes its attempt (R380). -/
  tail : Option TxFrame
  /-- The attempt in progress is a waystation frame's (R196, R379). -/
  onWs : Bool
  repl : Nat
  sent : Nat
  dFull : Nat
  dMode : Nat
  dBus : Nat
  dLife : Nat
  rxOk : Nat
  pexc : Nat
  remote : Nat
  /-- OBJBUILD. -/
  buildFail : Option Nat
  /-- Active table: position to entry index + 1; entry to position × 16 + probes; receptions of an entry since the start. -/
  tab : List (Nat × Nat)
  pos : List (Nat × Nat)
  cnt : List (Nat × Nat)
  rxq : Vector RxqSt 2
deriving DecidableEq, Repr

/-- A reception staged towards the image (R119, R120, R375): its controller, its slot when its entry has RX 1, listed or not. -/
structure StageRec where
  ctrl : Nat
  slot : Option Nat
  listed : Bool
  r : RxRec
deriving DecidableEq, Repr

/-- A TX entry that the hub holds with its request (R206): the entry, controller, position and the request's 80 bytes. -/
structure HubEntry where
  e : Entry
  ctrl : Nat
  pos : Nat
  req : List Byte
deriving DecidableEq, Repr

/-- The bus hub's manifest store (R200, R206). -/
structure HubSt where
  pend : List HubEntry
  man : ManCnt
deriving DecidableEq, Repr

end Sys2Proof.Machine
end

