-- ==== Sys2Proof/Machine/State.lean ====
section
/-!
DEFINITION. The state of the block: everything the spec gives the SKS-6416, as plain data, with the queue of waiting commands; and State.reset, the device held in power-on reset.
-/

namespace Sys2Proof.Machine

/-- Reasons to stop with a fault. None exists: every command of the table has an effect in every state (NOTES.md, Stops). -/
inductive Fault where
deriving DecidableEq, Repr

/-- Reasons to refuse. -/
inductive Refusal where
  /-- Raised by a dispatch arm whose command has no meaning yet; safe. -/
  | notModelled (mnemonic : String)
deriving DecidableEq, Repr

structure State where
  /-- Commands that wait, first in first out. -/
  pending : List Instr
  /-- Uses of a free value so far (the model's own field, log entry 4). -/
  freeCtr : Nat
  /-- Device time in ns (R184) and tick-counted time in ns (R189). -/
  time : Nat
  mono : Nat
  /-- Active values of SR and CS registers, and the RW and LK registers that no block below holds; shadows of SR registers (R6, R394). -/
  regs : RegMap
  shadow : RegMap
  /-- VDDIO rails present: SYS, HP0, HP1, PP, MP as the five rails of R50. -/
  vddio : BitVec 5
  tap : TapSt
  irqStat : Vector (BitVec 13) 2
  boot : BootSt
  attest : AttestSt
  jrn : JrnSt
  md : ModeSt
  pwr : PwrSt
  tm : TmSt
  ws : WsSt
  cyc : CycSt
  lane : Vector LaneSt 3
  port : Vector PortSt 3
  peer : PeerSt
  /-- The external store by store address (R352). -/
  store : Memory
  mp : MpSt
  pl : PlSt
  own : OwnSt
  app : ApplySt
  wd : Vector WdSt 4
  led : LedSt
  mnt : MntSt
  snap : SnapSt
  mbox : MboxSt
  hub : HubSt
  /-- NOMAJ_d (R131). -/
  nomaj : Vector Nat 5
  die : Vector DieSt 5
  field : Vector FieldSt 4
  gov : GovSt
  survey : Vector SurveySt 5
  loop : Vector LoopSt 16
  ld : LdSt
  can : Vector CanSt 2
  /-- Receptions staged for the next image, in order of stamp. -/
  rxStage : List StageRec
  /-- Couplers that the permit voter drives (R18). -/
  permits : BitVec 64
  /-- The management core is in its own reset (R33). -/
  coreDown : Bool
deriving DecidableEq, Repr


/-! ## Reset values, block by block (log entry 2 for those that the spec does not give) -/

def bootReset : BootSt :=
  { inReset := true, sources := 1, cause := 1, bootCnt := 0, phase := 0, sel := 0, bank := false, trial := false,
    fallback := false, recovery := false, warm := false, warmFail := 0, err := 0, testHold := false,
    entry := 0, body := 0, retainId := 0, retainLen := 0, xipBase := 0, xipSpan := 0, firstCycle := 0,
    rstoutLow := true, mpRstLow := true, ucodeField := [], ucodeLoop := [], confirming := false }

def attestReset : AttestSt :=
  { meas := [[], [], [], []], valid := 0, extCnt := 0, qstate := Vector.replicate 3 0, qbuf := Vector.replicate 3 [],
    active := none, waiting := [] }

def jrnReset : JrnSt :=
  { now := false, active := false, cycle := 0, t0 := 0, cap := Vector.replicate 3 none, members := 0, writing := none,
    slot := false, disagree := false, skip := 0, gen := 0 }

/-- MODESTAT.LASTCAUSE is 2: every control-die reset takes row 2 of Table 4.2. -/
def modeReset : ModeSt :=
  { mode := .boot, lastCause := 2, drop := false, primeCnt := 0, primeLasted := 0, pairCnt := Vector.replicate 3 0, cmd := none,
    safePending := false, row4 := none, laneStarted := false, start := false, startWarm := false }

/-- VISO stands at its nominal 5.0 V (Table 2.9). -/
def pwrReset : PwrSt :=
  { bpwr := 0, lclk := 0, loopmod := 0, loopmodEff := 0, modem := 0, modemEff := 0, dieFail := 0, wakeStat := 0, viso := 5000,
    wakeHigh := false, alarmArmed := false }

/-- TIMESTAT.SECT is 0b11. -/
def tmReset : TmSt :=
  { ref := false, refpOk := false, refpSince := 0, sect := 3, sync := .free, far := false, toffset := 0, trate := 0,
    residual := 0, lastPhase := 0, lastRate := 0, lastCorr := 0, rateAcc := 0, good := 0, lastExp := 0, missFrom := 0, tsOk := 0,
    tsRej := 0, tsLost := 0, wsOk := 0, wsRej := 0, wsLost := 0, tsyncOut := false, tsyncOutEnd := 0, lastOwn := 0,
    lastRef := 0, haveLast := false }

def wsReset : WsSt :=
  { given := [], sync := none, lastSeq := none, nextSeq := 0, syncReady := none, awaiting := false, stamped := none, followReady := none,
    since := 0 }

def cycReset : CycSt :=
  { n := 0, t0 := 0, nextT0 := 0, running := false, everRan := false, acting := false, closed := false, member := 0, period := 0,
    image := [], rxLost := 0, staged := 0, delivx := 0, acts := 0, late := 0, finalPass := none }

def trapReset : TrapRec := { cause := 0, code := 0, pc := 0, addr := 0, cyc := 0 }

def closeReset : CloseData :=
  { present := false, recs := [], crcs := [], man := [], req := [], permit := 0, reports := [] }

/-- LSTAT_l.STATE is 7 and LSLACK_l is 0xFFFF_FFFF. -/
def laneReset : LaneSt :=
  { x := Vector.replicate 16 0, flN := false, flZ := false, flC := false, flV := false, pc := 0, crcVal := 0, xipBase := 0,
    xipSpan := 0, mem := [], closedCopy := [], pf := [], lineReq := none, lineAt := 0, lineData := 0, run := .halted,
    delivered := false, imgValid := false, trapped := false, trap := trapReset, close := closeReset, state := 7, triesLeft := 0,
    cause := 0, rfail := 0, attempts := 0, exc := 0, ecc := 0, slack := 0xFFFFFFFF, pendCause := 0, ownerExcl := false,
    stageAt := 0, convCnt := 0, dirty := [], copyAt := 0, winUsed := 0, shadowDiff := false, shadowEnds := 0, serve := [], clockOk := true,
    evSeq := Vector.replicate 5 0, evLost := Vector.replicate 5 none, frozen := 0 }

/-- PSTAT_p.LAST is 0x7F. -/
def portReset : PortSt :=
  { last := 0x7F, seq := 0, crc := 0, count := 0, echo := [], so := [], okCnt := 0, rejCnt := 0, tmoCnt := 0, latch := [], hold := none,
    selected := false }

/-- PPSTAT.LASTSTAT is 0x7F. -/
def peerReset : PeerSt := { lastStat := 0x7F, faults := 0, drops := 0, busy := none, sent := [] }

def mpReset : MpSt :=
  { bootClk := 0, op := Vector.replicate 2 none, wait := [], stream := none, cont := 0, readErr := 0, progFail := 0, eraseFail := 0, timeouts := 0, xstate := 0,
    xerr := 0, xop := 0, xaddr := 0, xn := 0 }

def plReset : PlSt :=
  { state := 0, err := 0, pos := 0, loading := false, type := 0, base := 0, len := 0, crc := 0, chunk := [], trialN := 0 }

/-- OWNSTAT.OWNER is 3. -/
def ownReset : OwnSt :=
  { owner := none, grant := none, grantAt := 0, timerAt := 0, lapsed := false, hostLost := false, lapses := 0, changes := 0 }

def applyReset : ApplySt :=
  { state := 0, reason := 0, seq := 0, infoPage := 0, infoOff := 0, cyc := 0, copy := [], endedAt := 0 }

def wdReset : WdSt :=
  { state := 0, clkFail := false, clkSince := 0, exp := 0, seen := 0, start := 0, held := 0, bad := 0, badTask := 0 }

def ledReset : LedSt :=
  { bits := Vector.replicate 4 0, cnt := [], ring := [], queue := [], seq := 0, jseq := 0, jen := false, jready := false,
    jlost := 0, pend := [], pos := 0, supp := [] }

def mntReset : MntSt :=
  { slot := Vector.replicate 32 none, refKind := 0, refBlocker := 0, refSlot := 0, refCode := 0, refCount := 0,
    res := Vector.replicate 5 { state := 0, kind := 0, fail := 0, skip := 0 } }

def snapReset : SnapSt :=
  { p6 := Vector.replicate 3 [], p7 := Vector.replicate 3 [], latest := 0, skip := 0, out := [] }

def linkReset : LinkSt := { up := false, good := 0 }

def frzReset : FreezeFrame := { cycle := 0, seq := 0, health := 0 }

def dieReset : DieSt :=
  { ready := false, loading := false, ucode := [], down := Vector.replicate 3 linkReset, up := Vector.replicate 3 linkReset,
    time := linkReset, linkErr := 0, holdover := false, lock := false, offset := 0, corrFrom := none, pt := 3, transfer := false, evSeq := 0,
    evAt := 0, told := [], frz := frzReset, kept := [], settings := [], fresh := true, firstCommit := true, linkDown := false,
    repMinority := 0, repClose := 0, repShadow := 0, closeRx := 0, manRx := Vector.replicate 3 [], copy := Vector.replicate 3 [] }

def cmdReset : Cmd := { act := 0, pgsel := 0, clr := false, oltest := false, duty := 0 }

def permReset : PermSt := { present := false, edgeAt := 0, good := 0, bad := 0, fault := false, badAt := [] }

/-- A channel in the reset state of Table 2.8: switch open, sink off; its cause of no acting commit yet stands (Table 9.3). -/
def chanReset : ChanSt :=
  { vrec := cmdReset, repl := none, pulseEnd := none, clrRef := none, lastNon4 := cmdReset, st := .off, retry := false, stage := 0,
    queued := false, bhold := false, thold := false, toll := false, resv := 0, demandAt := 0, onAt := 0, load := 0, slot := false,
    limit := false, limitAt := 0, rleft := 0, lbc := false, cause := 0, tripAt := 0, condAcc := 0, condAt := 0, ol := false, olAcc := 0, olFrom := 0, stb := false,
    stuck := false, lowSince := some 0, highSince := none, level := 0, elast := 0, ilast := 0, clamp := false, clampEnd := 0, tj := 400,
    tm := 25000000, diffAt := none, trips := 0, retries := 0, defers := 0, locks := 0, causes := 12, held := cmdReset, coast := none,
    permWait := none, perm := permReset, sink := false, vT := 0, raw := false, rawCnt := 0, level1 := false, valid := false, wb := false,
    wbCnt := 0, wbRaw := false, short := false, shortCnt := 0, shortRaw := false, iUa := 0, vMv := 0, holdAt := 0, routineI := 0,
    routineAt := 0, sampleI := 0, sample := none, smp := none, demand := false, demandEdge := 0,
    map := { en := false, src := 0, inv := false }, lhIlim := 0, lhOn := false, lhShut := false }

def manReset : ManCnt := { full := 0, invalid := 0, late := 0, horizon := 0, dup := 0, conflict := 0 }

/-- SAFESTAT.NOACT is 1; temperatures stand at 25 °C and VBB at its nominal 24 V (Table 2.9). -/
def fieldReset : FieldSt :=
  { ch := Vector.replicate 16 chanReset, pgOrg := Vector.replicate 4 0, dutyOrg := 0, queue := [], bqueue := [], rot := 0,
    reserved := 0, allow := Vector.replicate 3 (0, none), pend := [], man := manReset, snsCur := 0, sumOver := false, noact := true,
    losses := 0, defCount := 0, defMax := 0, tsub := 400, vbb := 24000, vbbLow := false, vbbOff := false, thermAt := 0, tollAt := 0,
    sampleAt := none, lhEn := false, lhIn := 0, stopped := 0 }

def govReset : GovSt := { est := Vector.replicate 3 0, at_ := Vector.replicate 3 0, overBudget := false, holds := 0 }

def surveyReset : SurveySt :=
  { item := .supply, begun := false, aborts := 0, guard := false, urgent := false, queue := [], burst := false, row := 0, late := [], resume := none, startAt := 0,
    scanAt := 0, refErr := false, gndErr := false, supErr := false, tempErr := false, okRef := 0, okGnd := 0, okSup := 0, okTemp := 0,
    guards := 0, scans := 0, last := 0, max := 0, urgCount := 0, maxWait := 0, lost := 0 }

def churnReset : ChurnSt :=
  { running := false, edge := 0, grid := 0, n := 0, set := 0, a1 := 0, a2 := 0, a3 := 0, z1 := 0, z2 := 0, z3 := 0, h2 := [], h3 := [],
    bits := 0, cleanBits := 0, fill := false, target := none, lateTarget := false, waiting := [], stepFrom := 0, stepTo := 0,
    hasStep := false, seq := 0, clean := false, settling := false, ovl := 0, rpLate := 0, starts := 0, lastSeq := 0, lastStamp := 0,
    y1 := 0, y2 := 0, y3 := 0, test := none, testPos := 0 }

def trimReset : TrimSt :=
  { state := 0, err := 0, point := 0, wfrom := none, sum := 0, cnt := 0, i1 := 0, i2 := 0, raw1 := 0, raw2 := 0, gain := 0, ofs := 0,
    opAt := 0 }

def hartReset : HartSt :=
  { cd := false, state := 0, err := 0, nresp := 0, tries := 0, rc := 0, fds := 0, cmd := 0, job := 0, att := 0, waiting := false,
    sentAt := 0, req := [], quietFrom := 0, burstAt := none, failErr := 0, scan := none, bCount := 0, bLen := 0, bCmd := 0,
    burst := [] }

def owReset : OwSt :=
  { state := 0, step := 0, startAt := 0, avgFrom := none, sum := 0, cnt := 0, sn := false, snNext := 0, r0 := (0, 1), r1 := (0, 1),
    r2 := (0, 1) }

/-- A loop in the reset state of Table 2.8: supply off, burden path open. -/
def loopReset0 : LoopSt :=
  { supon := false, connected := false, limit := false, foldback := false, foldAt := 0, miswire := false, ramp := false, rampAt := 0,
    trips := [], tripAt := 0, headroom := false, headAt := none, owField := false, owPath := false, owFailed := false, cls := 0, cand := 0,
    candAt := 0, special := true, i := 0, raw := 0, v := 0, evMis := 0, evFold := 0, evHead := 0, evOw := 0, out := none, prev := none,
    centred := none, churn := churnReset, trim := trimReset, ow := owReset, hart := hartReset }

/-- VLB stands at its nominal 24 V (Table 2.9), LD's substrate at 25 °C. -/
def ldReset : LdSt :=
  { vlbLow := false, vlb := 24000, temp := 400, owLoop := 0, owDelta := 0, cvState := 0, cvLoop := 0, cvOuts := 0, cvY1 := 0, cvY2 := 0,
    cvY3 := 0, hdir := [], hdirDirty := false, pend := [] }

def rxqReset : RxqSt := { frames := [], count := 0, ovf := 0, logged := false, lock := none }

def canReset : CanSt :=
  { state := 0, tdcv := 0, txErr := 0, rxErr := 0, lec := 0, fifo := [], tail := none, onWs := false, repl := 0, sent := 0, dFull := 0,
    dMode := 0, dBus := 0, dLife := 0, rxOk := 0, pexc := 0, remote := 0, buildFail := none, tab := [], pos := [], cnt := [],
    rxq := Vector.replicate 2 rxqReset }

/-- Fields whose reset value is CS read zero until the end of boot phase 6, but for those with a value of their own: PCFG_p (DUMMY 7, TMO 100), MPCFG_s and MPOPC_s (R450). -/
def regsReset : RegMap :=
  [(regKey 17 0, 0x6407), (regKey 17 1, 0x6407), (regKey 17 2, 0x6407), (regKey 21 2, 0x1F140021), (regKey 21 3, 0x1F140020),
   (regKey 21 4, 0x00A07A75), (regKey 21 5, 0x00A07A75)]

/-- The device held in power-on reset, before POR_RELEASE: no rail of the isolated dies on, the store as nothing has written it, the queue empty. -/
def State.reset : State :=
  { pending := []
    freeCtr := 0
    time := 0
    mono := 0
    regs := regsReset
    shadow := []
    vddio := 31
    tap := { ins := .bypass, cells := [], seen := [] }
    irqStat := Vector.replicate 2 0
    boot := bootReset
    attest := attestReset
    jrn := jrnReset
    md := modeReset
    pwr := pwrReset
    tm := tmReset
    ws := wsReset
    cyc := cycReset
    lane := Vector.replicate 3 laneReset
    port := Vector.replicate 3 portReset
    peer := peerReset
    store := []
    mp := mpReset
    pl := plReset
    own := ownReset
    app := applyReset
    wd := Vector.replicate 4 wdReset
    led := ledReset
    mnt := mntReset
    snap := snapReset
    mbox := { seq := 0 }
    hub := { pend := [], man := manReset }
    nomaj := Vector.replicate 5 0
    die := Vector.replicate 5 dieReset
    field := Vector.replicate 4 fieldReset
    gov := govReset
    survey := Vector.replicate 5 surveyReset
    loop := Vector.replicate 16 loopReset0
    ld := ldReset
    can := Vector.replicate 2 canReset
    rxStage := []
    permits := 0
    coreDown := false }

end Sys2Proof.Machine
end

