-- ==== Sys2Proof/Machine/Ops.lean ====
section
/-!
DEFINITION. Named operations over the state that every family uses: time, configuration fields, interrupts, free values, the ledger (R414 to R421) and the maintenance arbiter (R422 to R424).
-/

namespace Sys2Proof.Machine

/-! ## Outcomes -/

/-- A command whose effect is `t`. -/
abbrev Out := Host.Outcome State Fault Refusal

/-! ## Vectors by number -/

/-- The entry of a vector at a number; out of range, the state before is kept by `vset`. -/
def vget {α : Type} {n : Nat} (v : Vector α n) (i : Nat) (d : α) : α := if h : i < n then v[i] else d

def vset {α : Type} {n : Nat} (v : Vector α n) (i : Nat) (x : α) : Vector α n := if h : i < n then v.set i x else v

/-- The entry `i` changed by `f`. -/
def vmod {α : Type} {n : Nat} (v : Vector α n) (i : Fin n) (f : α → α) : Vector α n := v.set i (f v[i])

/-! ## Time (R184, R187, R189) -/

/-- The clocks of the time master: device time, counted ticks, and the discipline that steers it. -/
structure Clock where
  time : Nat
  mono : Nat
  tm : TmSt
deriving DecidableEq, Repr

def clockOf (s : State) : Clock := { time := s.time, mono := s.mono, tm := s.tm }

/-- Four units of 10^-9 ns: one single-tick correction of the rate (R187). -/
def rateStep : Int := 4000000000

/-- A single tick may be corrected: none in any 16 µs after another (R187). -/
def canCorrect (c : Clock) : Bool := decide (c.tm.lastCorr + 16000 ≤ c.mono)

/-- A tick of TCLK: the time base advances 4 ns, or 0 or 8 ns when a correction falls on it. The phase correction takes one tick in 40 µs; the rate correction accrues TRATE and takes a tick when it has reached 4 ns (R184, R187). -/
def tickClock (c : Clock) : Clock :=
  let acc := c.tm.rateAcc + c.tm.trate * 4
  let c1 := { c with mono := c.mono + 4, tm := { c.tm with rateAcc := acc } }
  let phaseDue := canCorrect c && decide (c.tm.lastPhase + 40000 ≤ c.mono)
  if phaseDue ∧ 4 ≤ c.tm.residual then
    { c1 with tm := { c1.tm with residual := c.tm.residual - 4, lastPhase := c.mono, lastCorr := c.mono } }
  else if phaseDue ∧ c.tm.residual ≤ -4 then
    { c1 with
      time := (c.time + 8) % 2 ^ 64
      tm := { c1.tm with residual := c.tm.residual + 4, lastPhase := c.mono, lastCorr := c.mono } }
  else if canCorrect c ∧ rateStep ≤ acc then
    { c1 with
      time := (c.time + 8) % 2 ^ 64
      tm := { c1.tm with rateAcc := acc - rateStep, lastRate := c.mono, lastCorr := c.mono } }
  else if canCorrect c ∧ acc ≤ -rateStep then
    { c1 with tm := { c1.tm with rateAcc := acc + rateStep, lastRate := c.mono, lastCorr := c.mono } }
  else { c1 with time := (c.time + 4) % 2 ^ 64 }

/-- Whole ticks that cover `n` ns. -/
def ticksFor (n : Nat) : Nat := (n + 3) / 4

/-- `n` ticks none of which carries a correction. -/
def plainTicks (c : Clock) (n : Nat) : Clock :=
  { time := (c.time + 4 * n) % 2 ^ 64, mono := c.mono + 4 * n, tm := { c.tm with rateAcc := c.tm.rateAcc + c.tm.trate * 4 * n } }

/-- Ticks before the one that carries the next phase correction. -/
def phaseWait (c : Clock) : Option Nat :=
  if 4 ≤ c.tm.residual.natAbs then some (ticksFor (max (c.tm.lastCorr + 16000) (c.tm.lastPhase + 40000) - c.mono)) else none

/-- Ticks before the one that carries the next rate correction. -/
def rateWait (c : Clock) : Option Nat :=
  let k := ticksFor (c.tm.lastCorr + 16000 - c.mono)
  let per := 4 * c.tm.trate
  if rateStep ≤ (c.tm.rateAcc + per * (k + 1)).natAbs then some k
  else if 0 < per then some (((rateStep - c.tm.rateAcc + per - 1) / per).toNat - 1)
  else if per < 0 then some (((rateStep + c.tm.rateAcc - per - 1) / (-per)).toNat - 1)
  else none

/-- Ticks before the one that carries the next correction (R187); none while none is due. -/
def corrWait (c : Clock) : Option Nat :=
  match phaseWait c, rateWait c with
  | some a, some b => some (min a b)
  | some a, none => some a
  | none, r => r

/-- `n` ticks pass: stretches of plain ticks between ticks that carry a correction. `fuel` bounds the corrections, of which 16 µs lie between two (R187). -/
def passTicks : Nat → Clock → Nat → Clock
  | 0, c, n => plainTicks c n
  | fuel + 1, c, n =>
    match corrWait c with
    | none => plainTicks c n
    | some k => if n ≤ k then plainTicks c n else passTicks fuel (tickClock (plainTicks c k)) (n - k - 1)

/-- Ticks pass until device time reaches `t`. -/
def passTo : Nat → Clock → Nat → Clock
  | 0, c, t => plainTicks c (ticksFor (t - c.time))
  | fuel + 1, c, t =>
    match corrWait c with
    | none => plainTicks c (ticksFor (t - c.time))
    | some k =>
      if ticksFor (t - c.time) ≤ k then plainTicks c (ticksFor (t - c.time)) else passTo fuel (tickClock (plainTicks c k)) t

/-- TSYNC_OUT falls WIDTH_US after its rise (R194). -/
def tsyncFall (c : Clock) : Clock :=
  if c.tm.tsyncOut ∧ c.tm.tsyncOutEnd ≤ c.mono then { c with tm := { c.tm with tsyncOut := false } } else c

/-- The state at another instant: nothing but the clocks moves. -/
def withClock (s : State) (c : Clock) : State := { s with time := c.time, mono := c.mono, tm := c.tm }

/-- The greatest instant that time can be brought to; past it the count of 64 bits wraps (R184). -/
def lastInstant : Nat := 2 ^ 64 - 8

/-- Time runs on, tick by tick, to the first value of device time that is not earlier than `t`, when `t` still lies ahead; durations count the same ticks (R184, R187, R189). -/
def timeTo (s : State) (t : Nat) : State :=
  if s.time < t ∧ t ≤ lastInstant then withClock s (tsyncFall (passTo ((t - s.time) / 8000 + 2) (clockOf s) t)) else s

/-- Time runs on until the tick count reaches `m`. -/
def monoTo (s : State) (m : Nat) : State :=
  if s.mono < m then
    withClock s (tsyncFall (passTicks ((m - s.mono) / 8000 + 2) (clockOf s) (ticksFor (m - s.mono))))
  else s

/-- A stamp of device time: a multiple of 4 ns (R26, R184). -/
def stampOf (t : Nat) : Nat := t % 2 ^ 64 / 4 * 4

/-- The next free value (log entry 4). -/
def freeNat (s : State) : Nat := Config.freeValue s.freeCtr

def useFree (s : State) : State := { s with freeCtr := s.freeCtr + 1 }

/-! ## Configuration fields -/

/-- The active word of a register (R6). -/
def cfgWord (s : State) (page off : Nat) : Word := rmGet s.regs (regKey page off)

/-- A field of it. -/
def cfgField (s : State) (page off lo n : Nat) : Nat := fieldOf (cfgWord s page off) lo n

def cfgBit (s : State) (page off i : Nat) : Bool := bitOf (cfgWord s page off) i

/-- A register word set. -/
def putReg (s : State) (page off : Nat) (w : Word) : State := { s with regs := rmSet s.regs (regKey page off) w }

/-- CYCCFG.PERIOD, µs (R111). -/
def cfgPeriod (s : State) : Nat := cfgField s 4 0 0 20

/-- BUDGET.RECMAX and BUDGET.MANMAX (R118). -/
def recMax (s : State) : Nat := cfgField s 4 1 0 5
def manMax (s : State) : Nat := cfgField s 4 1 8 7

/-- GRIDORG (R191). -/
def gridOrg (s : State) : Nat := (cfgWord s 3 0x0A).toNat * 2 ^ 32 + (cfgWord s 3 9).toNat

/-- The guard of Table 5.3 for `k` items, rounded up to a multiple of 4 ns (R117). -/
def guardFor (k : Nat) : Nat := ((if k ≤ 63 then 2946 + 1280 * k else 5186 + 1280 * k) + 3) / 4 * 4

/-- DELIV, ns (R114). -/
def deliv : Nat := 7360

def guardRun (s : State) : Nat := guardFor (recMax s + manMax s)
def guardPrime (s : State) : Nat := guardFor (16 + manMax s)

/-- The guard of the current mode (R117). -/
def guardNow (s : State) : Nat := if s.md.mode = .prime then guardPrime s else guardRun s

/-- Vote close of the running cycle (R112). -/
def voteCloseAt (s : State) : Nat := s.cyc.nextT0 - guardNow s

/-! ## Modes -/

/-- Codes of Table 4.1. -/
def modeCode : Mode → Nat
  | .boot => 0
  | .quiet => 1
  | .hold => 2
  | .prime => 3
  | .run => 4
  | .degraded => 5
  | .limp => 6
  | .safe => 7

/-- The modes in which lanes run (Table 4.1). -/
def lanesRun (m : Mode) : Bool := m = .prime || m = .run || m = .degraded || m = .limp

/-- A commit acts when the mode that results is RUN or DEGRADED (R101). -/
def actsIn (m : Mode) : Bool := m = .run || m = .degraded

/-- LK fields are writable in QUIET, HOLD and SAFE (R96). -/
def lkWritable (m : Mode) : Bool := m = .quiet || m = .hold || m = .safe

/-- FAULT_N is low in reset and in BOOT, SAFE and LIMP (R49). -/
def faultNLow (s : State) : Bool := s.boot.inReset || s.md.mode = .boot || s.md.mode = .safe || s.md.mode = .limp

/-! ## Interrupts (R404, Table 14.6) -/

/-- An event of Table 14.6 other than QUOTE sets its bit in both status registers. -/
def irq (s : State) (b : Nat) : State :=
  { s with irqStat := s.irqStat.map fun w => w ||| BitVec.ofNat 13 (2 ^ b) }

/-- The QUOTE event sets bit 6 for its own port only. -/
def irqQuote (s : State) (p : Port) : State :=
  { s with irqStat := vset s.irqStat p.val (vget s.irqStat p.val 0 ||| BitVec.ofNat 13 (2 ^ 6)) }

/-- INTp_N is driven low (p = 0 or 1). -/
def intLow (s : State) (p : Nat) : Bool :=
  (vget s.irqStat p 0 &&& (cfgWord s 0 (0x32 + p)).setWidth 13) != 0

/-! ## The ledger (R414 to R421) -/

/-- SRC of a record: unit in [15:12], instance in [11:0] (Table 15.3). -/
def ledSrc (unit inst : Nat) : Nat := unit * 4096 + inst % 4096

/-- Record numbers and generations take the next number, skipping 0 (R74, R87, R421). -/
def nextNum (n : Nat) : Nat := if (n + 1) % 2 ^ 32 = 0 then 1 else (n + 1) % 2 ^ 32

/-- Serial comparison of R87: generation `a` is newer than `b`. -/
def newerGen (a b : Nat) : Bool :=
  let d := (a + 2 ^ 32 - b % 2 ^ 32) % 2 ^ 32
  decide (1 ≤ d) && decide (d ≤ 2 ^ 31 - 1)

/-- The 28 bytes of a record before its CRC, and the whole record (Table 15.3). -/
def ledBody (r : LedRec) : List Byte :=
  natBe 2 0x4C47 ++ natBe 1 r.type ++ natBe 1 r.supp ++ natBe 4 r.seq ++ natBe 8 r.time ++ natBe 4 r.cycle ++
    natBe 2 r.code ++ natBe 2 r.src ++ natBe 4 r.arg

def ledBytes (r : LedRec) : List Byte := ledBody r ++ beBytes (crc32c (ledBody r))

/-- The low 32 bits of the cycle number, 0 while no cycle runs (Table 15.3). -/
def ledCycle (s : State) : Nat := if s.cyc.running then s.cyc.n % 2 ^ 32 else 0

/-- A count by key: the value at `k` raised by one, saturating at `m`. -/
def bumpAt (m : Nat) (l : List (Nat × Nat)) (k : Nat) : List (Nat × Nat) := amSet 0 l k (satAdd m (amGet 0 l k) 1)

/-- A numbered record enters the ring and waits for the journal (R419, R420). A record that leaves the ring unwritten is lost. -/
def ledPush (l : LedSt) (r : LedRec) : LedSt :=
  let n := nextNum l.seq
  let r' := { r with seq := n }
  let pend := if l.jen then l.pend ++ [r'] else l.pend
  { l with
    seq := n
    ring := (r' :: l.ring).take 256
    pend := if pend.length > 256 then pend.drop 1 else pend
    jlost := if pend.length > 256 then satAdd 255 l.jlost 1 else l.jlost }

/-- A record is made: numbered at once after JREADY, queued before it; a full queue loses it (R421). -/
def ledRecord (l : LedSt) (r : LedRec) : LedSt :=
  if l.jready then ledPush l r
  else if l.queue.length < 256 then { l with queue := l.queue ++ [r] }
  else { l with jlost := satAdd 255 l.jlost 1 }

/-- Whether an event of this CODE and SRC makes a record (R418), with the occurrences suppressed before it and the new suppression state. -/
def ledSuppress (now window code src : Nat) : List SuppSt → (Bool × Nat) × List SuppSt
  | [] => ((true, 0), [{ code := code, src := src, at_ := now, count := 0 }])
  | e :: r =>
    if e.code = code ∧ e.src = src then
      if window ≠ 0 ∧ now < e.at_ + window then
        ((false, 0), { e with count := satAdd 255 e.count 1 } :: r)
      else ((true, e.count), { e with at_ := now, count := 0 } :: r)
    else
      let q := ledSuppress now window code src r
      (q.1, e :: q.2)

/-- A ledger event with the stamp `t` of cycle `n` (R414). -/
def ledgerOf (s : State) (t n code src arg : Nat) : State :=
  let l := s.led
  let q := ledSuppress s.mono (cfgField s 2 7 0 8 * 100000000) code src l.supp
  let l1 := { l with
    bits := vset l.bits (code / 32) (vget l.bits (code / 32) 0 ||| place (code % 32) 1)
    cnt := bumpAt 65535 l.cnt code
    supp := q.2 }
  if q.1.1 then
    let r : LedRec := { type := 1, supp := q.1.2, seq := 0, time := t, cycle := n, code := code, src := src,
                        arg := arg % 2 ^ 32 }
    irq { s with led := ledRecord l1 r } 2
  else { s with led := l1 }

/-- A ledger event with the stamp `t` in the present cycle. -/
def ledgerAt (s : State) (t code src arg : Nat) : State := ledgerOf s t (ledCycle s) code src arg

/-- A ledger event of the control die, now. -/
def ledger (s : State) (code unit inst arg : Nat) : State := ledgerAt s s.time code (ledSrc unit inst) arg

/-- The three uplinks of a die are down (R414). -/
def uplinksDown (s : State) (d : Die) : Bool := (s.die[d].up.toList.all fun l => !l.up)

/-- An event of an isolated die: sent on its uplinks, or kept (32 at most) while all three are down (R414). -/
def dieLedger (s : State) (d : Die) (code inst arg : Nat) : State :=
  if uplinksDown s d then
    let k := s.die[d]
    if k.kept.length < 32 then
      let r : LedRec := { type := 1, supp := 0, seq := 0, time := s.time, cycle := ledCycle s, code := code,
                          src := ledSrc (d.val + 1) inst, arg := arg % 2 ^ 32 }
      { s with die := s.die.set d { k with kept := k.kept ++ [r] } }
    else { s with led := { s.led with jlost := satAdd 255 s.led.jlost 1 } }
  else ledgerAt s s.time code (ledSrc (d.val + 1) inst) arg

/-- The events that a die kept are sent when an uplink returns, in stamp order, each with its own time and cycle. -/
def sendKept (s : State) (d : Die) : State :=
  let k := s.die[d]
  k.kept.foldl (fun t r => ledgerOf t r.time r.cycle r.code r.src r.arg) { s with die := s.die.set d { k with kept := [] } }

/-! ## The maintenance arbiter (R422 to R424) -/

/-- Two store ranges [lo, hi) meet. -/
def rangesMeet (lo hi lo' hi' : Nat) : Bool := decide (lo < hi') && decide (lo' < hi) && decide (lo < hi) && decide (lo' < hi')

/-- Instance limits of Table 15.5. -/
def mntLimit : Nat → Nat
  | 6 | 7 => 16
  | 9 => 5
  | 10 | 11 => 4
  | _ => 1

/-- Two activities of one kind name a common resource. -/
def mntShares (a b : ActSt) : Bool :=
  if a.kind = 3 ∨ a.kind = 4 ∨ a.kind = 5 then rangesMeet a.lo a.hi b.lo b.hi || (a.dir && b.dir)
  else decide (a.index = b.index)

/-- Table 15.6, one direction. -/
def mntPair (a b : ActSt) : Bool :=
  match a.kind, b.kind with
  | 1, 2 => true
  | 3, 4 => true
  | 3, 5 => rangesMeet b.lo b.hi a.lo a.hi || (a.dir && rangesMeet b.lo b.hi 0 0x2000)
  | 5, 4 => rangesMeet a.lo a.hi 0 0x2000
  | 6, 7 => decide (a.index = b.index)
  | 6, 8 | 7, 8 => decide (a.index = b.index)
  | 6, 9 => decide (b.index = 4)
  | 10, 11 => decide (a.index = b.index)
  | 9, 10 | 9, 11 => decide (a.index = b.index)
  | _, _ => false

def mntConflicts (a b : ActSt) : Bool := mntPair a b || mntPair b a

/-- The running activities with their slots. -/
def mntRunning (s : State) : List (Nat × ActSt) :=
  (s.mnt.slot.toList.zipIdx.filterMap fun e => e.1.map fun a => (e.2, a))

/-- A refusal: status code, kind of the blocker, its slot. -/
structure MntRef where
  code : Nat
  blocker : Nat
  slot : Nat
deriving DecidableEq, Repr

/-- The arbiter's decision on a request (R423): none grants it. -/
def mntDecide (s : State) (a : ActSt) : Option MntRef :=
  let run := mntRunning s
  let same := run.filter fun e => decide (e.2.kind = a.kind)
  match same.find? (fun e => decide (mntLimit a.kind ≤ same.length) || mntShares e.2 a) with
  | some e => some { code := 0x0C, blocker := e.2.kind, slot := e.1 }
  | none =>
    match run.find? (fun e => mntConflicts e.2 a) with
    | some e => some { code := 0x0D, blocker := e.2.kind, slot := e.1 }
    | none => if run.length < 32 then none else some { code := 0x0C, blocker := 0, slot := 0 }

/-- MNTREF records a refusal. -/
def mntRefuse (s : State) (kind : Nat) (r : MntRef) : State :=
  { s with mnt := { s.mnt with refKind := kind, refBlocker := r.blocker, refSlot := r.slot, refCode := r.code,
                               refCount := satAdd 255 s.mnt.refCount 1 } }

/-- The first empty slot takes the activity. -/
def mntStart (s : State) (a : ActSt) : State :=
  match s.mnt.slot.toList.findIdx? (fun e => e.isNone) with
  | some j => { s with mnt := { s.mnt with slot := vset s.mnt.slot j (some a) } }
  | none => s

/-- The running test of a kind on a unit goes on (R425). -/
def updTest (s : State) (kind unit : Nat) (f : ActSt → ActSt) : State :=
  { s with mnt := { s.mnt with slot := s.mnt.slot.map fun e => e.map fun a => if a.kind = kind ∧ a.index = unit then f a else a } }

/-- End states of MAINT_END, coded as MNTRES.STATE (log entry 10). -/
def endPass : Nat := 2
def endFail : Nat := 3
def endAborted : Nat := 4

/-- The activity in slot `j` ends: its claims are released, MAINT_END is recorded and IRQ source MAINT set (R424). -/
def mntEnd (s : State) (j : Nat) (endState : Nat) : State :=
  match vget s.mnt.slot j none with
  | none => s
  | some a =>
    let s1 := { s with mnt := { s.mnt with slot := vset s.mnt.slot j none } }
    irq (ledger s1 22 0 0 (a.kind + endState * 16 + a.index * 256)) 9

/-- The slot of the running activity of a kind on an index. -/
def mntFind (s : State) (kind index : Nat) : Option Nat :=
  ((mntRunning s).find? fun e => decide (e.2.kind = kind) && decide (e.2.index = index)).map fun e => e.1

/-- The activity of a kind on an index ends, when one runs. -/
def mntEndOf (s : State) (kind index endState : Nat) : State :=
  match mntFind s kind index with
  | some j => mntEnd s j endState
  | none => s

/-! ## Lanes in the vote -/

def memberOf (s : State) (l : Lane) : Bool := s.cyc.member.getLsbD l.val

def memberCount (m : BitVec 3) : Nat := (if m.getLsbD 0 then 1 else 0) + (if m.getLsbD 1 then 1 else 0) + (if m.getLsbD 2 then 1 else 0)

def bit3 (l : Lane) : BitVec 3 := BitVec.ofNat 3 (2 ^ l.val)
def bit5 (d : Die) : BitVec 5 := BitVec.ofNat 5 (2 ^ d.val)

/-- The three lanes, the five dies, the four field dies, sixteen channels, in order. -/
def lanes3 : List Lane := [0, 1, 2]
def dies5 : List Die := [0, 1, 2, 3, 4]
def fdies4 : List FDie := [0, 1, 2, 3]
def chans16 : List Chan := [0, 1, 2, 3, 4, 5, 6, 7, 8, 9, 10, 11, 12, 13, 14, 15]

/-- A field die as a die. -/
def toDie (d : FDie) : Die := ⟨d.val, by omega⟩

/-- A lane changed in place. -/
def updLane (s : State) (l : Lane) (f : LaneSt → LaneSt) : State := { s with lane := vmod s.lane l f }

/-- A die changed in place. -/
def updDie (s : State) (d : Die) (f : DieSt → DieSt) : State := { s with die := vmod s.die d f }

/-- A port changed in place. -/
def updPort (s : State) (p : Port) (f : PortSt → PortSt) : State := { s with port := vmod s.port p f }

/-- The device learns an exclusion cause of a member lane; the first cause learned stands (R135). -/
def learnCause (s : State) (l : Lane) (c : Nat) : State :=
  if memberOf s l ∧ s.lane[l].pendCause = 0 then updLane s l fun x => { x with pendCause := c } else s

/-- The die is powered: PWRCTL.BPWR shows the barrier power held (R22). -/
def powered (s : State) (d : Die) : Bool := s.pwr.bpwr.getLsbD d.val

/-- The die is powered and ready: its links are supervised (R107). -/
def ready (s : State) (d : Die) : Bool := powered s d && s.die[d].ready

end Sys2Proof.Machine
end

