-- ==== Sys2Proof/Machine/Time.lean ====
section
/-!
DEFINITION. The time base and its discipline (R184 to R197): ticks and corrections, steps, the cycle grid, TSYNC_IN, TSYNC_OUT, references and waystations.
-/

namespace Sys2Proof.Machine

/-- The first grid instant not earlier than `t`, for origin `org` and period `p` ns (R191). -/
def gridNext (org p t : Nat) : Nat :=
  if p = 0 then t
  else ((org : Int) + (((t : Int) - org + p - 1) / p) * p).toNat

/-- The first grid instant after `t`. -/
def gridAfter (org p t : Nat) : Nat := gridNext org p (t + 1)

/-- SYNC changes with IRQ source TIME (Table 14.6). -/
def setSync (s : State) (y : SyncSt) : State :=
  if s.tm.sync = y then s else irq { s with tm := { s.tm with sync := y, good := 0 } } 11

/-- Steps are allowed in BOOT, QUIET, HOLD and SAFE (R188). -/
def stepAllowed (m : Mode) : Bool := m = .boot || m = .quiet || m = .hold || m = .safe

/-- The time base steps to `t` (R188): TIME_STEP with the size, the dies follow, and the next commit is the first grid instant at least 100 µs later. -/
def timeStep (s : State) (t : Nat) : State :=
  let t4 : Nat := t % 2 ^ 64 / 4 * 4
  let size : Int := (t4 : Int) - s.time
  let s1 := { s with
    time := t4
    tm := { s.tm with residual := 0, far := false, haveLast := false } }
  let s2 := if s1.cyc.running then
      { s1 with cyc := { s1.cyc with nextT0 := gridNext (gridOrg s1) (s1.cyc.period * 1000) (t4 + 100000) } }
    else s1
  ledger s2 6 0 0 (codeOf 32 (satInt 32 size))

/-- An accepted measurement (R187, R188, R192, R195): `off` is the own instant `own` minus the reference instant; `lim` is the lock limit. -/
def accept (s : State) (off : Int) (own ref lim : Nat) : State :=
  let thr := cfgField s 3 8 16 16 * 1000
  let big := decide (thr ≠ 0) && decide ((thr : Int) < off.natAbs)
  let rate : Int :=
    if s.tm.haveLast ∧ own ≠ s.tm.lastOwn then
      max (-150000) (min 150000 ((((ref : Int) - s.tm.lastRef) - ((own : Int) - s.tm.lastOwn)) * 1000000000 / ((own : Int) - s.tm.lastOwn)))
    else s.tm.trate
  let good := if off.natAbs ≤ lim then s.tm.good + 1 else 0
  let s1 := { s with
    tm := { s.tm with
      toffset := satInt 32 off, residual := off, trate := rate, lastOwn := own, lastRef := ref, haveLast := true,
      far := big && !stepAllowed s.md.mode } }
  let s2 := if s.tm.sync = .holdover ∨ s.tm.sync = .free then setSync s1 .acquiring else s1
  let s3 := { s2 with tm := { s2.tm with good := good } }
  let s4 := if s3.tm.sync = .acquiring ∧ 4 ≤ good then setSync s3 .locked else s3
  if big ∧ cfgBit s 3 8 3 ∧ stepAllowed s.md.mode then timeStep s4 ((s4.time : Int) - off).toNat else s4

/-- TIMECFG.SRC. -/
def timeSrc (s : State) : Nat := cfgField s 3 8 0 2

/-- The expected TSYNC_IN instant nearest to `t` (R192). -/
def expectedEdge (s : State) (t : Nat) : Int :=
  let per := cfgField s 3 0x0B 0 12 * 1000000
  let ph := (cfgWord s 3 0x0C).toNat
  if per = 0 then ph else (ph : Int) + (((t : Int) - ph + per / 2) / per) * per

/-- The period of TSYNC_IN, ns, and half the window in which an edge is accepted (Table 7.2): PERIOD/4 while acquiring, 10 µs while locked. -/
def tsyncPeriod (s : State) : Nat := cfgField s 3 0x0B 0 12 * 1000000
def tsyncWin (s : State) : Nat := if s.tm.sync = .locked then 10000 else tsyncPeriod s / 4

/-- Discipline starts afresh with the source SRC: FREE with 0, else ACQUIRING, with no measurement yet and losses counted from now (R192). -/
def syncRestart (s : State) : State :=
  let s1 := { s with tm := { s.tm with good := 0, haveLast := false, far := false, missFrom := s.time }, ws := { s.ws with since := s.mono } }
  setSync s1 (if timeSrc s = 0 then .free else .acquiring)

/-- A TSYNC_IN edge at device time `t`, interpolated between ticks (crossing 7): only the first accepted edge of a window counts. -/
def execTsyncInEdge (t : Nat) (s : State) : Out :=
  .next (
    if timeSrc s ≠ 1 then s
    else
      let s1 := timeTo s t
      let e := expectedEdge s t
      let off : Int := (t : Int) - e
      if off.natAbs ≤ tsyncWin s then
        if s.tm.haveLast ∧ (s.tm.lastExp : Int) = e then s1
        else accept { s1 with tm := { s1.tm with tsOk := (s1.tm.tsOk + 1) % 65536, lastExp := e.toNat, missFrom := e.toNat } } off t e.toNat 40
      else { s1 with tm := { s1.tm with tsRej := satAdd 255 s1.tm.tsRej 1 } })

/-- The end of the window of the MISSMAX-th expected edge after the last accepted one (Table 7.2). -/
def tsyncLostAt (s : State) : Nat :=
  let per := tsyncPeriod s
  gridNext ((cfgWord s 3 0x0C).toNat) per (s.tm.missFrom + 1) + (cfgField s 3 0x0B 16 8 - 1) * per + tsyncWin s

/-- TSYNC_LOST: MISSMAX consecutive expected edges have passed without an accepted one; HOLDOVER, the LOST count and the ledger event (R192). -/
def execTsyncLost (s : State) : Out :=
  .next (
    if timeSrc s = 1 ∧ (s.tm.sync = .acquiring ∨ s.tm.sync = .locked) then
      let s1 := timeTo s (tsyncLostAt s)
      ledger (setSync { s1 with tm := { s1.tm with tsLost := satAdd 255 s1.tm.tsLost 1 } } .holdover) 8 0 0 0
    else s)

/-! ## Waystation configuration (R195, R196) -/

def wsRole (s : State) : Nat := cfgField s 3 0x10 0 2
def wsDomain (s : State) : Nat := cfgField s 3 0x10 4 8
def wsLostMax (s : State) : Nat := cfgField s 3 0x10 12 4
def wsPeriod (s : State) : Nat := cfgField s 3 0x10 16 16 * 1000000

/-- LOSTMAX periods, counted in ticks (R189). -/
def wsLostSpan (s : State) : Nat := wsLostMax s * wsPeriod s

/-- WS_LOST: LOSTMAX periods have passed without a complete pair (R192). -/
def execWsLost (s : State) : Out :=
  .next (
    if timeSrc s = 2 ∧ (s.tm.sync = .acquiring ∨ s.tm.sync = .locked) then
      let s1 := monoTo s (s.ws.since + wsLostSpan s)
      ledger (setSync { s1 with tm := { s1.tm with wsLost := satAdd 255 s1.tm.wsLost 1 } } .holdover) 9 0 0 0
    else s)

/-- TSYNC_OUT rises at a multiple of PERIOD_MS ms (MODE 0) or at the commit (MODE 1), and stays high for WIDTH_US; the edge lies within 8 ns of the instant (R194). -/
def execTsyncOutPulse (s : State) : Out :=
  .next (
    if cfgBit s 3 0x0D 0 ∧ (!cfgBit s 3 0x0D 1 ∨ (s.cyc.running ∧ s.time < s.cyc.t0 + 8)) then
      let per := cfgField s 3 0x0D 4 12 * 1000000
      let s1 := if cfgBit s 3 0x0D 1 then s else timeTo s (gridNext 0 per s.time)
      { s1 with tm := { s1.tm with tsyncOut := true, tsyncOutEnd := s1.mono + cfgField s 3 0x0D 16 16 * 1000 } }
    else s)

/-- The advance of a reference switch: 0 to 8 ns beyond the normal tick (R188). -/
def refAdvance (adv : Nat) : Nat := min adv 8 / 4 * 4

/-- With REVERT 1 and 1 s of REF_P within limits, the time master returns to REF_P (R186). -/
def execRefPRevert (adv : Nat) (s : State) : Out :=
  .next (
    if s.tm.ref ∧ s.tm.refpOk ∧ cfgBit s 3 8 2 then
      let s1 := monoTo s (s.tm.refpSince + 1000000000)
      ledger { s1 with time := (s1.time + refAdvance adv) % 2 ^ 64, tm := { s1.tm with ref := false } } 5 0 0 1
    else s)

/-- TSYNC_OUT is driven low while EN is 0 (R194). -/
def tsyncOff (s : State) : State := if cfgBit s 3 0x0D 0 then s else { s with tm := { s.tm with tsyncOut := false } }

/-! ## Waystation frames (Table 7.3) -/

/-- The controller, the identifier and its format that WSCFG and WSID name. -/
def wsCtrl (s : State) : Ctrl := if cfgBit s 3 0x10 2 then 1 else 0
def wsIde (s : State) : Bool := cfgBit s 3 0x10 3
def wsId (s : State) : Nat := cfgField s 3 0x11 0 29

/-- A classical frame with the data `d` and the identifier `id`. -/
def wsFrame (s : State) (id : Nat) (d : List Byte) : TxFrame :=
  { ide := wsIde s, fdf := false, brs := false, id := id, data := d, age := 0 }

/-- SYNC: the sequence number and DOMAIN. -/
def wsSyncFrame (s : State) (seq : Byte) : TxFrame := wsFrame s (wsId s) [seq, BitVec.ofNat 8 (wsDomain s)]

/-- FOLLOW: the source's stamp of its own SYNC, most significant byte first. -/
def wsFollowFrame (s : State) (stamp : Nat) : TxFrame := wsFrame s (wsId s + 1) (natBe 8 stamp)

/-- The waystation frame that is ready on controller `c` of a source: SYNC before FOLLOW (R196). -/
def wsReadyFrame (s : State) (c : Ctrl) : Option TxFrame :=
  if wsRole s = 2 ∧ wsCtrl s = c then
    match s.ws.syncReady, s.ws.followReady with
    | some (q, _), _ => some (wsSyncFrame s q)
    | none, some t => some (wsFollowFrame s t)
    | none, none => none
  else none

/-- What the time master makes of a received frame with WSID or WSID + 1: a SYNC of its domain, a FOLLOW, or neither. -/
def wsParse (s : State) (f : CanFrame) (stamp : Nat) : Option WsFrame :=
  if f.fdf ∨ f.rtr then none
  else if f.id.toNat = wsId s ∧ f.dlc = 2 ∧ (f.data.getD 1 0).toNat = wsDomain s then some (.sync (f.data.getD 0 0) stamp s.mono)
  else if f.id.toNat = wsId s + 1 ∧ f.dlc = 8 then some (.follow (beNat (f.data.take 8)) s.mono)
  else none

/-- The controller named in WSCFG passes a frame with WSID or WSID + 1 and the configured IDE to the time master, whatever its filters hold (R197). -/
def wsPass (s : State) (c : Ctrl) (f : CanFrame) : State :=
  if wsRole s ≠ 0 ∧ wsCtrl s = c ∧ f.ide = wsIde s ∧ (f.id.toNat = wsId s ∨ f.id.toNat = wsId s + 1) then
    match wsParse s f s.time with
    | some w => { s with ws := { s.ws with given := s.ws.given ++ [w] } }
    | none => s
  else s

/-! ## Waystation events (R195, R196) -/

/-- WS_SYNC_RX: the time master takes the SYNC that was passed to it first, which is the one that the operands describe. Of its domain, a receiver keeps it for pairing, and remembers when it is a second one; a source records WS_CONFLICT (R195, R196). -/
def execWsSyncRx (domain seq : Byte) (t : Nat) (s : State) : Out :=
  .next (
    match s.ws.given with
    | .sync q stamp at_ :: rest =>
      let s1 := { s with ws := { s.ws with given := rest } }
      if seq ≠ q ∨ t ≠ stamp then s
      else if domain.toNat ≠ wsDomain s then s1
      else if wsRole s = 1 then { s1 with ws := { s1.ws with sync := some { seq := seq, stamp := stamp, at_ := at_, twice := s.ws.sync.isSome } } }
      else if wsRole s = 2 then ledger s1 10 0 0 seq.toNat
      else s1
    | _ => s)

/-- The sequence number of a SYNC is one more than that of the last accepted pair, unless LOSTMAX periods have passed since that pair. -/
def wsSeqOk (s : State) (seq : Byte) : Bool :=
  match s.ws.lastSeq with
  | none => true
  | some (q, m) => decide (seq = q + 1) || decide (m + wsLostSpan s ≤ s.mono)

/-- WS_FOLLOW_RX: the time master takes the FOLLOW that was passed to it first, with the source's stamp `ts`, and a receiver pairs it with the last SYNC or rejects the pair (R195). -/
def execWsFollowRx (ts t : Nat) (s : State) : Out :=
  .next (
    match s.ws.given with
    | .follow sent at_ :: rest =>
      let s0 := { s with ws := { s.ws with given := rest } }
      if ts ≠ sent ∨ t ≠ at_ then s
      else (match (if wsRole s = 1 then s.ws.sync else none) with
      | none => s0
      | some y =>
        let s1 := { s0 with ws := { s0.ws with sync := none } }
        if at_ ≤ y.at_ + 10000000 ∧ y.twice = false ∧ wsSeqOk s y.seq then
          let off : Int := (y.stamp : Int) - ts - cfgField s 3 0x12 0 16
          let s2 := { s1 with
            ws := { s1.ws with lastSeq := some (y.seq, s1.mono), since := s1.mono }
            tm := { s1.tm with wsOk := (s1.tm.wsOk + 1) % 65536 } }
          if timeSrc s = 2 then accept s2 off y.stamp ts 1000 else s2
        else { s1 with tm := { s1.tm with wsRej := satAdd 255 s1.tm.wsRej 1 } })
    | _ => s)

/-- A SYNC that is not to be sent is abandoned, without FOLLOW; the next one takes the next sequence number (R196). -/
def abandonSync (s : State) : State :=
  if s.ws.syncReady.isSome then
    { s with ws := { s.ws with syncReady := none, stamped := none }, tm := { s.tm with wsRej := satAdd 255 s.tm.wsRej 1 } }
  else s

/-- WS_SYNC_DUE: a source readies a SYNC at a multiple of PERIOD_MS ms, with the next sequence number; while its controller is bus-off or recovering it is abandoned (R196, R383). -/
def execWsSyncDue (s : State) : Out :=
  .next (
    if wsRole s = 2 then
      let s1 := timeTo s (gridNext 0 (wsPeriod s) s.time)
      let s2 := { s1 with ws := { s1.ws with syncReady := some (s1.ws.nextSeq, s1.mono), nextSeq := s1.ws.nextSeq + 1, followReady := none,
                                             awaiting := false, stamped := none } }
      if s.can[wsCtrl s].state = 4 ∨ s.can[wsCtrl s].state = 5 then abandonSync s2 else s2
    else s)

/-- WS_SYNC_ABANDON: a SYNC not sent within PERIOD/2, counted in ticks (R189, R196). -/
def execWsSyncAbandon (s : State) : Out :=
  .next (
    match s.ws.syncReady with
    | some (_, m) => abandonSync (monoTo s (m + wsPeriod s / 2))
    | none => s)

/-- The stamp of the own SYNC makes FOLLOW ready. -/
def followWith (w : WsSt) (stamp : Nat) : WsSt := { w with syncReady := none, awaiting := false, stamped := none, followReady := some stamp }

/-- WS_OWN_SYNC_STAMP: the source stamps its own SYNC as it receives it. FOLLOW is ready once the SYNC was sent and stamped, whichever comes first (R196). -/
def execWsOwnSyncStamp (t : Nat) (s : State) : Out :=
  .next (
    if s.ws.awaiting then
      let s1 := timeTo s t
      { s1 with ws := followWith s1.ws (stampOf t) }
    else if s.ws.syncReady.isSome then
      let s1 := timeTo s t
      { s1 with ws := { s1.ws with stamped := some (stampOf t) } }
    else s)

/-- A waystation frame of this source was sent: a SYNC is counted and waits for its stamp or has it, a FOLLOW is done (R196). -/
def wsFrameSent (s : State) : State :=
  if s.ws.syncReady.isSome then
    { s with
      ws := (match s.ws.stamped with
        | some t => followWith s.ws t
        | none => { s.ws with syncReady := none, awaiting := true })
      tm := { s.tm with wsOk := (s.tm.wsOk + 1) % 65536 } }
  else { s with ws := { s.ws with followReady := none } }

end Sys2Proof.Machine
end

