-- ==== Sys2Proof/Machine/CanOps.lean ====
section
/-!
DEFINITION. Shared operations of the CAN controllers and the bus hub's transmit FIFOs (13): object table, filters, queues, entry into and flush of the FIFO, error confinement.
-/

namespace Sys2Proof.Machine

/-- Page of controller `c`. -/
def canPage (c : Ctrl) : Nat := 15 + c.val

def canBit (s : State) (c : Ctrl) (off i : Nat) : Bool := cfgBit s (canPage c) off i
def canField (s : State) (c : Ctrl) (off lo n : Nat) : Nat := cfgField s (canPage c) off lo n
def canUpd (s : State) (c : Ctrl) (f : CanSt → CanSt) : State := { s with can := vmod s.can c f }

/-- CANCFG.EN, LISTEN, FDEN, AUTOREC, SELFRX, REPLACE. -/
def canEn (s : State) (c : Ctrl) : Bool := canBit s c 0 0
def canListen (s : State) (c : Ctrl) : Bool := canBit s c 0 1
def canFd (s : State) (c : Ctrl) : Bool := canBit s c 0 2

/-- CAN_x_STB is high (R363). -/
def canStb (s : State) (c : Ctrl) : Bool :=
  !canEn s c || s.boot.inReset || s.md.mode = .boot || (s.md.mode = .quiet && !cfgBit s 0 0x26 (1 + c.val))

/-- The controller's state as it acts and as CANSTAT.STATE reads: in QUIET a wake-enabled controller listens and the other is off (R108, R363). -/
def canState (s : State) (c : Ctrl) : Nat :=
  let k := s.can[c].state
  if s.md.mode ≠ .quiet then k
  else if canStb s c then 0
  else if k = 2 ∨ k = 3 then 6
  else k

/-! ## The object table (R371 to R373) -/

/-- Home position of a key (R371). -/
def objHome (k : Nat) : Nat := (k % 1024) ^^^ (k / 1024 % 1024) ^^^ (k / 2 ^ 20)

/-- Key of entry `i` in a configuration. -/
def objKey (m : RegMap) (page i : Nat) : Nat := fieldOf (rmGet m (regKey page (0x1000 + 4 * i))) 0 30

def objUsed (m : RegMap) (page i : Nat) : Bool := bitOf (rmGet m (regKey page (0x1001 + 4 * i))) 15

/-- First empty position of a key's probes, with the number of probes. -/
def objPlace (tab : List (Nat × Nat)) (k : Nat) : Option (Nat × Nat) :=
  (List.range 8).findSome? fun i => if amGet 0 tab ((objHome k + i) % 1024) = 0 then some ((objHome k + i) % 1024, i + 1) else none

/-- The build of R372 over the entries of `l`: positions and probes, or the first entry that finds no place. -/
def objBuildFrom (m : RegMap) (page : Nat) : List Nat → List (Nat × Nat) → List (Nat × Nat) → Nat ⊕ (List (Nat × Nat) × List (Nat × Nat))
  | [], tab, pos => .inr (tab, pos)
  | i :: r, tab, pos =>
    if objUsed m page i then
      match objPlace tab (objKey m page i) with
      | some (p, n) => objBuildFrom m page r (amSet 0 tab p (i + 1)) (amSet 0 pos i (p * 16 + n))
      | none => .inl i
    else objBuildFrom m page r tab pos

/-- The used entries of a configuration, in ascending order. -/
def usedEntries (m : RegMap) (page : Nat) : List Nat :=
  m.filterMap fun e =>
    let o := e.1 % 65536
    if e.1 / 65536 = page ∧ 0x1000 ≤ o ∧ o < 0x2000 ∧ o % 4 = 1 ∧ bitOf e.2 15 then some ((o - 0x1000) / 4) else none

def objBuild (m : RegMap) (page : Nat) : Nat ⊕ (List (Nat × Nat) × List (Nat × Nat)) :=
  objBuildFrom m page (usedEntries m page) [] []

/-- The lookup of R373: the entry with the key, within 8 probes and before an empty position. -/
def objFindFrom (m : RegMap) (page : Nat) (tab : List (Nat × Nat)) (k : Nat) : List Nat → Option Nat
  | [] => none
  | i :: r =>
    let e := amGet 0 tab ((objHome k + i) % 1024)
    if e = 0 then none else if objKey m page (e - 1) = k then some (e - 1) else objFindFrom m page tab k r

def objFind (s : State) (c : Ctrl) (k : Nat) : Option Nat :=
  objFindFrom s.regs (canPage c) s.can[c].tab k (List.range 8)

/-! ## Reception (R369 to R376) -/

/-- LEN of a DLC (R369). -/
def dlcLen (fdf : Bool) (dlc : Nat) : Nat :=
  if dlc ≤ 8 then dlc
  else if !fdf then 8
  else match dlc with
    | 9 => 12
    | 10 => 16
    | 11 => 20
    | 12 => 24
    | 13 => 32
    | 14 => 48
    | _ => 64

/-- ID word of Table 5.8. -/
def frameIdw (ide fdf brs : Bool) (id : Nat) : Word := BitVec.ofNat 32 (id % 2 ^ 29) ||| placeB 29 ide ||| placeB 30 fdf ||| placeB 31 brs

/-- Data bytes padded with zeros to 64. -/
def pad64 (d : List Byte) : List Byte := (d ++ List.replicate 64 0#8).take 64

/-- Filter pair `f` matches (R374). -/
def filterHit (s : State) (c : Ctrl) (idw : Word) (f : Nat) : Bool :=
  let m := cfgWord s (canPage c) (0x100 + 4 * f)
  let k := cfgWord s (canPage c) (0x101 + 4 * f)
  canBit s c (0x102 + 4 * f) 7 && ((idw ^^^ m) &&& k &&& 0x1FFFFFFF) == 0 && (!bitOf k 29 || bitOf idw 29 == bitOf m 29)

/-- The lowest matching pair. -/
def filterOf (s : State) (c : Ctrl) (idw : Word) : Option Nat := (List.range 64).find? (filterHit s c idw)

/-- A frame joins host queue `q` with the queue's own count, or is dropped (R376). -/
def queuePut (s : State) (c : Ctrl) (q : Fin 2) (r : RxRec) : State :=
  let x := s.can[c].rxq[q]
  if x.frames.length < 64 then
    let n := (x.count + 1) % 65536
    let s0 := if x.frames.isEmpty then irq s 5 else s
    canUpd s0 c fun k =>
      { k with rxq := k.rxq.set q { x with count := n, frames := x.frames ++ [{ r with info := (r.info &&& 0xFFFF) ||| place 16 n }] } }
  else
    let s1 := canUpd s c fun k => { k with rxq := k.rxq.set q { x with ovf := satAdd 255 x.ovf 1, logged := true } }
    if x.logged then s1 else ledger s1 100 (10 + c.val) q.val 0

/-- The three steps of R370 for a reception. -/
def canReceive (s : State) (c : Ctrl) (r : RxRec) : State :=
  let key := fieldOf r.idw 0 30
  let ent := objFind s c key
  let rx := match ent with
    | some i => canBit s c (0x1000 + 4 * i) 30
    | none => false
  let lst := match ent with
    | some i => canBit s c (0x1000 + 4 * i) 31
    | none => false
  let n := match ent with
    | some i => (amGet 0 s.can[c].cnt i + 1) % 65536
    | none => 0
  let s1 := match ent with
    | some i => canUpd s c fun k => { k with cnt := amSet 0 k.cnt i n }
    | none => s
  let flt := filterOf s1 c r.idw
  let dest (b : Nat) : Bool := match flt with
    | some f => canBit s1 c (0x102 + 4 * f) b
    | none => false
  let listed := (rx && lst) || dest 2
  let slot := match ent with
    | some i => if rx then some (canField s1 c (0x1001 + 4 * i) 0 10) else none
    | none => none
  let cnt := if ent.isSome then n else freeNat s1 % 65536
  let s2 := if ent.isNone ∧ listed then useFree s1 else s1
  let s3 := if slot.isSome || listed then
      { s2 with rxStage := s2.rxStage ++ [{ ctrl := c.val, slot := slot, listed := listed,
                                            r := { r with info := (r.info &&& 0xFFFF) ||| place 16 cnt } }] }
    else s2
  let s4 := if dest 0 then queuePut s3 c 0 r else s3
  if dest 1 then queuePut s4 c 1 r else s4

/-! ## Error confinement (R383) -/

def canPassiveArg (k : CanSt) : Nat := k.txErr % 512 + (k.rxErr % 256) * 2 ^ 16

/-- A waystation frame of this device is ready on controller `c` (R196). -/
def wsReady (s : State) (c : Ctrl) : Bool := (wsReadyFrame s c).isSome

/-- A frame of the FIFO is on the bus or offered (TXSTAT.ACTIVE). -/
def headOnBus (k : CanSt) : Bool := (k.state = 2 || k.state = 3) && !k.onWs && !k.fifo.isEmpty

/-- The FIFO is flushed; a head on the bus finishes its attempt (R380). -/
def canFlush (s : State) (c : Ctrl) (bus : Bool) : State :=
  let k := s.can[c]
  let onBus := headOnBus k
  let n := k.fifo.length - (if onBus then 1 else 0)
  canUpd s c fun k =>
    { k with
      tail := if onBus then k.fifo.head? else k.tail
      fifo := []
      dMode := if bus then k.dMode else satAdd 255 k.dMode n
      dBus := if bus then satAdd 255 k.dBus n else k.dBus }

/-- The hub discards its held TX requests for a controller (R380). -/
def dropHeld (s : State) (c : Ctrl) : State := { s with hub := { s.hub with pend := s.hub.pend.filter fun e => e.ctrl != c.val } }

/-- The state that the counters give: passive above 127, bus-off when TEC exceeds 255, with their ledger events. A bus-off controller abandons a waystation SYNC. -/
def confine (s : State) (c : Ctrl) : State :=
  let k := s.can[c]
  if k.state ≠ 2 ∧ k.state ≠ 3 then s
  else if 255 < k.txErr then
    let s1 := canUpd s c fun k => { k with state := if canBit s c 0 3 then 5 else 4 }
    let s2 := dropHeld (canFlush s1 c true) c
    let s3 := if wsRole s2 = 2 ∧ wsCtrl s2 = c then abandonSync s2 else s2
    ledger s3 103 (10 + c.val) 0 0
  else if 127 < k.txErr ∨ 127 < k.rxErr then
    (if k.state = 3 then s
     else ledger (canUpd s c fun k => { k with state := 3 }) 102 (10 + c.val) 0 (canPassiveArg k))
  else canUpd s c fun k => { k with state := 2 }

/-! ## The transmit FIFO (R378, R379) -/

/-- A request's 80 bytes as a frame (Table 5.8, Table 5.9). -/
def reqFrame (b : List Byte) : TxFrame :=
  let w := leNat (b.take 4)
  let info := leNat ((b.drop 4).take 4)
  { ide := w.testBit 29, fdf := w.testBit 30, brs := w.testBit 31, id := w % 2 ^ 29, data := (b.drop 16).take (info % 128), age := 0 }

/-- Place of a queued frame that REPLACE exchanges: same ID and IDE, not offered yet; the head has started once the controller is on the bus. -/
def replIndex (k : CanSt) (f : TxFrame) : Option Nat :=
  let skip := if headOnBus k then 1 else 0
  ((k.fifo.drop skip).findIdx? fun x => x.id = f.id && x.ide == f.ide).map fun i => i + skip

/-- Entry into the FIFO by Table 13.3; the answer's second part tells a drop under row 5. -/
def fifoPut (s : State) (c : Ctrl) (f : TxFrame) : State × Bool :=
  let k := s.can[c]
  if !canEn s c || canListen s c || s.md.mode = .quiet || (f.fdf && !canFd s c) then
    (canUpd s c fun k => { k with dMode := satAdd 255 k.dMode 1 }, false)
  else if k.state = 4 ∨ k.state = 5 then (canUpd s c fun k => { k with dBus := satAdd 255 k.dBus 1 }, false)
  else
    match (if canBit s c 0 5 then replIndex k f else none) with
    | some i => (canUpd s c fun k => { k with fifo := k.fifo.set i f, repl := satAdd 255 k.repl 1 }, false)
    | none =>
      if 32 ≤ k.fifo.length then (canUpd s c fun k => { k with dFull := satAdd 255 k.dFull 1 }, true)
      else (canUpd s c fun k => { k with fifo := k.fifo ++ [f], onWs := k.onWs || (k.fifo.isEmpty && wsReady s c) }, false)

/-- Frames that enter at one instant; CAN_TXDROP is recorded once for it. -/
def fifoPutAll (s : State) (c : Ctrl) (l : List TxFrame) : State :=
  let q := l.foldl (fun (x : State × Nat) f => let y := fifoPut x.1 c f; (y.1, x.2 + (if y.2 then 1 else 0))) (s, 0)
  if q.2 = 0 then q.1 else ledger q.1 101 (10 + c.val) 0 q.2

/-- Heads older than TXLIFE are discarded before an offer (R379). -/
def lifeDrop (life : Nat) : List TxFrame → List TxFrame × Nat
  | [] => ([], 0)
  | f :: r => if life ≠ 0 ∧ life < f.age then let q := lifeDrop life r; (q.1, q.2 + 1) else (f :: r, 0)

def offerHead (s : State) (c : Ctrl) : State :=
  let q := lifeDrop (canField s c 0 8 8) s.can[c].fifo
  canUpd s c fun k => { k with fifo := q.1, dLife := satAdd 255 k.dLife q.2, onWs := wsReady s c }

/-- A request of the single lane in LIMP: its object entry must carry LIMP 1 or 2, which may exchange the identifier (R381). -/
def limpFrame (s : State) (c : Ctrl) (f : TxFrame) : Option TxFrame :=
  match objFind s c (f.id + (if f.ide then 2 ^ 29 else 0)) with
  | none => none
  | some i =>
    match canField s c (0x1001 + 4 * i) 10 2 with
    | 1 => some f
    | 2 => some { f with id := canField s c (0x1002 + 4 * i) 0 29, ide := canBit s c (0x1002 + 4 * i) 29 }
    | _ => none

/-- A controller starts: counters cleared, FIFO flushed, INTEGRATING (R368). -/
def canStart (s : State) (c : Ctrl) : State :=
  let s1 := dropHeld (canFlush s c false) c
  canUpd s1 c fun k => { k with state := 1, txErr := 0, rxErr := 0, tdcv := 0, tail := none, onWs := false, cnt := [] }

/-- Commits age the queued frames (R379). -/
def ageFrames (s : State) : State :=
  { s with can := s.can.map fun k => { k with fifo := k.fifo.map fun f => { f with age := f.age + 1 } } }

/-! ## Queue windows (R377) -/

/-- The port takes the lock of a queue that is not empty, or keeps it: its lapse time starts again. -/
def rxqLock (s : State) (p : Port) (c : Ctrl) (q : Fin 2) : State :=
  let x := s.can[c].rxq[q]
  if x.frames.isEmpty then s else canUpd s c fun k => { k with rxq := k.rxq.set q { x with lock := some (p, s.mono) } }

/-- Another port holds the lock. -/
def rxqForeign (s : State) (p : Port) (c : Ctrl) (q : Fin 2) : Bool :=
  match s.can[c].rxq[q].lock with
  | some (o, _) => decide (o ≠ p)
  | none => false

/-- The head frame is removed and the lock released; a queue read empty logs its next overflow again (R376). -/
def rxqDrop (s : State) (c : Ctrl) (q : Fin 2) : State :=
  let x := s.can[c].rxq[q]
  let fs := x.frames.drop 1
  canUpd s c fun k => { k with rxq := k.rxq.set q { x with frames := fs, lock := none, logged := x.logged && !fs.isEmpty } }

def rxqUnlock (s : State) (c : Ctrl) (q : Fin 2) : State :=
  canUpd s c fun k => { k with rxq := k.rxq.set q { k.rxq[q] with lock := none } }

/-- Word `w` of the window of a queue. -/
def rxqWord (s : State) (c : Ctrl) (q : Fin 2) (w : Nat) : Word :=
  match s.can[c].rxq[q].frames.head? with
  | none => 0
  | some r =>
    match w with
    | 0 => r.idw
    | 1 => r.info
    | 2 => loWord r.stamp
    | 3 => hiWord r.stamp
    | _ => BitVec.ofNat 32 (beNat ((r.data.drop (4 * (w - 4))).take 4))

/-! ## Registers of pages 15 and 16 -/

/-- A CANCMD word's checks: KEY and OP, and RECOVER outside BUSOFF or with AUTOREC 1 (R385). -/
def cancmdCheck (s : State) (c : Ctrl) (w : Word) : Nat :=
  let op := fieldOf w 0 2
  if fieldOf w 24 8 ≠ 0xC5 ∨ op = 0 ∨ op = 3 then 0x0A
  else if op = 1 ∧ (s.can[c].state ≠ 4 ∨ canBit s c 0 3) then 0x09
  else 0

/-- CANCMD: RECOVER starts recovery (R383), FLUSH empties the FIFO (R380). -/
def cancmdWrite (s : State) (c : Ctrl) (w : Word) : State :=
  if fieldOf w 0 2 = 1 then canUpd s c fun k => { k with state := 5 } else canFlush s c false

/-- CNTCLR. -/
def cntclrWrite (s : State) (c : Ctrl) (w : Word) : State :=
  let ovf (x : RxqSt) (i : Nat) : RxqSt := if bitOf w (2 + i) then { x with ovf := 0 } else x
  canUpd s c fun k =>
    { k with
      repl := if bitOf w 0 then 0 else k.repl
      dFull := if bitOf w 0 then 0 else k.dFull
      dMode := if bitOf w 0 then 0 else k.dMode
      dBus := if bitOf w 0 then 0 else k.dBus
      dLife := if bitOf w 0 then 0 else k.dLife
      pexc := if bitOf w 1 then 0 else k.pexc
      remote := if bitOf w 1 then 0 else k.remote
      rxq := #v[ovf k.rxq[0] 0, ovf k.rxq[1] 1] }

/-- Pages 15 and 16 as read; the queue windows have their locks in the read frame. -/
def readCan (s : State) (c : Ctrl) (off : Nat) : Word :=
  let k := s.can[c]
  match off with
  | 4 => place 0 (canState s c) ||| place 8 k.tdcv
  | 5 => place 0 (k.txErr % 512) ||| place 16 (k.rxErr % 256) ||| place 24 k.lec
  | 7 => place 0 k.fifo.length ||| placeB 6 (headOnBus k || k.tail.isSome) ||| place 8 k.repl ||| place 16 k.sent
  | 8 => place 0 k.dFull ||| place 8 k.dMode ||| place 16 k.dBus ||| place 24 k.dLife
  | 9 => place 0 k.rxOk ||| place 16 k.pexc ||| place 24 k.remote
  | 0xB => (match k.buildFail with | some i => place 0 i ||| placeB 31 true | none => 0)
  | _ =>
    if off = 0x10 ∨ off = 0x11 then
      let x := vget k.rxq (off - 0x10) k.rxq[0]
      (match x.lock with
        | some (p, _) => placeB 7 true ||| place 8 p.val
        | none => 0) ||| place 0 x.frames.length ||| place 16 x.ovf
    else if 0x20 ≤ off ∧ off < 0x34 then rxqWord s c 0 (off - 0x20)
    else if 0x40 ≤ off ∧ off < 0x54 then rxqWord s c 1 (off - 0x40)
    else if 0x1000 ≤ off ∧ off % 4 = 3 then
      let e := amGet 0 k.pos ((off - 0x1000) / 4)
      place 0 (e / 16) ||| place 10 (e % 16)
    else cfgWord s (canPage c) off

end Sys2Proof.Machine
end

