-- ==== Sys2Proof/Machine/StoreOps.lean ====
section
/-!
DEFINITION. The external store: selects (R352 to R354), the directory and its regions (R74 to R77, R180), protected ranges (R178, R360), the wait figure XIPWAIT (R357), and block writes.
-/

namespace Sys2Proof.Machine

/-- A block of bytes written at `a`, in canonical form. -/
def memBlock (d : Byte) (m : Memory) (a : Nat) (bs : List Byte) : Memory :=
  (m.filter fun e => decide (e.1 < a)) ++
    ((bs.zipIdx.map fun e => (a + e.2, e.1)).filter fun e => decide (e.2 ≠ d)) ++
    (m.filter fun e => decide (a + bs.length ≤ e.1))

/-- Store bytes written, and a range erased to 0xFF. -/
def storePut (s : State) (a : Nat) (bs : List Byte) : State := { s with store := memBlock 0xFF s.store a bs }
def storeErase (s : State) (lo hi : Nat) : State := { s with store := amErase s.store lo hi }
def storeBytes (s : State) (a n : Nat) : List Byte := memTake 0xFF s.store a n

/-- The select of a store address: 0 below 0x8000_0000 (R352). -/
def selOf (a : Nat) : Nat := if a < 0x80000000 then 0 else 1
def selBase (sel : Nat) : Nat := if sel = 0 then 0 else 0x80000000

/-- MPCFG_s fields. -/
def mpType (s : State) (sel : Nat) : Nat := cfgField s 21 (2 + sel) 0 2
def mpIsNor (s : State) (sel : Nat) : Bool := mpType s sel = 1
def mpSize (s : State) (sel : Nat) : Nat := 2 ^ cfgField s 21 (2 + sel) 24 5

/-- The NAND page of a select, bytes (R354). -/
def nandPage (s : State) (sel : Nat) : Nat := if cfgBit s 21 (2 + sel) 8 then 4096 else 2048

/-- The erase unit of a select: 4 KiB or 64 KiB on NOR, a block of 64 pages on NAND (R354, MPCFG_s.ERASE, R420). -/
def eraseUnit (s : State) (sel : Nat) : Nat :=
  if mpType s sel = 2 then 64 * nandPage s sel else if cfgBit s 21 (2 + sel) 7 then 65536 else 4096

/-- MPCLK.SEL as a period in quarter nanoseconds. -/
def mpQuarters : Nat → Nat
  | 0 => 25
  | 1 => 32
  | 2 => 48
  | 3 => 64
  | 4 => 80
  | _ => 160

/-- XIPWAIT (R357): 616 clock periods, 200 ns and the largest TSUS of the NOR selects, rounded up to a whole microsecond. -/
def xipWait (s : State) : Nat :=
  let t (sel : Nat) := if mpIsNor s sel then cfgField s 21 (2 + sel) 16 8 else 0
  let q := 616 * mpQuarters (cfgField s 21 0 0 3) + 800 + max (t 0) (t 1) * 4000
  (q + 3999) / 4000 * 1000

/-- A directory entry (Table 3.4). -/
structure DirEntry where
  type : Nat
  base : Nat
  len : Nat
  crc : Nat
deriving DecidableEq, Repr

/-- Entry `i` of the directory copy at `b`. -/
def dirEntryAt (m : Memory) (b i : Nat) : DirEntry :=
  let a := b + 0x20 + 16 * i
  { type := beAt m a 1, base := beAt m (a + 4) 4, len := beAt m (a + 8) 4, crc := beAt m (a + 12) 4 }

def dirCount (m : Memory) (b : Nat) : Nat := beAt m (b + 0xA) 2
def dirGen (m : Memory) (b : Nat) : Nat := beAt m (b + 4) 4
def dirActive (m : Memory) (b : Nat) : Nat := beAt m (b + 8) 1
def dirTries (m : Memory) (b : Nat) : Nat := beAt m (b + 9) 1

def dirAll (m : Memory) (b : Nat) : List DirEntry := (List.range (dirCount m b)).map (dirEntryAt m b)

/-- No value appears twice. -/
def noRepeat : List Nat → Bool
  | [] => true
  | x :: r => !r.contains x && noRepeat r

/-- A copy is valid (R74, Tables 3.3 and 3.4). -/
def dirValid (m : Memory) (b : Nat) : Bool :=
  decide (beAt m b 4 = 0x534B4449) && decide (dirActive m b ≤ 1) && decide (dirCount m b ≤ 253) &&
    decide (beAt m (b + 0xFFC) 4 = (crc32c (memTake 0xFF m b 0xFFC)).toNat) &&
    noRepeat ((dirAll m b).map fun e => e.type)

/-- The base of the valid copy with the newer generation (R74); copy 0 where neither is newer (log entry 84). -/
def dirPick (m : Memory) : Option Nat :=
  match dirValid m 0, dirValid m 0x1000 with
  | true, true => if newerGen (dirGen m 0x1000) (dirGen m 0) then some 0x1000 else some 0
  | true, false => some 0
  | false, true => some 0x1000
  | false, false => none

/-- The entry of a type with LENGTH not 0 (R74: 0 is absent). -/
def dirFind (m : Memory) (b type : Nat) : Option DirEntry :=
  ((dirAll m b).find? fun e => decide (e.type = type)).filter fun e => decide (e.len ≠ 0)

/-- Maximum lengths of Table 3.5; none where the store size bounds the region. -/
def regionMax (type : Nat) : Option Nat :=
  match type with
  | 0x01 => some 524288
  | 0x02 | 0x03 => some 65536
  | 0x10 | 0x20 => some 524288
  | 0x11 | 0x21 => some 268435456
  | 0x12 | 0x22 => some 65536
  | _ => none

/-- The region lies on the select that R352 allows: MP_CS0_N for boot and bank regions, a NOR select for manifest libraries. -/
def placeOk (s : State) (e : DirEntry) : Bool :=
  if e.type = 0x30 ∨ e.type = 0x31 ∨ e.type = 0x40 ∨ e.type = 0x50 then true
  else if e.type = 0x60 then
    decide (selOf e.base = selOf (e.base + e.len - 1)) && decide (e.base + e.len ≤ 2 ^ 32) && mpIsNor s (selOf e.base)
  else decide (e.base + e.len ≤ 0x80000000)

def entryBytes (m : Memory) (e : DirEntry) : List Byte := memTake 0xFF m e.base e.len

/-- The region passes its length, placement and CRC checks (Table 3.5, R352, R75). -/
def entryOk (s : State) (e : DirEntry) : Bool :=
  (match regionMax e.type with | some x => decide (e.len ≤ x) | none => true) && placeOk s e &&
    decide (e.crc = (crc32c (entryBytes s.store e)).toNat)

/-- The directory in use, and the entry of a type in it. -/
def dirEntryOf (s : State) (type : Nat) : Option DirEntry := (dirPick s.store).bind fun b => dirFind s.store b type

/-- Bytes of a directory copy (Table 3.3). -/
def dirMake (gen active tries : Nat) (es : List DirEntry) : List Byte :=
  let head := natBe 4 0x534B4449 ++ natBe 4 gen ++ natBe 1 active ++ natBe 1 tries ++ natBe 2 es.length ++ List.replicate 20 0#8
  let body := (es.map fun e => natBe 1 e.type ++ [0#8, 0#8, 0#8] ++ natBe 4 e.base ++ natBe 4 e.len ++ natBe 4 e.crc).flatten
  let all := (head ++ body ++ List.replicate (0xFFC - 0x20 - 16 * es.length) 0#8).take 0xFFC
  all ++ beBytes (crc32c all)

/-- A new directory generation is written into the copy that is not in use (R69, R74), with the given ACTIVE, TRIAL_TRIES and entries. -/
def dirWrite (s : State) (active tries : Nat) (es : List DirEntry) : State :=
  let b := (dirPick s.store).getD 0x1000
  let g := match dirPick s.store with | some x => nextNum (dirGen s.store x) | none => 1
  storePut s (if b = 0 then 0x1000 else 0) (dirMake g active tries es)

/-- ACTIVE, TRIAL_TRIES and the entries of the directory in use. -/
def dirNow (s : State) : Nat × Nat × List DirEntry :=
  match dirPick s.store with
  | some b => (dirActive s.store b, dirTries s.store b, dirAll s.store b)
  | none => (0, 0, [])

/-- Region types of a bank: code image, XIP image, configuration set. -/
def bankBase (b : Bool) : Nat := if b then 0x20 else 0x10

/-- Any lane runs (R178). -/
def anyLaneRuns (s : State) : Bool := lanesRun s.md.mode

def entryRange (e : DirEntry) : Nat × Nat := (e.base, e.base + e.len)

/-- The ranges that the regions of the running bank take (R77). -/
def bankRanges (s : State) : List (Nat × Nat) :=
  ([0, 1, 2].filterMap fun i => dirEntryOf s (bankBase s.boot.bank + i)).map entryRange

/-- Journal, ledger and HART directory regions. -/
def journalRanges (s : State) : List (Nat × Nat) :=
  ([0x30, 0x31, 0x40, 0x50].filterMap fun t => dirEntryOf s t).map entryRange

/-- The ranges of R178: what the lanes' windows map, while any lane runs. -/
def windowRanges (s : State) : List (Nat × Nat) :=
  if anyLaneRuns s then lanes3.map fun l => (s.lane[l].xipBase.toNat, s.lane[l].xipBase.toNat + s.lane[l].xipSpan.toNat) else []

/-- Protected ranges of raw programs and erases outside recovery (R360). -/
def protectedRanges (s : State) : List (Nat × Nat) :=
  if s.boot.recovery then []
  else [(0, 0x2000)] ++ (([1, 2, 3].filterMap fun t => dirEntryOf s t).map entryRange) ++ bankRanges s ++ journalRanges s ++ windowRanges s

def meetsAny (rs : List (Nat × Nat)) (lo hi : Nat) : Bool := rs.any fun r => rangesMeet lo hi r.1 r.2

end Sys2Proof.Machine
end

