-- ==== Sys2Proof/Machine/FieldOps.lean ====
section
/-!
DEFINITION. Shared operations of the field dies (08, 09, 07): configuration in force at a die, demand (R215, R217, R219), Table 8.4, the checks of R221, safe states (R265 to R268) and permits (R260 to R263).
-/

namespace Sys2Proof.Machine

/-! ## Configuration in force at a die (R451) -/

def fdSet (s : State) (d : FDie) (page off : Nat) : Word := rmGet s.die[toDie d].settings (regKey page off)
def fdField (s : State) (d : FDie) (off lo n : Nat) : Nat := fieldOf (fdSet s d (8 + d.val) off) lo n
def fdBit (s : State) (d : FDie) (off i : Nat) : Bool := bitOf (fdSet s d (8 + d.val) off) i

/-- Field `w` of the register block of local channel `k` (Table 8.11). -/
def chField (s : State) (d : FDie) (k w lo n : Nat) : Nat := fdField s d (0x40 + 0x10 * k + w) lo n
def chBit (s : State) (d : FDie) (k w i : Nat) : Bool := fdBit s d (0x40 + 0x10 * k + w) i

/-- CHCFG_k.MODE (Table 8.1). -/
def chMode (s : State) (d : FDie) (k : Nat) : Nat := chField s d k 0 0 2

/-- The channel is in OUTPUT or OUTPUT_RB. -/
def isOutput (s : State) (d : FDie) (k : Nat) : Bool := chMode s d k = 1 || chMode s d k = 3

/-- Local channel `k` is the lower half, or the upper half, of a ganged pair (R213). -/
def isLower (s : State) (d : FDie) (k : Nat) : Bool := decide (k % 2 = 0) && chBit s d k 0 2
def isUpper (s : State) (d : FDie) (k : Nat) : Bool := decide (k % 2 = 1) && chBit s d (k - 1) 0 2

/-- An output channel that Table 8.4 governs on its own. -/
def isGov (s : State) (d : FDie) (k : Nat) : Bool := isOutput s d k && !isUpper s d k

/-- The channel that governs `k`: the lower half of its pair, or itself. -/
def govOf (s : State) (d : FDie) (k : Chan) : Chan := if isUpper s d k.val then ⟨k.val - 1, by omega⟩ else k

/-! ## Access -/

def fld (s : State) (d : FDie) : FieldSt := s.field[d]
def chan (s : State) (d : FDie) (k : Chan) : ChanSt := s.field[d].ch[k]
def updField (s : State) (d : FDie) (f : FieldSt → FieldSt) : State := { s with field := vmod s.field d f }
def updChan (s : State) (d : FDie) (k : Chan) (f : ChanSt → ChanSt) : State :=
  updField s d fun x => { x with ch := vmod x.ch k f }

/-- An offset with `n` single-tick corrections of 4 ns towards the link's time taken from it (R187, R190). -/
def nearer (o : Int) (n : Nat) : Int := if 0 ≤ o then max 0 (o - 4 * n) else min 0 (o + 4 * n)

/-- The die's remaining offset: one correction every 16 µs, which is 250 ppm, while it has its link's time (R190). -/
def curOffset (s : State) (d : Die) : Int :=
  match s.die[d].corrFrom with
  | some m => nearer s.die[d].offset ((s.mono - m) / 16000)
  | none => s.die[d].offset

/-- Die time: the device time and the die's remaining offset (R190). -/
def dieTime (s : State) (d : Die) : Nat := ((s.time : Int) + curOffset s d).toNat

/-- Time runs on until the time of a die whose offset shrinks reaches `t`: its rate is within 250 ppm of device time's, so each stretch leaves less than a part in 2000 of what was left. -/
def dieApproach : Nat → State → Die → Nat → State
  | 0, s, _, _ => s
  | n + 1, s, d, t =>
    if t ≤ dieTime s d then s
    else dieApproach n (timeTo s (s.time + max 1 ((t - dieTime s d) * 3999 / 4000))) d t

/-- Time runs on to the instant `t` of the die's time. -/
def dieTimeTo (s : State) (d : Die) (t : Nat) : State := if curOffset s d = 0 then timeTo s t else dieApproach 8 s d t

/-- The routine hold pair of channel `k` is locked: from the start of its I item to the end of its V item (R326). -/
def pairLocked (s : State) (d : Die) (k : Nat) : Bool :=
  match s.survey[d].item with
  | .chI j => j = k && s.survey[d].begun
  | .chV j => j = k
  | _ => false

/-! ## Demand (R215 to R219) -/

/-- R217, at die time `t` with origin `o`, PER, ON and PHASE in µs. -/
def pgDemand (t o per on ph : Nat) : Bool :=
  let u : Int := ((t : Int) - o) / 1000
  decide ((u - ph) % per < on)

/-- R219, at die time `t` with the carrier origin, DUTYCFG.PER, DUTY and PHASE. -/
def dutyDemand (t o per duty ph : Nat) : Bool :=
  let c := per * 1000
  let tOn := (duty * c) / 65536 / 4 * 4
  if tOn < 20000 then false
  else if c - tOn < 20000 then true
  else decide (((t : Int) - o - 1000 * ((ph % per : Nat) : Int)) % c < tOn)

/-- The demand of a command on local channel `k` (Table 8.3); ACT 4 is decided by the safe state. -/
def cmdDemand (s : State) (d : FDie) (k : Chan) (c : Cmd) : Bool :=
  let t := dieTime s (toDie d)
  let ph := chField s d k.val 5 0 24
  match c.act with
  | 1 => true
  | 2 => dutyDemand t (fld s d).dutyOrg (fdField s d 2 0 16) c.duty ph
  | 3 =>
    let j := c.pgsel % 4
    pgDemand t (vget (fld s d).pgOrg j 0) (fdField s d (0x10 + j) 0 24) (fdField s d (0x14 + j) 0 24) ph
  | _ => false

/-- The effective command (R203). -/
def effCmd (c : ChanSt) : Cmd :=
  match c.repl with
  | some r => { c.vrec with act := r.act, pgsel := r.pgsel, duty := r.duty }
  | none => c.vrec

/-- The code of the deciding cause: the active one of lowest rank (R266); 0 for none. -/
def decidingCause (m : BitVec 8) : Nat :=
  if m.getLsbD 1 then 1 else if m.getLsbD 2 then 2 else if m.getLsbD 3 then 3
  else if m.getLsbD 4 then 4 else if m.getLsbD 5 then 5 else if m.getLsbD 6 then 6 else 0

/-- Table 9.2 code of the safe state of a cause: NMS for no-majority, SS otherwise (R265). -/
def safeCode (s : State) (d : FDie) (k : Nat) (cause : Nat) : Nat :=
  if cause = 6 then chField s d k 0x0D 2 2 else chField s d k 0x0D 0 2

/-- The command that a safe state stands for (R267 item 2). -/
def safeCmd (s : State) (d : FDie) (k : Nat) (code : Nat) : Cmd :=
  let z : Cmd := { act := 0, pgsel := 0, clr := false, oltest := false, duty := 0 }
  if code = 1 then { z with act := 1 }
  else if code = 3 then { z with act := 3, pgsel := chField s d k 0x0D 4 2 }
  else z

/-- Limp-home drives the channel: mapped, LH_EN asserted, the block supplied (R275, Table 9.4 row 1). -/
def inLimp (s : State) (d : FDie) (k : Chan) : Bool := (fld s d).lhEn && (chan s d k).map.en

/-- The demand of an output channel under rows 2 to 5 of Table 9.4. -/
def demandOf (s : State) (d : FDie) (k : Chan) : Bool :=
  let c := chan s d k
  let cause := decidingCause c.causes
  if !powered s (toDie d) || (fld s d).vbbOff || s.die[toDie d].fresh then false
  else if cause = 0 then cmdDemand s d k (effCmd c)
  else
    match safeCode s d k.val cause with
    | 2 => if c.coast.isSome then cmdDemand s d k c.held else false
    | code => cmdDemand s d k (safeCmd s d k.val code)

/-! ## Conduction -/

def stOn (o : OutSt) : Bool := o = .inrush || o = .on

/-- The switch of a governing channel conducts. -/
def conducts (s : State) (d : FDie) (k : Chan) : Bool :=
  if inLimp s d k then (chan s d k).lhOn else stOn (chan s d k).st

/-- The stage of channel `k` conducts; an upper half follows its pair. -/
def stageOn (s : State) (d : FDie) (k : Chan) : Bool := conducts s d (govOf s d k)

/-- W and B of Table 8.5, ns. -/
def profW : Nat → Nat
  | 1 => 10000000
  | 2 => 500000
  | 3 => 2000000
  | _ => 0

def profB : Nat → Nat
  | 1 => 100000000
  | 2 => 2000000
  | 3 => 10000000
  | 4 => 40000000
  | _ => 0

/-- L(t) of R224 in units of 0.0625 A, at profile time `t` ns for LOAD and ILIM. -/
def profM (load t : Nat) : Nat :=
  let q := match load with
    | 1 => if t < 2000000 then 16 else if t < 10000000 then 10 else if t < 40000000 then 6 else if t < 100000000 then 5 else 4
    | 2 => if t < 500000 then 12 else if t < 2000000 then 6 else 4
    | 3 => if t < 2000000 then 8 else if t < 10000000 then 6 else 4
    | 4 => if t < 40000000 then 6 else 4
    | _ => 4
  q

def limitL (load ilim t : Nat) : Nat := min 96 (profM load t * ilim)

/-- The limit in force at the stage of a governing channel, in units of 0.0625 A: the profile's, or under limp-home the flat one of the last configured ILIM (R222, R224). -/
def stageLimit (s : State) (d : FDie) (k : Chan) : Nat :=
  let c := chan s d k
  if inLimp s d k then min 96 (4 * c.lhIlim) else limitL c.load (chField s d k.val 1 0 5) (s.mono - c.onAt)

/-- The higher of a quantity's values at both halves of a pair; of a single channel its own (R213). -/
def pairMax (s : State) (d : FDie) (k : Chan) (f : ChanSt → Int) : Int :=
  if h : isLower s d k.val ∧ k.val + 1 < 16 then max (f (chan s d k)) (f (chan s d ⟨k.val + 1, h.2⟩)) else f (chan s d k)

/-- Sensor and model of the governing channel, 10^-6 °C (R213, R226). -/
def hotOf (s : State) (d : FDie) (k : Chan) : Int := pairMax s d k fun c => max (c.tj * 62500) c.tm

/-- TREL, 10^-6 °C (R227). -/
def trel (s : State) (d : FDie) (k : Nat) : Int := (175 - (chField s d k 2 8 7 : Nat)) * 1000000

/-! ## Slots, budget and queue (R239 to R244) -/

def slotsUsed (f : FieldSt) : Nat := (f.ch.toList.filter fun c => c.slot).length

/-- I² × 95 mΩ in 10^-12 mW, I in µA (R240). -/
def addition (s : State) (d : FDie) (k : Chan) : Nat :=
  let i := if (chan s d k).ilast = 0 then chField s d k.val 1 0 5 * 250000 else (chan s d k).ilast
  i * i * 95

/-- The allowance A in force, mW: the median of the three, an old one counting as 0 (R239). -/
def allowance (s : State) (d : FDie) : Nat :=
  let val (i : Nat) : Nat :=
    let a := vget (fld s d).allow i (0, none)
    match a.2 with
    | some t => if s.mono ≤ t + 3000000 then a.1 else 0
    | none => 0
  let a := val 0
  let b := val 1
  let c := val 2
  max (min a b) (min (max a b) c)

/-- Whether the toll check passes (R236). -/
def tollPass (s : State) (d : FDie) (k : Chan) : Bool :=
  let cap := chField s d k.val 3 0 10 * 1000
  let need := max (chan s d k).elast (chField s d k.val 3 25 7 * 1000)
  cap = 0 || decide (((min need cap : Nat) : Int) ≤ (chan s d k).level)

/-- The request is withdrawn (row 3; R277): flags, queue places and reservation go. -/
def withdraw (s : State) (d : FDie) (k : Chan) : State :=
  let c := chan s d k
  let s1 := updField s d fun f =>
    { f with
      queue := f.queue.filter fun j => j != k.val
      bqueue := f.bqueue.filter fun j => j != k.val
      reserved := f.reserved - c.resv }
  updChan s1 d k fun c =>
    { c with queued := false, bhold := false, thold := false, toll := false, resv := 0, stage := 0, retry := false }

/-- The switch turns on (row 2): profile time 0, a slot when W > 0, and row 4 at once when B is 0. A request that waited in the queue has been deferred (R243, R244). -/
def turnOnNow (s : State) (d : FDie) (k : Chan) : State :=
  let load := chField s d k.val 0 4 3
  let c := chan s d k
  let wait := (s.mono - c.demandAt) / 1000
  let s1 := if c.queued then
      updField s d fun f => { f with defMax := max f.defMax (min 65535 wait), defCount := (f.defCount + 1) % 65536 }
    else s
  let s2 := updField s1 d fun f =>
    { f with queue := f.queue.filter fun j => j != k.val, bqueue := f.bqueue.filter fun j => j != k.val }
  updChan s2 d k fun c =>
    { c with
      st := if profB load = 0 then .on else .inrush
      onAt := s.mono
      condAt := s.mono
      olFrom := s.mono
      load := load
      slot := decide (0 < profW load)
      retries := if c.retry then satAdd 255 c.retries 1 else c.retries
      defers := if c.queued then satAdd 255 c.defers 1 else c.defers
      retry := false
      stage := 0
      resv := 0
      queued := false, bhold := false, thold := false, toll := false }

/-- Queued requests take free slots, the head first (R242). The list bounds the steps. -/
def serveQueue (d : FDie) : List Nat → State → State
  | [], s => s
  | j :: r, s =>
    if h : j < 16 ∧ slotsUsed (fld s d) < 4 then serveQueue d r (turnOnNow s d ⟨j, h.1⟩) else s

def serveSlots (s : State) (d : FDie) : State := serveQueue d (fld s d).queue s

/-- One waiting channel passes the checks of R221 that pass now: thermal hold, toll, budget; `refill` at a refill step, where alone a toll lock ends. Its stage tells how far it came. -/
def passChecks (refill : Bool) (s : State) (d : FDie) (k : Chan) : State :=
  let thermal (s : State) : State :=
    if 0 < (chan s d k).stage then s
    else if trel s d k.val < hotOf s d k then updChan s d k fun c => { c with thold := true }
    else updChan s d k fun c => { c with thold := false, stage := 1 }
  let tollCheck (s : State) : State :=
    let c := chan s d k
    if c.stage ≠ 1 then s
    else if tollPass s d k && (refill || !c.toll) then updChan s d k fun c => { c with toll := false, stage := 2 }
    else if c.toll then s
    else
      dieLedger (updChan s d k fun c => { c with toll := true, locks := satAdd 255 c.locks 1 }) (toDie d) 41 k.val
        (codeOf 32 c.level)
  let budget (s : State) : State :=
    let c := chan s d k
    if c.stage ≠ 2 then s
    else
      let add := addition s d k
      let first := ((fld s d).bqueue.filter fun j => j != k.val).isEmpty || (fld s d).bqueue.head? = some k.val
      if first && decide ((fld s d).reserved + add ≤ allowance s d * 1000000000000) then
        updChan (updField s d fun f =>
          { f with reserved := f.reserved + add, bqueue := f.bqueue.filter fun j => j != k.val }) d k
          fun c => { c with bhold := false, resv := add, stage := 3 }
      else if c.bhold then s
      else
        { updChan (updField s d fun f => { f with bqueue := f.bqueue ++ [k.val] }) d k fun c => { c with bhold := true } with
          gov := { s.gov with holds := satAdd 65535 s.gov.holds 1 } }
  budget (tollCheck (thermal s))

/-- Channels in the order in which a pass examines them: those that the budget holds, in order of arrival, then the others. -/
def passOrder (f : FieldSt) : List Chan :=
  (f.bqueue.filterMap fun j => if h : j < 16 then some ⟨j, h⟩ else none) ++
    chans16.filter fun k => !f.bqueue.contains k.val

/-- The new slot requests of the instant in cyclic order from ROT (R242). -/
def rotOrder (rot : Nat) : List Chan := (List.range 16).map fun i => ⟨(rot + i) % 16, Nat.mod_lt _ (by decide)⟩

/-- A new request takes a slot, or joins the queue (R242). -/
def slotRequest (d : FDie) (s : State) (k : Chan) : State :=
  if slotsUsed (fld s d) < 4 ∧ (fld s d).queue = [] then turnOnNow s d k
  else
    updChan (updField s d fun f => { f with queue := f.queue ++ [k.val] }) d k fun c => { c with queued := true }

/-- ROT after an instant with new requests: one past the last granted, or one more (R242). -/
def nextRot (s0 s1 : State) (d : FDie) (new : List Chan) : Nat :=
  let granted := new.filter fun k => !(chan s0 d k).slot && (chan s1 d k).slot
  match granted.getLast? with
  | some k => (k.val + 1) % 16
  | none => ((fld s0 d).rot + 1) % 16

/-- The checks of R221 for every waiting channel of a die at one instant, queued requests before new ones (R223, R242). -/
def waitPass (refill : Bool) (s : State) (d : FDie) : State :=
  let waiting := (passOrder (fld s d)).filter fun k => (chan s d k).st = .wait && !(chan s d k).queued
  let s1 := waiting.foldl (fun s k => passChecks refill s d k) s
  let passed (k : Chan) : Bool := (chan s1 d k).st = .wait && !(chan s1 d k).queued && decide ((chan s1 d k).stage = 3)
  let s2 := (waiting.filter fun k => passed k && decide (profW (chField s1 d k.val 0 4 3) = 0)).foldl
    (fun s k => turnOnNow s d k) s1
  let s3 := serveSlots s2 d
  let new := (rotOrder (fld s3 d).rot).filter fun k => passed k && decide (0 < profW (chField s1 d k.val 0 4 3))
  if new = [] then s3
  else
    let s4 := new.foldl (slotRequest d) s3
    updField s4 d fun f => { f with rot := nextRot s3 s4 d new }

/-- Rows 1 and 3 of Table 8.4 for one channel: the demand is a level, examined now (R220), but for a channel that stands still during a transfer (R21). -/
def settleChan (d : FDie) (s : State) (k : Chan) : State :=
  if !isGov s d k.val || inLimp s d k || (fld s d).stopped.getLsbD k.val then s
  else
    let dm := demandOf s d k
    let c := chan s d k
    let s1 := if c.demand = dm then s else updChan s d k fun c => { c with demand := dm, demandEdge := s.mono }
    if c.st = .off ∧ dm then updChan s1 d k fun c => { c with st := .wait, demandAt := s.mono, stage := 0 }
    else if c.st = .wait ∧ !dm then withdraw (updChan s1 d k fun c => { c with st := .off }) d k
    else s1

def settle (s : State) (d : FDie) : State := chans16.foldl (settleChan d) s

/-- The slot of a conducting channel goes to the head of the queue, and its conduction is added up (R231, R237, R241). -/
def endConduction (s : State) (d : FDie) (k : Chan) : State :=
  serveSlots (updChan s d k fun c =>
    { c with slot := false, condAcc := c.condAcc + (s.mono - c.condAt), olAcc := if c.st = .on then c.olAcc + (s.mono - c.olFrom) else c.olAcc }) d

/-- A stage opens: its regulation ends, its last current is held, and a clamp event starts when its load drives one (R225, R234). -/
def stageOpens (iLast : Nat) (clamp : Bool) (c : ChanSt) : ChanSt := { c with limit := false, ilast := iLast, clamp := clamp }

/-- A conducting switch opens (rows 5 and 6). -/
def openSwitch (s : State) (d : FDie) (k : Chan) (iLast : Nat) (clamp : Bool) : State :=
  endConduction (updChan s d k (stageOpens iLast clamp)) d k

/-- What the load does when a stage opens on an occasion that does not tell: its last current and whether it drives a clamp event are free values (log entry 76). -/
def freeCurrent (s : State) : Nat := freeNat s % 2 ^ 32
def freeClamp (s : State) : Bool := decide (freeNat s / 2 ^ 32 % 2 = 1)

/-- A conducting switch opens on such an occasion (row 10, R58, R277). -/
def openFree (s : State) (d : FDie) (k : Chan) : State := openSwitch (useFree s) d k (freeCurrent s) (freeClamp s)

/-- A trip (row 6; Tables 8.6 and 8.7): RWAIT or LATCHED, with CH_TRIP and CH_LATCH. -/
def trip (s : State) (d : FDie) (k : Chan) (cause iLast : Nat) (clamp : Bool) : State :=
  let c := chan s d k
  let rmode := chBit s d k.val 2 0
  let latch := cause = 6 || !rmode || c.rleft = 0
  let lbc := cause ≠ 6 && rmode && c.rleft = 0
  let s1 := openSwitch s d k iLast clamp
  let s2 := updChan s1 d k fun x =>
    { x with
      st := if latch then .latched else .rwait
      lbc := lbc
      rleft := if latch then (if lbc then 0 else c.rleft) else c.rleft - 1
      cause := cause
      tripAt := s.mono
      condAcc := 0
      condAt := s.mono
      trips := satAdd 255 x.trips 1 }
  let s3 := dieLedger s2 (toDie d) 39 k.val cause
  settle (if latch then dieLedger s3 (toDie d) 40 k.val (if lbc then 1 else 0) else s3) d

/-- Row 10 of Table 8.4. -/
def rowTen (s : State) (d : FDie) (k : Chan) : State :=
  let s1 := if stOn (chan s d k).st then openFree s d k else s
  let s2 := withdraw s1 d k
  updChan s2 d k fun c =>
    { c with st := .off, rleft := chField s d k.val 2 1 4, lbc := false, level := (chField s d k.val 3 0 10 * 1000 : Nat) }

/-- STUCK of a stage whose current has been below 50 mA for 1 ms clears (R271). -/
def clrStuck (now : Nat) (c : ChanSt) : ChanSt :=
  match c.lowSince with
  | some t => if t + 1000000 ≤ now then { c with stuck := false } else c
  | none => c

/-- The stages that a governing channel drives: both halves of a pair (R213). -/
def halves (s : State) (d : FDie) (k : Chan) : List Chan := chans16.filter fun j => govOf s d j = k

/-- STUCK stands on a stage of the governing channel (cause 4). -/
def anyStuck (s : State) (d : FDie) (k : Chan) : Bool := (halves s d k).any fun j => (chan s d j).stuck

/-- A voted CLR rising edge (R216, R231, row 9; R271 for STUCK). -/
def clrEdge (s : State) (d : FDie) (k : Chan) : State :=
  let s1 := (halves s d k).foldl (fun s j => updChan s d j (clrStuck s.mono)) s
  updChan s1 d k fun c =>
    { c with
      rleft := chField s d k.val 2 1 4
      st := if c.st = .rwait ∨ c.st = .latched then .off else c.st
      lbc := if c.st = .rwait ∨ c.st = .latched then false else c.lbc
      causes := if anyStuck s1 d k then c.causes else c.causes &&& ~~~(16 : BitVec 8) }

/-! ## Safe states (R265 to R268, R205) -/

/-- A switch action (Table 7.5). -/
def isSwitch (e : Entry) : Bool := decide (1 ≤ e.action) && decide (e.action ≤ 5)

/-- The upper halves of the ganged pairs. -/
def upperBits (s : State) (d : FDie) : BitVec 16 :=
  chans16.foldl (fun m k => if isUpper s d k.val then m ||| BitVec.ofNat 16 (2 ^ k.val) else m) 0

/-- An entry stays in the store while a bit of its mask counts, or when it acts on the die or on loops: a switch action's bits on upper halves do not count (R204). -/
def entryLives (s : State) (d : FDie) (e : Entry) : Bool :=
  decide ((e.mask &&& ~~~(if isSwitch e then upperBits s d else 0)) ≠ 0) || decide (e.action = 6) ||
    (decide (e.action = 7) && decide (e.arg % 65536 ≠ 0))

/-- Entries without a bit that counts leave the store. -/
def sweepStore (s : State) (d : FDie) : State := updField s d fun f => { f with pend := f.pend.filter (entryLives s d) }

/-- The channel's bit is removed from every pending entry (R204, R205). -/
def dropBits (s : State) (d : FDie) (k : Nat) : State :=
  sweepStore (updField s d fun f =>
    { f with pend := f.pend.map fun e => { e with mask := e.mask &&& ~~~(BitVec.ofNat 16 (2 ^ k)) } }) d

/-- The deciding cause changed from `old` to that of `causes` (R266, R267): the held command and the coast window. -/
def causeChanged (s : State) (d : FDie) (k : Chan) (old : Nat) : State :=
  let c := chan s d k
  let new := decidingCause c.causes
  if new = old then s
  else
    let newHold := new ≠ 0 && safeCode s d k.val new = 2
    let oldHold := old ≠ 0 && safeCode s d k.val old = 2
    let s1 := if old = 0 then dropBits s d k.val else s
    if newHold && !oldHold then
      let held := if old = 0 then (if new = 5 then c.lastNon4 else effCmd c) else safeCmd s d k.val (safeCode s d k.val old)
      let cw := chField s d k.val 0x0D 8 11
      updChan s1 d k fun c => { c with held := held, coast := if cw = 0 then none else some (s.mono + cw * 1000000) }
    else if newHold then s1
    else updChan s1 d k fun c => { c with coast := none }

/-- Causes of a governing output channel set and cleared by mask. -/
def setCauses (s : State) (d : FDie) (k : Chan) (clear set : BitVec 8) : State :=
  let old := decidingCause (chan s d k).causes
  causeChanged (updChan s d k fun c => { c with causes := (c.causes &&& ~~~clear) ||| set }) d k old

def causeBit (n : Nat) : BitVec 8 := BitVec.ofNat 8 (2 ^ n)

/-- A comparator threshold that lies between `lo` and `hi`: a value at or above it; inside the limits the part decides. -/
def atOrAbove (v lo hi kind idx : Nat) : Bool :=
  if hi ≤ v then true else if v < lo then false else decide (max lo (min hi (Config.part kind idx)) ≤ v)

/-! ## Permits (R260 to R264) -/

/-- The receiver of channel `k` counts the permit as present (R260, R263). -/
def permOwn (s : State) (d : FDie) (k : Chan) : Bool := (chan s d k).perm.present && !(chan s d k).perm.fault

/-- The permit of a governing channel: of both halves for a pair (R213, R264). -/
def permOf (s : State) (d : FDie) (k : Chan) : Bool :=
  if h : isLower s d k.val ∧ k.val + 1 < 16 then permOwn s d k && permOwn s d ⟨k.val + 1, h.2⟩ else permOwn s d k

/-- The wait of R262 ends: the coast window was held meanwhile. -/
def endPermWait (s : State) (d : FDie) (k : Chan) : State :=
  match (chan s d k).permWait with
  | none => s
  | some e =>
    let waited := s.mono - (e - 40000)
    updChan s d k fun c => { c with permWait := none, coast := c.coast.map fun t => t + waited }

/-- After a change of the receiver of channel `k`: loss applies the safe state and records PERMIT_LOST once; presence within the wait of R262 ends the cause. `was` is the permit of the governing channel before. -/
def permChanged (s : State) (d : FDie) (k : Chan) (was ownWas : Bool) : State :=
  let g := govOf s d k
  let now := permOf s d g
  let s1 := if ownWas ∧ !permOwn s d k ∧ isOutput s d k.val then dieLedger s (toDie d) 37 k.val 0 else s
  if !isOutput s d g.val then s1
  else if was ∧ !now then settle (setCauses s1 d g 0 (causeBit 3)) d
  else if !was ∧ now ∧ (chan s1 d g).permWait.isSome then
    settle (setCauses (endPermWait s1 d g) d g (causeBit 3) 0) d
  else s1

end Sys2Proof.Machine
end

