-- ==== Sys2Proof/Machine/Survey.lean ====
section
/-!
DEFINITION. The survey converters (R325 to R331): the routine scan, hold pairs, urgent requests with abort, guard and interleave, and the health items.
-/

namespace Sys2Proof.Machine

/-- SVCFG_d as the die uses it. -/
def svField (s : State) (d : Die) (lo n : Nat) : Nat := fieldOf (rmGet s.die[d].settings (regKey 14 d.val)) lo n

/-- T_C of R325, ns. -/
def convTime (s : State) (d : Die) : Nat := svField s d 0 5 * 1000 + 2 ^ (min 4 (svField s d 5 3)) * 1000 + 250

/-- Range of an item's result (Table 11.6), µA or mV; the health items and V(LPk_SN) have none there. -/
def routineRange : SvItem → Option (Int × Int)
  | .chI _ => some (-1500000, 14500000)
  | .chV _ => some (-80000, 80000)
  | .loopV _ => some (-10000, 70000)
  | _ => none

def urgentRange : UrgItem → Option (Int × Int)
  | .sampleI k => routineRange (.chI k)
  | .sampleV k => routineRange (.chV k)
  | _ => none

/-- The result of a conversion: the mean of the OS samples, rounded towards minus infinity, inside the item's range (R325). -/
def convResult (s : State) (d : Die) (range : Option (Int × Int)) (samples : List Int) : Int :=
  let n := 2 ^ (min 4 (svField s d 5 3))
  let m : Int := (samples.take n).foldl (fun a x => a + x) 0 / (n : Nat)
  match range with
  | some r => max r.1 (min r.2 m)
  | none => m

def svUpd (s : State) (d : Die) (f : SurveySt → SurveySt) : State := { s with survey := vmod s.survey d f }

/-- The field die, when the die is one. -/
def asField (d : Die) : Option FDie := if h : d.val < 4 then some ⟨d.val, h⟩ else none

/-- Register `w` of loop `k`'s block on page 12, as LD uses it (R451). -/
def lpWord (s : State) (k w : Nat) : Word := rmGet s.die[(4 : Die)].settings (regKey 12 (0x40 + 0x10 * k + w))
def lpField (s : State) (k w lo n : Nat) : Nat := fieldOf (lpWord s k w) lo n

/-- LPCFG_k.MODE, and HMIN in mV. -/
def lpMode (s : State) (k : Nat) : Nat := lpField s k 0 0 2
def hminMv (s : State) (k : Nat) : Nat := lpField s k 1 0 8 * 100

/-- V_TX of R289 in nV. -/
def vtxNv (s : State) (k : Chan) : Int := s.loop[k].v * 1000000 - s.loop[k].i * (lpField s k.val 1 8 10 : Nat)

/-- The headroom of the loop is evaluated: TWO_WIRE with HMIN not 0 (R289). -/
def headOn (s : State) (k : Chan) : Bool := powered s 4 && lpMode s k.val = 1 && hminMv s k.val != 0

/-- The condition that would change HEADROOM: V_TX below HMIN, or at or above HMIN + 0.5 V while it is set. -/
def headCond (s : State) (k : Chan) : Bool :=
  headOn s k &&
    if s.loop[k].headroom then decide ((hminMv s k.val + 500 : Nat) * 1000000 ≤ vtxNv s k)
    else decide (vtxNv s k < (hminMv s k.val : Nat) * 1000000)

/-- The estimate is evaluated: since when the condition has held without a break (R289). -/
def headTrack (s : State) (k : Chan) : State :=
  let a := if headCond s k then (if s.loop[k].headAt.isSome then s.loop[k].headAt else some s.mono) else none
  { s with loop := vmod s.loop k fun l => { l with headAt := a } }

/-- The items of one scan (Table 11.6), the channels' pairs in ascending local number (log entry 14). -/
def scanItems (s : State) (d : Die) : List SvItem :=
  match asField d with
  | some f =>
    ((List.range 16).filter fun k => chMode s f k != 0).flatMap (fun k => [SvItem.chI k, SvItem.chV k]) ++
      [.supply, .aux, .temp2, .ref, .gnd]
  | none => ((List.range 16).filter fun k => lpMode s k != 0).map SvItem.loopV ++ [.supply, .aux, .temp2, .ref, .gnd]

/-- Place of an item in the scan order. -/
def svRank : SvItem → Nat
  | .chI k => 2 * k
  | .chV k => 2 * k + 1
  | .loopV k => k
  | .supply => 100
  | .aux => 101
  | .temp2 => 102
  | .ref => 103
  | .gnd => 104

/-- The first item of the scan whose place is past `r`. -/
def itemAfter (s : State) (d : Die) (r : Nat) : Option SvItem := (scanItems s d).find? fun i => decide (r < svRank i)

/-- The scan starts again at its first item: SCANS, LAST and MAX (SVSTAT_d, SVSCAN_d). -/
def scanDone (s : State) (d : Die) : State :=
  let us := min 65535 ((s.mono - s.survey[d].scanAt) / 1000)
  svUpd s d fun v => { v with scans := (v.scans + 1) % 256, last := us, max := max v.max us, scanAt := s.mono }

/-- t_f of R327, ns: the follow time of Table 8.2 at the present VBB and SLEW. -/
def followTime (s : State) (d : FDie) (k : Nat) : Nat :=
  let v := (fld s d).vbb.toNat
  if chBit s d k 0 3 then 8000 + (v * 8 + 44) / 45 else 8000 + (v * 8 + 14) / 15

/-- The routine pair of an output channel must not close yet (R327); the demand of an upper half is that of its pair. -/
def suppressed (s : State) (d : Die) (k : Nat) : Bool :=
  match asField d with
  | some f =>
    if h : k < 16 then
      let g := govOf s f ⟨k, h⟩
      svField s d 8 1 = 1 && isOutput s f g.val && decide (s.mono < (chan s f g).demandEdge + followTime s f g.val)
    else false
  | none => false

/-- From item `i` on, pairs that must not close yet are put off (R327). `n` bounds the steps. -/
def skipPairs (d : Die) : Nat → State → SvItem → State × SvItem
  | 0, s, i => (s, i)
  | n + 1, s, i =>
    match i with
    | .chI k =>
      if suppressed s d k then
        let s1 := svUpd s d fun v => { v with late := v.late.filter (fun j => j != k) ++ [k] }
        match itemAfter s1 d (2 * k + 1) with
        | some j => skipPairs d n s1 j
        | none => (scanDone s1 d, .supply)
      else (s, i)
    | _ => (s, i)

/-- A pair selected earlier that must not close now is put off, and the item that follows is taken in its place (R327). -/
def putOff (s : State) (d : Die) : State :=
  let v := s.survey[d]
  match v.item with
  | .chI k =>
    if !suppressed s d k then s
    else
      let q := match v.resume with
        | some r => skipPairs d 17 (svUpd s d fun v => { v with late := v.late.filter (fun j => j != k) ++ [k] }) r
        | none => skipPairs d 17 s v.item
      svUpd q.1 d fun v => { v with item := q.2, resume := none, aborts := 0, begun := false }
  | _ => s

/-- A routine conversion starts: a pair of an output closes at its I item; an item aborted twice is guarded (R326, R330). -/
def startRoutine (s0 : State) (d : Die) : State :=
  let s := putOff s0 d
  let v := s.survey[d]
  let g := decide (2 ≤ v.aborts)
  let s1 := svUpd s d fun v =>
    { v with startAt := s.mono, begun := true, urgent := false, row := 0, guard := g, guards := if g then satAdd 255 v.guards 1 else v.guards }
  match v.item, asField d with
  | .chI k, some f =>
    if h : k < 16 then
      (if isOutput s1 f k then updChan s1 f ⟨k, h⟩ fun c => { c with routineAt := s.time } else s1)
    else s1
  | _, _ => s1

/-- After a routine conversion: a pair put off whose time has come goes first, then the scan goes on (R327). -/
def nextRoutine (s : State) (d : Die) : State :=
  let v := s.survey[d]
  let follow : Option SvItem :=
    match v.resume, v.item with
    | some r, .chV _ => some r
    | _, i => itemAfter s d (svRank i)
  let base : State × SvItem :=
    match follow with
    | some i => (s, i)
    | none => (scanDone s d, ((scanItems s d).head?).getD .supply)
  let s1 := base.1
  match v.item, v.late.find? (fun k => !suppressed s1 d k) with
  | .chI k, _ => svUpd s1 d fun v => { v with item := .chV k, begun := false, aborts := 0 }
  | _, some k =>
    svUpd s1 d fun v => { v with item := .chI k, begun := false, resume := some base.2, late := v.late.filter (fun j => j != k), aborts := 0 }
  | _, none =>
    let q := skipPairs d 17 s1 base.2
    svUpd q.1 d fun v => { v with item := q.2, begun := false, resume := none, aborts := 0 }

/-- The windows of Table 11.7: REF in µV, GND as the converter code. -/
def refInside (uV : Int) : Bool := decide (1243750 ≤ uV ∧ uV ≤ 1256250)
def gndInside (lsb : Int) : Bool := decide (-16 ≤ lsb ∧ lsb ≤ 16)

/-- A judged health result: the flag and its count of results inside the window (R328). -/
def judge (flag : Bool) (ok : Nat) (inside : Bool) : Bool × Nat :=
  if !inside then (true, 0) else (flag && decide (ok + 1 < 2), min 2 (ok + 1))

/-- The result of a routine item (R326, R328, Table 11.7). `result` is in µA, mV, 1/16 °C or, for REF, µV; `lsb` is the converter code of REF and GND, and TEMP2 minus the substrate sensor. -/
def routineResult (s : State) (d : Die) (result lsb : Int) : State :=
  let v := s.survey[d]
  let flagged (s : State) (old new : Bool) (code : Nat) (arg : Int) : State :=
    if new ∧ !old then dieLedger s d code 0 (codeOf 32 arg) else s
  match v.item with
  | .chI k =>
    (match asField d with
    | some f => if h : k < 16 then updChan s f ⟨k, h⟩ fun c => { c with routineI := satInt 32 result } else s
    | none => s)
  | .chV k =>
    (match asField d with
    | some f =>
      if h : k < 16 then
        updChan s f ⟨k, h⟩ fun c =>
          { c with
            iUa := c.routineI, vMv := satInt 32 result, holdAt := c.routineAt }
      else s
    | none => s)
  | .loopV k =>
    if h : k < 16 then headTrack { s with loop := vmod s.loop ⟨k, h⟩ fun l => { l with v := satInt 32 result } } ⟨k, h⟩ else s
  | .supply =>
    (match asField d with
    | some f => updField s f fun x => { x with vbb := satInt 32 result }
    | none => { s with ld := { s.ld with vlb := satInt 32 result, vlbLow := s.ld.vlbLow && decide (result < 17000) } })
  | .aux =>
    let j := judge v.supErr v.okSup (decide (4750 ≤ result ∧ result ≤ 5250))
    flagged (svUpd s d fun v => { v with supErr := j.1, okSup := j.2 }) v.supErr j.1 (if d.val < 4 then 52 else 72) result
  | .temp2 =>
    let j := judge v.tempErr v.okTemp (decide (-160 ≤ lsb ∧ lsb ≤ 160))
    let s1 := if d.val < 4 then s else { s with ld := { s.ld with temp := satInt 16 (result - lsb) } }
    flagged (svUpd s1 d fun v => { v with tempErr := j.1, okTemp := j.2 }) v.tempErr j.1 73 lsb
  | .ref =>
    let j := judge v.refErr v.okRef (refInside result)
    flagged (svUpd s d fun v => { v with refErr := j.1, okRef := j.2 }) v.refErr j.1 70 lsb
  | .gnd =>
    let j := judge v.gndErr v.okGnd (gndInside lsb)
    flagged (svUpd s d fun v => { v with gndErr := j.1, okGnd := j.2 }) v.gndErr j.1 71 lsb

/-- The first queued urgent conversion starts; the first of a burst measures its wait (SVURG_d). -/
def startUrgent (s : State) (d : Die) : State :=
  match s.survey[d].queue with
  | [] => s
  | e :: _ =>
    let w := min 255 ((s.mono - e.2.2) / 250)
    svUpd s d fun v =>
      { v with urgent := true, guard := false, startAt := s.mono, row := v.row + 1, burst := true,
               maxWait := if v.burst then v.maxWait else max v.maxWait w }

/-- The channel or loop of an urgent request. -/
def urgIndex : UrgItem → Nat
  | .sampleI k => k
  | .sampleV k => k
  | .loopSn k => k
  | .testRef => 16
  | .testGnd => 17

/-- A request joins the queue in order of hold instant, at equal instants in order of channel number (R329). -/
def insertUrg (x : UrgItem × Nat × Nat) : List (UrgItem × Nat × Nat) → List (UrgItem × Nat × Nat)
  | [] => [x]
  | y :: r => if x.2.1 < y.2.1 ∨ (x.2.1 = y.2.1 ∧ urgIndex x.1 < urgIndex y.1) then x :: y :: r else y :: insertUrg x r

/-- An urgent request with the hold instant `t`; the conversion that runs stays at the head. -/
def urgPut (s : State) (d : Die) (i : UrgItem) (t : Nat) : State :=
  svUpd s d fun v =>
    { v with queue := if v.urgent then v.queue.take 1 ++ insertUrg (i, t, s.mono) (v.queue.drop 1) else insertUrg (i, t, s.mono) v.queue }

/-- One result of a converter test: counted, and its FAIL bit set outside the window (R425). -/
def testResult (s : State) (d : Die) (bit : BitVec 16) (inside : Bool) : State :=
  updTest s 9 d.val fun a => { a with count := a.count + 1, fail := if inside then a.fail else a.fail ||| bit }

/-- A request of a converter test (R425). -/
def testReq : UrgItem → Bool
  | .testRef | .testGnd => true
  | _ => false

/-- A converter test asks for its 32 conversions of REF and its 32 of GND as urgent requests (R425; their order is log entry 68). -/
def testRequests (s : State) (d : Die) : State :=
  (List.replicate 32 UrgItem.testRef ++ List.replicate 32 UrgItem.testGnd).foldl (fun s i => urgPut s d i (dieTime s d)) s

/-- The requests of a converter test that still wait are taken out; a conversion that runs completes. -/
def testWithdraw (s : State) (d : Die) : State :=
  svUpd s d fun v =>
    let keep := fun (e : UrgItem × Nat × Nat) => !testReq e.1
    { v with queue := if v.urgent then v.queue.take 1 ++ (v.queue.drop 1).filter keep else v.queue.filter keep }

/-- The result of the urgent conversion at the head of the queue (R207, R292, R326, R425); `lsb` is the converter code of GND. -/
def urgentResult (s : State) (d : Die) (result lsb : Int) : State :=
  match s.survey[d].queue with
  | [] => s
  | e :: r =>
    let s1 := svUpd s d fun v => { v with queue := r, burst := v.burst && decide (r ≠ []), urgCount := (v.urgCount + 1) % 65536 }
    match e.1, asField d with
    | .sampleI k, some f =>
      if h : k < 16 then updChan s1 f ⟨k, h⟩ fun c => { c with sampleI := satInt 32 result } else s1
    | .sampleV k, some f =>
      if h : k < 16 then
        updChan s1 f ⟨k, h⟩ fun c =>
          { c with smp := some (c.sampleI, satInt 32 result, e.2.1), iUa := c.sampleI, vMv := satInt 32 result,
                   holdAt := e.2.1, sample := none }
      else s1
    | .loopSn k, none =>
      if h : k < 16 then
        { s1 with loop := vmod s1.loop ⟨k, h⟩ fun l => if l.ow.step = 2 ∧ 500 < result then { l with ow := { l.ow with sn := true } } else l }
      else s1
    | .testRef, _ => testResult s1 d 1 (refInside result)
    | .testGnd, _ => testResult s1 d 2 (gndInside lsb)
    | _, _ => s1

/-- The converter of a die runs: powered, ready and past the die's first commit (R325, R451). -/
def svRuns (s : State) (d : Die) : Bool := ready s d && !s.die[d].fresh

/-- SURVEY_CONVERSION_DONE: the running conversion completes and the next one starts: urgent ones in queue order, at most four between two routine starts while a routine item waits (R330). -/
def execSurveyConversionDone (d : Die) (samples : List Int) (lsb : Int) (s : State) : Out :=
  .next (
    if !svRuns s d then s
    else
      let s1 := monoTo s (s.survey[d].startAt + convTime s d)
      if s.survey[d].urgent then
        let range := (s.survey[d].queue.head?).bind fun e => urgentRange e.1
        let s2 := urgentResult s1 d (convResult s d range samples) lsb
        if s2.survey[d].queue ≠ [] ∧ s2.survey[d].row < 4 then startUrgent s2 d else startRoutine s2 d
      else
        let s2 := nextRoutine (routineResult s1 d (convResult s d (routineRange s.survey[d].item) samples) lsb) d
        if s2.survey[d].queue ≠ [] then startUrgent (svUpd s2 d fun v => { v with row := 0 }) d
        else startRoutine s2 d)

/-- Step 2 of R292 runs on a loop, and a reading of its V(LPk_SN) is still to come: one every 1 ms while the step runs, the first 1 ms after its start (log entry 75). -/
def snDue (s : State) (k : Chan) : Option Nat :=
  let o := s.loop[k].ow
  if o.step = 2 ∧ o.snNext < o.startAt + 10000000 then some o.snNext else none

/-- The readings of V(LPk_SN) that fall due next become urgent requests (R329). -/
def snRequests (s : State) : State :=
  match chans16.filterMap (snDue s) with
  | [] => s
  | t0 :: r =>
    let t := r.foldl min t0
    (chans16.filter fun k => decide (snDue s k = some t)).foldl
      (fun s k => urgPut { s with loop := vmod s.loop k fun l => { l with ow := { l.ow with snNext := t + 1000000 } } } 4 (.loopSn k.val) t)
      (dieTimeTo s 4 t)

/-- URGENT_REQUEST: an urgent request arrives: on LD the readings of V(LPk_SN) that fall due next, elsewhere the queued sample pairs. An unguarded routine conversion is aborted and started again later; otherwise the request waits (R329, R330). -/
def execUrgentRequest (d : Die) (s : State) : Out :=
  .next (
    if !svRuns s d then s
    else
      let s1 := if d.val = 4 then snRequests s else s
      let v := s1.survey[d]
      if v.queue ≠ [] ∧ !v.urgent ∧ !v.guard then
        startUrgent (svUpd s1 d fun v => { v with aborts := v.aborts + 1, row := 0 }) d
      else s1)

/-- A sample pair closes at TIME (R207, R331): its two urgent requests join the queue in order of hold instant and channel; a pair still unconverted drops the new sample. -/
def closeSample (f : FDie) (t : Nat) (s : State) (k : Chan) : State :=
  if (chan s f k).sample.isSome then svUpd s (toDie f) fun v => { v with lost := satAdd 255 v.lost 1 }
  else
    urgPut (urgPut (updChan s f k fun c => { c with sample := some t }) (toDie f) (.sampleI k.val) t) (toDie f) (.sampleV k.val) t

/-- A converter starts its scan at the die's first commit (R451); a test asked for before goes on. -/
def startSurvey (s : State) (d : Die) : State :=
  startRoutine (svUpd s d fun v =>
    { v with item := ((scanItems s d).head?).getD .supply, begun := false, aborts := 0, urgent := false, queue := v.queue.filter fun e => testReq e.1,
             burst := false, row := 0, late := [], resume := none, scanAt := s.mono }) d

end Sys2Proof.Machine
end

