-- ==== Sys2Proof/Machine/LoopOps.lean ====
section
/-!
DEFINITION. Shared operations of the loop die (10, 11): settings in force, the loop's status word and class (R293, R294), the arithmetic of the churn (R311 to R316), starts, steps and re-phases (R317 to R322), and the ends of trims and tests.
-/

namespace Sys2Proof.Machine

/-- LD as a die. -/
def ldDie : Die := 4

def updLoop (s : State) (k : Chan) (f : LoopSt → LoopSt) : State := { s with loop := vmod s.loop k f }
def updChurn (s : State) (k : Chan) (f : ChurnSt → ChurnSt) : State := updLoop s k fun l => { l with churn := f l.churn }
def updTrim (s : State) (k : Chan) (f : TrimSt → TrimSt) : State := updLoop s k fun l => { l with trim := f l.trim }
def updHart (s : State) (k : Chan) (f : HartSt → HartSt) : State := updLoop s k fun l => { l with hart := f l.hart }

/-- CHURNCFG_k, as LD uses it (R451). -/
def churnWord (s : State) (k : Nat) : Word := rmGet s.die[ldDie].settings (regKey 14 (0x40 + 4 * k))

/-- OPENWIRE (R291), and HEADROOM as the sole cause (R290). -/
def openWire (l : LoopSt) : Bool := l.owField || l.owPath
def headSole (l : LoopSt) : Bool := l.headroom && !l.limit && !l.foldback && !l.miswire && !openWire l

/-- LD runs its loops: it has barrier power. -/
def ldOn (s : State) : Bool := powered s ldDie

/-- The open-wire test holds loop `k`. -/
def owRuns (s : State) (k : Nat) : Bool := (mntFind s 6 k).isSome

/-- A trim claim or an open-wire test holds the loop (LPSTAT_k.MAINT). -/
def loopHeld (s : State) (k : Nat) : Bool := owRuns s k || (mntFind s 7 k).isSome

/-- LOOP_VALID bit k (R295, R324). -/
def loopValid (s : State) (k : Chan) : Bool :=
  let l := s.loop[k]
  ready s ldDie && lpMode s k.val != 0 && s.pwr.loopmodEff.getLsbD k.val && !loopHeld s k.val && l.churn.running &&
    l.churn.test.isNone && !s.survey[ldDie].refErr && !s.survey[ldDie].gndErr && l.churn.clean

/-- Rows 1 and 2 of Table 10.2; none where rows 3 to 8 decide. -/
def classFixed (s : State) (k : Chan) : Option Nat :=
  let l := s.loop[k]
  if lpMode s k.val = 0 ∨ !loopValid s k then some 0
  else if l.miswire || l.foldback || openWire l then some 4
  else none

/-- Rows 3 to 8 of Table 10.2 for a current in nA; with FAIL_LO 0 no current is classed by row 5. -/
def classOf (failLo measLo measHi failHi : Nat) (sole : Bool) (i : Int) : Nat :=
  if failHi * 1000 ≤ i then 5
  else if 0 < failLo ∧ i ≤ failLo * 1000 then (if sole then 2 else 4)
  else if i < measLo * 1000 then 2
  else if measHi * 1000 < i then 3
  else 1

/-- The class after an output with the stamp `t` (R294). -/
def classify (s : State) (k : Chan) (t : Nat) : State :=
  let l := s.loop[k]
  match classFixed s k with
  | some c => updLoop s k fun l => { l with cls := c, cand := c, candAt := t, special := true }
  | none =>
    let c := classOf (lpField s k.val 2 0 16) (lpField s k.val 2 16 16) (lpField s k.val 3 0 16) (lpField s k.val 3 16 16) (headSole l) l.i
    let filt := lpField s k.val 0 8 8 * 1000000
    if l.special then updLoop s k fun l => { l with cls := c, cand := c, candAt := t, special := false }
    else if l.cand = c then (if l.candAt + filt ≤ t then updLoop s k fun l => { l with cls := c } else s)
    else updLoop s k fun l => { l with cand := c, candAt := t, cls := if filt = 0 then c else l.cls }

/-! ## HART status -/

/-- The modem of loop `k` runs (R299). -/
def hartRuns (s : State) (k : Chan) : Bool :=
  s.pwr.modemEff.getLsbD k.val && lpMode s k.val != 0 && !s.loop[k].miswire && ready s ldDie

/-- A transaction is in progress: from its first preamble on (R300). -/
def hartInProgress (h : HartSt) : Bool := h.job != 0 && h.att != 0

/-- LPSTAT_k. -/
def lpstatWord (s : State) (k : Chan) : Word :=
  let l := s.loop[k]
  place 0 l.cls ||| placeB 3 l.headroom ||| placeB 4 (openWire l) ||| placeB 5 l.miswire ||| placeB 6 l.churn.settling |||
    placeB 7 (l.hart.cd || hartInProgress l.hart) ||| placeB 8 l.owField ||| placeB 9 l.owPath ||| placeB 10 l.limit |||
    placeB 11 l.foldback ||| placeB 12 l.supon ||| placeB 13 l.connected ||| placeB 14 (loopHeld s k.val)

/-! ## The churn's arithmetic (R311 to R316) -/

def sat24 (i : Int) : Int := max (-8388608) (min 8388607 i)

/-- ceil(log2 N). -/
def ceilLog2 (n : Nat) : Nat := if n ≤ 1 then 0 else Nat.log2 (n - 1) + 1

/-- GN, rounded to the nearest whole number. -/
def gainN (n : Nat) : Nat := (2 * 2 ^ (16 + 3 * ceilLog2 n) + n ^ 3) / (2 * n ^ 3)

/-- y1 from the wrapped difference. -/
def stage1 (n : Nat) (c : BitVec 50) : Int := sat24 (c.toInt * (gainN n : Nat) / (2 ^ (3 * ceilLog2 n - 7) : Nat))

/-- Table 11.2 over 15 taps. -/
def halfBand : List Int := [-160, 0, 1568, 0, -7840, 0, 39200, 65536, 39200, 0, -7840, 0, 1568, 0, -160]

def dot (a b : List Int) : Int := (List.zipWith (· * ·) a b).foldl (· + ·) 0

def stage2 (h : List Int) : Int := sat24 (dot halfBand h / 131072)

/-- The sum of the first `n` coefficients of a ROM set. -/
def romSum (set : Bool) (n : Nat) : Int := ((List.range n).map (Config.firHalf set)).foldl (fun a x => a + x) 0

/-- Coefficient i of ROM set 0 or 1: symmetric, h_i = h_(31−i), and their sum is 2^20, so the two in the middle follow from the others (R313). -/
def firRom (set : Bool) (i : Nat) : Int :=
  let j := min i (31 - i)
  if j < 15 then Config.firHalf set j else 2 ^ 19 - romSum set 15

/-- Coefficient i of a set (R313). -/
def firCoef (s : State) (set i : Nat) : Int :=
  match set with
  | 0 => firRom false i
  | 1 => firRom true i
  | 2 => 32768
  | _ => signedOf 24 (fieldOf (rmGet s.die[ldDie].settings (regKey 14 (0x80 + i))) 0 24)

def stage3 (s : State) (set : Nat) (h : List Int) : Int := sat24 (dot ((List.range 32).map (firCoef s set)) h / 1048576)

/-- R315 and the saturation of R282. -/
def satLoop (i : Int) : Int := max (-1000000) (min 26000000 i)
def rawOf (y3 : Int) : Int := satLoop (y3 * 625 / 128)

/-- R282. -/
def trimmed (s : State) (k : Nat) (r : Int) : Int :=
  satLoop (r * (lpWord s k 4).toNat / 1073741824 + (lpWord s k 5).toInt)

/-! ## Edges of MODCLK (R308): edge e stands at e × 15,625 / 64 ns -/

/-- The first edge not before device time `t`. -/
def edgeFrom (t : Nat) : Nat := (t * 64 + 15624) / 15625

/-- Device time of an edge, rounded down to a whole 4 ns. -/
def edgeTime (e : Nat) : Nat := e * 15625 / 256 * 4

/-- The stamp of the output at an edge (R323). -/
def outStamp (e : Nat) : Nat := (e * 15625 + 64000) / 256 * 4

/-- Bits of a stage 1 span and of an output's span (R316). -/
def span1 (n : Nat) : Nat := 3 * n - 2
def spanOut (n : Nat) : Nat := 79 * n - 2

/-- Re-phases of a chain that have not given their output. -/
def pendingRp (c : ChurnSt) : Nat := c.waiting.length + (if c.target.isSome then 1 else 0)

/-- Combs and histories start empty at edge `e`; the integrators' running on cancels in the differences (R321). -/
def emptyChain (c : ChurnSt) (e : Nat) : ChurnSt :=
  { c with edge := e, a1 := 0, a2 := 0, a3 := 0, z1 := 0, z2 := 0, z3 := 0, h2 := [], h3 := [], bits := 0, cleanBits := 0 }

/-- A START of a chain with ratio `n` and set `set` (R317, R318, R322). -/
def startChain (c : ChurnSt) (now n set : Nat) : ChurnSt :=
  { emptyChain c (edgeFrom now) with
    running := true, grid := 0, n := n, set := set, fill := false, target := none, lateTarget := false, waiting := [],
    hasStep := false, seq := 0, clean := false, settling := true, y1 := 0, y2 := 0, y3 := 0,
    rpLate := satAdd 255 c.rpLate (pendingRp c), starts := satAdd 255 c.starts 1, testPos := 0 }

/-- A START with the configured settings; one that meets a chain test leaves the test's own (R332). -/
def startChurn (s : State) (k : Chan) : State :=
  let w := churnWord s k.val
  updChurn s k fun c =>
    match c.test with
    | some _ => startChain c (dieTime s ldDie) 4096 0
    | none => startChain c (dieTime s ldDie) (fieldOf w 0 16) (fieldOf w 16 2)

/-- The modulator stops. -/
def stopChurn (s : State) (k : Chan) : State :=
  updChurn s k fun c => { c with running := false, clean := false, rpLate := satAdd 255 c.rpLate (pendingRp c), waiting := [], target := none }

/-- The loop's modulator runs: its bit is 1 and LD is ready (R283). -/
def modulatorOn (s : State) (k : Chan) : Bool := s.pwr.loopmodEff.getLsbD k.val && ready s ldDie && !s.die[ldDie].fresh

/-- The chain should run: on the modulator's bits, or on a test pattern in place of them (R317, R332). -/
def churnWanted (s : State) (k : Chan) : Bool :=
  modulatorOn s k || (s.loop[k].churn.test.isSome && ready s ldDie && !s.die[ldDie].fresh)

/-- Chains start and stop as their modulators do. -/
def churnSync (s : State) (k : Chan) : State :=
  if churnWanted s k ∧ !s.loop[k].churn.running then startChurn s k
  else if !churnWanted s k ∧ s.loop[k].churn.running then stopChurn s k
  else s

/-- A STEP that begins at device time `t` and lasts 100 µs (R317, R320); the bits already taken after its end are clean. -/
def stepChurn (c : ChurnSt) (t : Nat) : ChurnSt :=
  let a := edgeFrom t
  let b := edgeFrom (t + 100000)
  { c with stepFrom := a, stepTo := b, hasStep := true, cleanBits := if c.edge ≤ a then c.cleanBits else min c.cleanBits (c.edge - b) }

/-- t_o of R321 for TIME and ratio N: the edge whose centre lies nearest, the earlier one at a tie. -/
def rephaseEdge (t n : Nat) : Nat := (2 * (128 * t + 15625 * (79 * n - 3)) + 31249) / 62500

/-- The phase moves at edge `e` for the output at `to`; a late one shifts in and counts (R321, R322). -/
def movePhase (c : ChurnSt) (e tO : Nat) (late : Bool) : ChurnSt :=
  { emptyChain c e with
    grid := tO, fill := !late, target := some tO, lateTarget := late, settling := true,
    rpLate := if late then satAdd 255 c.rpLate 1 else c.rpLate }

/-- LD accepts a SAMPLE entry for a loop whose chain runs (R321, R322): it waits for its t_p, or moves the phase now when that has passed. -/
def acceptRephase (c : ChurnSt) (now t : Nat) : ChurnSt :=
  if !c.running then c
  else
    let tO := rephaseEdge t c.n
    let e := max c.edge (edgeFrom now)
    if c.target.isNone && c.waiting.isEmpty && decide (tO - (79 * c.n - 3) < edgeFrom now) then movePhase c e tO true
    else { c with waiting := c.waiting ++ [(tO, t)] }

/-- LD discards its pending entries, and with them the re-phases that wait for an instant before their TIME (R205). -/
def ldDiscard (s : State) : State :=
  chans16.foldl (fun s k => updChurn s k fun c => { c with waiting := c.waiting.filter fun e => decide (e.2 < dieTime s ldDie) })
    { s with ld := { s.ld with pend := [] } }

/-- The first waiting re-phase is carried out when its time has come: on time at its t_p, late after the one before it. -/
def takeRephase (c : ChurnSt) : ChurnSt :=
  match c.target, c.waiting with
  | none, (tO, _) :: r =>
    let tp := tO - (79 * c.n - 3)
    if c.edge = tp then movePhase { c with waiting := r } c.edge tO false
    else if tp < c.edge then movePhase { c with waiting := r } c.edge tO true
    else c
  | _, _ => c

/-! ## Ends of loop activities -/

/-- The trim of loop `k` ends FAILED with an error (R298). -/
def trimFail (s : State) (k : Chan) (err endState : Nat) : State :=
  mntEndOf (updTrim s k fun t => { t with state := 5, err := err, point := 0, wfrom := none }) 7 k.val endState

/-- A condition that ends a trim whose point averages (R298). -/
def trimLoopFault (s : State) (k : Chan) : State := if s.loop[k].trim.state = 1 then trimFail s k 6 endFail else s

/-- OPENWIRE rises: LOOP_OW with its kind, and the count (R291). -/
def owRise (s : State) (k : Chan) (was : Bool) (kind : Nat) : State :=
  if !was ∧ openWire s.loop[k] then dieLedger (updLoop s k fun l => { l with evOw := satAdd 255 l.evOw 1 }) ldDie 68 k.val kind
  else s

def updOw (s : State) (k : Chan) (f : OwSt → OwSt) : State := updLoop s k fun l => { l with ow := f l.ow }

/-- A test current of the loop is switched at LD's time `t`. -/
def owSwitch (s : State) (k : Chan) (t : Nat) : State := updChurn s k fun c => stepChurn c t

/-- A test current flows (steps 2 and 4). -/
def owCurrent (o : OwSt) : Bool := o.step = 2 || o.step = 4

/-- The running test of a loop ends in a state (Table of OWSTAT); a current that still flows is switched off. -/
def owEnd (s : State) (k : Chan) (state endState : Nat) : State :=
  let s1 := if owCurrent s.loop[k].ow then owSwitch s k (dieTime s ldDie) else s
  mntEndOf (updOw s1 k fun o => { o with state := state, step := 0, avgFrom := none, sn := false }) 6 k.val endState

/-- Step 2 of R292 begins: 50 µA out of LPk_SN. -/
def owStep2 (s : State) (k : Chan) : State :=
  let t := dieTime s ldDie
  owSwitch (updOw s k fun o => { o with step := 2, startAt := t, sn := false, snNext := t + 1000000 }) k t

/-- A test that waits for the loop's HART transaction goes on (step 1 of R292). -/
def owGoOn (s : State) (k : Chan) : State := if s.loop[k].ow.step = 1 then owStep2 s k else s

/-! ## HART transactions (R300 to R304) -/

/-- The loop's job ends, with IRQ source HART (Table 14.6); a waiting open-wire test goes on (step 1 of R292). -/
def hartIdle (s : State) (k : Chan) : State :=
  let s0 := if s.loop[k].hart.job = 0 then s else irq s 7
  owGoOn (updHart s0 k fun h => { h with job := 0, att := 0, waiting := false, scan := none }) k

/-- A queued or running transaction ends ABORTED, and a scan ends (R301, R302). -/
def hartAbort (s : State) (k : Chan) : State :=
  if s.loop[k].hart.job = 0 then s
  else if s.loop[k].hart.job = 1 then hartIdle (updHart s k fun h => { h with state := 4, err := 3 }) k
  else hartIdle s k

/-- A modem that no longer runs aborts its transaction and detects no carrier (R302). -/
def hartSync (s : State) (k : Chan) : State :=
  if hartRuns s k then s else hartAbort (updHart s k fun h => { h with cd := false }) k

/-- Page 13 offset of the directory entry of loop `k`, polling address `a`. -/
def hdirOff (k a w : Nat) : Nat := 0x1000 + 0x200 * k + 8 * a + w

def hdirPut (s : State) (k a w : Nat) (v : Word) : State :=
  { s with ld := { s.ld with hdir := rmSet s.ld.hdir (hdirOff k a w) v, hdirDirty := true } }

def hdirGet (s : State) (k a w : Nat) : Word := rmGet s.ld.hdir (hdirOff k a w)

/-- A failed command 0: PRESENT clears after a scan's last try, and FAIL counts (R304). -/
def hdirFail (s : State) (k a : Nat) (scan : Bool) : State :=
  let w5 := hdirGet s k a 5
  let s1 := hdirPut s k a 5 (place 0 (fieldOf w5 0 16) ||| place 16 (satAdd 65535 (fieldOf w5 16 16) 1))
  if scan then hdirPut s1 k a 0 (hdirGet s1 k a 0 &&& ~~~(1#32)) else s1

/-- The latest burst frame of the loop comes from the device at polling address `a` with the long address `long`: the device reports burst mode. -/
def burstOf (h : HartSt) (a : Nat) (long : List Byte) : Bool :=
  match (h.burst.drop 2).flatMap beBytes with
  | d :: b :: r =>
    (d == 0x01#8 && decide ((b &&& 0x3F#8).toNat = a)) || (d == 0x81#8 && (b &&& 0x3F#8) :: r.take 4 == long)
  | _ => false

/-- A reply to command 0 (R304; its data bytes as the HART universal command gives them, log entry 21). `rc` is its response code. -/
def hdirReply (s : State) (loop : Chan) (a rc : Nat) (data : List Byte) : State :=
  let k := loop.val
  let b (i : Nat) : Nat := (data.getD i 0).toNat
  let w5 := hdirGet s k a 5
  let burst := burstOf s.loop[loop].hart a ((data.getD 1 0 &&& 0x3F#8) :: data.getD 2 0 :: (data.drop 9).take 3)
  let s1 := hdirPut s k a 0 (placeB 0 true ||| placeB 1 burst ||| placeB 2 true ||| place 8 rc)
  let s2 := hdirPut s1 k a 1 (place 0 (b 1 * 256 + b 2) ||| place 16 (b 5) ||| place 24 (b 4))
  let s3 := hdirPut s2 k a 2 (place 0 ((b 9 * 256 + b 10) * 256 + b 11) ||| place 24 (b 3))
  let s4 := hdirPut (hdirPut s3 k a 3 (loWord s.time)) k a 4 (hiWord s.time)
  hdirPut s4 k a 5 (place 0 (satAdd 65535 (fieldOf w5 0 16) 1) ||| place 16 (fieldOf w5 16 16))

/-- Check byte: exclusive-or of the bytes. -/
def xorBytes (l : List Byte) : Byte := l.foldl (· ^^^ ·) 0

/-- The short request of command 0 to a polling address. -/
def scanReq (a : Nat) : List Byte :=
  let b : List Byte := [0x02#8, BitVec.ofNat 8 (0x80 + a % 64), 0x00#8, 0x00#8]
  b ++ [xorBytes b]

/-- The request frame of HREQ_k, HLA and HBUF_k from its delimiter (Table 10.3). -/
def hartReq (s : State) (k : Nat) : List Byte :=
  let w := cfgWord s 13 (0x40 + 8 * k)
  let n := fieldOf w 16 8
  let data := (((List.range 64).map fun i => beBytes (cfgWord s 13 (0x200 + 0x40 * k + i))).flatten).take n
  let addr : List Byte := if bitOf w 6 then
      BitVec.ofNat 8 (0x80 + cfgField s 13 (0x41 + 8 * k) 0 6) :: beBytes (cfgWord s 13 (0x42 + 8 * k))
    else [BitVec.ofNat 8 (0x80 + fieldOf w 0 6)]
  let b : List Byte := [if bitOf w 6 then 0x82#8 else 0x02#8] ++ addr ++ [BitVec.ofNat 8 (fieldOf w 8 8), BitVec.ofNat 8 n] ++ data
  b ++ [xorBytes b]

/-- A try fails: the next one waits, or the job's request has failed (R300). A scan goes on with its next address. -/
def hartFail (s : State) (k : Chan) (err : Nat) : State :=
  let h := s.loop[k].hart
  let s1 := updHart s k fun h => { h with waiting := false, failErr := err, quietFrom := s.mono }
  if h.att < 1 + fieldOf (cfgWord s 13 0) 5 3 then s1
  else if h.job = 1 then
    let a := (h.req.getD 1 0).toNat % 64
    let s2 := updHart s1 k fun h => { h with state := 4, err := err }
    hartIdle (if h.req.getD 0 0 = 0x02#8 ∧ h.req.getD 2 1 = 0x00#8 then hdirFail s2 k.val a false else s2) k
  else
    match h.scan with
    | some (a, last) =>
      let s2 := hdirFail s1 k.val a true
      if last ≤ a then hartIdle s2 k
      else owGoOn (updHart s2 k fun h => { h with scan := some (a + 1, last), att := 0, req := scanReq (a + 1) }) k
    | none => hartIdle s1 k

/-! ## Settings and power of the loops -/

/-- The supply and the switch act on MODE (R281, R283); a loop that tripped stays open, and a ramp without TWO_WIRE ends (R288). -/
def modeSwitches (m : Nat) (l : LoopSt) : LoopSt :=
  if l.miswire ∧ (!l.ramp ∨ m = 1) then l
  else
    { l with
      supon := decide (m = 1), connected := decide (m ≠ 0), limit := l.limit && decide (m = 1), foldback := l.foldback && decide (m = 1)
      miswire := false, ramp := false }

/-- A loop under its MODE: in OFF its V_L is 0 (Table 10.1), and HEADROOM is for TWO_WIRE with HMIN not 0 (R289). -/
def loopMode (s : State) (k : Chan) : State :=
  let m := lpMode s k.val
  let s1 := updLoop s k fun l =>
    { modeSwitches m l with
      v := if m = 0 then 0 else l.v
      headroom := l.headroom && decide (m = 1) && decide (hminMv s k.val ≠ 0) }
  hartSync (headTrack s1 k) k

/-- Every loop in the reset state of Table 2.8 (R286). -/
def loopReset (s : State) (k : Chan) : State :=
  let s1 := hartAbort (stopChurn s k) k
  updLoop s1 k fun l =>
    { l with supon := false, connected := false, limit := false, foldback := false, miswire := false, ramp := false, trips := [],
             headroom := false, headAt := none, owField := false, owPath := false, owFailed := false, cls := 0, cand := 0, special := true,
             out := none, prev := none, centred := none,
             churn := { l.churn with test := none, settling := false, hasStep := false }
             hart := { l.hart with cd := false } }

end Sys2Proof.Machine
end

