-- ==== Sys2Proof/Machine/Churn.lean ====
section
/-!
DEFINITION. The churn filter chains at work (11): bits, combs, stages, outputs and their delivery (R311 to R324), overloads, re-phases, and the chain test (R332).
-/

namespace Sys2Proof.Machine

/-- The modulator bit, or the bit of the test pattern (Table 11.8). -/
def bitOrTest (c : ChurnSt) (x : Bool) : Bool :=
  match c.test with
  | none => x
  | some p =>
    match p.toNat with
    | 0 => true
    | 1 => false
    | 2 => decide (c.testPos % 2 = 0)
    | _ => decide (c.testPos % 4 = 0)

/-- The integrators take a bit at the chain's next edge (R311). -/
def takeBit (c : ChurnSt) (x : Bool) : ChurnSt :=
  let v : BitVec 50 := if bitOrTest c x then 1 else BitVec.ofInt 50 (-1)
  let a1 := c.a1 + v
  let a2 := c.a2 + a1
  let inStep := c.hasStep && decide (c.stepFrom ≤ c.edge) && decide (c.edge < c.stepTo)
  { c with
    a1 := a1, a2 := a2, a3 := c.a3 + a2, bits := c.bits + 1, cleanBits := if inStep then 0 else c.cleanBits + 1,
    edge := c.edge + 1, testPos := c.testPos + 1 }

/-- Edge `e` is `m` × N edges of the grid (R318). -/
def onGrid (c : ChurnSt) (e m : Nat) : Bool := decide (((e : Int) - c.grid) % ((m * c.n : Nat) : Int) = 0)

/-- Stage 3 at edge `e`: its value when its history is full and its instant has come. -/
def doStage3 (s : State) (c : ChurnSt) (e : Nat) (y2 : Int) : ChurnSt × Option Int :=
  if c.h3 = [] ∧ !c.fill then ({ c with h3 := List.replicate 32 y2 }, none)
  else
    let h := (y2 :: c.h3).take 32
    let c1 := { c with h3 := h }
    if h.length = 32 ∧ onGrid c e 8 then
      let y3 := stage3 s c.set h
      ({ c1 with y3 := y3 }, some y3)
    else (c1, none)

/-- Stages 2 and 3 at edge `e`, with a y1 whose span is whole; the first fills its history (R319), unless a re-phase fills it (R321). -/
def doStage2 (s : State) (c : ChurnSt) (e : Nat) (y1 : Int) : ChurnSt × Option Int :=
  if c.h2 = [] ∧ !c.fill then ({ c with h2 := List.replicate 15 y1 }, none)
  else
    let h := (y1 :: c.h2).take 15
    let c1 := { c with h2 := h }
    if h.length = 15 ∧ onGrid c e 2 then
      let y2 := stage2 h
      doStage3 s { c1 with y2 := y2 } e y2
    else (c1, none)

/-- The combs at edge `e` (R311), and the stages after them. -/
def combEdge (s : State) (c : ChurnSt) (e : Nat) : ChurnSt × Option Int :=
  if !onGrid c e 1 then (c, none)
  else
    let d1 := c.a3 - c.z1
    let d2 := d1 - c.z2
    let y1 := stage1 c.n (d2 - c.z3)
    let c1 := { c with z1 := c.a3, z2 := d1, z3 := d2 }
    if c.bits < span1 c.n then (c1, none) else doStage2 s { c1 with y1 := y1 } e y1

/-- The output at edge `e` is suppressed: its span meets a step, or its phase has a centred output to come (R320, R321). -/
def outSuppressed (c : ChurnSt) (e : Nat) : Bool :=
  (c.hasStep && decide (c.stepFrom ≤ e) && decide (e + 1 < c.stepTo + spanOut c.n)) ||
    match c.target with
    | some t => decide (e < t)
    | none => false

/-- Steps of the open-wire test whose time has come by LD's time `t` (R292): the current goes off after 10 ms, a mean is complete after 100 ms. -/
def owTick (s : State) (k : Chan) (t : Nat) : State :=
  let o := s.loop[k].ow
  match o.step, o.avgFrom with
  | 2, _ =>
    if o.startAt + 10000000 ≤ t ∧ !o.sn then
      owSwitch (updOw s k fun o => { o with step := 3, avgFrom := none }) k (o.startAt + 10000000)
    else s
  | 3, some f =>
    if f + 100000000 ≤ t then
      owSwitch (updOw s k fun o => { o with step := 4, avgFrom := none, r0 := (o.sum, o.cnt) }) k (f + 100000000)
    else s
  | 4, some f =>
    if f + 100000000 ≤ t then
      owSwitch (updOw s k fun o => { o with step := 5, avgFrom := none, r1 := (o.sum, o.cnt) }) k (f + 100000000)
    else s
  | 5, some f => if f + 100000000 ≤ t then updOw s k fun o => { o with step := 6, avgFrom := none, r2 := (o.sum, o.cnt) } else s
  | _, _ => s

/-- A settled output enters the mean of the running step. -/
def owTake (s : State) (k : Chan) (t : Nat) (r : Int) : State :=
  updOw s k fun o =>
    if o.step < 3 ∨ 5 < o.step then o
    else match o.avgFrom with
      | none => { o with avgFrom := some t, sum := r, cnt := 1 }
      | some _ => { o with sum := o.sum + r, cnt := o.cnt + 1 }

/-- A settled output enters the mean of a trim point (R296). -/
def trimTake (s : State) (k : Chan) (r : Int) : State :=
  updTrim s k fun t =>
    if t.state ≠ 1 then t
    else match t.wfrom with
      | none => { t with wfrom := some s.mono, sum := r, cnt := 1 }
      | some f => if s.mono < f + 1000000000 then { t with sum := t.sum + r, cnt := t.cnt + 1 } else t

/-- An output y3 at edge `e` (R315, R319 to R323): its values, its class, its delivery, and the means that take it. Not delivered are those that a step or a re-phase suppresses, and those before the first clean one but for that of a late re-phase (R322). -/
def churnOut (s : State) (k : Chan) (e : Nat) (y3 : Int) : State :=
  let s1 := owTick (dieTimeTo s ldDie (edgeTime e)) k (edgeTime e)
  let c := s1.loop[k].churn
  let good := decide (spanOut c.n ≤ c.cleanBits)
  let mid := decide (c.target = some e)
  let sup := outSuppressed c e || (!c.clean && !good && !mid)
  let r := rawOf y3
  let i := trimmed s1 k.val r
  let q := (c.seq + 1) % 2 ^ 32
  let o : LoopOut := { stamp := outStamp e, i := i, v := s1.loop[k].v, seq := q }
  let s2 := updLoop s1 k fun l =>
    { l with
      i := i, raw := r
      prev := if sup then l.prev else l.out
      out := if sup then l.out else some o
      centred := if mid then some o else l.centred
      churn := { l.churn with
        seq := q, lastSeq := q, lastStamp := outStamp e, clean := c.clean || (good && !sup), settling := sup || !good
        target := c.target.filter fun t => decide (e < t) } }
  let s3 := if c.test.isSome then { s2 with ld := { s2.ld with cvOuts := satAdd (2 ^ 24 - 1) s2.ld.cvOuts 1 } } else s2
  let s4 := classify (headTrack s3 k) k (outStamp e)
  if good && !sup then owTake (trimTake s4 k r) k (edgeTime e) r else s4

/-- CVTY1 to CVTY3 hold the latest stage outputs of a test (R332). -/
def testStages (s : State) (c : ChurnSt) : State :=
  if c.test.isSome then { s with ld := { s.ld with cvY1 := c.y1, cvY2 := c.y2, cvY3 := c.y3 } } else s

/-- One bit at the chain's next edge; a re-phase whose edge has come goes first. -/
def churnBit (k : Chan) (s : State) (x : Bool) : State :=
  let c := takeRephase s.loop[k].churn
  let e := c.edge
  let q := combEdge s (takeBit c x) e
  let s1 := testStages (updChurn s k fun _ => q.1) q.1
  match q.2 with
  | some y3 => churnOut s1 k e y3
  | none => s1

/-- CHURN_OUTPUT: the loop's modulator gives `bits` (1 for +1) at the following edges, and the chain gives the outputs that fall among them. -/
def execChurnOutput (k : Chan) (bits : List Bool) (s : State) : Out :=
  .next (if s.loop[k].churn.running then bits.foldl (churnBit k) s else s)

/-- REPHASE: the first waiting re-phase of the loop comes to its t_p (R321). -/
def execRephase (k : Chan) (s : State) : Out :=
  .next (
    let c := s.loop[k].churn
    match c.target, c.waiting with
    | none, (tO, _) :: _ =>
      let tp := tO - (79 * c.n - 3)
      let e := max c.edge tp
      updChurn (dieTimeTo s ldDie (edgeTime e)) k fun c => takeRephase { c with edge := e }
    | _, _ => s)

/-- MODULATOR_OVERLOAD (R309): LOOP_OVL, its count, and an OVERLOAD start. -/
def execModulatorOverload (k : Chan) (s : State) : Out :=
  .next (
    if modulatorOn s k then
      dieLedger (startChurn (updChurn s k fun c => { c with ovl := satAdd 255 c.ovl 1 }) k) ldDie 69 k.val 0
    else s)

/-! ## The chain test (R332) -/

def cvAct (p : Port) (k : Nat) : ActSt := { kind := 8, port := p.val, index := k, mask := 0, lo := 0, hi := 0, dir := false }

/-- CVTEST's checks. -/
def cvtestCheck (s : State) (p : Port) (w : Word) : Nat :=
  let op := fieldOf w 4 2
  if fieldOf w 24 8 ≠ 0x3E ∨ op = 0 ∨ op = 3 then 0x0A
  else if op = 1 then (match mntDecide s (cvAct p (fieldOf w 0 4)) with | none => 0 | some r => r.code)
  else 0

/-- The test of loop `k` stops, and its chain starts with its settings when its modulator is on. -/
def cvStop (s : State) (k : Chan) (endState : Nat) : State :=
  let s1 := updChurn s k fun c => { c with test := none }
  let s2 := if churnWanted s1 k then startChurn s1 k else stopChurn s1 k
  mntEndOf { s2 with ld := { s2.ld with cvState := 2 } } 8 k.val endState

/-- CVTEST's effect. -/
def cvtestWrite (s : State) (p : Port) (w : Word) : State :=
  let k : Chan := ⟨fieldOf w 0 4 % 16, Nat.mod_lt _ (by decide)⟩
  if fieldOf w 4 2 = 1 then
    let s1 := mntStart s (cvAct p k.val)
    let s2 := { s1 with ld := { s1.ld with cvState := 1, cvLoop := k.val, cvOuts := 0 } }
    startChurn (updChurn s2 k fun c => { c with test := some (BitVec.ofNat 2 (fieldOf w 6 2)), testPos := 0 }) k
  else if s.loop[k].churn.test.isSome then cvStop s k endPass
  else s

/-- CHURNSTAT_k. -/
def churnstatWord (c : ChurnSt) : Word :=
  placeB 0 c.running ||| placeB 1 c.clean ||| placeB 2 c.settling ||| placeB 3 (decide (0 < pendingRp c)) ||| place 8 c.ovl |||
    place 16 c.rpLate ||| place 24 c.starts

/-- SVSTAT_d, SVSCAN_d, SVURG_d. -/
def svstatWord (v : SurveySt) : Word :=
  placeB 0 v.refErr ||| placeB 1 v.gndErr ||| placeB 2 v.supErr ||| placeB 3 v.tempErr ||| placeB 4 v.guard |||
    place 8 v.queue.length ||| place 16 v.guards ||| place 24 v.scans

/-- CVCLR. -/
def cvclrWrite (s : State) (w : Word) : State :=
  let s1 := dies5.foldl (fun s d => if bitOf w d.val then svUpd s d fun v => { v with max := 0, urgCount := 0, maxWait := 0, lost := 0 } else s) s
  chans16.foldl (fun s k => if bitOf w (16 + k.val) then updChurn s k fun c => { c with ovl := 0, rpLate := 0, starts := 0 } else s) s1

/-- Page 14 as read. -/
def readConv (s : State) (off : Nat) : Word :=
  let sv (i : Nat) : SurveySt := vget s.survey i s.survey[(4 : Die)]
  let ch (i : Nat) : ChurnSt := (vget s.loop i s.loop[(0 : Chan)]).churn
  if 8 ≤ off ∧ off < 13 then svstatWord (sv (off - 8))
  else if 0x10 ≤ off ∧ off < 0x15 then place 0 (sv (off - 0x10)).last ||| place 16 (sv (off - 0x10)).max
  else if 0x18 ≤ off ∧ off < 0x1D then
    place 0 (sv (off - 0x18)).urgCount ||| place 16 (sv (off - 0x18)).maxWait ||| place 24 (sv (off - 0x18)).lost
  else if off = 0x31 then place 0 s.ld.cvState ||| place 4 s.ld.cvLoop ||| place 8 s.ld.cvOuts
  else if off = 0x32 then BitVec.ofInt 32 s.ld.cvY1
  else if off = 0x33 then BitVec.ofInt 32 s.ld.cvY2
  else if off = 0x34 then BitVec.ofInt 32 s.ld.cvY3
  else if 0x40 ≤ off ∧ off < 0x80 ∧ off % 4 = 1 then churnstatWord (ch ((off - 0x40) / 4))
  else if 0x40 ≤ off ∧ off < 0x80 ∧ off % 4 = 2 then BitVec.ofNat 32 (ch ((off - 0x40) / 4)).lastSeq
  else if 0x40 ≤ off ∧ off < 0x80 ∧ off % 4 = 3 then loWord (ch ((off - 0x40) / 4)).lastStamp
  else if 0xA0 ≤ off ∧ off < 0xC0 then
    (match cfgField s 14 0x38 0 2 with
      | 0 => BitVec.ofInt 32 (firRom false (off - 0xA0))
      | 1 => BitVec.ofInt 32 (firRom true (off - 0xA0))
      | 2 => 32768
      | _ => BitVec.ofInt 32 (signedOf 24 (cfgField s 14 (0x80 + (off - 0xA0)) 0 24)))
  else cfgWord s 14 off

end Sys2Proof.Machine
end

