-- ==== Sys2Proof/Machine/Loop.lean ====
section
/-!
DEFINITION. The loops' supplies and protection (R285 to R291), the open-wire test (R292), the two-point trim (R296 to R298), and page 12.
-/

namespace Sys2Proof.Machine

/-- LOOP_FOLD: for 2 ms the supply has been in its limit, or has left it, with V(LPk_SUP) on one side of 6.0 V. LIMIT says whether it limits (R284); in its limit below 6.0 V it folds back (R285). -/
def execLoopFold (k : Chan) (s : State) (limiting : Bool := true) (supMv : Int := 0) : Out :=
  .next (
    let l := s.loop[k]
    if !ldOn s ∨ !l.supon ∨ l.foldback then s
    else if limiting ∧ supMv < 6000 then
      let s1 := updLoop s k fun l => { l with limit := true, foldback := true, foldAt := s.mono, evFold := satAdd 255 l.evFold 1 }
      dieLedger (trimLoopFault s1 k) ldDie 65 k.val 0
    else updLoop s k fun l => { l with limit := limiting })

/-- FOLDBACK_RELEASE_TRY: every 1,000 ms the foldback is released for 5 ms; `supMv` is V(LPk_SUP) at the end, and `limiting` whether the supply limits then (R285). -/
def execFoldbackReleaseTry (k : Chan) (limiting : Bool) (s : State) (supMv : Int := 0) : Out :=
  .next (
    let l := s.loop[k]
    if ldOn s ∧ l.foldback then
      let s1 := monoTo s (l.foldAt + 1005000000)
      updLoop s1 k fun l =>
        if 6000 ≤ supMv then { l with foldback := false, limit := limiting } else { l with foldAt := l.foldAt + 1000000000 }
    else s)

/-- LOOP_MISWIRE: a condition of R287 (1 IN high, 2 IN low, 3 SUP high, 4 overcurrent) lasts 5 µs. -/
def execLoopMiswire (k : Chan) (cond : BitVec 3) (s : State) : Out :=
  .next (
    let l := s.loop[k]
    if ldOn s ∧ (!l.miswire ∨ l.ramp) ∧ 1 ≤ cond.toNat ∧ cond.toNat ≤ 4 then
      let s1 := updLoop s k fun l =>
        { l with
          connected := false, supon := false, limit := false, foldback := false, miswire := true, ramp := false
          trips := s.mono :: l.trips.filter (fun t => decide (s.mono < t + 60000000000))
          tripAt := s.mono
          evMis := satAdd 255 l.evMis 1 }
      dieLedger (hartSync (trimLoopFault s1 k) k) ldDie 66 k.val cond.toNat
    else s)

/-- MISWIRE_RECONNECT: within limits for the hold time, 60 s from the third trip within 60 s on (R288). Without a supply to ramp, MISWIRE clears at the reconnection. -/
def execMiswireReconnect (k : Chan) (s : State) : Out :=
  .next (
    let l := s.loop[k]
    if ldOn s ∧ l.miswire ∧ !l.ramp then
      let s1 := monoTo s (l.tripAt + if 3 ≤ l.trips.length then 60000000000 else 1000000000)
      let two := decide (lpMode s k.val = 1)
      updLoop s1 k fun l =>
        { l with connected := decide (lpMode s k.val ≠ 0), supon := two, miswire := two, ramp := two, rampAt := s1.mono }
    else s)

/-- MISWIRE_RAMP_END: the 5 ms ramp ends. -/
def execMiswireRampEnd (k : Chan) (s : State) : Out :=
  .next (
    let l := s.loop[k]
    if ldOn s ∧ l.ramp then updLoop (monoTo s (l.rampAt + 5000000)) k fun l => { l with ramp := false, miswire := false } else s)

/-- VLB_LOW: VLB falls below 17.0 V typical (R286). -/
def execVlbLow (mV : Nat) (s : State) : Out :=
  .next (if ldOn s ∧ !s.ld.vlbLow then dieLedger { s with ld := { s.ld with vlbLow := true } } ldDie 64 0 mV else s)

/-- LOOP_HEADROOM: V_TX has been below HMIN for 10 ms (R289). -/
def execLoopHeadroom (k : Chan) (s : State) : Out :=
  .next (
    match s.loop[k].headAt with
    | some t =>
      if headOn s k ∧ !s.loop[k].headroom then
        let s1 := updLoop (monoTo s (t + 10000000)) k fun l => { l with headroom := true, headAt := none, evHead := satAdd 255 l.evHead 1 }
        dieLedger (headTrack s1 k) ldDie 67 k.val (codeOf 32 (vtxNv s k / 1000000))
      else s
    | none => s)

/-- The hold time of R289: max(10 ms, HHOLD × 100 ms). -/
def headHold (s : State) (k : Chan) : Nat := max 10000000 (lpField s k.val 1 24 8 * 100000000)

/-- HEADROOM_CLEAR: V_TX has stayed at or above HMIN + 0.5 V for the hold time. -/
def execHeadroomClear (k : Chan) (s : State) : Out :=
  .next (
    match s.loop[k].headAt with
    | some t =>
      if s.loop[k].headroom then
        headTrack (updLoop (monoTo s (t + headHold s k)) k fun l => { l with headroom := false, headAt := none }) k
      else s
    | none => s)

/-- The conditions of OW_FIELD besides its time (R291). -/
def owFieldCond (s : State) (k : Chan) : Bool :=
  let l := s.loop[k]
  ldOn s && decide (l.i < 1000000) &&
    (lpMode s k.val = 2 || (lpMode s k.val = 1 && (if hminMv s k.val = 0 then decide (12000 < l.v) else decide (((hminMv s k.val : Nat) : Int) ≤ l.v))))

def execOwFieldSet (k : Chan) (s : State) : Out :=
  .next (
    if owFieldCond s k ∧ !s.loop[k].owField then owRise (updLoop s k fun l => { l with owField := true }) k (openWire s.loop[k]) 1
    else s)

def execOwFieldClear (k : Chan) (s : State) : Out :=
  .next (if 1500000 ≤ s.loop[k].i then updLoop s k fun l => { l with owField := false } else s)

/-- OW_PATH_SET: V(LPk_SP) above 7.0 V for 1 ms. -/
def execOwPathSet (k : Chan) (s : State) : Out :=
  .next (
    if ldOn s ∧ !s.loop[k].owPath then owRise (updLoop s k fun l => { l with owPath := true }) k (openWire s.loop[k]) 2 else s)

def execOwPathClear (k : Chan) (s : State) : Out :=
  .next (if s.loop[k].owFailed then s else updLoop s k fun l => { l with owPath := false })

/-! ## The open-wire test (R292) -/

def owAct (p : Port) (k : Nat) : ActSt := { kind := 6, port := p.val, index := k, mask := 0, lo := 0, hi := 0, dir := false }

/-- Checks that OWCMD and TRIMCMD share (R306): KEY and OP, a loop in OFF. -/
def loopCmdBad (s : State) (k key wantKey : Nat) (opOk : Bool) : Nat :=
  if cfgField s 12 (0x40 + 0x10 * k) 0 2 = 0 then 0x09 else if key ≠ wantKey ∨ !opOk then 0x0A else 0

def owcmdCheck (s : State) (p : Port) (w : Word) : Nat :=
  let op := fieldOf w 4 2
  let k := fieldOf w 0 4
  let c := loopCmdBad s k (fieldOf w 24 8) 0x4F (decide (op = 1 ∨ op = 2))
  if c ≠ 0 then c
  else if op = 1 then (match mntDecide s (owAct p k) with | none => 0 | some r => r.code)
  else 0

/-- START claims the loop and waits for its HART transaction (step 1); ABORT ends a test of the loop. -/
def owcmdWrite (s : State) (p : Port) (w : Word) : State :=
  let k : Chan := ⟨fieldOf w 0 4 % 16, Nat.mod_lt _ (by decide)⟩
  if fieldOf w 4 2 = 1 then
    let s1 := mntStart s (owAct p k.val)
    let s2 := updOw { s1 with ld := { s1.ld with owLoop := k.val } } k fun o =>
      { o with state := 1, step := 1, avgFrom := none, sn := false }
    if hartInProgress s.loop[k].hart then s2 else owStep2 s2 k
  else if s.loop[k].ow.state = 1 then owEnd s k 4 endAborted
  else s

/-- R1 − (R0 + R2) / 2 of three means, each a sum and a count, as numerator and denominator. -/
def owDiff (o : OwSt) : Int × Nat :=
  (2 * o.r1.1 * (o.r0.2 * o.r2.2 : Nat) - (o.r1.2 : Nat) * (o.r0.1 * (o.r2.2 : Nat) + o.r2.1 * (o.r0.2 : Nat)), 2 * o.r0.2 * o.r1.2 * o.r2.2)

/-- |R2 − R0| exceeds 20,000 nA: the loop current moved. -/
def owMoved (o : OwSt) : Bool := decide (20000 * (o.r0.2 * o.r2.2) < (o.r2.1 * (o.r0.2 : Nat) - o.r0.1 * (o.r2.2 : Nat)).natAbs)

/-- The state that the three means give (R292): 5 INCONCLUSIVE, 2 PASS, 3 FAIL. -/
def owResult (o : OwSt) : Nat :=
  let q := owDiff o
  if owMoved o then 5 else if (q.1 - 1000000 * (q.2 : Nat)).natAbs ≤ 20000 * q.2 then 2 else 3

/-- OWDELTA in whole nA; which way a fraction is rounded is given nowhere, so a free value decides (log entry 75). -/
def owRounded (s : State) (q : Int × Nat) : Int := (q.1 + if freeNat s % 2 = 0 then 0 else ((q.2 - 1 : Nat) : Int)) / (q.2 : Nat)

/-- OW_TEST_DONE: the test finishes, by step 2's failure or with its three means. -/
def execOwTestDone (k : Chan) (s : State) : Out :=
  .next (
    let o := s.loop[k].ow
    let failed (s : State) : State :=
      let was := openWire s.loop[k]
      owRise (updLoop (owEnd s k 3 endFail) k fun l => { l with owFailed := true, owPath := true }) k was 2
    if o.step = 2 ∧ o.sn then failed s
    else if o.step = 6 then
      let s1 := useFree { s with ld := { s.ld with owDelta := owRounded s (owDiff o) } }
      match owResult o with
      | 3 => failed s1
      | 2 => updLoop (owEnd s1 k 2 endPass) k fun l => { l with owFailed := false }
      | _ => owEnd s1 k 5 endFail
    else s)

/-! ## Trims (R296 to R298) -/

def trimAct (p : Port) (k : Nat) : ActSt := { kind := 7, port := p.val, index := k, mask := 0, lo := 0, hi := 0, dir := false }

def trimcmdCheck (s : State) (p : Port) (w : Word) : Nat :=
  let op := fieldOf w 4 3
  let k := fieldOf w 0 4
  let c := loopCmdBad s k (fieldOf w 24 8) 0x7B (decide (1 ≤ op ∧ op ≤ 4))
  if c ≠ 0 then c
  else if op = 1 then (match mntDecide s (trimAct p k) with | none => 0 | some r => r.code)
  else 0

/-- Half away from zero. -/
def roundDiv (a b : Int) : Int :=
  if b = 0 then 0
  else
    let q := (2 * a.natAbs + b.natAbs) / (2 * b.natAbs)
    if decide (a < 0) != decide (b < 0) then -(q : Nat) else (q : Nat)

/-- COMPUTE (R296): gain and offset, or the error. -/
def trimResult (i1 i2 r1 r2 : Int) : Except Nat (Int × Int) :=
  let g := roundDiv ((i2 - i1) * 1073741824) (r2 - r1)
  let o := i1 - r1 * g / 1073741824
  if i2 - i1 < 8000000 then .error 1
  else if r2 = r1 ∨ g < 0x38000000 ∨ 0x48000000 < g ∨ o < -250000 ∨ 250000 < o then .error 2
  else .ok (g, o)

/-- TRIMREF_k. -/
def trimRef (s : State) (k : Nat) : Int := (cfgWord s 12 (0x4A + 0x10 * k)).toInt

/-- POINT1 claims the loop and averages the first reference. -/
def trimPoint1 (s : State) (p : Port) (k : Chan) : State :=
  updTrim (mntStart s (trimAct p k.val)) k fun t =>
    { t with state := 1, err := 0, point := 1, wfrom := none, i1 := trimRef s k.val, opAt := s.mono }

/-- POINT2 after P1_DONE. -/
def trimPoint2 (s : State) (k : Chan) : State :=
  let t := s.loop[k].trim
  if t.state = 2 ∨ t.state = 3 ∨ (t.state = 1 ∧ t.point = 2) then
    updTrim s k fun t => { t with state := 1, err := 0, point := 2, wfrom := none, i2 := trimRef s k.val, opAt := s.mono }
  else trimFail s k 3 endFail

/-- COMPUTE after P2_DONE. -/
def trimCompute (s : State) (k : Chan) : State :=
  let t := s.loop[k].trim
  if t.state ≠ 3 then trimFail s k 3 endFail
  else match trimResult t.i1 t.i2 t.raw1 t.raw2 with
    | .error e => trimFail s k e endFail
    | .ok (g, o) => mntEndOf (updTrim s k fun t => { t with state := 4, gain := g, ofs := o }) 7 k.val endPass

def trimcmdWrite (s : State) (p : Port) (w : Word) : State :=
  let k : Chan := ⟨fieldOf w 0 4 % 16, Nat.mod_lt _ (by decide)⟩
  match fieldOf w 4 3 with
  | 1 => trimPoint1 s p k
  | 2 => trimPoint2 s k
  | 3 => trimCompute s k
  | _ => if (mntFind s 7 k.val).isSome then trimFail s k 4 endAborted else s

/-- TRIM_POINT_DONE: 1.000 s of settled readings is averaged into TRIMRAW1 or TRIMRAW2, rounded towards minus infinity. -/
def execTrimPointDone (k : Chan) (s : State) : Out :=
  .next (
    let t := s.loop[k].trim
    match t.state, t.wfrom with
    | 1, some f =>
      let m := t.sum / (t.cnt : Nat)
      updTrim (monoTo s (f + 1000000000)) k fun t =>
        if t.point = 1 then { t with state := 2, raw1 := m, wfrom := none } else { t with state := 3, raw2 := m, wfrom := none }
    | _, _ => s)

/-- TRIM_TIMEOUT: 600 s after the last op of a trim that holds its loop. -/
def execTrimTimeout (k : Chan) (s : State) : Out :=
  .next (if (mntFind s 7 k.val).isSome then trimFail (monoTo s (s.loop[k].trim.opAt + 600000000000)) k 5 endFail else s)

/-- LPCNTCLR. -/
def lpcntclrWrite (s : State) (w : Word) : State :=
  chans16.foldl (fun s k => if bitOf w k.val then updLoop s k fun l => { l with evMis := 0, evFold := 0, evHead := 0, evOw := 0 } else s) s

/-- Page 12 as read. -/
def readLoop (s : State) (off : Nat) : Word :=
  match off with
  | 0 => placeB 0 s.ld.vlbLow
  | 1 => if ldOn s then BitVec.ofInt 32 s.ld.vlb else 0
  | 5 => place 0 s.ld.owLoop ||| place 4 (vget s.loop s.ld.owLoop s.loop[(0 : Chan)]).ow.state
  | 6 => BitVec.ofInt 32 s.ld.owDelta
  | _ =>
    if 0x40 ≤ off ∧ off < 0x140 then
      let k : Chan := ⟨(off - 0x40) / 16 % 16, Nat.mod_lt _ (by decide)⟩
      let l := s.loop[k]
      match (off - 0x40) % 16 with
      | 6 => lpstatWord s k
      | 7 => BitVec.ofInt 32 l.i
      | 8 => BitVec.ofInt 32 l.v
      | 9 => place 0 l.evMis ||| place 8 l.evFold ||| place 16 l.evHead ||| place 24 l.evOw
      | 11 => place 0 l.trim.state ||| place 8 l.trim.err
      | 12 => BitVec.ofInt 32 l.trim.raw1
      | 13 => BitVec.ofInt 32 l.trim.raw2
      | 14 => BitVec.ofInt 32 l.trim.gain
      | 15 => BitVec.ofInt 32 l.trim.ofs
      | _ => cfgWord s 12 off
    else cfgWord s 12 off

end Sys2Proof.Machine
end

