-- ==== Sys2Proof/Machine/ApplyRules.lean ====
section
/-!
DEFINITION. The rules that an APPLY checks (R396, Table 14.3): R118, REINTCFG, MODECFG and OWNCFG limits, R209, R248, R280, R306, R307, R333, R361, R385 and R413, in the order in which R396 evaluates them. A rule that reads several registers stands at the highest of them; a condition is one rule (log entry 16).
-/

namespace Sys2Proof.Machine

/-- A rule of a home chapter: its register, its reason of Table 14.3, and whether the configuration fails it. -/
structure ApplyRule where
  page : Nat
  off : Nat
  reason : Nat
  bad : Bool
deriving DecidableEq, Repr

/-- Field of a configuration. -/
def cf (m : RegMap) (page off lo n : Nat) : Nat := fieldOf (rmGet m (regKey page off)) lo n
def cb (m : RegMap) (page off i : Nat) : Bool := bitOf (rmGet m (regKey page off)) i

/-- `v` lies outside `lo` to `hi`. -/
def outside (v lo hi : Nat) : Bool := decide (v < lo) || decide (hi < v)

/-- The modes in which the rules named _RUN refuse a change. -/
def runMode (m : Mode) : Bool := lanesRun m

/-! ## Pages 0 to 4 -/

def rulesSys (m : RegMap) : List ApplyRule :=
  let n := cf m 0 0x22 8 8
  let t := cf m 0 0x22 16 16
  [⟨0, 0x22, 6, decide (cf m 0 0x22 0 2 = 3) || decide (n = 0) || decide (64 < n) || (decide (t ≠ 0) && decide (t < n))⟩,
   ⟨1, 8, 7, outside (cf m 1 8 0 16) 10 60000⟩]

def rulesTime (m : RegMap) : List ApplyRule :=
  let src := cf m 3 8 0 2
  let org := cf m 3 0x0A 0 32 * 2 ^ 32 + cf m 3 9 0 32
  let per := cf m 3 0x0B 0 12
  let ph := cf m 3 0x0C 0 32
  let oper := cf m 3 0x0D 4 12
  let wid := cf m 3 0x0D 16 16
  let role := cf m 3 0x10 0 2
  let isWs := decide (role = 1) || decide (role = 2)
  let top := if cb m 3 0x10 3 then 2 ^ 29 - 1 else 2047
  [⟨3, 8, 0x11, decide (src = 3) || (cb m 3 8 3 && decide (cf m 3 8 16 16 = 0))⟩,
   ⟨3, 0x0A, 0x10, decide (org % 20 ≠ 0)⟩,
   ⟨3, 0x0B, 0x12, decide (src = 1) && (outside per 1 4000 || decide (cf m 3 0x0B 16 8 = 0))⟩,
   ⟨3, 0x0C, 0x12, decide (src = 1) && (decide (ph % 4 ≠ 0) || decide (per * 1000000 ≤ ph))⟩,
   ⟨3, 0x0D, 0x12, cb m 3 0x0D 0 && (decide (wid = 0) || (!cb m 3 0x0D 1 && (outside oper 1 4000 || decide (oper * 1000 ≤ wid))))⟩,
   ⟨3, 0x10, 0x11, decide (src = 2) && decide (role ≠ 1)⟩,
   ⟨3, 0x10, 0x13, decide (role = 3) || (isWs && (outside (cf m 3 0x10 16 16) 10 10000 || decide (cf m 3 0x10 12 4 = 0)))⟩,
   ⟨3, 0x11, 0x13, decide (top < cf m 3 0x11 0 29 + 1)⟩]

/-- P − DELIV − guard, ns, for a configuration and a number of items in the guard (R112). -/
def cwinOf (m : RegMap) (k : Nat) : Int := (cf m 4 0 0 20 * 1000 : Nat) - (deliv : Nat) - (guardFor k : Nat)

def rulesLane (m : RegMap) : List ApplyRule :=
  let p := cf m 4 0 0 20
  let rec_ := cf m 4 1 0 5
  let man := cf m 4 1 8 7
  let xwin := cf m 4 2 16 10
  [⟨4, 0, 2, outside p 100 1000000⟩,
   ⟨4, 0, 0x12, cb m 3 0x0D 0 && cb m 3 0x0D 1 && decide (p ≤ cf m 3 0x0D 16 16)⟩,
   ⟨4, 1, 3, decide (16 < rec_) || decide (64 < man)⟩,
   ⟨4, 1, 4, decide (cwinOf m (16 + man) < 10000)⟩,
   ⟨4, 2, 5, decide (cf m 4 2 8 8 = 0) || decide (1000 < xwin) || decide (cwinOf m (rec_ + man) - 10000 < (xwin * 1000 : Nat))⟩]

/-! ## Field pages (R248, R280) -/

/-- Local channel `k` is the upper half of a pair in a configuration. -/
def cfUpper (m : RegMap) (page k : Nat) : Bool := decide (k % 2 = 1) && cb m page (0x40 + 0x10 * (k - 1)) 2

def cfOut (m : RegMap) (page k : Nat) : Bool := cf m page (0x40 + 0x10 * k) 0 2 = 1 || cf m page (0x40 + 0x10 * k) 0 2 = 3

/-- R248's limits on a generator hold. -/
def pgValid (m : RegMap) (page j : Nat) : Bool :=
  decide (100 ≤ cf m page (0x10 + j) 0 24) && decide (cf m page (0x14 + j) 0 24 < cf m page (0x10 + j) 0 24)

def rulesFieldDie (m : RegMap) (page : Nat) : List ApplyRule :=
  [⟨page, 2, 0x1D, outside (cf m page 2 0 16) 200 50000⟩,
   ⟨page, 4, 0x1E, cb m page 4 0 && cb m page 4 1 && decide (cf m page 4 16 16 = 0)⟩] ++
  (if page = 8 then
    [⟨8, 8, 0x1F, outside (cf m 8 8 0 16) 1000 16000⟩, ⟨8, 9, 0x1F, decide (cf m 8 8 0 16 ≤ cf m 8 9 0 16)⟩]
   else []) ++
  ((List.range 4).map fun j => ⟨page, 0x10 + j, 0x1D, decide (cf m page (0x10 + j) 0 24 < 100)⟩) ++
  ((List.range 4).map fun j => ⟨page, 0x14 + j, 0x1D, decide (cf m page (0x10 + j) 0 24 ≤ cf m page (0x14 + j) 0 24)⟩) ++
  [⟨page, 0x30, 0x20, outside (cf m page 0x30 0 14) 50 10000⟩]

/-- The rule CHMODE_RUN of one channel. -/
def chmodeRule (old m : RegMap) (mode : Mode) (page k : Nat) : ApplyRule :=
  let b := 0x40 + 0x10 * k
  ⟨page, b, 0x18, runMode mode && (decide (cf old page b 0 2 ≠ cf m page b 0 2) || cb old page b 2 != cb m page b 2)⟩

def rulesChan (old m : RegMap) (mode : Mode) (lhEn : Bool) (page k : Nat) : List ApplyRule :=
  let b := 0x40 + 0x10 * k
  let up := cfUpper m page k
  let ilim := cf m page (b + 1) 0 5
  let rh := cf m page (b + 2) 8 7
  let cap := cf m page (b + 3) 0 10
  let refill := cf m page (b + 3) 16 9
  let ol := cf m page (b + 4) 0 2
  let thr := cf m page (b + 4) 2 6
  let win := cf m page (b + 0x0C) 16 10
  let ss := cf m page (b + 0x0D) 0 2
  let nms := cf m page (b + 0x0D) 2 2
  let lh (x : RegMap) := cf x page (b + 0x0E) 0 4
  [chmodeRule old m mode page k,
   ⟨page, b, 0x19, decide (5 ≤ cf m page b 4 3) || (decide (k % 2 = 1) && cb m page b 2) ||
      (up && decide (cf m page b 0 2 ≠ cf m page (b - 0x10) 0 2))⟩,
   ⟨page, b + 1, 0x1A, cfOut m page k && !up && (decide (ilim = 0) || decide (24 < ilim))⟩,
   ⟨page, b + 2, 0x1A, cfOut m page k && !up && outside rh 10 100⟩,
   ⟨page, b + 3, 0x1B, decide (1000 < cap) || decide (500 < refill) || (decide (refill = 0) && decide (cap ≠ 0))⟩,
   ⟨page, b + 4, 0x1C, decide (ol = 3) || (decide (ol ≠ 0) && (outside thr 1 40 || decide (cf m page (b + 4) 8 8 = 0)))⟩,
   ⟨page, b + 0x0C, 0x20, decide (cf m page b 0 2 = 2) &&
      (decide (cf m page (b + 0x0C) 0 2 = 3) || decide (cf m page (b + 0x0C) 8 8 = 0) ||
        (!cb m page (b + 0x0C) 4 && (outside win 10 1000 || decide (cf m page 0x30 0 14 < win + 10))))⟩,
   ⟨page, b + 0x0D, 0x21, decide (2000 < cf m page (b + 0x0D) 8 11) ||
      ((decide (ss = 3) || decide (nms = 3)) && !pgValid m page (cf m page (b + 0x0D) 4 2))⟩,
   ⟨page, b + 0x0E, 0x22, (cb m page (b + 0x0E) 0 && (!cfOut m page k || up)) || (lhEn && decide (lh old ≠ lh m))⟩]

def rulesField (old m : RegMap) (mode : Mode) (lhEn : Bool) (page : Nat) : List ApplyRule :=
  rulesFieldDie m page ++ ((List.range 16).map (rulesChan old m mode lhEn page)).flatten

/-! ## Pages 12 to 14 (R306, R307, R333) -/

/-- The MODE part of BAD_LOOP. -/
def loopModeRule (old m : RegMap) (mode : Mode) (k : Nat) : ApplyRule :=
  let b := 0x40 + 0x10 * k
  ⟨12, b, 0x24, runMode mode && decide (cf old 12 b 0 2 ≠ cf m 12 b 0 2)⟩

def rulesLoop1 (old m : RegMap) (mode : Mode) (k : Nat) : List ApplyRule :=
  let b := 0x40 + 0x10 * k
  let lo := cf m 12 (b + 2) 0 16
  let ml := cf m 12 (b + 2) 16 16
  let mh := cf m 12 (b + 3) 0 16
  let hi := cf m 12 (b + 3) 16 16
  let ofs := (rmGet m (regKey 12 (b + 5))).toInt
  [⟨12, b, 0x24, decide (cf m 12 b 0 2 = 3)⟩, loopModeRule old m mode k,
   ⟨12, b + 1, 0x24, decide (220 < cf m 12 (b + 1) 0 8)⟩,
   ⟨12, b + 3, 0x25, !(decide (lo < ml) && decide (ml < mh) && decide (mh < hi)) || decide (25000 < hi)⟩,
   ⟨12, b + 4, 0x26, outside (cf m 12 (b + 4) 0 32) 0x38000000 0x48000000⟩,
   ⟨12, b + 5, 0x26, decide (ofs < -250000) || decide (250000 < ofs)⟩]

/-- Sum of |h_i| over FIRUSER. -/
def firSum (m : RegMap) : Nat := ((List.range 32).map fun i => (signedOf 24 (cf m 14 (0x80 + i) 0 24)).natAbs).foldl (· + ·) 0

def rulesConv (m : RegMap) : List ApplyRule :=
  let n (k : Nat) := cf m 14 (0x40 + 4 * k) 0 16
  let set (k : Nat) := cf m 14 (0x40 + 4 * k) 16 2
  ((List.range 5).map fun d => ⟨14, d, 0x28, outside (cf m 14 d 0 5) 2 20 || decide (5 ≤ cf m 14 d 5 3)⟩) ++
  ((List.range 16).map fun k => ⟨14, 0x40 + 4 * k, 0x29, outside (n k) 128 51200 || (decide (set k = 1) && decide (1024 < n k))⟩) ++
  [⟨14, 0x9F, 0x29, ((List.range 16).any fun k => decide (set k = 3)) && decide (2 ^ 22 < firSum m)⟩]

/-! ## CAN pages (R385) -/

/-- The rule CAN_RUN on a register: bits of `mask` change in a running mode. -/
def canRunRule (old m : RegMap) (mode : Mode) (page off : Nat) (mask : Word) : ApplyRule :=
  ⟨page, off, 0x2D, runMode mode && decide (rmGet old (regKey page off) &&& mask ≠ rmGet m (regKey page off) &&& mask)⟩

/-- Bit time of the arbitration and of the data phase, ns (R365). -/
def nbtNs (m : RegMap) (page : Nat) : Nat := (1 + cf m page 1 6 8 + cf m page 1 14 7) * cf m page 1 0 6 * 5
def dbtNs (m : RegMap) (page : Nat) : Nat := (1 + cf m page 2 6 6 + cf m page 2 12 5) * cf m page 2 0 6 * 5

def rulesCanTiming (old m : RegMap) (mode : Mode) (page : Nat) : List ApplyRule :=
  [canRunRule old m mode page 0 7,
   ⟨page, 1, 0x2C, outside (cf m page 1 0 6) 1 32 || outside (cf m page 1 6 8) 2 255 || outside (cf m page 1 14 7) 1 127 ||
      decide (cf m page 1 21 7 = 0) || decide (cf m page 1 14 7 < cf m page 1 21 7) || decide (nbtNs m page < 1000)⟩,
   canRunRule old m mode page 1 0x0FFFFFFF,
   ⟨page, 2, 0x2C, outside (cf m page 2 0 6) 1 32 || outside (cf m page 2 6 6) 1 63 || outside (cf m page 2 12 5) 1 31 ||
      decide (cf m page 2 17 5 = 0) || decide (cf m page 2 12 5 < cf m page 2 17 5) || decide (dbtNs m page < 125) ||
      decide (nbtNs m page < dbtNs m page)⟩,
   canRunRule old m mode page 2 0x003FFFFF,
   ⟨page, 3, 0x2C, cb m page 3 0 && decide (cf m page 3 1 7 = 0)⟩,
   canRunRule old m mode page 3 0x0000FFFF]

/-- Slots of the used entries with RX 1 among `l`. -/
def rxSlots (m : RegMap) (page : Nat) (l : List Nat) : List Nat :=
  (l.filter fun i => cb m page (0x1000 + 4 * i) 30).map fun i => cf m page (0x1001 + 4 * i) 0 10

/-- The rules on used entries, each at its OBJCTL register against the used entries `before` it; `slots` are those of the other controller that stand lower. -/
def rulesObjFrom (m : RegMap) (page : Nat) (slots : List Nat) (fail : Option Nat) : List Nat → List Nat → List ApplyRule
  | _, [] => []
  | before, i :: r =>
    let rx := cb m page (0x1000 + 4 * i) 30
    [⟨page, 0x1001 + 4 * i, 0x2E, decide (cf m page (0x1001 + 4 * i) 10 2 = 3) ||
        (before.any fun j => decide (objKey m page j = objKey m page i)) ||
        (rx && (rxSlots m page before ++ slots).contains (cf m page (0x1001 + 4 * i) 0 10))⟩,
     ⟨page, 0x1001 + 4 * i, 0x2F, decide (fail = some i)⟩] ++ rulesObjFrom m page slots fail (i :: before) r

/-- The first entry for which the build of R372 finds no place. -/
def objFail (m : RegMap) (page : Nat) : Option Nat := match objBuild m page with | .inl i => some i | .inr _ => none

def rulesCan (old m : RegMap) (mode : Mode) (page : Nat) : List ApplyRule :=
  rulesCanTiming old m mode page ++
    rulesObjFrom m page (if page = 16 then rxSlots m 15 (usedEntries m 15) else []) (objFail m page) [] (usedEntries m page)

/-! ## Pages 17 and 18 (R361, R413) -/

def rulesPorts (m : RegMap) : List ApplyRule :=
  let n := cf m 17 0x10 22 7
  let push := cb m 17 0x10 0
  [⟨17, 0x10, 0x2A, push && (decide (cf m 17 0x10 8 8 = 0) || decide (n = 0) || decide (64 < n) || decide (64 < cf m 17 0x10 16 6 + n))⟩,
   ⟨17, 0x11, 0x2A, push && outside (cf m 17 0x11 0 5) 0 21⟩]

def rulesWdog (m : RegMap) : List ApplyRule :=
  let en (w : Nat) := cb m 18 (4 * w) 0
  let tmo (w : Nat) : ApplyRule := ⟨18, 1 + 4 * w, 0x30, en w && outside (cf m 18 (1 + 4 * w) 0 24) 100 10000000⟩
  let msk (w : Nat) : ApplyRule := ⟨18, 2 + 4 * w, 0x30, en w && decide (cf m 18 (2 + 4 * w) 0 16 = 0)⟩
  [tmo 0, msk 0, ⟨18, 4, 0x30, decide (cf m 18 4 2 2 = 0)⟩, tmo 1, msk 1]

/-! ## The check -/

/-- All rules in the order of R396. -/
def applyRules (old m : RegMap) (mode : Mode) (lhEn : Nat → Bool) : List ApplyRule :=
  rulesSys m ++ rulesTime m ++ rulesLane m ++ ((List.range 4).map fun d => rulesField old m mode (lhEn d) (8 + d)).flatten ++
    ((List.range 16).map (rulesLoop1 old m mode)).flatten ++ [⟨13, 0, 0x27, outside (cf m 13 0 0 5) 5 20⟩] ++ rulesConv m ++
    rulesCan old m mode 15 ++ rulesCan old m mode 16 ++ rulesPorts m ++ rulesWdog m

/-- The first failing rule of the check. -/
def applyCheck (old m : RegMap) (mode : Mode) (lhEn : Nat → Bool) : Option ApplyRule := (applyRules old m mode lhEn).find? fun r => r.bad

/-- The rules that depend on the mode, evaluated again at the T0 (R397). -/
def modeRules (old m : RegMap) (mode : Mode) : List ApplyRule :=
  ((List.range 4).map fun d => (List.range 16).map (chmodeRule old m mode (8 + d))).flatten ++
    (List.range 16).map (loopModeRule old m mode) ++
    ([15, 16].map fun p => [canRunRule old m mode p 0 7, canRunRule old m mode p 1 0x0FFFFFFF, canRunRule old m mode p 2 0x003FFFFF,
      canRunRule old m mode p 3 0x0000FFFF]).flatten

/-! ## Shadows (R6, R391, R394) -/

/-- The SR registers of a register map with their SR bits. -/
def srPart (m : RegMap) : RegMap :=
  m.filterMap fun e => let v := e.2 &&& srMask e.1; if v = 0 then none else some (e.1, v)

/-- Every shadow takes its active value (R391, R395). -/
def discardShadows (s : State) : State := { s with shadow := srPart s.regs }

/-- Registers that differ between two maps, ascending, with the new value (R81). -/
def regChanges (old new : RegMap) : List (Nat × Word) :=
  let a := new.filter fun e => decide (rmGet old e.1 ≠ e.2)
  let b := (old.filter fun e => decide (rmGet new e.1 = 0)).map fun e => (e.1, (0 : Word))
  ((a ++ b).foldl (fun (m : List (Nat × Option Word)) e => amSet none m e.1 (some e.2)) []).map fun e => (e.1, e.2.getD 0)

/-- OWNSTAGED. -/
def ownStaged (s : State) : Nat := (regChanges (srPart s.regs) s.shadow).length

/-- The SR registers of `regs` replaced by those of a configuration. -/
def takeSr (regs copy : RegMap) : RegMap :=
  copy.foldl (fun m e => rmSet m e.1 e.2) (regs.filter fun e => decide (srMask e.1 = 0))

/-- The bytes A of R81. -/
def changeBytes (l : List (Nat × Word)) : List Byte :=
  (l.map fun e => natBe 4 (e.1 / 65536) ++ natBe 4 (e.1 % 65536) ++ beBytes e.2).flatten

end Sys2Proof.Machine
end

