-- ==== Sys2Proof/Machine/Can.lean ====
section
/-!
DEFINITION. The CAN controllers' bus events (13): reception, transmission attempts, error confinement, integration and recovery.
-/

namespace Sys2Proof.Machine

/-- The controller takes part in bus traffic: started, joined, not bus-off (R363, R368, R383). -/
def canHears (s : State) (c : Ctrl) : Bool :=
  !canStb s c && (canState s c = 2 || canState s c = 3 || canState s c = 6)

/-- A controller that never drives a dominant bit (R384): LISTEN 1, or in QUIET. -/
def canMute (s : State) (c : Ctrl) : Bool := canListen s c || s.md.mode = .quiet

/-- REC after a valid reception (R383, ISO 11898-1: one less, or a value of 119 to 127 from above 127, log entry 20). -/
def recGood (s : State) (n : Nat) : Nat := if 127 < n then 119 + freeNat s % 9 else n - 1

/-- A valid reception changes the counters, unless the controller is mute. -/
def countGood (s : State) (c : Ctrl) : State :=
  if canMute s c then s
  else
    let n := s.can[c].rxErr
    let s1 := if 127 < n then useFree s else s
    confine (canUpd s1 c fun k => { k with rxErr := recGood s n }) c

/-- The reception record of a frame (Table 5.8, R369). -/
def rxRecord (s : State) (c : Ctrl) (f : CanFrame) : RxRec :=
  let len := dlcLen f.fdf f.dlc.toNat
  { idw := frameIdw f.ide f.fdf (f.fdf && f.brs) f.id.toNat
    info := place 0 len ||| placeB 7 (f.fdf && f.esi) ||| place 8 c.val
    stamp := stampOf s.time
    data := pad64 (f.data.take len) }

/-- A protocol exception (R364): counted, and the controller waits for 11 recessive bits. -/
def protExc (s : State) (c : Ctrl) : State :=
  canUpd s c fun k => { k with pexc := satAdd 255 k.pexc 1, lec := 7, state := 1 }

/-- CAN_FRAME_RX: a valid frame. Remote frames are discarded and counted (R362); an FD frame with FDEN 0 is a protocol exception (R364); every other frame passes to the time master when it is a waystation frame (R197) and takes the steps of R370. -/
def execCanFrameRx (c : Ctrl) (f : CanFrame) (s : State) : Out :=
  .next (
    if !canHears s c then s
    else if f.fdf ∧ !canFd s c then protExc s c
    else if f.rtr ∧ !f.fdf then countGood (canUpd s c fun k => { k with remote := satAdd 255 k.remote 1 }) c
    else canReceive (wsPass (countGood (canUpd s c fun k => { k with rxOk := (k.rxOk + 1) % 65536 }) c) c f) c (rxRecord s c f))

def execProtocolException (c : Ctrl) (s : State) : Out := .next (if canHears s c then protExc s c else s)

/-- RXQ_LOCK_LAPSE: 10 ms without a read of the window by the port that holds the lock (R377). -/
def execRxqLockLapse (c : Ctrl) (q : Fin 2) (s : State) : Out :=
  .next (
    match s.can[c].rxq[q].lock with
    | some (_, t) => rxqUnlock (monoTo s (t + 10000000)) c q
    | none => s)

/-- What an attempt transmits: a flushed frame that finishes, a waystation frame (none when its SYNC was abandoned meanwhile), or the head. -/
inductive TxWhat where
  | tail (f : TxFrame)
  | ws (f : Option TxFrame)
  | head (f : TxFrame)
  | none

/-- In QUIET nothing is offered; only a flushed frame finishes its attempt (R108, R380). -/
def txWhat (s : State) (c : Ctrl) : TxWhat :=
  let k := s.can[c]
  if k.state ≠ 2 ∧ k.state ≠ 3 then .none
  else match k.tail, k.fifo with
    | some f, _ => .tail f
    | none, f :: _ => if s.md.mode = .quiet then .none else if k.onWs then .ws (wsReadyFrame s c) else .head f
    | none, [] =>
      if s.md.mode = .quiet then .none
      else match wsReadyFrame s c with
        | some f => .ws (some f)
        | none => .none

/-- An attempt measures the transmitter delay: an FD frame with BRS 1 that keeps the bus, with TDCCFG.EN 1 (R367). -/
def measures (s : State) (c : Ctrl) (f : TxFrame) (result : CanTxResult) : Bool :=
  f.fdf && f.brs && canBit s c 3 0 && decide (result ≠ .lost)

/-- The delay measured; one below TDCF or above 255 is not kept. -/
def keepTdcv (s : State) (c : Ctrl) (v : Nat) : State :=
  if max 1 (canField s c 3 8 8) ≤ v ∧ v ≤ 255 then canUpd s c fun k => { k with tdcv := v } else s

/-- A delay of more than 255 units ends the frame with a bit error, of a recessive or a dominant bit (R367). -/
def bitErrorCode (lec : BitVec 3) : BitVec 3 := if lec = 5 then 5 else 4

/-- The device's own frame as a reception, for SELFRX (R370); ESI as R379 sets it. -/
def selfRecord (s : State) (c : Ctrl) (f : TxFrame) : RxRec :=
  { idw := frameIdw f.ide f.fdf f.brs f.id
    info := place 0 f.data.length ||| placeB 7 (f.fdf && s.can[c].state = 3) ||| place 8 c.val
    stamp := stampOf s.time
    data := pad64 f.data }

/-- A frame was sent: SENT, TEC, and the reception of R370 with SELFRX 1. -/
def txSent (s : State) (c : Ctrl) (f : Option TxFrame) : State :=
  let s1 := confine (canUpd s c fun k => { k with sent := (k.sent + 1) % 65536, txErr := k.txErr - 1 }) c
  match f with
  | some f => if canBit s c 0 4 then canReceive s1 c (selfRecord s c f) else s1
  | none => s1

/-- The two errors after which ISO 11898-1 leaves TEC unchanged: an error-passive transmitter that misses its acknowledgement and sees no dominant bit in its error flag, and a stuff error in arbitration at a recessive bit read as dominant. `exc` tells that the circumstances of one held. -/
def tecStands (k : CanSt) (lec : BitVec 3) (exc : Bool) : Bool := exc && ((decide (lec = 3) && decide (k.state = 3)) || decide (lec = 1))

/-- An attempt met an error: LEC, TEC eight up but for the exceptions, and its confinement (R383). -/
def txError (s : State) (c : Ctrl) (lec : BitVec 3) (exc : Bool) : State :=
  confine (canUpd s c fun k =>
    { k with lec := lec.toNat, txErr := if tecStands k lec exc then k.txErr else min 511 (k.txErr + 8) }) c

/-- The end of an attempt of `f`: `sent` is what a sent frame changes besides. -/
def txEnd (s : State) (c : Ctrl) (f : Option TxFrame) (result : CanTxResult) (lec : BitVec 3) (tdcv : Nat) (exc : Bool) (sent : State → State) : State :=
  let m : Bool := match f with
    | some f => measures s c f result
    | none => false
  if m ∧ 255 < tdcv then txError s c (bitErrorCode lec) exc
  else
    let s1 := if m then keepTdcv s c tdcv else s
    match result with
    | .sent => txSent (sent s1) c f
    | .lost => s1
    | .error => txError s1 c lec exc

/-- The next offer after an attempt; a controller whose EN has become 0 stops here (R368). -/
def nextOffer (s : State) (c : Ctrl) : State := if canEn s c then offerHead s c else canUpd s c fun k => { k with state := 0 }

/-- CAN_TX_END: the attempt in progress ends; the frame leaves the FIFO when it was sent, stays at the head otherwise, and the next offer follows (R379, R380). -/
def execCanTxEnd (c : Ctrl) (result : CanTxResult) (lec : BitVec 3) (tdcv : Nat) (s : State) (exc : Bool := false) : Out :=
  .next (
    match txWhat s c with
    | .none => s
    | .tail f => nextOffer (txEnd (canUpd s c fun k => { k with tail := none }) c (some f) result lec tdcv exc id) c
    | .ws f => nextOffer (txEnd s c f result lec tdcv exc fun s => if f.isSome then wsFrameSent s else s) c
    | .head f =>
      nextOffer (txEnd s c (some f) result lec tdcv exc fun s => canUpd s c fun k => { k with fifo := k.fifo.drop 1 }) c)

/-- CAN_RECOVER: recovery completes with both counters at zero, ACTIVE, and CAN_RECOVER recorded (R383). -/
def execCanRecover (c : Ctrl) (s : State) : Out :=
  .next (
    if canState s c = 5 then
      ledger (canUpd s c fun k => { k with state := 2, txErr := 0, rxErr := 0 }) 104 (10 + c.val) 0 0
    else s)

/-- CAN_INTEGRATED: 11 recessive bits, and the controller joins the bus (R368); a mute one listens. -/
def execCanIntegrated (c : Ctrl) (s : State) : Out :=
  .next (
    if s.can[c].state = 1 ∧ !canStb s c then
      offerHead (canUpd s c fun k =>
        { k with state := if canListen s c then 6 else if 127 < k.txErr ∨ 127 < k.rxErr then 3 else 2 }) c
    else s)

/-- BUS_ERROR: an error during reception raises REC by what ISO 11898-1 gives it (R383); a mute controller's counters stand (R384). -/
def execBusError (c : Ctrl) (errCnt : Nat) (lec : BitVec 3) (s : State) : Out :=
  .next (
    if !canHears s c then s
    else if canMute s c then canUpd s c fun k => { k with lec := lec.toNat }
    else confine (canUpd s c fun k => { k with lec := lec.toNat, rxErr := min 255 (k.rxErr + errCnt) }) c)

end Sys2Proof.Machine
end

