-- ==== Sys2Proof/Machine/Manifest.lean ====
section
/-!
DEFINITION. Manifest entries (R199 to R207): their format, the examination of Table 7.6 at dies and bus hub, and what entries do when they fall due.
-/

namespace Sys2Proof.Machine

/-- Table 7.4: 16 bytes, little-endian. -/
def entryOf (b : List Byte) : Entry :=
  { time := leNat (b.take 8)
    mask := BitVec.ofNat 16 (leNat ((b.drop 8).take 2))
    action := (b.getD 10 0).toNat
    flags := (b.getD 11 0).toNat
    arg := leNat ((b.drop 12).take 4) }

/-- Row 2 of Table 7.6; a MASK that Table 7.5 does not allow is invalid too (log entry 15). -/
def entryBad (f0 : Bool) (e : Entry) : Bool :=
  decide (1 < e.flags) ||
  match e.action with
  | 1 | 2 | 9 => decide (e.mask = 0) || decide (e.arg ≠ 0)
  | 3 => decide (e.mask = 0) || decide (65535 < e.arg)
  | 4 => decide (e.mask = 0) || decide (3 < e.arg)
  | 5 => decide (e.mask = 0) || decide (e.arg = 0) || decide (2 ^ 24 ≤ e.arg)
  | 6 => decide (e.mask ≠ 0) || decide (3 < e.arg)
  | 7 => if f0 then decide (65535 < e.arg) || (decide (e.mask = 0) && decide (e.arg = 0)) else decide (e.arg ≠ 0) || decide (e.mask = 0)
  | 8 => !f0 || decide (e.mask ≠ 0) || decide (63 < e.arg)
  | _ => true

/-- LATE_OK. -/
def lateOk (e : Entry) : Bool := decide (e.flags % 2 = 1)

/-- The first instant at which an entry acts: time values are multiples of 4 ns (R184, R202). -/
def dueAt (e : Entry) : Nat := (e.time + 3) / 4 * 4

/-- What Table 7.6 decides. -/
inductive Fate where
  | dropped
  | invalid
  | late
  | horizon
  | dup
  | full
  | now
  | pend
deriving DecidableEq, Repr

/-- Table 7.6 for an entry at the commit `t0`. -/
def fateOf (acts f0 : Bool) (t0 cap : Nat) (pend : List Entry) (e : Entry) : Fate :=
  if !acts then .dropped
  else if entryBad f0 e then .invalid
  else if e.time < t0 ∧ !lateOk e then .late
  else if t0 + 1000000000 < e.time then .horizon
  else if pend.contains e then .dup
  else if cap ≤ pend.length then .full
  else if e.time < t0 then .now
  else .pend

/-- The count of a fate (Table 7.6, last column). -/
def countFate (m : ManCnt) : Fate → ManCnt
  | .invalid => { m with invalid := satAdd 255 m.invalid 1 }
  | .late => { m with late := satAdd 255 m.late 1 }
  | .horizon => { m with horizon := satAdd 255 m.horizon 1 }
  | .dup => { m with dup := satAdd 255 m.dup 1 }
  | .full => { m with full := satAdd 255 m.full 1 }
  | _ => m

/-- Examination of a die's voted entries in position order: the store, the counts, the entries that act at the commit in order of acceptance, and the numbers discarded as INVALID and FULL. -/
structure Exam where
  pend : List Entry
  man : ManCnt
  now : List Entry
  bad : Nat
  full : Nat

def examine1 (acts f0 : Bool) (t0 cap : Nat) (x : Exam) (e : Entry) : Exam :=
  let f := fateOf acts f0 t0 cap x.pend e
  let y := { x with man := countFate x.man f }
  match f with
  | .invalid => { y with bad := y.bad + 1 }
  | .full => { y with full := y.full + 1 }
  | .now => { y with now := y.now ++ [e] }
  | .pend => if dueAt e ≤ t0 then { y with pend := y.pend ++ [e], now := y.now ++ [e] } else { y with pend := y.pend ++ [e] }
  | _ => y

/-! ## Entries that act (R202 to R204, R207) -/

/-- SAMPLE entries on channel `k`. -/
def sampleHere (group : List Entry) (now : Nat) (d : FDie) (s : State) (k : Chan) : State :=
  (group.filter fun e => decide (e.action = 7) && e.mask.getLsbD k.val && decide (chMode s d k.val ≠ 0)).foldl
    (fun s e => closeSample d (if dueAt e = now then e.time else now) s k) s

/-- A CANCEL removes its channels from entries with a later TIME. -/
def cancelFrom (c : Entry) (l : List Entry) : List Entry :=
  l.map fun e => if c.time < e.time then { e with mask := e.mask &&& ~~~c.mask } else e

/-- The masked channels of a die changed. -/
def onMask (d : FDie) (m : BitVec 16) (f : ChanSt → ChanSt) (s : State) : State :=
  chans16.foldl (fun s k => if m.getLsbD k.val then updChan s d k f else s) s

/-- A switch action reaches a channel that is an output with its permit, not in a safe state and not under limp-home (R204, R275). -/
def switchReach (s : State) (d : FDie) (k : Chan) : Bool :=
  isGov s d k.val && permOf s d k && decide (decidingCause (chan s d k).causes = 0) && !inLimp s d k

/-- The command that a switch action leaves (Table 7.5, R203). -/
def switchCmd (c : Cmd) (e : Entry) : Cmd :=
  match e.action with
  | 1 | 5 => { c with act := 1 }
  | 2 => { c with act := 0 }
  | 3 => { c with act := 2, duty := e.arg }
  | _ => { c with act := 3, pgsel := e.arg }

def switchChan (d : FDie) (e : Entry) (s : State) (k : Chan) : State :=
  updChan s d k fun c =>
    let n := switchCmd (effCmd c) e
    { c with
      repl := some n
      lastNon4 := n
      pulseEnd := if e.action = 5 then some (s.mono + e.arg * 1000) else none }

/-- The switch actions of an instant on channel `k`, in order of acceptance. -/
def switchesOn (s : State) (d : FDie) (group : List Entry) (k : Chan) : List Entry :=
  if switchReach s d k then group.filter fun e => isSwitch e && e.mask.getLsbD k.val else []

/-- Positions of entries in the group that lose on some channel (R204). -/
def losersOf (s : State) (d : FDie) (group : List Entry) : Nat :=
  let idx := group.zipIdx
  (idx.filter fun e => isSwitch e.1 && chans16.any fun k =>
    e.1.mask.getLsbD k.val && switchReach s d k &&
      idx.any fun g => decide (e.2 < g.2) && isSwitch g.1 && g.1.mask.getLsbD k.val).length

/-- PGSYNC restarts a generator at phase zero (Table 7.5). -/
def pgSync (d : FDie) (s : State) (e : Entry) : State :=
  if e.action = 6 then updField s d fun f => { f with pgOrg := vset f.pgOrg (e.arg % 4) (dieTime s (toDie d)) } else s

/-- All entries of one instant, in order of acceptance: SAMPLE, CANCEL, then generators and switch actions (R202). -/
def actGroup (s : State) (d : FDie) (group : List Entry) : State :=
  let now := dieTime s (toDie d)
  let s1 := chans16.foldl (sampleHere group now d) s
  let cancels := group.filter fun e => decide (e.action = 9)
  let s2 := sweepStore (cancels.foldl (fun s c =>
    onMask d c.mask (fun x => { x with pulseEnd := none }) (updField s d fun f => { f with pend := cancelFrom c f.pend })) s1) d
  let rest := cancels.foldl (fun l c => cancelFrom c l) group
  let lost := losersOf s2 d rest
  let s3 := updField s2 d fun f => { f with man := { f.man with conflict := satAdd 255 f.man.conflict lost } }
  let s4 := rest.foldl (pgSync d) s3
  chans16.foldl (fun s k => match (switchesOn s4 d rest k).getLast? with
    | some e => switchChan d e s k
    | none => s) s4

/-- The earliest instant at which an entry of a store falls due. -/
def nextDue (l : List Entry) : Option Nat :=
  l.foldl (fun a e => match a with
    | none => some (dueAt e)
    | some t => some (min t (dueAt e))) none

/-! ## The bus hub (R206, R378) -/

/-- Held requests in position order, equal positions in the order held. -/
def insertPos (x : HubEntry) : List HubEntry → List HubEntry
  | [] => [x]
  | y :: r => if y.pos ≤ x.pos then y :: insertPos x r else x :: y :: r

def sortPos (l : List HubEntry) : List HubEntry := l.foldl (fun acc x => insertPos x acc) []

def ctrls2 : List Ctrl := [0, 1]

/-- Held requests are placed in their controllers' FIFOs. -/
def hubPlace (s : State) (l : List HubEntry) : State :=
  ctrls2.foldl (fun s c => fifoPutAll s c (((sortPos l).filter fun e => decide (e.ctrl = c.val)).map fun e => reqFrame e.req)) s

/-- The hub's examination of F0's TX entries at a commit. -/
structure HubExam where
  pend : List HubEntry
  man : ManCnt
  now : List HubEntry
  /-- Controller and position of the requests that are not enqueued as voted. -/
  taken : List (Nat × Nat)
  bad : Nat
  full : Nat

/-- One TX entry: rows 1 to 6 take its request with them; a void entry counts as CONFLICT; row 7 places at the commit, row 8 holds. `req` gives the voted request at a controller and position. -/
def hubExamine1 (acts : Bool) (t0 : Nat) (req : Nat → Nat → Option (List Byte)) (x : HubExam) (e : Entry) : HubExam :=
  let c := e.arg % 2
  let p := e.arg / 2 % 32
  let f := fateOf acts true t0 64 ((x.pend ++ x.now.filter fun h => decide (t0 ≤ h.e.time)).map fun h => h.e) e
  let y := { x with man := countFate x.man f }
  match f with
  | .dropped => y
  | .invalid => { y with bad := y.bad + 1, taken := (c, p) :: y.taken }
  | .full => { y with full := y.full + 1, taken := (c, p) :: y.taken }
  | .late | .horizon | .dup => { y with taken := (c, p) :: y.taken }
  | f =>
    match (if x.taken.contains (c, p) then none else req c p) with
    | none => { y with man := { y.man with conflict := satAdd 255 y.man.conflict 1 } }
    | some r =>
      let h : HubEntry := { e := e, ctrl := c, pos := p, req := r }
      let z := { y with taken := (c, p) :: y.taken }
      if f = .now ∨ dueAt e ≤ t0 then { z with now := z.now ++ [h] } else { z with pend := z.pend ++ [h] }

/-! ## MANIFEST_ENTRY_DUE -/

/-- The pending entries of a field die that fall due next act together at their instant. -/
def dieDue (s : State) (d : FDie) : State :=
  match nextDue (fld s d).pend with
  | none => s
  | some t =>
    let s1 := dieTimeTo s (toDie d) t
    let group := (fld s d).pend.filter fun e => decide (dueAt e ≤ t)
    settle (actGroup (updField s1 d fun f => { f with pend := f.pend.filter fun e => !decide (dueAt e ≤ t) }) d group) d

/-- The held requests that fall due next are placed. -/
def hubDue (s : State) : State :=
  match nextDue (s.hub.pend.map fun h => h.e) with
  | none => s
  | some t =>
    let s1 := timeTo s t
    let group := s.hub.pend.filter fun h => decide (dueAt h.e ≤ t)
    hubPlace { s1 with hub := { s1.hub with pend := s1.hub.pend.filter fun h => !decide (dueAt h.e ≤ t) } } group

/-- MANIFEST_ENTRY_DUE: `u` is a field die, or 4 for the bus hub. -/
def execManifestEntryDue (u : Fin 5) (s : State) : Out :=
  .next (match asField u with
    | some d => if powered s u then dieDue s d else s
    | none => hubDue s)

end Sys2Proof.Machine
end

