-- ==== Sys2Proof/Machine/MpOps.lean ====
section
/-!
DEFINITION. The memory port's arbitration (R174, R177, R355 to R357): requests that wait, the operation in progress on each select, and the lanes' line requests before all of them.
-/

namespace Sys2Proof.Machine

/-- VDDIO of the memory port is present (R50). -/
def mpPowered (s : State) : Bool := s.vddio.getLsbD 4

/-- A lane waits for a line, on any select or on one. -/
def lineWaits (s : State) : Bool := s.lane.toList.any fun x => x.lineReq.isSome

def lineWaitsOn (s : State) (sel : Nat) : Bool :=
  s.lane.toList.any fun x => match x.lineReq with | some a => decide (selOf a = sel) | none => false

/-- A select has an operation of a class in progress or waiting. -/
def mpHas (s : State) (owner : Nat) : Bool :=
  (s.mp.wait.any fun r => decide (r.owner = owner)) || s.mp.op.toList.any fun o => match o with | some o => decide (o.owner = owner) | none => false

/-- The select of a region of the directory. -/
def regionSel (s : State) (type : Nat) : Nat := match dirEntryOf s type with | some e => selOf e.base | none => 0

/-- A ledger record is due for its journal, or the HART directory for its region: one request of each class at a time. -/
def mpDue (s : State) : List MpReq :=
  (if s.led.jen ∧ s.led.jready ∧ s.led.pend ≠ [] ∧ !mpHas s 3 then [{ sel := regionSel s 0x40, owner := 3, kind := .program }] else []) ++
    if s.ld.hdirDirty ∧ (dirEntryOf s 0x50).isSome ∧ !mpHas s 6 then [{ sel := regionSel s 0x50, owner := 6, kind := .program }] else []

/-- All that waits. -/
def mpWaiting (s : State) : List MpReq := s.mp.wait ++ mpDue s

/-- The request of highest precedence; within a class the first that arrived (R356). -/
def mpBest : List MpReq → Option MpReq
  | [] => none
  | r :: l => match mpBest l with
    | some q => if q.owner < r.owner then some q else some r
    | none => some r

/-- A request begins on its select: continuous read ends before it (R355), and a next-line fetch is abandoned (R356). -/
def mpStart (s : State) (r : MpReq) : State :=
  { s with mp := { s.mp with
      op := vset s.mp.op r.sel (some { owner := r.owner, kind := r.kind, suspended := false })
      wait := s.mp.wait.erase r
      cont := s.mp.cont &&& ~~~(BitVec.ofNat 2 (2 ^ r.sel))
      stream := none } }

/-- At a segment boundary of a select that is idle, the waiting request of highest precedence begins, when no lane waits for a line (R177, R356). -/
def mpServe (s : State) (sel : Nat) : State :=
  if !mpPowered s || lineWaits s || (vget s.mp.op sel none).isSome then s
  else match mpBest ((mpWaiting s).filter fun r => decide (r.sel = sel)) with
    | some r => mpStart s r
    | none => s

/-- A request joins those that wait; it begins at once when nothing stands before it. -/
def mpAsk (s : State) (sel owner : Nat) (kind : MpKind) : State :=
  mpServe { s with mp := { s.mp with wait := s.mp.wait ++ [{ sel := sel, owner := owner, kind := kind }] } } sel

/-- An operation of a class runs on the select, not suspended and with the port's rail present: it can come to its end. -/
def mpRuns (s : State) (sel owner : Nat) : Bool :=
  match vget s.mp.op sel none with
  | some o => decide (o.owner = owner) && !o.suspended && mpPowered s
  | none => false

/-- The operation on a select ends, and what waits may begin. -/
def mpFinish (s : State) (sel : Nat) : State := mpServe { s with mp := { s.mp with op := vset s.mp.op sel none } } sel

/-- Everything of a class goes, waiting or begun. -/
def mpDrop (s : State) (owner : Nat) : State :=
  let s1 := { s with mp := { s.mp with
    wait := s.mp.wait.filter fun r => decide (r.owner ≠ owner)
    op := s.mp.op.map fun o => o.filter fun o => decide (o.owner ≠ owner) } }
  mpServe (mpServe s1 0) 1

end Sys2Proof.Machine
end

