-- ==== Sys2Proof/Machine/Hart.lean ====
section
/-!
DEFINITION. HART (R299 to R305): requests with the primary master's timing, responses, bursts, scans, the directory, and page 13.
-/

namespace Sys2Proof.Machine

/-- `n` character times of 11 bits at 1,200 bit/s, ns (R299). -/
def charTime (n : Nat) : Nat := n * 27500000 / 3

/-- HCTL_k's checks (R301, R307). -/
def hctlCheck (s : State) (k : Chan) (w : Word) : Nat :=
  let op := fieldOf w 0 2
  if op = 1 ∧ fieldOf w 24 8 = 0x69 ∧ !hartRuns s k then 0x04
  else if fieldOf w 24 8 ≠ 0x69 ∨ op = 0 ∨ op = 3 then 0x0A
  else if op = 1 ∧ s.loop[k].hart.job ≠ 0 then 0x0F
  else 0

/-- GO queues a transaction; CANCEL ends one with ABORTED. -/
def hctlWrite (s : State) (k : Chan) (w : Word) : State :=
  if fieldOf w 0 2 = 1 then
    updHart s k fun h =>
      { h with job := 1, att := 0, waiting := false, state := 1, err := 0, nresp := 0, tries := 0, req := hartReq s k.val }
  else if s.loop[k].hart.job = 1 then hartAbort s k
  else s

/-- HSCAN's checks (R307). -/
def hscanCheck (s : State) (w : Word) : Nat :=
  let k : Chan := ⟨fieldOf w 0 4 % 16, Nat.mod_lt _ (by decide)⟩
  if !hartRuns s k then 0x04
  else if fieldOf w 24 8 ≠ 0x5C ∨ fieldOf w 10 6 < fieldOf w 4 6 then 0x0A
  else if s.loop[k].hart.job ≠ 0 then 0x0F
  else 0

/-- HSCAN: command 0 to the short addresses FIRST to LAST (R304). -/
def hscanWrite (s : State) (w : Word) : State :=
  let k : Chan := ⟨fieldOf w 0 4 % 16, Nat.mod_lt _ (by decide)⟩
  updHart s k fun h =>
    { h with job := 2, att := 0, waiting := false, scan := some (fieldOf w 4 6, fieldOf w 10 6), req := scanReq (fieldOf w 4 6) }

/-- The open-wire test holds new transactions on the loop (step 1 of R292). -/
def hartHeld (s : State) (k : Chan) : Bool := decide (s.loop[k].ow.state = 1) && s.loop[k].hart.att == 0

/-- HART_REQUEST_TX: the modem starts a request frame with no carrier present: a retry after 33 character times of silence; with burst devices present within 8 character times of a burst's end, or after 33 of silence (Table 10.3). -/
def execHartRequestTx (k : Chan) (s : State) : Out :=
  .next (
    let h := s.loop[k].hart
    if h.job = 0 ∨ h.waiting ∨ h.cd ∨ !hartRuns s k ∨ hartHeld s k then s
    else
      let silence := monoTo s (h.quietFrom + charTime 33)
      let s1 := if 0 < h.att then silence
        else match h.burstAt with
          | some t => if s.mono ≤ t + charTime 8 then s else silence
          | none => s
      let sent := s1.mono + charTime (cfgField s1 13 0 0 5 + h.req.length)
      updHart s1 k fun h =>
        { h with
          state := if h.job = 1 then 2 else h.state
          att := h.att + 1
          tries := if h.job = 1 then h.att + 1 else h.tries
          waiting := true, sentAt := sent, quietFrom := sent })

/-- The address bytes of a frame from its delimiter: five for long frames. -/
def hartAddr (f : List Byte) : List Byte := (f.drop 1).take (if (f.getD 0 0).getLsbD 7 then 5 else 1)

/-- A frame's command, byte count, bytes after the count, and its check byte at the end. -/
def hartBody (f : List Byte) : List Byte := f.drop (1 + (hartAddr f).length)
def hartCmd (f : List Byte) : Nat := ((hartBody f).getD 0 0).toNat
def hartCount (f : List Byte) : Nat := ((hartBody f).getD 1 0).toNat
def hartData (f : List Byte) : List Byte := ((hartBody f).drop 2).take (hartCount f)

/-- The frame is whole and its check byte is correct (Table 10.3). -/
def hartWhole (f : List Byte) : Bool :=
  decide (f.length = 1 + (hartAddr f).length + 2 + hartCount f + 1) && decide (xorBytes f = 0)

/-- A response is accepted (Table 10.3). -/
def hartAccept (h : HartSt) (parityOk : Bool) (f : List Byte) : Bool :=
  parityOk && hartWhole f && (f.getD 0 0 == 0x06#8 || f.getD 0 0 == 0x86#8) && decide (2 ≤ hartCount f) &&
    hartAddr f == hartAddr h.req

/-- The data bytes of a response as words, the last padded with zeros. -/
def dataWords (d : List Byte) : List Word := wordsBe (d ++ List.replicate ((4 - d.length % 4) % 4) 0#8)

/-- Words put at consecutive register keys. -/
def regsPut (m : RegMap) (key : Nat) : List Word → RegMap
  | [] => m
  | w :: ws => regsPut (rmSet m key w) (key + 1) ws

/-- A transaction's accepted response (R301): the response data, the status bytes, DONE. -/
def hartDone (s : State) (k : Chan) (f : List Byte) : State :=
  let d := hartData f
  let h := s.loop[k].hart
  let s1 := { s with regs := regsPut s.regs (regKey 13 (0x200 + 0x40 * k.val)) (dataWords (d.drop 2)) }
  let s2 := updHart s1 k fun h =>
    { h with state := 3, err := 0, nresp := hartCount f - 2, rc := (d.getD 0 0).toNat, fds := (d.getD 1 0).toNat, cmd := hartCmd f }
  let s3 := if h.req.getD 0 0 = 0x02#8 ∧ h.req.getD 2 1 = 0x00#8 ∧ hartCmd f = 0 then
      hdirReply s2 k ((h.req.getD 1 0).toNat % 64) (d.getD 0 0).toNat (d.drop 2)
    else s2
  hartIdle s3 k

/-- A scan's reply (R304), and the next address. -/
def scanDone2 (s : State) (k : Chan) (f : List Byte) : State :=
  let d := hartData f
  match s.loop[k].hart.scan with
  | none => hartIdle s k
  | some (a, last) =>
    let s1 := hdirReply s k a (d.getD 0 0).toNat (d.drop 2)
    if last ≤ a then hartIdle s1 k
    else owGoOn (updHart s1 k fun h => { h with waiting := false, att := 0, scan := some (a + 1, last), req := scanReq (a + 1) }) k

/-- The delimiter of a frame that ends now began within 28 character times of the request's end (Table 10.3). -/
def inTime (s : State) (h : HartSt) (f : List Byte) : Bool := decide (s.mono ≤ h.sentAt + charTime (28 + f.length))

/-- HART_RESPONSE: a frame from its delimiter to its check byte arrives; response code 32 and frames that are late or not accepted fail the try (R300). -/
def execHartResponse (k : Chan) (parityOk : Bool) (frame : List Byte) (s : State) : Out :=
  .next (
    let h := s.loop[k].hart
    if !h.waiting ∨ !hartRuns s k then s
    else
      let s1 := updHart s k fun h => { h with quietFrom := s.mono }
      if !inTime s h frame then hartFail s1 k 1
      else if !hartAccept h parityOk frame then hartFail s1 k 2
      else if (hartData frame).getD 0 0 = 32#8 then hartFail s1 k 4
      else if h.job = 1 then hartDone s1 k frame
      else scanDone2 s1 k frame)

/-- HART_RESPONSE_TIMEOUT: 28 character times after the request no delimiter has begun. -/
def execHartResponseTimeout (k : Chan) (s : State) : Out :=
  .next (
    let h := s.loop[k].hart
    if h.waiting then hartFail (monoTo s (h.sentAt + charTime 28)) k 1 else s)

/-- HART_BURST: a burst frame that passes its checks replaces HBURST_k with its end time (R303). -/
def execHartBurst (k : Chan) (parityOk : Bool) (frame : List Byte) (s : State) : Out :=
  .next (
    if !hartRuns s k then s
    else if parityOk ∧ hartWhole frame ∧ (frame.getD 0 0 = 0x01#8 ∨ frame.getD 0 0 = 0x81#8) then
      updHart s k fun h =>
        { h with
          burst := loWord s.time :: hiWord s.time :: wordsBe ((frame ++ List.replicate 264 0#8).take 264)
          bCount := (h.bCount + 1) % 65536, bLen := hartCount frame, bCmd := hartCmd frame
          burstAt := some s.mono, quietFrom := s.mono }
    else updHart s k fun h => { h with quietFrom := s.mono })

/-- CARRIER_DETECT (R299). -/
def execCarrierDetect (k : Chan) (on : Bool) (s : State) : Out :=
  .next (
    if hartRuns s k then updHart s k fun h => { h with cd := on, quietFrom := if h.cd ∧ !on then s.mono else h.quietFrom }
    else updHart s k fun h => { h with cd := false })

/-- HDIR_STORE_WRITE: the directory is written into store region 0x50 (R304), its words in page order, most significant byte first (log entry 22). -/
def execHdirStoreWrite (ok : Bool) (s0 : State) : Out :=
  .next (
    let sel := regionSel s0 0x50
    let s := mpServe s0 sel
    match dirEntryOf s 0x50 with
    | none => s
    | some e =>
      if !mpRuns s sel 6 then s
      else if !ok then mpFinish { s with mp := { s.mp with progFail := satAdd 255 s.mp.progFail 1 } } sel
      else
        let bytes := ((List.range 8192).map fun i => beBytes (rmGet s.ld.hdir (0x1000 + i))).flatten
        let s1 := storePut (storeErase s e.base (e.base + min e.len 32768)) e.base (bytes.take e.len)
        mpFinish { s1 with ld := { s1.ld with hdirDirty := false } } sel)

/-- The directory as boot reads it back (R304): CONFIRMED, TIME and the counts of this run are 0. -/
def hdirLoad (s : State) : RegMap :=
  match dirEntryOf s 0x50 with
  | none => []
  | some e =>
    if e.len < 32768 then []
    else
      (List.range 1024).foldl (fun m i =>
        let w (j : Nat) : Word := BitVec.ofNat 32 (beAt s.store (e.base + 32 * i + 4 * j) 4)
        if w 0 = 0xFFFFFFFF#32 then m
        else rmSet (rmSet (rmSet m (0x1000 + 8 * i) (w 0 &&& 0xFF03#32)) (0x1001 + 8 * i) (w 1)) (0x1002 + 8 * i) (w 2)) []

/-- HSTAT.BUSY: a transaction from its first preamble on, or a scan. -/
def hartBusy (h : HartSt) : Bool := h.job = 2 || hartInProgress h

/-- Page 13 as read. -/
def readHart (s : State) (off : Nat) : Word :=
  if off = 1 then
    chans16.foldl (fun w k => w ||| placeB k.val s.loop[k].hart.cd ||| placeB (16 + k.val) (hartBusy s.loop[k].hart)) 0
  else if 0x40 ≤ off ∧ off < 0xC0 then
    let h := s.loop[(⟨(off - 0x40) / 8 % 16, Nat.mod_lt _ (by decide)⟩ : Chan)].hart
    match (off - 0x40) % 8 with
    | 4 => place 0 h.state ||| place 8 h.err ||| place 16 h.nresp ||| place 24 h.tries
    | 5 => place 0 h.rc ||| place 8 h.fds ||| place 16 h.cmd
    | 6 => place 0 h.bCount ||| place 16 h.bLen ||| place 24 h.bCmd
    | _ => cfgWord s 13 off
  else if 0x600 ≤ off ∧ off < 0xA40 then
    (s.loop[(⟨(off - 0x600) / 68 % 16, Nat.mod_lt _ (by decide)⟩ : Chan)].hart.burst).getD ((off - 0x600) % 68) 0
  else if 0x1000 ≤ off ∧ off < 0x3000 then rmGet s.ld.hdir off
  else cfgWord s 13 off

/-- HBUF_k and the request words of a loop that is QUEUED or BUSY: writes of HBUF are refused (page 13). -/
def hbufBusy (s : State) (off : Nat) : Bool :=
  let h := s.loop[(⟨(off - 0x200) / 64 % 16, Nat.mod_lt _ (by decide)⟩ : Chan)].hart
  decide (h.state = 1) || decide (h.state = 2)

end Sys2Proof.Machine
end

