-- ==== Sys2Proof/Machine/Inputs.lean ====
section
/-!
DEFINITION. Digital inputs, permit receivers, safe states and limp-home (09): the commands of the field dies that decide which source governs a channel.
-/

namespace Sys2Proof.Machine

/-! ## Inputs (R249 to R258) -/

/-- The first instant of a grid with origin `o` and step `p` that is not earlier than `t`. -/
def gridFrom (o : Int) (p t : Nat) : Nat := if p = 0 then t else (o + (((t : Int) - o + p - 1) / p) * p).toNat

/-- GRIDORG as the die uses it (R252). -/
def dieGridOrg (s : State) (d : FDie) : Nat := (fdSet s d 3 0x0A).toNat * 2 ^ 32 + (fdSet s d 3 9).toNat

/-- The next sample instant of the die's grid (R252). -/
def nextSample (s : State) (d : FDie) : Nat :=
  let p := fdField s d 0x30 0 14 * 1000
  let t := gridFrom ((dieGridOrg s d : Int) - 4000) p (dieTime s (toDie d))
  match (fld s d).sampleAt with
  | some u => if t = u then t + p else t
  | none => t

/-- A voltage is at or above VBB − V_SC (R258); inside the limits of V_SC the part decides. -/
def nearSupply (v vbb idx : Nat) : Bool :=
  if vbb ≤ v + 1000 then true else if v + 2000 < vbb then false else decide (vbb ≤ v + max 1000 (min 2000 (Config.part 3 idx)))

/-- Limits of the rising and the falling threshold of a set, mV (Table 9.1). -/
def riseLim : Nat → Nat × Nat
  | 0 => (11000, 13000)
  | 1 => (8000, 10000)
  | _ => (28000, 32000)

def fallLim : Nat → Nat × Nat
  | 0 => (9000, 11000)
  | 1 => (6000, 8000)
  | _ => (22000, 26000)

/-- Consecutive equal results: the count goes on, or starts again at 1. -/
def runCount (same : Bool) (n : Nat) : Nat := if same then min 255 (n + 1) else 1

/-- The input test that holds channel `k` of die `d` (R425). -/
def inTest (s : State) (d : FDie) (k : Nat) : Option ActSt :=
  ((mntRunning s).find? fun e =>
    decide (e.2.kind = 10) && decide (e.2.index = d.val) && e.2.mask.getLsbD k && decide (e.2.count < e.2.total)).map Prod.snd

def inTested (s : State) (d : FDie) (k : Nat) : Bool := (inTest s d k).isSome

/-- The test source of R425 stands high: the first half of the sample instants. -/
def sourceHigh (a : ActSt) : Bool := decide (2 * a.count < a.total)

/-- The test source, mV: 1.0 V above the highest rising threshold, then 1.0 V below the lowest falling one. -/
def sourceMv (high : Bool) (thr : Nat) : Nat := if high then (riseLim thr).2 + 1000 else (fallLim thr).1 - 1000

/-- What the comparators of a channel make of `v` mV: a break sample, a short sample, and RAW (R256 to R258). -/
structure InRead where
  brk : Bool
  sc : Bool
  raw : Bool
deriving DecidableEq, Repr

def inRead (s : State) (d : FDie) (k : Chan) (v : Nat) : InRead :=
  let idx := d.val * 16 + k.val
  let thr := chField s d k.val 0x0C 0 2
  let brk := chBit s d k.val 0x0C 2 && !atOrAbove v 1500 2500 2 idx
  let sc := chBit s d k.val 0x0C 3 && nearSupply v (fld s d).vbb.toNat idx
  let lvl := if (chan s d k).raw then atOrAbove v (fallLim thr).1 (fallLim thr).2 1 (idx * 4 + thr)
    else atOrAbove v (riseLim thr).1 (riseLim thr).2 0 (idx * 4 + thr)
  { brk := brk, sc := sc, raw := if brk then false else if sc then true else lvl }

/-- A channel under an input test reads the source (R425): RAW answers it unless the comparator is `dead`, the channel is not valid, and LEVEL, WB and SHORT hold. -/
def testSample (a : ActSt) (dead : Bool) (d : FDie) (s : State) (k : Chan) : State :=
  let high := sourceHigh a
  let raw := if dead then (chan s d k).raw else (inRead s d k (sourceMv high (chField s d k.val 0x0C 0 2))).raw
  let s1 := updChan s d k fun c => { c with raw := raw, valid := false }
  if raw = high then s1 else updTest s1 10 d.val fun a => { a with fail := a.fail ||| BitVec.ofNat 16 (2 ^ k.val) }

/-- One INPUT channel takes the sample `v` mV: RAW, LEVEL, WB and SHORT with their FILT counts (R256 to R258). -/
def liveSample (v : Nat) (d : FDie) (s : State) (k : Chan) : State :=
  let c := chan s d k
  let filt := chField s d k.val 0x0C 8 8
  let q := inRead s d k v
  let rc := runCount (q.raw == c.raw) c.rawCnt
  let wc := runCount (q.brk == c.wbRaw) c.wbCnt
  let hc := runCount (q.sc == c.shortRaw) c.shortCnt
  let wb := if filt ≤ wc then q.brk else c.wb
  let sh := if filt ≤ hc then q.sc else c.short
  let s1 := updChan s d k fun c =>
    { c with
      sink := chBit s d k.val 0x0C 4, vT := v
      raw := q.raw, rawCnt := rc, wbRaw := q.brk, wbCnt := wc, shortRaw := q.sc, shortCnt := hc
      level1 := if filt ≤ rc then q.raw else c.level1
      valid := c.valid || decide (filt ≤ rc)
      wb := wb, short := sh
      routineAt := if pairLocked s (toDie d) k.val then c.routineAt else s.time }
  let s2 := if wb ∧ !c.wb then dieLedger s1 (toDie d) 45 k.val 0 else s1
  if sh ∧ !c.short then dieLedger s2 (toDie d) 46 k.val 0 else s2

/-- One channel at a sample instant: an INPUT channel reads its terminal, or the source of a test. -/
def sampleChan (mV : List Nat) (dead : BitVec 16) (d : FDie) (s : State) (k : Chan) : State :=
  if chMode s d k.val ≠ 2 then s
  else
    match inTest s d k.val with
    | some a => testSample a (dead.getLsbD k.val) d s k
    | none => liveSample (mV.getD k.val 0) d s k

/-- A channel leaves an input test: the count of R256 starts anew, and a continuous sink is on again. -/
def inRestore (mask : BitVec 16) (d : FDie) (s : State) (k : Chan) : State :=
  if mask.getLsbD k.val then updChan s d k fun c => { c with rawCnt := 0, sink := chMode s d k.val = 2 && chBit s d k.val 0x0C 4 } else s

/-- The input test of a die has taken one more instant; after the last one its channels read their terminals again (R425). -/
def testInstant (s : State) (d : FDie) : State :=
  match (mntRunning s).find? fun e => decide (e.2.kind = 10) && decide (e.2.index = d.val) && decide (e.2.count < e.2.total) with
  | none => s
  | some e =>
    let s1 := updTest s 10 d.val fun a => { a with count := a.count + 1 }
    if e.2.count + 1 < e.2.total then s1 else chans16.foldl (inRestore e.2.mask d) s1

/-- The sample at the next sample instant of the die (R252); `mV` are the loaded terminal voltages by local channel. -/
def takeSample (d : FDie) (mV : List Nat) (dead : BitVec 16) (s : State) : State :=
  let t := nextSample s d
  testInstant (chans16.foldl (sampleChan mV dead d) (updField (dieTimeTo s (toDie d) t) d fun f => { f with sampleAt := some t })) d

/-- The window start of the next sample for a channel in INPUT with CONT 0 whose sink is off (R252). -/
def windowStart (s : State) (d : FDie) (k : Chan) : Option Nat :=
  if chMode s d k.val = 2 ∧ !chBit s d k.val 0x0C 4 ∧ !(chan s d k).sink ∧ !inTested s d k.val then
    some (nextSample s d - chField s d k.val 0x0C 16 10 * 1000)
  else none

/-- SINK_WINDOW_START: the earliest window that is still to start begins. -/
def execSinkWindowStart (d : FDie) (s : State) : Out :=
  .next (
    if !powered s (toDie d) || s.die[toDie d].fresh then s
    else
      let starts := chans16.filterMap (windowStart s d)
      match starts with
      | [] => s
      | t0 :: r =>
        let t := r.foldl min t0
        let due := chans16.filter fun k => decide (windowStart s d k = some t)
        due.foldl (fun s k => updChan s d k fun c => { c with sink := true }) (dieTimeTo s (toDie d) t))

/-! ## Permits (R260 to R264) -/

/-- PERMIT_EDGE: a coupler edge `half` ns after the previous one. -/
def execPermitEdge (d : FDie) (k : Chan) (half : Nat) (s : State) : Out :=
  .next (
    if !powered s (toDie d) then s
    else
      let p := (chan s d k).perm
      let s1 := monoTo s (p.edgeAt + half)
      let was := permOf s1 d (govOf s1 d k)
      let own := permOwn s1 d k
      if 25000 < half then
        permChanged (updChan s1 d k fun c => { c with perm := { c.perm with edgeAt := s1.mono, good := 0, bad := 0, present := false } })
          d k was own
      else if 7500 ≤ half ∧ half ≤ 12500 then
        let good := min 3 (p.good + 1)
        permChanged (updChan s1 d k fun c =>
          { c with perm := { c.perm with edgeAt := s1.mono, good := good, bad := 0, present := p.present || decide (3 ≤ good) } })
          d k was own
      else
        let recent := (s1.mono :: p.badAt).filter fun t => decide (s1.mono < t + 1000000)
        let fault := p.fault || decide (4 < recent.length)
        let bad := min 2 (p.bad + 1)
        let s2 := updChan s1 d k fun c =>
          { c with perm := { present := p.present && decide (bad < 2), edgeAt := s1.mono, good := 0, bad := bad,
                             fault := fault, badAt := recent } }
        let s3 := if fault ∧ !p.fault ∧ isOutput s d k.val then dieLedger s2 (toDie d) 38 k.val 0 else s2
        permChanged s3 d k was own)

/-- PERMIT_STOP: 25 µs without an edge. -/
def execPermitStop (d : FDie) (k : Chan) (s : State) : Out :=
  .next (
    if !powered s (toDie d) then s
    else
      let p := (chan s d k).perm
      let s1 := monoTo s (p.edgeAt + 25000)
      permChanged (updChan s1 d k fun c => { c with perm := { c.perm with good := 0, bad := 0, present := false } })
        d k (permOf s1 d (govOf s1 d k)) (permOwn s1 d k))

/-- PFAULT_CLEAR: 1 ms after the last half-period that is not valid (R263). -/
def execPfaultClear (d : FDie) (k : Chan) (s : State) : Out :=
  .next (
    let p := (chan s d k).perm
    if !p.fault then s
    else
      let s1 := monoTo s (p.badAt.headD 0 + 1000000)
      permChanged (updChan s1 d k fun c => { c with perm := { c.perm with fault := false, badAt := [] } })
        d k (permOf s1 d (govOf s1 d k)) (permOwn s1 d k))

/-- PERMIT_WAIT_END: the 40 µs of R262 pass without the permit; the channel stays in its safe state. -/
def execPermitWaitEnd (d : FDie) (k : Chan) (s : State) : Out :=
  .next (
    match (chan s d k).permWait with
    | none => s
    | some e => endPermWait (monoTo s e) d k)

/-- COAST_END: the coast window ends and the demand is off until the safe state ends (R267); a window is held during a wait of R262. -/
def execCoastEnd (d : FDie) (k : Chan) (s : State) : Out :=
  .next (
    let c := chan s d k
    match c.coast with
    | none => s
    | some t => if c.permWait.isSome then s else settle (updChan (monoTo s t) d k fun c => { c with coast := none }) d)

/-- CH_STUCK: the 10 µs checks of an open switch have read 50 mA or more for 1 ms (R271); `uA` is the last reading. Either half of a pair activates cause 4 of the channel that governs it. -/
def execChStuck (d : FDie) (k : Chan) (uA : Nat) (s : State) : Out :=
  .next (
    match (chan s d k).highSince with
    | none => s
    | some t =>
      if powered s (toDie d) ∧ !stageOn s d k ∧ !(chan s d k).stuck then
        let s1 := monoTo s (t + 1000000)
        let s2 := dieLedger (updChan s1 d k fun c => { c with stuck := true }) (toDie d) 44 k.val uA
        let g := govOf s2 d k
        if isGov s2 d g.val then settle (setCauses s2 d g 0 (causeBit 4)) d else s2
      else s)

/-! ## Limp-home (R273 to R278) -/

/-- The drive of a mapped channel (R275). -/
def lhDrive (f : FieldSt) (c : ChanSt) : Bool := f.lhIn.getLsbD c.map.src != c.map.inv

/-- Bits of the mapped channels. -/
def mappedBits (f : FieldSt) : Nat :=
  (f.ch.toList.zipIdx.filter fun e => e.1.map.en).foldl (fun n e => n + 2 ^ e.2) 0

/-- A mapped channel leaves Table 8.4: slot, queue place, reservation and its bits in pending entries go (R277). A stage that conducts opens when its drive is off. -/
def enterLimp (d : FDie) (s : State) (k : Chan) : State :=
  if !(chan s d k).map.en then s
  else
    let s1 := if !stOn (chan s d k).st then s
      else if lhDrive (fld s d) (chan s d k) then endConduction s d k
      else openFree s d k
    let s2 := dropBits (withdraw s1 d k) d k.val
    updChan s2 d k fun c =>
      { c with st := if c.st = .latched then .latched else .off, limit := false, lhOn := lhDrive (fld s2 d) c, lhShut := false, onAt := if lhDrive (fld s2 d) c then s2.mono else c.onAt }

/-- LIMP_HOME: LH_EN_Fn is asserted; the block works from VBB with or without barrier power (R45, R273, R277). -/
def execLimpHome (d : FDie) (s : State) : Out :=
  .next (
    if (fld s d).lhEn || (fld s d).vbbLow then s
    else
      let s1 := chans16.foldl (enterLimp d) s
      let s2 := updField s1 d fun f => { f with lhEn := true }
      let s3 := settle (serveSlots s2 d) d
      if powered s (toDie d) then dieLedger s3 (toDie d) 50 0 (mappedBits (fld s d)) else s3)

/-- A mapped channel returns to rows 2 to 5 of Table 9.4 (R278). -/
def leaveLimp (d : FDie) (s : State) (k : Chan) : State :=
  let c := chan s d k
  if !c.map.en then s
  else
    updChan s d k fun c =>
      { c with
        lhOn := false, lhShut := false
        st := if c.st = .latched then .latched
          else if c.lhOn && powered s (toDie d) && !(fld s d).vbbOff then .on else .off
        load := chField s d k.val 0 4 3
        onAt := s.mono - profB (chField s d k.val 0 4 3)
        condAt := s.mono
        olFrom := s.mono }

/-- LH_EN_RELEASE: LH_EN_Fn is released. A channel that conducts goes on in state ON with profile time at B; one whose demand is off turns off by row 5. -/
def execLhEnRelease (d : FDie) (s : State) : Out :=
  .next (
    if !(fld s d).lhEn then s
    else settle (updField (chans16.foldl (leaveLimp d) s) d fun f => { f with lhEn := false }) d)

/-- A stage under limp-home opens; what its load does is a free value (log entry 76). -/
def lhOpens (d : FDie) (s : State) (k : Chan) : State :=
  updChan (useFree s) d k fun c => { stageOpens (freeCurrent s) (freeClamp s) c with lhOn := false }

/-- LH_IN_CHANGE: a pad takes a new level; the mapped channels follow while LH_EN is asserted (R273, R276). -/
def execLhInChange (d : FDie) (j : Fin 4) (level : Bool) (s : State) : Out :=
  .next (
    if (fld s d).vbbLow then s
    else
      let bit := BitVec.ofNat 4 (2 ^ j.val)
      let s1 := updField s d fun f => { f with lhIn := if level then f.lhIn ||| bit else f.lhIn &&& ~~~bit }
      if !(fld s d).lhEn then s1
      else chans16.foldl (fun s k =>
        if (chan s d k).map.en ∧ (chan s d k).map.src = j.val ∧ !(chan s d k).lhShut then
          (if lhDrive (fld s d) (chan s d k) then updChan s d k fun c => { c with lhOn := true, onAt := if c.lhOn then c.onAt else s.mono }
            else if (chan s d k).lhOn then lhOpens d s k
            else s)
        else s) s1)

/-- LH_TRIP: the stage's own protection opens a channel under limp-home: the fast trip, or the shutdown of a sensor at 175 °C (R222, R276). RLEFT, the latch and the counts stand. -/
def execLhTrip (d : FDie) (k : Chan) (cause : BitVec 4) (s : State) : Out :=
  .next (
    if inLimp s d k ∧ (chan s d k).lhOn ∧ ((cause = 1 ∧ 175 * 16 ≤ pairMax s d k fun c => c.tj) ∨ cause = 4) then
      let s1 := updChan (lhOpens d s k) d k fun c => { c with lhShut := true }
      if powered s (toDie d) then dieLedger s1 (toDie d) 51 k.val cause.toNat else s1
    else s)

end Sys2Proof.Machine
end

