-- ==== Sys2Proof/Machine/Flags.lean ====
section
/-!
DEFINITION. LYN flag computations (R158, Table 6.8), with the results they belong to. Arithmetic is exact on integers and narrowed at the end.
-/

namespace Sys2Proof.Machine

/-- A result with the flags an instruction sets: none keeps a flag (Table 6.8). -/
structure AluRes where
  r : Word
  c : Option Bool
  v : Option Bool
deriving DecidableEq, Repr

/-- The signed value lies outside −2^31 to 2^31 − 1. -/
def sOver (i : Int) : Bool := decide (i < -2147483648) || decide (2147483647 < i)

def b2n (b : Bool) : Nat := if b then 1 else 0

/-- ADD, ADC (carry in `c`), ADDI. -/
def aluAdd (a b : Word) (c : Bool) : AluRes :=
  { r := BitVec.ofNat 32 (a.toNat + b.toNat + b2n c)
    c := some (decide (2 ^ 32 ≤ a.toNat + b.toNat + b2n c))
    v := some (sOver (a.toInt + b.toInt + b2n c)) }

/-- SUB, CMP, CMPI, and SBC with C in `c` (C = 1: no borrow). -/
def aluSub (a b : Word) (c : Bool) : AluRes :=
  { r := BitVec.ofInt 32 ((a.toNat : Int) - b.toNat - (1 - b2n c : Nat))
    c := some (decide (b.toNat + (1 - b2n c) ≤ a.toNat))
    v := some (sOver (a.toInt - b.toInt - (1 - b2n c : Nat))) }

/-- Clamp to 32-bit signed. -/
def sClamp (i : Int) : Int := max (-2147483648) (min i 2147483647)

def aluAdds (a b : Word) : AluRes :=
  { r := BitVec.ofInt 32 (sClamp (a.toInt + b.toInt)), c := some false, v := some (sOver (a.toInt + b.toInt)) }

def aluSubs (a b : Word) : AluRes :=
  { r := BitVec.ofInt 32 (sClamp (a.toInt - b.toInt)), c := some false, v := some (sOver (a.toInt - b.toInt)) }

/-- Results that keep C and V. -/
def aluKeep (r : Word) : AluRes := { r := r, c := none, v := none }

/-- Leading zero bits among the low `n` bits (R158 CLZ). -/
def clzFrom (w : Word) : Nat → Nat
  | 0 => 0
  | n + 1 => if w.getLsbD n then 0 else 1 + clzFrom w n

/-- One bits among the low `n` bits (R158 POPC). -/
def popFrom (w : Word) : Nat → Nat
  | 0 => 0
  | n + 1 => b2n (w.getLsbD n) + popFrom w n

/-- Table 6.9a: SLL by `k`. -/
def shiftLeft (a : Word) (k : Nat) : AluRes :=
  if k = 0 then aluKeep a
  else if k ≤ 31 then { r := a <<< k, c := some (a.getLsbD (32 - k)), v := none }
  else if k = 32 then { r := 0, c := some (a.getLsbD 0), v := none }
  else { r := 0, c := some false, v := none }

/-- SRL by `k`. -/
def shiftRight (a : Word) (k : Nat) : AluRes :=
  if k = 0 then aluKeep a
  else if k ≤ 31 then { r := a >>> k, c := some (a.getLsbD (k - 1)), v := none }
  else if k = 32 then { r := 0, c := some (a.getLsbD 31), v := none }
  else { r := 0, c := some false, v := none }

/-- SRA by `k`. -/
def shiftArith (a : Word) (k : Nat) : AluRes :=
  if k = 0 then aluKeep a
  else if k ≤ 31 then { r := a.sshiftRight k, c := some (a.getLsbD (k - 1)), v := none }
  else { r := if a.getLsbD 31 then 0xFFFFFFFF#32 else 0, c := some (a.getLsbD 31), v := none }

/-- ROR by `k`. -/
def shiftRotate (a : Word) (k : Nat) : AluRes :=
  if k = 0 then aluKeep a
  else
    let r := a.rotateRight (k % 32)
    { r := r, c := some (r.getLsbD 31), v := none }

/-- The four shift kinds of SHI. -/
def shiftKind (kind : BitVec 2) (a : Word) (k : Nat) : AluRes :=
  match kind.toNat with
  | 0 => shiftLeft a k
  | 1 => shiftRight a k
  | 2 => shiftArith a k
  | _ => shiftRotate a k

def aluMul (a b : Word) : AluRes :=
  { r := BitVec.ofInt 32 (a.toInt * b.toInt), c := some false, v := some (sOver (a.toInt * b.toInt)) }

def aluMulhs (a b : Word) : AluRes :=
  { r := BitVec.ofInt 32 ((a.toInt * b.toInt) / 4294967296), c := some false, v := some false }

def aluMulhu (a b : Word) : AluRes :=
  { r := BitVec.ofNat 32 ((a.toNat * b.toNat) / 4294967296), c := some false, v := some false }

/-- The overflow case of Table 6.9. -/
def divOver (a b : Word) : Bool := decide (a = 0x80000000#32) && decide (b = 0xFFFFFFFF#32)

/-- DIVS and REMS (R160): division truncates towards zero. -/
def aluDivs (a b : Word) : AluRes :=
  if b = 0 then { r := 0, c := some false, v := some true }
  else if divOver a b then { r := 0x80000000#32, c := some false, v := some true }
  else { r := BitVec.ofInt 32 (a.toInt.tdiv b.toInt), c := some false, v := some false }

def aluRems (a b : Word) : AluRes :=
  if b = 0 then { r := a, c := some false, v := some true }
  else if divOver a b then { r := 0, c := some false, v := some true }
  else { r := BitVec.ofInt 32 (a.toInt.tmod b.toInt), c := some false, v := some false }

def aluDivu (a b : Word) : AluRes :=
  if b = 0 then { r := 0, c := some false, v := some true }
  else { r := BitVec.ofNat 32 (a.toNat / b.toNat), c := some false, v := some false }

def aluRemu (a b : Word) : AluRes :=
  if b = 0 then { r := a, c := some false, v := some true }
  else { r := BitVec.ofNat 32 (a.toNat % b.toNat), c := some false, v := some false }

/-- Table 6.5: the value of a condition; none for 0xF. -/
def condHolds (cond : BitVec 4) (n z c v : Bool) : Option Bool :=
  match cond.toNat with
  | 0x0 => some z
  | 0x1 => some (!z)
  | 0x2 => some c
  | 0x3 => some (!c)
  | 0x4 => some n
  | 0x5 => some (!n)
  | 0x6 => some v
  | 0x7 => some (!v)
  | 0x8 => some (c && !z)
  | 0x9 => some (!c || z)
  | 0xA => some (n == v)
  | 0xB => some (n != v)
  | 0xC => some (!z && n == v)
  | 0xD => some (z || n != v)
  | 0xE => some true
  | _ => none

end Sys2Proof.Machine
end

