-- ==== Sys2Proof/Machine/Operands.lean ====
section
/-!
DEFINITION. LYN operand forms: registers (R145), immediates, the lane address map (Table 6.1, R148), alignment (R149), memory access by size, and the window onto the store (R173, R174).
-/

namespace Sys2Proof.Machine

/-- X(i): 0 for X0, the register's value otherwise (R145). -/
def xget (x : LaneSt) (i : Reg) : Word := if i = 0 then 0 else x.x[i]

/-- setX(i, v): a write to X0 is discarded (R145). -/
def xset (x : LaneSt) (i : Reg) (v : Word) : LaneSt := if i = 0 then x else { x with x := x.x.set i v }

/-- The next instruction. -/
def pcNext (x : LaneSt) : LaneSt := { x with pc := x.pc + 4 }

/-- N and Z from a result. -/
def setNZ (x : LaneSt) (r : Word) : LaneSt := { x with flN := r.getLsbD 31, flZ := decide (r = 0) }

/-- The flags that an ALU result names (Table 6.8). -/
def setFlags (x : LaneSt) (a : AluRes) : LaneSt :=
  { setNZ x a.r with flC := a.c.getD x.flC, flV := a.v.getD x.flV }

/-- Sign extension of imm18 and imm22 (Table 6.4). -/
def simm18 (i : BitVec 18) : Word := i.signExtend 32
def uimm18 (i : BitVec 18) : Word := i.setWidth 32
def simm22 (i : BitVec 22) : Word := i.signExtend 32

/-- The effective address of a load or store. -/
def effAddr (x : LaneSt) (ra : Reg) (imm : BitVec 18) : Word := xget x ra + simm18 imm

/-- The regions of Table 6.1. -/
inductive Region where
  | code
  | codePast
  | window
  | windowPast
  | data
  | retain
  | retainPast
  | imageIn
  | cmdRec
  | report
  | outOther
  | manifest
  | periph
  | none
deriving DecidableEq, Repr

/-- The region of a lane address, with BODY and RETAIN_LEN of the running image and the lane's XIPSPAN (R148). -/
def regionOf (body retainLen xipSpan : Nat) (a : Nat) : Region :=
  if a < body ∧ a < 0x80000 then .code
  else if a < 0x80000 then .codePast
  else if 0x10000000 ≤ a ∧ a < 0x20000000 then
    (if a - 0x10000000 < 32 * xipSpan / 36 then .window else .windowPast)
  else if 0x20000000 ≤ a ∧ a < 0x20040000 then .data
  else if 0x20100000 ≤ a ∧ a < 0x20110000 then (if a - 0x20100000 < retainLen then .retain else .retainPast)
  else if 0x30000000 ≤ a ∧ a < 0x30020000 then .imageIn
  else if 0x31000000 ≤ a ∧ a < 0x31000400 then .cmdRec
  else if 0x31000800 ≤ a ∧ a < 0x31000900 then .report
  else if 0x31000400 ≤ a ∧ a < 0x31008000 then .outOther
  else if 0x32000000 ≤ a ∧ a < 0x32001004 then .manifest
  else if 0x40000000 ≤ a ∧ a < 0x40000010 then .periph
  else .none

def laneRegion (s : State) (x : LaneSt) (a : Word) : Region :=
  regionOf s.boot.body.toNat s.boot.retainLen.toNat x.xipSpan.toNat a.toNat

/-- Trap causes of Table 6.10. -/
def trapIllegal : Nat := 1
def trapAlign : Nat := 2
def trapAddr : Nat := 3
def trapStoreRo : Nat := 4
def trapBudget : Nat := 5
def trapEcc : Nat := 6
def trapXipCheck : Nat := 7
def trapXipFail : Nat := 8
def trapSr : Nat := 9
def trapSoft : Nat := 10

/-- Table 6.1, Load column, for a size in bytes: 0 allowed, or the trap cause (alignment first, R149). -/
def loadCause (rg : Region) (size a : Nat) : Nat :=
  if a % size ≠ 0 then trapAlign
  else match rg with
    | .code | .window | .data | .retain | .imageIn | .cmdRec | .report | .outOther | .manifest => 0
    | .periph => if size = 4 then 0 else trapAddr
    | .codePast | .windowPast | .retainPast | .none => trapAddr

/-- Table 6.1, Store column. CRC_FIN raises STORE_RO (Table 6.3). -/
def storeCause (rg : Region) (size a : Nat) : Nat :=
  if a % size ≠ 0 then trapAlign
  else match rg with
    | .data | .retain | .cmdRec | .report => 0
    | .code | .codePast | .window | .windowPast | .imageIn | .outOther | .manifest => trapStoreRo
    | .periph => if size ≠ 4 then trapAddr else if a = 0x4000000C then trapStoreRo else 0
    | .retainPast | .none => trapAddr

/-- Table 6.1, Fetch column. -/
def fetchable : Region → Bool
  | .code | .window => true
  | _ => false

/-- Store address of the window line that holds a window address (R173). -/
def lineAddr (x : LaneSt) (a : Word) : Nat := (x.xipBase.toNat + 36 * ((a.toNat - 0x10000000) / 32)) % 2 ^ 32

/-- The content of a line in the lane's prefetch buffer. -/
def lineBytes (x : LaneSt) (line : Nat) : Option (List Byte) := (x.pf.find? fun e => decide (e.1 = line)).map fun e => e.2

/-- The bytes at a lane address, `n` of them within one aligned word; none when a window line is missing. -/
def laneBytes (rg : Region) (x : LaneSt) (a : Word) (n : Nat) : Option (List Byte) :=
  match rg with
  | .window => (lineBytes x (lineAddr x a)).map fun bs => (bs.drop ((a.toNat - 0x10000000) % 32)).take n
  | .periph =>
    some (leBytes (if a.toNat = 0x40000000 then x.crcVal
      else if a.toNat = 0x4000000C then x.crcVal ^^^ 0xFFFFFFFF#32 else 0))
  | _ => some (memTake 0 x.mem a.toNat n)

/-- The result of an instruction on its lane. -/
inductive LynRes where
  /-- The lane after it, and the lane addresses it wrote (block tracking of R140). -/
  | next (x : LaneSt) (wrote : List Nat)
  /-- A trap: cause, TRAP code, data address (R169). -/
  | trap (cause code : Nat) (addr : Word)
  /-- A window line that is not in the buffer: its store address, and the data address (0 for a fetch). -/
  | miss (line : Nat) (addr : Word)

/-- A correction of a single-bit error is counted in LECC_l (R124, R449). -/
def countEcc (x : LaneSt) : LaneSt := { x with ecc := satAdd 0xFFFFFFFF x.ecc 1 }

/-- A load of `size` bytes: the checks of R148 and R149, then what the error correction finds (R171). -/
def lynLoad (s : State) (x : LaneSt) (a : Word) (size : Nat) (ecc : Ecc) (k : LaneSt → Nat → LynRes) : LynRes :=
  let rg := laneRegion s x a
  let c := loadCause rg size a.toNat
  if c ≠ 0 then .trap c 0 a
  else match laneBytes rg x a size with
    | none => .miss (lineAddr x a) a
    | some bs =>
      if rg = .periph then k x (leNat bs)
      else match ecc with
        | .clean => k x (leNat bs)
        | .single => k (countEcc x) (leNat bs)
        | .double => .trap trapEcc 0 a

/-- The record of channel `n` in a memory of command records by offset. -/
def recBytes (m : Memory) (base n : Nat) : List Byte := memTake 0 m (base + 16 * n) 16

/-- Records of die `d` that differ from the closed copy (R151, CHG of Table 6.2). -/
def chgCount (x : LaneSt) (m : Memory) (d : Nat) : Nat :=
  ((List.range 16).filter fun k => decide (recBytes m 0x31000000 (16 * d + k) ≠ recBytes x.closedCopy 0 (16 * d + k))).length

/-- The record limit of R151 in the current mode. -/
def recLimit (s : State) : Nat := if s.md.mode = .run ∨ s.md.mode = .degraded then recMax s else 16

/-- The store budget of R151: the store of `m'` in place of the lane's memory would raise the count of the address's die above the limit. -/
def budgetOver (s : State) (x : LaneSt) (m' : Memory) (a : Nat) : Bool :=
  let d := (a - 0x31000000) / 256
  decide (recLimit s < chgCount x m' d) && decide (chgCount x x.mem d < chgCount x m' d)

/-- A store of bytes at a checked address: command records under their budget, report words, data, retain and the CRC unit (Table 6.3). -/
def lynPut (s : State) (x : LaneSt) (rg : Region) (a : Word) (bs : List Byte) : LynRes :=
  match rg with
  | .periph =>
    let w := BitVec.ofNat 32 (leNat bs)
    if a.toNat = 0x40000000 then .next (pcNext { x with crcVal := w }) []
    else if a.toNat = 0x40000004 then .next (pcNext { x with crcVal := bs.foldl crcFeed x.crcVal }) []
    else .next (pcNext { x with crcVal := crcFeed x.crcVal (BitVec.ofNat 8 w.toNat) }) []
  | .cmdRec =>
    let m' := memPut 0 x.mem a.toNat bs
    if budgetOver s x m' a.toNat then .trap trapBudget 0 a else .next (pcNext { x with mem := m' }) [a.toNat]
  | _ => .next (pcNext { x with mem := memPut 0 x.mem a.toNat bs }) [a.toNat]

/-- STW: a word store raises no ECC and corrects nothing (R449). -/
def lynStoreWord (s : State) (x : LaneSt) (a v : Word) : LynRes :=
  let rg := laneRegion s x a
  let c := storeCause rg 4 a.toNat
  if c ≠ 0 then .trap c 0 a else lynPut s x rg a (leBytes v)

/-- STH and STB: read, correct, merge, write (R449). The budget comes before the error of the word read (R171). -/
def lynStorePart (s : State) (x : LaneSt) (a : Word) (size : Nat) (v : Word) (ecc : Ecc) : LynRes :=
  let rg := laneRegion s x a
  let c := storeCause rg size a.toNat
  if c ≠ 0 then .trap c 0 a
  else match lynPut s x rg a ((leBytes v).take size) with
    | .next y w =>
      match ecc with
      | .clean => .next y w
      | .single => .next (countEcc y) w
      | .double => .trap trapEcc 0 a
    | r => r

/-- The checks of SCHED and EMIT over a block of `n` words in ascending order: the first cause in the order of R171 among all words, at the lowest word that has it (R164, R165). -/
def blockCause (s : State) (x : LaneSt) (a : Word) (n : Nat) : Option (Nat × Word) :=
  let ws := (List.range n).map fun i => a + BitVec.ofNat 32 (4 * i)
  let cs := ws.map fun w => (loadCause (laneRegion s x w) 4 w.toNat, w)
  match cs.find? (fun e => decide (e.1 = trapAlign)) with
  | some e => some e
  | none => cs.find? (fun e => decide (e.1 ≠ 0))

/-- The bytes of a checked block, or the first window line that is missing. -/
def blockBytes (s : State) (x : LaneSt) (a : Word) : Nat → Except (Nat × Word) (List Byte)
  | 0 => .ok []
  | n + 1 =>
    match laneBytes (laneRegion s x a) x a 4 with
    | none => .error (lineAddr x a, a)
    | some bs => match blockBytes s x (a + 4) n with
      | .ok r => .ok (bs ++ r)
      | .error e => .error e

/-- What the error correction finds at word `i` of a block; the CRC unit's registers have none. -/
def eccAt (s : State) (x : LaneSt) (a : Word) (ecc : List Ecc) (i : Nat) : Ecc :=
  if laneRegion s x (a + BitVec.ofNat 32 (4 * i)) = .periph then .clean else ecc.getD i .clean

/-- A block of `n` words read for SCHED or EMIT, with what the error correction finds at each word: the lowest uncorrectable one traps, after every other cause (R171). -/
def lynBlock (s : State) (x : LaneSt) (a : Word) (n : Nat) (ecc : List Ecc) (k : LaneSt → List Byte → LynRes) : LynRes :=
  match blockCause s x a n with
  | some (c, w) => .trap c 0 w
  | none => match blockBytes s x a n with
    | .error (line, w) => .miss line w
    | .ok bs =>
      let es := (List.range n).map (eccAt s x a ecc)
      match es.findIdx? fun e => decide (e = .double) with
      | some i => .trap trapEcc 0 (a + BitVec.ofNat 32 (4 * i))
      | none => k ((es.filter fun e => decide (e = .single)).foldl (fun y _ => countEcc y) x) bs

end Sys2Proof.Machine
end

