-- ==== Sys2Proof/Machine/LynCore.lean ====
section
/-!
DEFINITION. How a lane executes one instruction: fetch (R148, R171, R173), the encodings of Tables 6.4 to 6.7, traps (R169), and the tracking of written blocks (R140).
-/

namespace Sys2Proof.Machine

/-- Format R of Table 6.4. -/
def encR (op : Nat) (rd ra rb : Reg) (cond func : Nat) : Word :=
  place 26 op ||| place 22 rd.val ||| place 18 ra.val ||| place 14 rb.val ||| place 6 cond ||| place 0 func

/-- Format I. -/
def encI (op : Nat) (rd ra : Reg) (imm : BitVec 18) : Word :=
  place 26 op ||| place 22 rd.val ||| place 18 ra.val ||| place 0 imm.toNat

/-- Formats U and B: a register or condition field and imm22. -/
def encU (op : Nat) (f : Nat) (imm : BitVec 22) : Word := place 26 op ||| place 22 f ||| place 0 imm.toNat

/-- The ALU functions of Table 6.7. -/
def encAlu (func : Nat) (rd ra rb : Reg) : Word := encR 0x01 rd ra rb 0 func

/-- The functions that Table 6.7 lists. -/
def aluFuncs : List Nat :=
  [0x00, 0x01, 0x02, 0x03, 0x04, 0x05, 0x06, 0x08, 0x09, 0x0A, 0x0B, 0x0C, 0x10, 0x11, 0x12, 0x13, 0x18, 0x19, 0x1A,
   0x1C, 0x1D, 0x1E, 0x1F, 0x20, 0x21, 0x22, 0x23, 0x28, 0x29]

/-- The word does not raise ILLEGAL: its major opcode, func, cond and fixed fields are those of Tables 6.4 to 6.7 (R155 to R157). -/
def lynLegal (w : Word) : Bool :=
  let op := fieldOf w 26 6
  let rd := fieldOf w 22 4
  let ra := fieldOf w 18 4
  let rb := fieldOf w 14 4
  let z4 := fieldOf w 10 4
  let cond := fieldOf w 6 4
  let func := fieldOf w 0 6
  if op = 0x01 then
    aluFuncs.contains func && z4 = 0 && cond = 0 && ((func ≠ 0x06 && func ≠ 0x0C) || rd = 0) &&
      ((func ≠ 0x28 && func ≠ 0x29) || rb = 0)
  else if op = 0x02 ∨ op = 0x04 ∨ op = 0x05 ∨ op = 0x06 ∨ op = 0x08 then true
  else if op = 0x03 then rd = 0
  else if op = 0x07 then fieldOf w 7 11 = 0
  else if op = 0x09 then z4 = 0 && func = 0 && cond ≠ 15
  else if 0x10 ≤ op ∧ op ≤ 0x17 then true
  else if op = 0x20 then rd ≠ 15
  else if op = 0x21 ∨ op = 0x22 then true
  else if op = 0x28 then fieldOf w 0 26 = 0
  else if op = 0x29 then fieldOf w 18 8 = 0
  else if op = 0x2A ∨ op = 0x2B then z4 = 0 && cond = 0 && func = 0
  else if op = 0x2C then rd = 0 && z4 = 0 && cond = 0 && func ≤ 2
  else if op = 0x2D then rd = 0 && fieldOf w 0 18 = 0
  else if op = 0x2E then fieldOf w 8 14 = 0
  else if op = 0x2F then rd = 0 && fieldOf w 8 10 = 0 && ra ≤ 15
  else false

/-- What the fetch at PC meets. -/
inductive FetchRes where
  | word (w : Word)
  | fault
  | miss (line : Nat)
deriving DecidableEq, Repr

/-- The fetch at PC (R147, R148): little-endian words from CODE or from the window. -/
def lynFetch (s : State) (x : LaneSt) : FetchRes :=
  let rg := laneRegion s x x.pc
  if !fetchable rg then .fault
  else match laneBytes rg x x.pc 4 with
    | none => .miss (lineAddr x x.pc)
    | some bs => .word (BitVec.ofNat 32 (leNat bs))

/-- A watchdog is off while its lane is halted (R411). -/
def wdOff (s : State) (i : Fin 4) : State :=
  { s with wd := vmod s.wd i fun w => { w with state := 0, seen := 0 } }

def laneWd (l : Lane) : Fin 4 := ⟨l.val, by omega⟩

/-- A trap halts the lane, records TRAPREC, and makes the lane's vote absent (R169); a member learns cause 1 (R135), and a joining lane's shadow fails (R141). -/
def laneTrap (s : State) (l : Lane) (cause code : Nat) (pc addr : Word) : State :=
  let s1 := updLane s l fun x =>
    { x with
      run := .halted
      trapped := true
      lineReq := none
      shadowDiff := x.shadowDiff || decide (x.state = 6)
      trap := { cause := cause, code := code, pc := pc, addr := addr, cyc := BitVec.ofNat 32 s.cyc.n } }
  learnCause (wdOff s1 (laneWd l)) l 1

/-- Place of a block in the order in which BULK copies data, retain and output SRAM, in bytes; at 1 byte per ns, the time of its copy (Table 5.14). -/
def bulkPlace (b : Nat) : Nat :=
  let a := 256 * b
  if a < 0x20100000 then a - 0x20000000
  else if a < 0x31000000 then 0x40000 + (a - 0x20100000)
  else 0x50000 + (a - 0x31000000)

/-- The engine has begun to copy block `b` for the lane: in BULK by the time since its start, in CATCHUP every block (R140). -/
def blockCopied (now : Nat) (x : LaneSt) (b : Nat) : Bool :=
  decide (x.state = 5) || (decide (x.state = 4) && decide (x.stageAt + bulkPlace b < now))

/-- A block joins the blocks to recopy. -/
def addDirty (now : Nat) (x : LaneSt) (a : Nat) : LaneSt :=
  if blockCopied now x (a / 256) ∧ !x.dirty.contains (a / 256) then { x with dirty := x.dirty ++ [a / 256] } else x

/-- Blocks that a member writes after their copy are not clean for a lane in BULK or CATCHUP (R140). -/
def markDirty (s : State) (l : Lane) (wrote : List Nat) : State :=
  if wrote.isEmpty ∨ !memberOf s l then s
  else { s with lane := s.lane.map fun x => wrote.foldl (addDirty s.mono) x }

/-- The lane asks for a window line (R176) and waits: nothing else changes. -/
def askLine (s : State) (l : Lane) (line : Nat) (addr : Word) : State :=
  if s.lane[l].lineReq = some line then s
  else updLane s l fun x => { x with lineReq := some line, lineAt := s.mono, lineData := addr }

/-- What an instruction did, put into the state. -/
def lynDone (s : State) (l : Lane) (r : LynRes) : State :=
  match r with
  | .next x wrote => markDirty { s with lane := s.lane.set l x } l wrote
  | .trap c code addr => laneTrap s l c code s.lane[l].pc addr
  | .miss line addr => askLine s l line addr

/-- One instruction of a computing lane whose fetched word passes `p`: fetch faults come first (R171), then `f` on the lane. A lane that computes another word, or none, is not touched (log entry 1). -/
def lynStep (s : State) (l : Lane) (p : Word → Bool) (f : LaneSt → LynRes) : State :=
  let x := s.lane[l]
  if x.run ≠ .computing then s
  else match lynFetch s x with
    | .fault => laneTrap s l trapAddr 0 x.pc 0
    | .miss line => askLine s l line 0
    | .word w => if p w then lynDone s l (f x) else s

/-- The instruction with encoding `w`. -/
def lyn (s : State) (l : Lane) (w : Word) (f : LaneSt → LynRes) : State := lynStep s l (fun v => decide (v = w)) f

/-- An instruction that writes rd from an ALU result and sets flags. -/
def lynAlu (rd : Reg) (a : LaneSt → AluRes) (x : LaneSt) : LynRes :=
  .next (pcNext (xset (setFlags x (a x)) rd (a x).r)) []

/-- An instruction that sets flags from an ALU result and discards it (CMP, TST, CMPI). -/
def lynCmp (a : LaneSt → AluRes) (x : LaneSt) : LynRes := .next (pcNext (setFlags x (a x))) []

end Sys2Proof.Machine
end

