-- ==== Sys2Proof/Machine/LynSys.lean ====
section
/-!
DEFINITION. LYN cycle and field instructions (R161 to R168) and the window's line fills (R174 to R176).
-/

namespace Sys2Proof.Machine

/-- The retain bytes of a lane (R88): RETAIN_LEN bytes from 0x2010_0000. -/
def retainBytes (s : State) (x : LaneSt) : List Byte := memTake 0 x.mem 0x20100000 s.boot.retainLen.toNat

/-- ENDCYC (R161, R162): the lane is done when vote close has not come, and its retain contents are captured in a journal cycle (R88); at vote close it has overrun and is halted (R127). -/
def endCycle (s : State) (l : Lane) : State :=
  let x := s.lane[l]
  if voteCloseAt s ≤ s.time then
    learnCause (wdOff (updLane s l fun y => { y with run := .halted, shadowDiff := y.shadowDiff || decide (y.state = 6) }) (laneWd l)) l 2
  else
    let s1 := updLane s l fun y => { y with run := .done, slack := min y.slack (voteCloseAt s - s.time) }
    if s.jrn.active ∧ s.jrn.cycle = s.cyc.n then
      { s1 with jrn := { s1.jrn with cap := s1.jrn.cap.set l (some (retainBytes s x)) } }
    else s1

def execEndcyc (l : Lane) (s : State) : Out :=
  .next (let x := s.lane[l]
    if x.run ≠ .computing then s
    else match lynFetch s x with
      | .fault => laneTrap s l trapAddr 0 x.pc 0
      | .miss line => askLine s l line 0
      | .word w => if w = place 26 0x28 then endCycle s l else s)

def execTrap (l : Lane) (code : BitVec 18) (s : State) : Out :=
  .next (lyn s l (place 26 0x29 ||| place 0 code.toNat) fun _ => .trap trapSoft code.toNat 0)

/-- The value that SCHED and EMIT leave in rd, with N, Z from it and C on refusal (Table 6.8). -/
def lynResult (x : LaneSt) (rd : Reg) (r : Word) (refused : Bool) (wrote : List Nat) : LynRes :=
  .next (pcNext (xset { setNZ x r with flC := refused } rd r)) wrote

/-- SCHED (R164). -/
def schedOp (s : State) (x : LaneSt) (rd ra rb : Reg) (ecc : List Ecc) : LynRes :=
  lynBlock s x (xget x ra) 4 ecc fun y bs =>
    let d := (xget x rb).toNat
    if 3 < d then lynResult y rd 0xFFFFFFFE#32 true []
    else
      let cnt := (memGet 0 y.mem (0x32001000 + d)).toNat
      if manMax s ≤ cnt then lynResult y rd 0xFFFFFFFF#32 true []
      else
        let a := 0x32000000 + 0x400 * d + 16 * cnt
        let m := memPut 0 (memPut 0 y.mem a bs) (0x32001000 + d) [BitVec.ofNat 8 (cnt + 1)]
        lynResult { y with mem := m } rd (BitVec.ofNat 32 cnt) false []

def execSched (l : Lane) (rd ra rb : Reg) (ecc : List Ecc) (s : State) : Out :=
  .next (lyn s l (encR 0x2A rd ra rb 0 0) fun x => schedOp s x rd ra rb ecc)

/-- frame_ok of R165 on the 80 bytes of a request. -/
def frameOk (q : List Byte) : Bool :=
  let id := leNat (q.take 4)
  let info := leNat ((q.drop 4).take 4)
  let len := info % 128
  decide (info / 512 % 128 = 0) && decide (info / 128 % 2 = 0) &&
    (decide (id / 2 ^ 29 % 2 = 1) || decide (id / 2 ^ 11 % 2 ^ 18 = 0)) &&
    ((decide (id / 2 ^ 30 % 2 = 0) && decide (id / 2 ^ 31 % 2 = 0) && decide (len ≤ 8)) ||
      (decide (id / 2 ^ 30 % 2 = 1) && (decide (len ≤ 8) || [12, 16, 20, 24, 32, 48, 64].contains len)))

/-- The request as EMIT writes it: STAMP 0, the controller and a zero count in INFO, data past LEN zero (R165). -/
def emitForm (q : List Byte) (c : Nat) : List Byte :=
  let info := leNat ((q.drop 4).take 4)
  let len := info % 128
  q.take 4 ++ natLe 4 (info % 256 + c * 256) ++ List.replicate 8 0#8 ++ ((q.drop 16).take len) ++ List.replicate (64 - len) 0#8

/-- EMIT (R165). -/
def emitOp (s : State) (x : LaneSt) (rd ra rb : Reg) (ecc : List Ecc) : LynRes :=
  lynBlock s x (xget x ra) 20 ecc fun y bs =>
    let c := (xget x rb).toNat
    let n := leAt y.mem (0x31000FF8 + 2 * c) 2
    if 1 < c then lynResult y rd 0xFFFFFFFE#32 true []
    else if n = 32 then lynResult y rd 0xFFFFFFFF#32 true []
    else if !frameOk bs then lynResult y rd 0xFFFFFFFD#32 true []
    else
      let a := 0x31001000 + 0xA00 * c + 80 * n
      let m := memPut 0 (memPut 0 y.mem a (emitForm bs c)) (0x31000FF8 + 2 * c) (natLe 2 (n + 1))
      lynResult { y with mem := m } rd (BitVec.ofNat 32 n) false [a, a + 79, 0x31000FF8]

def execEmit (l : Lane) (rd ra rb : Reg) (ecc : List Ecc) (s : State) : Out :=
  .next (lyn s l (encR 0x2B rd ra rb 0 0) fun x => emitOp s x rd ra rb ecc)

/-- The lane's permit word (R166). -/
def permitWord (x : LaneSt) : BitVec 64 := BitVec.ofNat 64 (leAt x.mem 0x31000400 8)

/-- PERMIT: `f` of the word before and the mask (R166). -/
def permitOp (ra rb : Reg) (f : BitVec 64 → BitVec 64 → BitVec 64) (x : LaneSt) : LynRes :=
  let m : BitVec 64 := BitVec.ofNat 64 ((xget x rb).toNat * 2 ^ 32 + (xget x ra).toNat)
  .next (pcNext { x with mem := memPut 0 x.mem 0x31000400 (natLe 8 (f (permitWord x) m).toNat) }) [0x31000400]

def execPermitSet (l : Lane) (ra rb : Reg) (s : State) : Out :=
  .next (lyn s l (encR 0x2C 0 ra rb 0 0) (permitOp ra rb fun p m => p ||| m))

def execPermitClr (l : Lane) (ra rb : Reg) (s : State) : Out :=
  .next (lyn s l (encR 0x2C 0 ra rb 0 1) (permitOp ra rb fun p m => p &&& ~~~m))

def execPermitWrite (l : Lane) (ra rb : Reg) (s : State) : Out :=
  .next (lyn s l (encR 0x2C 0 ra rb 0 2) (permitOp ra rb fun _ m => m))

/-- SERVE sends X(ra) to the lane's watchdog; it arrives with WDOG_CHECKIN (R167). -/
def execServe (l : Lane) (ra : Reg) (s : State) : Out :=
  .next (lyn s l (place 26 0x2D ||| place 18 ra.val) fun x => .next (pcNext { x with serve := x.serve ++ [xget x ra] }) [])

/-- Table 6.2: the value of a special register. -/
def specialReg (s : State) (x : LaneSt) (num : Nat) : Option Word :=
  match num with
  | 0x00 => some 0x00010000#32
  | 0x01 => some (BitVec.ofNat 32 (cfgPeriod s))
  | 0x02 => some (place 0 (recLimit s) ||| place 8 (manMax s))
  | 0x03 => some (place 0 (chgCount x x.mem 0) ||| place 8 (chgCount x x.mem 1) ||| place 16 (chgCount x x.mem 2) |||
      place 24 (chgCount x x.mem 3))
  | 0x08 => some x.xipBase
  | 0x09 => some x.xipSpan
  | _ => none

def execRds (l : Lane) (rd : Reg) (num : BitVec 8) (s : State) : Out :=
  .next (lyn s l (place 26 0x2E ||| place 22 rd.val ||| place 0 num.toNat) fun x =>
    match specialReg s x num.toNat with
    | some v => .next (pcNext (xset x rd v)) []
    | none => .trap trapSr 0 0)

/-- WRS: XIPBASE takes multiples of 4, XIPSPAN multiples of 36 up to 301,989,888; everything else raises SR (R152). -/
def execWrs (l : Lane) (ra : Reg) (num : BitVec 8) (s : State) : Out :=
  .next (lyn s l (place 26 0x2F ||| place 18 ra.val ||| place 0 num.toNat) fun x =>
    let v := xget x ra
    if num.toNat = 8 ∧ v.toNat % 4 = 0 then .next (pcNext { x with xipBase := v }) []
    else if num.toNat = 9 ∧ v.toNat % 36 = 0 ∧ v.toNat ≤ 301989888 then .next (pcNext { x with xipSpan := v }) []
    else .trap trapSr 0 0)

/-- The line at a store address passes its check word for line number `n` (R173); a line on a NAND or absent select or past the store size never does (R352). -/
def lineGood (s : State) (addr n : Nat) : Bool :=
  let sel := selOf addr
  mpIsNor s sel && decide (addr - selBase sel + 36 ≤ mpSize s sel) &&
    decide (beAt s.store (addr + 32) 4 = (crc32c (storeBytes s addr 32 ++ natBe 4 n)).toNat)

/-- The line number under a lane's XIPBASE. -/
def lineNum (x : LaneSt) (addr : Nat) : Nat := (addr + 2 ^ 32 - x.xipBase.toNat) % 2 ^ 32 / 36

/-- A line delivered into one buffer: in a full one it replaces the line that arrived earliest (R174). A line that is there already counts as arriving anew (log entry 70). -/
def bufPut (x : LaneSt) (addr : Nat) (bs : List Byte) : LaneSt :=
  let keep := x.pf.filter fun e => decide (e.1 ≠ addr)
  let l := keep ++ [(addr, bs)]
  { x with
    pf := if 64 < l.length then l.drop 1 else l
    lineReq := if x.lineReq = some addr then none else x.lineReq }

/-- The lanes that wait for the line at a store address. -/
def lineWanters (s : State) (a : Nat) : List Lane := lanes3.filter fun l => decide (s.lane[l].lineReq = some a)

/-- The line at `a` with line number `n` passes its check, and the next stored line is fetched after it; or it fails twice (R174, R175). -/
def lineArrives (s : State) (a n : Nat) (ok : Bool) : State :=
  if lineGood s a n && ok then
    { s with lane := s.lane.map fun x => bufPut x a (storeBytes s a 32), mp := { s.mp with stream := some ((a + 36) % 2 ^ 32, n + 1) } }
  else
    (lineWanters s a).foldl (fun t l => laneTrap t l trapXipCheck 0 t.lane[l].pc t.lane[l].lineData)
      (ledger { s with mp := { s.mp with stream := none } } 15 12 (selOf a) a)

/-- After a fill the select is in continuous read when CONT is 1 (R355), and once no fill waits a suspended operation of it resumes (R357) and waiting requests begin (R356). -/
def fillEnds (s : State) (sel : Nat) : State :=
  let op := (vget s.mp.op sel none).map fun o => { o with suspended := o.suspended && lineWaitsOn s sel }
  let bit := BitVec.ofNat 2 (2 ^ sel)
  let free : Bool := match op with | some o => o.suspended | none => true
  let s1 := { s with mp := { s.mp with
      cont := if free ∧ mpIsNor s sel ∧ cfgBit s 21 (2 + sel) 6 then s.mp.cont ||| bit else s.mp.cont &&& ~~~bit
      op := vset s.mp.op sel op } }
  mpServe (mpServe s1 0) 1

/-- The number of the line at `a` that the port may fetch now: under the XIPBASE of the first lane that requests it (log entry 70), or as the next line after the last delivery, when no request waits. -/
def lineFetched (s : State) (a : Nat) : Option Nat :=
  match lineWanters s a with
  | l :: _ => some (lineNum s.lane[l] a)
  | [] =>
    match s.mp.stream with
    | some (b, n) => if a = b ∧ !lineWaits s ∧ mpWaiting s = [] then some n else none
    | none => none

/-- A program or erase that is not suspended keeps fills from the select (R357). -/
def selBlocked (s : State) (sel : Nat) : Bool :=
  match vget s.mp.op sel none with
  | some o => decide (o.kind ≠ .read) && !o.suspended
  | none => false

/-- XIP_LINE_FILL: the line is fetched, once more when its first check fails, and delivered to all three buffers; a second failure raises XIP_CHECK in every lane that requests it and is recorded (R174, R175). `ok1` and `ok2` say whether the transfers arrived unspoilt. -/
def execXipLineFill (addr : Word) (ok1 ok2 : Bool) (s : State) : Out :=
  .next (
    let a := addr.toNat
    match lineFetched s a with
    | some n => if !mpPowered s || selBlocked s (selOf a) then s else fillEnds (lineArrives s a n (ok1 || ok2)) (selOf a)
    | none => s)

/-- XIP_FAIL: a fill not complete within XIPWAIT + 50 µs of its request traps the lane (R169, Table 6.10). -/
def execXipFail (l : Lane) (s : State) : Out :=
  .next (let x := s.lane[l]
    if x.run = .computing ∧ x.lineReq.isSome then
      let s1 := monoTo s (x.lineAt + xipWait s + 50000)
      laneTrap s1 l trapXipFail 0 x.pc x.lineData
    else s)

end Sys2Proof.Machine
end

