-- ==== Sys2Proof/Machine/Memport.lean ====
section
/-!
DEFINITION. The memory port's operations (R352 to R360), the PROG page's store loads (R182, R183), and pages 5 and 21.
-/

namespace Sys2Proof.Machine

/-- Status codes of Table 12.6. -/
def stBadLength : Nat := 0x01
def stBadCmd : Nat := 0x02
def stBadPage : Nat := 0x03
def stNotReady : Nat := 0x04
def stBadCrc : Nat := 0x05
def stBadOffset : Nat := 0x06
def stPastEnd : Nat := 0x07
def stNotOwner : Nat := 0x08
def stBadMode : Nat := 0x09
def stBadValue : Nat := 0x0A
def stProtected : Nat := 0x0B
def stMaintBusy : Nat := 0x0C
def stMaintConflict : Nat := 0x0D
def stQuoteBusy : Nat := 0x0E
def stHartBusy : Nat := 0x0F
def stApplyRejected : Nat := 0x10
def stTimeout : Nat := 0x11

/-- The first failing check of two, in the order of Table 12.6 (codes rise with the rows); 0 is OK. -/
def firstFail (a b : Nat) : Nat := if a = 0 then b else if b = 0 then a else min a b

/-- A condition that fails with a code. -/
def failIf (c : Bool) (code : Nat) : Nat := if c then code else 0

/-- The arbiter's status for a request (R423). -/
def mntStatus (s : State) (a : ActSt) : Nat := match mntDecide s a with | none => 0 | some r => r.code

/-- A store failure counts in MPERR. -/
def mpCount (s : State) (erase : Bool) : State :=
  if erase then { s with mp := { s.mp with eraseFail := satAdd 255 s.mp.eraseFail 1 } }
  else { s with mp := { s.mp with progFail := satAdd 255 s.mp.progFail 1 } }

/-! ## PROG loads -/

/-- The activity of START and TRIAL (Table 15.5). -/
def plAct (p : Port) (base len : Nat) : ActSt :=
  { kind := 3, port := p.val, index := 0, mask := 0, lo := base, hi := base + len, dir := true }

/-- A load ends in DONE or FAILED: IRQ source PLOAD, and the activity ends (R182, Table 14.6). -/
def plEnd (s : State) (state err endState : Nat) : State :=
  let s1 := { s with pl := { s.pl with state := state, err := if state = 5 then s.pl.err else err, loading := false } }
  mntEndOf (irq (if s1.boot.confirming then s1 else mpDrop s1 4) 8) 3 0 endState

def plFail (s : State) (err : Nat) : State := plEnd s 6 err endFail

/-- START's TYPE check (R182). -/
def plTypeOk (s : State) (t : Nat) : Bool :=
  if s.boot.recovery then [0x01, 0x02, 0x03, 0x10, 0x11, 0x12, 0x20, 0x21, 0x22, 0x60].contains t
  else [bankBase (!s.boot.bank), bankBase (!s.boot.bank) + 1, bankBase (!s.boot.bank) + 2, 0x60].contains t

/-- Ranges that a load of a type must not meet (R182): everything but the region that it replaces. In recovery no range is protected (R360). -/
def plBarred (s : State) (t : Nat) : List (Nat × Nat) :=
  if s.boot.recovery then [] else [(0, 0x2000)] ++ windowRanges s ++ (((dirNow s).2.2.filter fun e => decide (e.type ≠ t)).map entryRange)

/-- The length passes the maximum of Table 3.5 for the type; the store size of its select bounds a type without one. -/
def overMax (s : State) (t base len : Nat) : Bool :=
  match regionMax t with
  | some m => decide (m < len)
  | none => decide (mpSize s (selOf base) < base - selBase (selOf base) + len)

/-- START's checks, Table 6.13 codes 1 to 3. -/
def plStartErr (s : State) (t base len : Nat) : Nat :=
  if !plTypeOk s t then 1
  else if base % eraseUnit s (selOf base) ≠ 0 ∨ overMax s t base len then 2
  else if meetsAny (plBarred s t) base (base + len) then 3
  else 0

/-- PLBASE, PLLEN and PLCRC as they stand when an op uses them (log entry 71). -/
def plTake (s : State) : State :=
  { s with pl := { s.pl with base := (cfgWord s 5 0x11).toNat, len := (cfgWord s 5 0x12).toNat, crc := cfgWord s 5 0x13 } }

/-- START (R182). -/
def plStart (s : State) (p : Port) (t : Nat) : State :=
  let base := (cfgWord s 5 0x11).toNat
  let len := (cfgWord s 5 0x12).toNat
  let s1 := plTake (mntStart s (plAct p base len))
  let s2 := { s1 with pl := { s1.pl with loading := true, type := t, pos := 0, err := 0, chunk := [] } }
  let e := plStartErr s t base len
  if e ≠ 0 then plFail s2 e
  else if len = 0 then { s2 with pl := { s2.pl with state := 2 } }
  else mpAsk { s2 with pl := { s2.pl with state := 1 } } (selOf base) 4 .erase

/-- The bytes of the first `n` words of a buffer page region, most significant first. -/
def bufBytes (s : State) (page off n : Nat) : List Byte := ((List.range n).map fun w => beBytes (cfgWord s page (off + w))).flatten

/-- The bytes [lo, hi) of a load meet a range that is protected now (R77, R178). -/
def plMeets (s : State) (lo hi : Nat) : Bool := meetsAny (plBarred s s.pl.type) lo hi

/-- CHUNK (R183). -/
def plChunk (s0 : State) (n : Nat) : State :=
  let s := plTake s0
  if s.pl.state ≠ 2 ∨ s.pl.len = 0 then plFail s 4
  else if s.pl.len < s.pl.pos + 4 * n then plFail s 5
  else if plMeets s (s.pl.base + s.pl.pos) (s.pl.base + s.pl.pos + 4 * n) then plFail s 3
  else mpAsk { s with pl := { s.pl with state := 3, chunk := bufBytes s 5 0x100 n } } (selOf s.pl.base) 4 .program

/-- FINISH (R183): the range is read back, and the directory lies on MP_CS0_N. -/
def plFinish (s0 : State) : State :=
  let s := plTake s0
  if s.pl.state ≠ 2 then plFail s 4
  else if s.pl.pos ≠ s.pl.len then plFail s 6
  else mpAsk { s with pl := { s.pl with state := 4 } } 0 4 .program

def plAbort (s : State) : State := plEnd s 6 12 endAborted

/-- TRIAL (R183): out of sequence during a load, which fails by it, and during a trial. -/
def plTrial (s : State) (p : Port) (n : Nat) : State :=
  if s.pl.loading then plFail s 4
  else
    let s1 := mntStart s (plAct p 0 0)
    if s.boot.trial then plFail s1 4
    else mpAsk { s1 with pl := { s1.pl with state := 7, trialN := n } } 0 4 .program

/-- The erase of the range, in whole units (log entry 72), completes; nothing is erased in a range that has become a lane's window meanwhile (R178). -/
def execPlEraseDone (ok : Bool) (s0 : State) : Out :=
  .next (
    let s := mpServe s0 (selOf s0.pl.base)
    if s.pl.state ≠ 1 || !mpRuns s (selOf s.pl.base) 4 then s
    else if plMeets s s.pl.base (s.pl.base + s.pl.len) then plFail s 3
    else if ok then
      let u := eraseUnit s (selOf s.pl.base)
      let s1 := storeErase s s.pl.base (s.pl.base + (s.pl.len + u - 1) / u * u)
      mpFinish { s1 with pl := { s1.pl with state := 2 } } (selOf s.pl.base)
    else plFail (mpCount s true) 7)

def execPlChunkDone (ok : Bool) (s0 : State) : Out :=
  .next (
    let s := mpServe s0 (selOf s0.pl.base)
    if s.pl.state ≠ 3 || !mpRuns s (selOf s.pl.base) 4 then s
    else if plMeets s (s.pl.base + s.pl.pos) (s.pl.base + s.pl.pos + s.pl.chunk.length) then plFail s 3
    else if ok then
      let s1 := storePut s (s.pl.base + s.pl.pos) s.pl.chunk
      mpFinish { s1 with pl := { s1.pl with state := 2, pos := s.pl.pos + s.pl.chunk.length, chunk := [] } } (selOf s.pl.base)
    else plFail (mpCount s false) 8)

/-- Header items 1 to 3 of R180 on the 64 bytes at `a` of a code image of `len` bytes. -/
def headerOk (m : Memory) (a len : Nat) : Bool :=
  decide (beAt m a 4 = 0x4C594E43) && decide (beAt m (a + 0x3C) 4 = (crc32c (memTake 0xFF m a 0x3C)).toNat) &&
    decide (beAt m (a + 4) 2 = 1) && (memTake 0xFF m (a + 0x28) 20).all (fun b => decide (b = 0)) &&
    decide (beAt m (a + 8) 4 + 64 = len) && decide (beAt m (a + 8) 4 % 4 = 0) && decide (4 ≤ beAt m (a + 8) 4) &&
    decide (beAt m (a + 8) 4 ≤ 524224) && decide (beAt m (a + 0xC) 4 % 4 = 0) &&
    decide (beAt m (a + 0xC) 4 < beAt m (a + 8) 4) && decide (beAt m (a + 0x14) 4 % 4 = 0) && decide (beAt m (a + 0x14) 4 ≤ 65536)

/-- FINISH's checks on the range read back (R183): 0, or the code of Table 6.13. -/
def plFinishErr (s : State) : Nat :=
  if s.pl.len = 0 then 0
  else if crc32c (storeBytes s s.pl.base s.pl.len) ≠ s.pl.crc then 9
  else if (s.pl.type = 0x10 ∨ s.pl.type = 0x20) ∧ !headerOk s.store s.pl.base s.pl.len then 10
  else if (s.pl.type = 0x11 ∨ s.pl.type = 0x21) ∧ s.pl.len % 36 ≠ 0 then 10
  else 0

/-- The entries with the entry of a type replaced or added. -/
def putEntry (es : List DirEntry) (e : DirEntry) : List DirEntry :=
  if es.any (fun x => decide (x.type = e.type)) then es.map fun x => if x.type = e.type then e else x else es ++ [e]

/-- The read-back check and the directory write end (R183). -/
def execPlFinishDone (ok : Bool) (s0 : State) : Out :=
  .next (
    let s := mpServe s0 0
    if s.pl.state ≠ 4 || !mpRuns s 0 4 then s
    else if plFinishErr s ≠ 0 then plFail s (plFinishErr s)
    else if !ok then plFail s 11
    else
      let d := dirNow s
      let e : DirEntry := { type := s.pl.type, base := s.pl.base, len := s.pl.len, crc := s.pl.crc.toNat }
      plEnd (dirWrite s d.1 d.2.1 (putEntry d.2.2 e)) 5 0 endPass)

def execPlTrialDone (ok : Bool) (s0 : State) : Out :=
  .next (
    let s := mpServe s0 0
    if s.pl.state ≠ 7 || !mpRuns s 0 4 then s
    else if !ok then plFail s 11
    else
      let d := dirNow s
      plEnd (dirWrite s d.1 s.pl.trialN d.2.2) 5 0 endPass)

/-- PLCTL's checks (R183, Table 12.6). -/
def plctlCheck (s : State) (p : Port) (w : Word) : Nat :=
  let op := fieldOf w 0 3
  let n := fieldOf w 8 8
  firstFail (failIf (decide (fieldOf w 24 8 ≠ 0x96) || decide (op = 0) || decide (5 < op) || (decide (op = 2) && (decide (n = 0) || decide (64 < n)))) stBadValue)
    (if op = 1 then mntStatus s (plAct p (cfgWord s 5 0x11).toNat (cfgWord s 5 0x12).toNat)
     else if op = 5 ∧ !s.pl.loading then mntStatus s (plAct p 0 0) else 0)

/-- PLCTL's effect. -/
def plctlWrite (s : State) (p : Port) (w : Word) : State :=
  match fieldOf w 0 3 with
  | 1 => plStart s p (fieldOf w 16 8)
  | 2 => plChunk s (fieldOf w 8 8)
  | 3 => plFinish s
  | 4 => plAbort s
  | 5 => plTrial s p (fieldOf w 8 8)
  | _ => s

/-- LMWIN word w (page 5): a word of the selected lane's memory regions; other addresses read zero. -/
def lmWord (s : State) (w : Nat) : Word :=
  let sel := cfgWord s 5 0x30
  let l : Lane := ⟨fieldOf sel 0 2 % 3, by omega⟩
  let a := (sel.toNat / 256) * 256 + 4 * w
  if a < 0x80000 ∨ (0x20000000 ≤ a ∧ a < 0x20040000) ∨ (0x20100000 ≤ a ∧ a < 0x20110000) ∨
      (0x30000000 ≤ a ∧ a < 0x30020000) ∨ (0x31000000 ≤ a ∧ a < 0x31008000) ∨ (0x32000000 ≤ a ∧ a < 0x32001004) then
    BitVec.ofNat 32 (leAt s.lane[l].mem a 4)
  else 0

/-- Page 5 as read. -/
def readProg (s : State) (off : Nat) : Word :=
  match off with
  | 0 => s.boot.entry
  | 1 => s.boot.body
  | 2 => s.boot.retainId
  | 3 => s.boot.retainLen
  | 4 => s.boot.xipBase
  | 5 => s.boot.xipSpan
  | 0x14 => place 0 s.pl.state ||| place 8 s.pl.err
  | 0x15 => BitVec.ofNat 32 s.pl.pos
  | _ =>
    if 0x20 ≤ off ∧ off < 0x2C then
      let t := s.lane[(⟨(off - 0x20) / 4 % 3, by omega⟩ : Lane)].trap
      match (off - 0x20) % 4 with
      | 0 => place 0 t.cause ||| place 8 t.code
      | 1 => t.pc
      | 2 => t.addr
      | _ => t.cyc
    else if 0x200 ≤ off ∧ off < 0x240 then lmWord s (off - 0x200)
    else cfgWord s 5 off

/-! ## Raw memory-port operations (R360) -/

def mpxAddr (s : State) : Nat := (cfgWord s 21 0x10).toNat

/-- The range of a raw PROGRAM or ERASE. -/
def mpxRange (s : State) (op n : Nat) : Nat × Nat :=
  let a := mpxAddr s
  if op = 2 then (a, a + 4 * n) else (a, a + eraseUnit s (selOf a))

def mpxAct (s : State) (p : Port) (op n : Nat) : ActSt :=
  let r := mpxRange s op n
  { kind := 5, port := p.val, index := selOf (mpxAddr s), mask := 0, lo := r.1, hi := r.2, dir := false }

/-- A PROGRAM of n words crosses a 256-byte boundary on NOR or a page on NAND. -/
def mpxCrosses (s : State) (n : Nat) : Bool :=
  let a := mpxAddr s
  let u := if mpType s (selOf a) = 2 then nandPage s (selOf a) else 256
  decide (a / u ≠ (a + 4 * n - 1) / u)

/-- MPXCTL's checks. -/
def mpxCheck (s : State) (p : Port) (w : Word) : Nat :=
  let op := fieldOf w 0 3
  let n := fieldOf w 8 8
  let a := mpxAddr s
  let bad := decide (fieldOf w 24 8 ≠ 0xC3) || decide (op = 0) || decide (4 < op) ||
    (decide (op ≤ 2) && (decide (n = 0) || decide (64 < n))) || decide (a % 4 ≠ 0) || (decide (op = 2) && mpxCrosses s n) ||
    (decide (op = 3) && decide (a % eraseUnit s (selOf a) ≠ 0))
  let writes := decide (op = 2) || decide (op = 3)
  let r := mpxRange s op n
  firstFail (failIf bad stBadValue) (firstFail (failIf (writes && meetsAny (protectedRanges s) r.1 r.2) stProtected)
    (firstFail (failIf (decide (s.mp.xstate = 1)) stMaintBusy) (if writes then mntStatus s (mpxAct s p op n) else 0)))

/-- MPXCTL starts a raw operation. -/
def mpxWrite (s : State) (p : Port) (w : Word) : State :=
  let op := fieldOf w 0 3
  let n := fieldOf w 8 8
  let a := mpxAddr s
  let s1 := if op = 2 ∨ op = 3 then mntStart s (mpxAct s p op n) else s
  mpAsk { s1 with mp := { s1.mp with xstate := 1, xerr := 0, xop := op, xaddr := a, xn := n } } (selOf a) 5
    (if op = 2 then .program else if op = 3 then .erase else .read)

/-- Words put into a register buffer. -/
def putWords (m : RegMap) (key : Nat) : List Word → RegMap
  | [] => m
  | w :: ws => putWords (rmSet m key w) (key + 1) ws

/-- The effect of a raw operation that succeeds. -/
def mpxApply (s : State) (id : Word) : State :=
  match s.mp.xop with
  | 1 => { s with regs := putWords s.regs (regKey 21 0x100) (wordsBe (storeBytes s s.mp.xaddr (4 * s.mp.xn))) }
  | 2 => storePut s s.mp.xaddr (bufBytes s 21 0x100 s.mp.xn)
  | 3 => storeErase s s.mp.xaddr (s.mp.xaddr + eraseUnit s (selOf s.mp.xaddr))
  | _ => putReg s 21 0x100 id

/-- A failure past an operation's limit: counted and recorded (R359). -/
def mpTimedOut (s : State) (sel : Nat) : State :=
  ledger { s with mp := { s.mp with timeouts := satAdd 255 s.mp.timeouts 1 } } 98 12 sel 0

/-- An uncorrectable read of a NAND store: counted and recorded (R359). -/
def mpReadError (s : State) (sel addr : Nat) : State :=
  ledger { s with mp := { s.mp with readErr := satAdd 255 s.mp.readErr 1 } } 99 12 sel addr

/-- What the error code of a raw operation counts. -/
def mpxCount (s : State) (sel e : Nat) : State :=
  match e with
  | 1 => mpCount s false
  | 2 => mpCount s true
  | 3 => mpReadError s sel s.mp.xaddr
  | 4 => mpTimedOut s sel
  | _ => s

/-- A raw operation ends DONE or FAILED with the error the store reported; an absent select fails with NO_STORE (R360). -/
def execMpxDone (err : BitVec 3) (id : Word) (s0 : State) : Out :=
  .next (
    let sel := selOf s0.mp.xaddr
    let s := mpServe s0 sel
    if s.mp.xstate ≠ 1 || !mpRuns s sel 5 then s
    else
      let e := if mpType s sel = 0 then 5 else err.toNat
      let s2 := if e = 0 then mpxApply s id else mpxCount s sel e
      let s3 := mpFinish { s2 with mp := { s2.mp with xstate := if e = 0 then 2 else 3, xerr := e } } sel
      if s.mp.xop = 2 ∨ s.mp.xop = 3 then mntEndOf s3 5 sel (if e = 0 then endPass else endFail) else s3)

/-- The PROG state tells which error a store failure is. -/
def plTimeoutErr (s : State) : Nat := if s.pl.state = 1 then 7 else if s.pl.state = 3 then 8 else 11

/-- An operation past its limit fails: the store is reset, MPERR.TIMEOUT counts, MP_TIMEOUT is recorded, and the function that asked reports it; suspended time does not count (R359). -/
def execMpTimeout (sel : Fin 2) (s0 : State) : Out :=
  .next (
    let s := mpServe s0 sel.val
    match s.mp.op[sel] with
    | none => s
    | some o =>
      if o.suspended then s
      else
        let s1 := mpTimedOut { s with mp := { s.mp with op := s.mp.op.set sel none } } sel.val
        let s2 := match o.owner with
          | 2 => { s1 with jrn := { s1.jrn with writing := none } }
          | 4 => if s1.boot.confirming then mntEndOf { s1 with boot := { s1.boot with confirming := false } } 4 0 endFail
            else plFail s1 (plTimeoutErr s1)
          | 5 =>
            let s3 := { s1 with mp := { s1.mp with xstate := 3, xerr := 4 } }
            if s.mp.xop = 2 ∨ s.mp.xop = 3 then mntEndOf s3 5 sel.val endFail else s3
          | _ => s1
        mpServe s2 sel.val)

/-- A fill requested for a NOR select suspends its program or erase at the segment end (R357). -/
def execMpSuspend (sel : Fin 2) (s : State) : Out :=
  .next (
    match s.mp.op[sel] with
    | some o =>
      if mpIsNor s sel.val ∧ lineWaitsOn s sel.val ∧ o.kind ≠ .read then
        { s with mp := { s.mp with op := s.mp.op.set sel (some { o with suspended := true }) } }
      else s
    | none => s)

/-- MPSTAT.S0 and S1. -/
def mpSelBits (s : State) (sel : Nat) : Nat :=
  (if s.mp.cont.getLsbD sel then 1 else 0) +
    match vget s.mp.op sel none with
    | some o => (if o.kind = .read then 0 else 2) + (if o.suspended then 4 else 0)
    | none => 0

/-- Page 21 as read. -/
def readMemport (s : State) (off : Nat) : Word :=
  match off with
  | 6 => place 0 s.mp.bootClk ||| place 3 (mpSelBits s 0) ||| place 6 (mpSelBits s 1)
  | 7 => BitVec.ofNat 32 (xipWait s)
  | 8 => place 0 s.mp.readErr ||| place 8 s.mp.progFail ||| place 16 s.mp.eraseFail ||| place 24 s.mp.timeouts
  | 0x11 => 0
  | 0x12 => place 0 s.mp.xstate ||| place 8 s.mp.xerr
  | _ => cfgWord s 21 off

/-- The LK fields of page 21 that a value refuses (BAD_VALUE). -/
def memportCheck (s : State) (p : Port) (off : Nat) (w : Word) : Nat :=
  match off with
  | 0 => failIf (decide (5 < fieldOf w 0 3)) stBadValue
  | 2 | 3 =>
    let ty := fieldOf w 0 2
    let sz := fieldOf w 24 5
    failIf (decide (ty = 3) || (decide (off = 2) && decide (ty ≠ 1)) || (decide (fieldOf w 2 4 < 8) && bitOf w 6) ||
      (decide (ty = 1) && (decide (fieldOf w 16 8 = 0) || decide (100 < fieldOf w 16 8))) ||
      (decide (ty ≠ 0) && (decide (sz < 20) || decide (31 < sz)))) stBadValue
  | 4 | 5 => failIf (decide (fieldOf w 16 8 = 0xFF)) stBadValue
  | 0x11 => mpxCheck s p w
  | _ => 0

/-- Page 5's checks. -/
def progCheck (s : State) (p : Port) (off : Nat) (w : Word) : Nat :=
  match off with
  | 0x10 => plctlCheck s p w
  | 0x30 => failIf (decide (fieldOf w 0 2 = 3)) stBadValue
  | _ => 0

end Sys2Proof.Machine
end

