-- ==== Sys2Proof/Machine/Power.lean ====
section
/-!
DEFINITION. Power elements (R22, R57, R58, R67, R105 to R107): barrier power of the isolated dies on and off, their microcode check, PWRCTL and PWRHART, VISO and VBB.
-/

namespace Sys2Proof.Machine

/-! ## Activities on a die (R424) -/

def actOnDie (d : Die) (a : ActSt) : Bool :=
  ((decide (a.kind = 9) || decide (a.kind = 10) || decide (a.kind = 11)) && decide (a.index = d.val)) ||
    (decide (d = 4) && (decide (a.kind = 6) || decide (a.kind = 7) || decide (a.kind = 8)))

/-- MNTRES_u of a unit takes an end state. -/
def setRes (s : State) (u : Nat) (f : MntRes → MntRes) : State :=
  if h : u < 5 then { s with mnt := { s.mnt with res := vmod s.mnt.res ⟨u, h⟩ f } } else s

/-- What a test leaves behind when it ends early: a converter test's waiting requests go, and the channels of an input test read their terminals again (R424, R425). -/
def testOver (s : State) (a : ActSt) : State :=
  if h : a.index < 5 then
    match a.kind, asField ⟨a.index, h⟩ with
    | 9, _ => testWithdraw s ⟨a.index, h⟩
    | 10, some f => if a.count < a.total then chans16.foldl (inRestore a.mask f) s else s
    | _, _ => s
  else s

/-- The activity of slot `j` ends ABORTED, and its channel or loop returns to normal operation. -/
def abortAct (s : State) (j : Nat) (a : ActSt) : State :=
  let k : Chan := ⟨a.index % 16, Nat.mod_lt _ (by decide)⟩
  match a.kind with
  | 6 => owEnd s k 4 endAborted
  | 7 => trimFail s k 4 endAborted
  | 8 => cvStop s k endAborted
  | _ => mntEnd (setRes (testOver s a) a.index fun r => { r with state := 4 }) j endAborted

/-- An activity whose die is lost ends ABORTED; a trim whose point averages fails with LOOP (R298, R424). -/
def lostAct (s : State) (j : Nat) (a : ActSt) : State :=
  let k : Chan := ⟨a.index % 16, Nat.mod_lt _ (by decide)⟩
  if a.kind = 7 ∧ s.loop[k].trim.state = 1 then trimFail s k 6 endAborted else abortAct s j a

/-- Every activity on a die that declares LINK or loses barrier power ends ABORTED (R424). -/
def abortOnDie (s : State) (d : Die) : State :=
  ((mntRunning s).filter fun e => actOnDie d e.2).foldl (fun s e => lostAct s e.1 e.2) s

/-! ## A die's reset state (Table 2.8, R48, R274) -/

/-- A channel after the die's reset: the limp-home mapping and drive and the sensor stay (R274, R45). -/
def chanClear (now : Nat) (tsub : Int) (c : ChanSt) : ChanSt :=
  { chanReset with
    lowSince := some now, tj := c.tj, tm := tsub * 62500, map := c.map, lhIlim := c.lhIlim, lhOn := c.lhOn, lhShut := c.lhShut
    clampEnd := c.clampEnd }

def fieldClear (now : Nat) (f : FieldSt) : FieldSt :=
  { fieldReset with
    ch := f.ch.map (chanClear now f.tsub), tsub := f.tsub, vbb := f.vbb, vbbLow := f.vbbLow, vbbOff := f.vbbLow
    lhEn := f.lhEn, lhIn := f.lhIn, thermAt := now }

/-- LD's registers after a reset of the control die: the results of tests, which count since boot, and the HART directory go; what LD measures and its manifest store stay. -/
def ldClear (l : LdSt) : LdSt := { ldReset with vlbLow := l.vlbLow, vlb := l.vlb, temp := l.temp, pend := l.pend }

/-- The slices of the lanes and die `d` agree on what events there are (R113, log entry 67). -/
def eventsMet (s : State) (d : Die) : State :=
  { s with lane := s.lane.map fun y => { y with evSeq := y.evSeq.set d s.die[d].evSeq, evLost := y.evLost.set d none } }

/-- Die `d` in its reset state; a failed transformer stays out of service (R21). -/
def dieClear (s : State) (d : Die) (loading : Bool) : State :=
  let old := s.die[d]
  let s1 := eventsMet { s with
    die := s.die.set d { dieReset with loading := loading, pt := old.pt, linkErr := old.linkErr }
    survey := s.survey.set d surveyReset } d
  match asField d with
  | some f => updField s1 f (fieldClear s.mono)
  | none =>
    let s2 := chans16.foldl loopReset s1
    { s2 with ld := { s2.ld with pend := [] } }

/-- Barrier power of a die is switched off (R107): its PWRCTL.BPWR bit clears with it (R22). -/
def diePowerOff (s : State) (d : Die) : State :=
  let s1 := abortOnDie s d
  dieClear { s1 with pwr := { s1.pwr with bpwr := s1.pwr.bpwr &&& ~~~(bit5 d) } } d false

/-- Barrier power of a die is switched on: the die is reset and its microcode load starts (R107). -/
def diePowerOn (s : State) (d : Die) : State :=
  dieClear { s with pwr := { s.pwr with bpwr := s.pwr.bpwr ||| bit5 d } } d true

/-! ## The microcode check (R107) -/

/-- The digest of the stored region of the die's kind. -/
def ucodeOf (s : State) (d : Die) : List Word := if d = 4 then s.boot.ucodeLoop else s.boot.ucodeField

def linkUp : LinkSt := { up := true, good := 0 }

/-- The die is ready: its links count as just restored, and what it kept is sent (R107, R414). One that was loaded takes the link's time; one that ran on has its own until its first time frame (R190). -/
def dieReady (s : State) (d : Die) (digest : List Word) : State :=
  eventsMet (sendKept (updDie s d fun x =>
    { x with ready := true, loading := false, ucode := digest, linkDown := false, corrFrom := if x.loading then some s.mono else x.corrFrom,
             down := Vector.replicate 3 linkUp, up := Vector.replicate 3 linkUp, time := linkUp }) d) d

/-- A digest that differs switches the die off again, with PWRSTAT.DIE_FAIL and DIE_UCODE. -/
def dieFails (s : State) (d : Die) : State :=
  let s1 := diePowerOff s d
  ledger { s1 with pwr := { s1.pwr with dieFail := s1.pwr.dieFail ||| bit5 d } } 13 (d.val + 1) 0 0

/-- DIE_UCODE_CHECK: a loading die reports the digest of its microcode. -/
def execDieUcodeCheck (d : Die) (digest : List Word) (s : State) : Out :=
  .next (
    if s.boot.inReset || !powered s d || !s.die[d].loading then s
    else if digest = ucodeOf s d then dieReady s d digest
    else dieFails s d)

/-! ## PWRCTL and PWRHART (R105, R106) -/

/-- A write changes a bit in a mode that does not allow it, or switches a die on from a collapsing VISO. -/
def pwrctlCheck (s : State) (w : Word) : Nat :=
  let b := fieldOf w 0 5
  let l := fieldOf w 5 3
  let m := fieldOf w 16 16
  let rise := decide (b &&& (31 ^^^ s.pwr.bpwr.toNat) ≠ 0)
  failIf ((!lkWritable s.md.mode && (decide (b ≠ s.pwr.bpwr.toNat) || decide (l ≠ s.pwr.lclk.toNat))) ||
    (decide (s.md.mode = .boot) && decide (m ≠ s.pwr.loopmod.toNat)) || (rise && decide (s.pwr.viso < 4600))) stBadMode

/-- One die's BPWR bit written. -/
def bpwrBit (w : Word) (s : State) (d : Die) : State :=
  if bitOf w d.val = powered s d then s else if bitOf w d.val then diePowerOn s d else diePowerOff s d

/-- The modulators and modems that are on take their bits (R106). -/
def loopPower (s : State) : State :=
  let s1 := { s with pwr := { s.pwr with loopmodEff := s.pwr.loopmod, modemEff := s.pwr.modem } }
  chans16.foldl (fun s k => hartSync (churnSync s k) k) s1

/-- In QUIET, where no T0 falls, the bits act after the frame (R106). -/
def loopPowerQuiet (s : State) : State := if s.md.mode = .quiet then loopPower s else s

/-- PWRCTL's effect. -/
def pwrctlWrite (s : State) (w : Word) : State :=
  let s1 := dies5.foldl (bpwrBit w) s
  loopPowerQuiet { s1 with pwr := { s1.pwr with lclk := BitVec.ofNat 3 (fieldOf w 5 3), loopmod := BitVec.ofNat 16 (fieldOf w 16 16) } }

def pwrctlWord (s : State) : Word := place 0 s.pwr.bpwr.toNat ||| place 5 s.pwr.lclk.toNat ||| place 16 s.pwr.loopmod.toNat

def pwrhartCheck (s : State) (w : Word) : Nat :=
  failIf (decide (s.md.mode = .boot) && decide (fieldOf w 0 16 ≠ s.pwr.modem.toNat)) stBadMode

def pwrhartWrite (s : State) (w : Word) : State :=
  loopPowerQuiet { s with pwr := { s.pwr with modem := BitVec.ofNat 16 (fieldOf w 0 16) } }

/-- PWRSTAT: the clocks run as LCLK holds, but in reset and in QUIET (R106, R108). -/
def pwrstatWord (s : State) : Word :=
  let rdy := dies5.foldl (fun w d => w ||| placeB d.val (ready s d)) 0
  let run := lanes3.foldl (fun w l => w ||| placeB (10 + l.val)
    (s.pwr.lclk.getLsbD l.val && s.lane[l].clockOk && !decide (s.md.mode = .quiet))) 0
  rdy ||| place 5 s.pwr.dieFail.toNat ||| run

/-! ## Supplies (R57, R58) -/

/-- VISO falls to a level: below 4.60 V it is recorded, once for each fall (R57). -/
def visoFalls (s : State) (mV : Nat) : State :=
  let s1 := { s with pwr := { s.pwr with viso := mV } }
  if s.boot.inReset || decide (s.pwr.viso < 4600) || decide (4600 ≤ mV) then s1 else ledger s1 12 0 0 mV

/-- VISO_LOW: VISO falls below 4.60 V. -/
def execVisoLow (mV : Nat) (s : State) : Out := .next (if mV < 4600 then visoFalls s mV else s)

/-- VISO_COLLAPSE: VISO falls below 4.20 V; the drivers stop and every die loses barrier power. -/
def execVisoCollapse (s : State) (mV : Nat := 0) : Out :=
  .next (if mV < 4200 then (dies5.filter (powered s)).foldl diePowerOff (visoFalls s mV) else s)

/-- A channel of a die without its field supply: off, its input invalid, its mapping lost (R58, R274). -/
def chanVbbOff (d : FDie) (s : State) (k : Chan) : State :=
  let s1 := if stOn (chan s d k).st then openFree s d k
    else if (chan s d k).lhOn then updChan (useFree s) d k (stageOpens (freeCurrent s) (freeClamp s))
    else s
  let s2 := if (chan s1 d k).st = .wait then withdraw s1 d k else s1
  updChan s2 d k fun c =>
    { c with
      st := if c.st = .rwait ∨ c.st = .latched then c.st else .off
      valid := false, lhOn := false, lhShut := false, map := { en := false, src := 0, inv := false } }

/-- VBB_LOW. The switch-off of the stages needs no command record; the ledger event needs barrier power (R45). -/
def execVbbLow (d : FDie) (mV : Nat) (s : State) : Out :=
  .next (
    let s1 := updField s d fun f => { f with vbb := mV, vbbLow := true, vbbOff := true }
    let s2 := chans16.foldl (chanVbbOff d) s1
    if powered s (toDie d) && !(fld s d).vbbLow then dieLedger s2 (toDie d) 48 0 mV else s2)

/-- VBB_RESTORED: VBB_Fn rises above 8.8 V; the die acts on its voted commands again from the next commit. -/
def execVbbRestored (d : FDie) (s : State) : Out :=
  .next (if (fld s d).vbbLow then updField s d fun f => { f with vbbLow := false } else s)

/-- VBB_HIGH: recorded; every channel keeps its commanded state. -/
def execVbbHigh (d : FDie) (mV : Nat) (s : State) : Out :=
  .next (
    let s1 := updField s d fun f => { f with vbb := mV }
    if powered s (toDie d) then dieLedger s1 (toDie d) 49 0 mV else s1)

end Sys2Proof.Machine
end

