-- ==== Sys2Proof/Machine/Reset.lean ====
section
/-!
DEFINITION. Resets of the control die (R66 to R71, R85, R90): what enters reset, what every reset keeps, and the pins. The sources are numbered as the bits of RSTCAUSE: 0 POR, 1 PIN, 2 SWCOLD, 3 SWWARM, 4 WDOG, 5 FATAL.
-/

namespace Sys2Proof.Machine

/-- Sources seen in the present reset with one more (R68); a POR leaves those before it recorded for the warm decision (log entry 83). -/
def resetSources (s : State) (src : Nat) : BitVec 6 :=
  (if s.boot.inReset then s.boot.sources else 0) ||| BitVec.ofNat 6 (2 ^ src)

/-- RSTCAUSE: a POR clears [5:1] before it sets POR; every other source sets its own bit. -/
def resetCause (s : State) (src : Nat) : BitVec 6 := if src = 0 then 1 else s.boot.cause ||| BitVec.ofNat 6 (2 ^ src)

/-- The ledger through a reset: all of it goes with a POR; every other source keeps ring, sticky bits, counts and numbers (R85, R421). -/
def ledKept (por : Bool) (l : LedSt) : LedSt :=
  if por then ledReset else { l with jen := false, jready := false, queue := [], pend := [] }

/-- A loop through a reset of the control die: its supply, protection and chain go on; trims, tests and transactions are ended (R424). -/
def loopKept (l : LoopSt) : LoopSt :=
  { l with
    trim := trimReset
    ow := owReset
    hart := { hartReset with cd := l.hart.cd, quietFrom := l.hart.quietFrom } }

/-- The chain test of a loop ends and the chain goes on from the modulator. -/
def endChainTest (s : State) (k : Chan) : State :=
  if s.loop[k].churn.test.isSome then
    let s1 := updChurn s k fun c => { c with test := none }
    if churnWanted s1 k then startChurn s1 k else stopChurn s1 k
  else s

/-- LD through a reset of the control die: running open-wire tests end, with their current off. -/
def ldKept (s : State) : State :=
  let s1 := chans16.foldl (fun s k => if owCurrent s.loop[k].ow then owSwitch s k (dieTime s ldDie) else s) s
  let s2 := chans16.foldl endChainTest s1
  { s2 with
    ld := ldClear s2.ld
    loop := s2.loop.map loopKept }

/-- A die that runs through a reset of the control die (R90, R451): it keeps its settings and its events; the next commit is the first since the boot. -/
def dieKept (x : DieSt) : DieSt :=
  { x with
    loading := false, lock := false, up := Vector.replicate 3 linkReset, firstCommit := true, repMinority := 0, repClose := 0, repShadow := 0
    closeRx := 0, manRx := Vector.replicate 3 [] }

/-- The dies run on without their links' time (R190). -/
def diesKept (s : State) : Vector DieSt 5 :=
  Vector.ofFn fun d => { dieKept s.die[d] with offset := curOffset s d, corrFrom := none }

/-- The control die's own blocks in reset; what lies outside its reach is kept. -/
def controlReset (s : State) (src : Nat) : State :=
  let por := decide (src = 0)
  { State.reset with
    pending := s.pending
    freeCtr := s.freeCtr
    time := s.time
    mono := s.mono
    shadow := srPart regsReset
    vddio := s.vddio
    tap := s.tap
    boot := { bootReset with
      sources := resetSources s src
      cause := resetCause s src
      bootCnt := if por then 0 else s.boot.bootCnt }
    pwr := { pwrReset with
      bpwr := s.pwr.bpwr, loopmodEff := s.pwr.loopmodEff, modemEff := s.pwr.modemEff, viso := s.pwr.viso }
    store := s.store
    led := ledKept por s.led
    die := diesKept s
    field := s.field.map fun f => { f with defCount := 0, defMax := 0 }
    survey := s.survey
    loop := s.loop
    ld := s.ld }

/-- The control die enters reset by a source (R66, R68). -/
def enterReset (s : State) (src : Nat) : State :=
  let s1 := if src = 0 then (dies5.filter (powered s)).foldl diePowerOff s else s
  ldKept (controlReset s1 src)

/-- POR: a control-side rail leaves its range; the transformer drivers stop. -/
def execPor (s : State) : Out := .next (enterReset s 0)

/-- PIN_RESET: RESET_N has qualified. -/
def execPinReset (s : State) : Out := .next (enterReset s 1)

/-- FATAL_RESET: both time-master sections failed, or the boot ROM self-test failed. -/
def execFatalReset (s : State) : Out := .next (enterReset s 5)

/-- RSTCTL's check and effect (R71). -/
def rstctlCheck (w : Word) : Nat :=
  failIf (decide (fieldOf w 24 8 ≠ 0x5A) || decide (fieldOf w 0 2 = 0) || decide (fieldOf w 0 2 = 3)) stBadValue

def rstctlWrite (s : State) (w : Word) : State := enterReset s (if fieldOf w 0 2 = 1 then 2 else 3)

/-- RSTOUT_RELEASE: RSTOUT_N rises 1 ms after the release (R70). -/
def execRstoutRelease (s : State) : Out :=
  .next (if s.boot.inReset then s else { s with boot := { s.boot with rstoutLow := false } })

end Sys2Proof.Machine
end

