-- ==== Sys2Proof/Machine/Wdog.lean ====
section
/-!
DEFINITION. The watchdogs (R407 to R413) and page 18.
-/

namespace Sys2Proof.Machine

/-- The configuration set of watchdog `i` (R407): a field of its WDCFG. -/
def wdSetNo (i : Nat) : Nat := if i = 3 then 1 else 0
def wdCfg (s : State) (i lo n : Nat) : Nat := cfgField s 18 (4 * wdSetNo i) lo n
def wdEn (s : State) (i : Nat) : Bool := decide (wdCfg s i 0 1 = 1)
def wdAction (s : State) (i : Nat) : Nat := wdCfg s i 2 2
def wdTmo (s : State) (i : Nat) : Nat := cfgField s 18 (1 + 4 * wdSetNo i) 0 24 * 1000
def wdMask (s : State) (i : Nat) : BitVec 16 := BitVec.ofNat 16 (cfgField s 18 (2 + 4 * wdSetNo i) 0 16)

def updWd (s : State) (i : Fin 4) (f : WdSt → WdSt) : State := { s with wd := vmod s.wd i f }

/-- The test access port holds an instruction that takes control of pads (R52). -/
def tapHolds (s : State) : Bool := decide (s.tap.ins = .extest) && (decide (s.md.mode = .boot) || decide (s.md.mode = .quiet))

/-- The host watchdog is held (R411). -/
def wdHeldNow (s : State) : Bool := (decide (s.md.mode = .quiet) && decide (wdCfg s 3 5 1 = 0)) || tapHolds s

/-- A fresh period starts (R410, R411). -/
def wdArm (s : State) (i : Fin 4) : State :=
  updWd s i fun w => { w with state := 1, seen := 0, start := s.mono, held := 0 }

/-- The host watchdog takes a hold or leaves it, keeping its count (R411). -/
def wdSync (s : State) : State :=
  let w := s.wd[(3 : Fin 4)]
  if w.state = 1 ∧ wdHeldNow s then updWd s 3 fun w => { w with state := 2, held := s.mono - w.start }
  else if w.state = 2 ∧ !wdHeldNow s then updWd s 3 fun w => { w with state := 1, start := s.mono - w.held }
  else s

/-- The host watchdog is armed (and held at once where R411 holds it). -/
def wdArmHost (s : State) : State := wdSync (wdArm s 3)

/-- What Table 15.1 does at an expiry or a clock trip; `again` re-arms where the action says so. -/
def wdAct (s : State) (i : Fin 4) (again : Bool) : State :=
  let rearm (s : State) : State :=
    if !again then updWd s i fun w => { w with state := 3 } else if i = 3 then wdArmHost s else wdArm s i
  match wdAction s i.val with
  | 0 =>
    let s1 := updWd s i fun w => { w with state := 3 }
    if h : i.val < 3 then
      let l : Lane := ⟨i.val, h⟩
      learnCause (updLane s1 l fun x => { x with shadowDiff := x.shadowDiff || decide (x.state = 6) }) l 7
    else s1
  | 1 => rearm (if lanesRun s.md.mode then { s with md := { s.md with safePending := true } } else s)
  | 2 => enterReset s 4
  | _ => rearm s

/-- An expiry (R412). -/
def wdExpire (s : State) (i : Fin 4) : State :=
  let w := s.wd[i]
  let s1 := updWd s i fun w => { w with exp := satAdd 255 w.exp 1 }
  wdAct (ledger s1 19 13 i.val ((wdMask s i.val &&& ~~~w.seen).toNat + wdAction s i.val * 65536)) i (!w.clkFail)

/-- The word is accepted (R409). -/
def wdWordOk (s : State) (i : Nat) (word : Word) : Bool :=
  (wdMask s i).getLsbD (fieldOf word 0 4) && decide (fieldOf word 4 12 = 0) &&
    decide (fieldOf word 16 16 = wdCfg s i 16 16 ^^^ (0x1111 * fieldOf word 0 4))

/-- An accepted check-in sets its bit; when SEEN holds every bit of MASK the watchdog restarts. At or past the expiry instant it counts towards no period (R410). -/
def wdSeen (s : State) (i : Fin 4) (t : Nat) : State :=
  if s.wd[i].state = 1 ∧ s.wd[i].start + wdTmo s i.val ≤ s.mono then s else
  let seen := s.wd[i].seen ||| BitVec.ofNat 16 (2 ^ t)
  if wdMask s i.val &&& ~~~seen = 0 then
    updWd s i fun w => { w with seen := 0, start := s.mono, held := 0 }
  else updWd s i fun w => { w with seen := seen }

/-- A bad check-in counts and is recorded; with BADEXP it expires the watchdog. -/
def wdBad (s : State) (i : Fin 4) (word : Word) : State :=
  let s1 := ledger (updWd s i fun w => { w with bad := (w.bad + 1) % 65536, badTask := fieldOf word 0 4 }) 21 13 i.val word.toNat
  if wdCfg s i.val 4 1 = 1 ∧ s.wd[i].state ≠ 3 then wdExpire s1 i else s1

/-- One check-in (R409). A watchdog that is off takes none; one that has expired counts none towards a period. -/
def wdCheckin (s : State) (i : Fin 4) (word : Word) : State :=
  let st := s.wd[i].state
  if st = 0 then s
  else if wdWordOk s i.val word then (if st = 3 then s else wdSeen s i (fieldOf word 0 4))
  else wdBad s i word

/-- WDOG_CHECKIN: the next SERVE word of the lane reaches its watchdog (R167). -/
def execWdogCheckin (l : Lane) (s : State) : Out :=
  .next (
    match s.lane[l].serve with
    | [] => s
    | w :: r => wdCheckin (updLane s l fun x => { x with serve := r }) (laneWd l) w)

/-- WDOG_EXP: the count of an armed watchdog reaches TMO. -/
def execWdogExp (i : Fin 4) (s : State) : Out :=
  .next (if s.wd[i].state = 1 then wdExpire (monoTo s (s.wd[i].start + wdTmo s i.val)) i else s)

/-- WDOG_CLOCK: the selected clock has stopped and the monitor trips (R408). The clock counts as running again from the trip on (log entry 40). -/
def execWdogClock (i : Fin 4) (s : State) : Out :=
  .next (
    if s.wd[i].state = 0 ∨ s.wd[i].clkFail then s
    else
      let s1 := updWd s i fun w => { w with clkFail := true, clkSince := s.mono, state := 3 }
      let s2 := wdAct (ledger s1 20 13 i.val (wdCfg s i.val 1 1)) i false
      s2)

/-- WDCLR clears counts, and CLKFAIL when the clock has run for 1 ms; a host watchdog is armed then at once. -/
def wdClear (w : Word) (s : State) (i : Fin 4) : State :=
  if !bitOf w i.val then s
  else
    let x := s.wd[i]
    let s1 := updWd s i fun y => { y with exp := 0, bad := 0 }
    if x.clkFail ∧ x.clkSince + 1000000 ≤ s.mono then
      let s2 := updWd s1 i fun y => { y with clkFail := false, state := 0 }
      if i = 3 ∧ wdEn s 3 ∧ s.md.mode ≠ .boot then wdArmHost s2 else s2
    else s1

def wdclrWrite (s : State) (w : Word) : State := ([0, 1, 2, 3] : List (Fin 4)).foldl (wdClear w) s

/-- A lane watchdog is armed at the T0 of a cycle that its lane computes (R411). -/
def wdLaneT0 (s : State) (l : Lane) : State :=
  let w := s.wd[laneWd l]
  if wdEn s 0 && !w.clkFail && decide (w.state = 0) then wdArm s (laneWd l) else s

/-- A set changed at its commit: armed watchdogs start a new period, and EN switches the host watchdog (R411). -/
def wdApplied (old : RegMap) (s : State) : State :=
  let changed (w : Nat) : Bool := ([0, 1, 2] : List Nat).any fun r => rmGet old (regKey 18 (4 * w + r)) != cfgWord s 18 (4 * w + r)
  let restart (s : State) (i : Fin 4) : State :=
    if !changed (wdSetNo i.val) then s
    else if !wdEn s i.val then (if s.wd[i].state = 3 then s else updWd s i fun w => { w with state := 0, seen := 0 })
    else if s.wd[i].state = 1 then wdArm s i
    else if i = 3 then
      if s.wd[i].state = 2 then updWd s 3 fun w => { w with seen := 0, held := 0 }
      else if s.wd[i].state = 0 ∧ !s.wd[i].clkFail ∧ s.md.mode ≠ .boot then wdArmHost s
      else s
    else s
  wdSync (([0, 1, 2, 3] : List (Fin 4)).foldl restart s)

/-- WDLEFT_i, µs. -/
def wdLeft (s : State) (i : Nat) : Nat :=
  let w := vget s.wd i wdReset
  if w.state = 1 then (wdTmo s i - (s.mono - w.start)) / 1000
  else if w.state = 2 then (wdTmo s i - w.held) / 1000
  else 0

/-- Page 18 as read. -/
def readWdog (s : State) (off : Nat) : Word :=
  if 0x10 ≤ off ∧ off < 0x14 then
    let w := vget s.wd (off - 0x10) wdReset
    place 0 w.state ||| placeB 2 w.clkFail ||| place 8 w.exp ||| place 16 w.seen.toNat
  else if 0x14 ≤ off ∧ off < 0x18 then BitVec.ofNat 32 (wdLeft s (off - 0x14))
  else if 0x18 ≤ off ∧ off < 0x1C then
    let w := vget s.wd (off - 0x18) wdReset
    place 0 w.bad ||| place 16 w.badTask
  else if off = 0x20 ∨ off = 0x21 then 0
  else cfgWord s 18 off

end Sys2Proof.Machine
end

