-- ==== Sys2Proof/Machine/Modes.lean ====
section
/-!
DEFINITION. Operating modes (R94 to R110, R453): the change of mode, MODECMD, the lane start, wake from QUIET, the cycle's start, and the retain journal's newest record (R87).
-/

namespace Sys2Proof.Machine

/-! ## Lanes stop -/

/-- A lane halts; its watchdog is off (R411). -/
def haltLane (s : State) (l : Lane) : State :=
  wdOff (updLane s l fun x => { x with run := .halted, lineReq := none }) (laneWd l)

/-- Reintegration of a lane ends without a rejoin (R138, Table 15.5). -/
def reintStop (s : State) (l : Lane) : State :=
  let x := s.lane[l]
  if 2 ≤ x.state ∧ x.state ≤ 6 then
    mntEndOf (updLane s l fun x => { x with state := 1, dirty := [], stageAt := 0, convCnt := 0 }) 2 l.val endAborted
  else s

/-- In a mode without running lanes every lane is HALTED. -/
def stopLanes (s : State) : State :=
  let s1 := lanes3.foldl (fun s l => haltLane (reintStop s l) l) s
  let s2 := lanes3.foldl (fun s l => mntEndOf s 1 l.val endAborted) s1
  { s2 with
    lane := s2.lane.map fun x => { x with state := 7, triesLeft := 0, pendCause := 0 }
    cyc := { s2.cyc with member := 0, finalPass := none } }

/-- CAN FIFOs and held requests go at an entry into QUIET (R380). -/
def flushAll (s : State) : State := ctrls2.foldl (fun s c => dropHeld (canFlush s c false) c) s

/-- A controller that was off in QUIET joins the bus again after it (R108, R368); one that listened goes on by its counters. -/
def canLeaveQuiet (s : State) (c : Ctrl) : State :=
  let k := s.can[c]
  if canEn s c ∧ !cfgBit s 0 0x26 (1 + c.val) ∧ (k.state = 2 ∨ k.state = 3 ∨ k.state = 6) then
    canUpd s c fun k => { k with state := 1, onWs := false }
  else s

/-- A change of mode by a row of Table 4.2, with IRQ source MODE, and with the ledger record of SAFE and LIMP (R103). -/
def setMode (s : State) (m : Mode) (row : Nat) : State :=
  let s1 := irq { s with md := { s.md with
      mode := m, lastCause := row, primeCnt := 0, primeLasted := 0, pairCnt := Vector.replicate 3 0
      row4 := if m = .hold then s.md.row4 else none
      laneStarted := false } } 0
  let s2 := if lanesRun m then s1 else stopLanes s1
  let s3 := if m = .limp then lanes3.foldl reintStop s2 else s2
  let s4 := if m = .quiet then flushAll { s3 with cyc := { s3.cyc with running := false } } else s3
  let s5 := if s.md.mode = .quiet then ctrls2.foldl canLeaveQuiet s4 else s4
  wdSync (if m = .safe then ledger s5 3 0 0 row else if m = .limp then ledger s5 4 0 0 row else s5)

def setDrop (s : State) : State := { s with md := { s.md with drop := true } }

/-- The cycle starts: its first commit is the first grid instant not earlier than `t` (R191, Table 7.1). -/
def startCycleAt (s : State) (t : Nat) : State :=
  { s with cyc := { s.cyc with
      running := true
      period := cfgPeriod s
      nextT0 := gridNext (gridOrg s) (cfgPeriod s * 1000) t } }

/-- After a boot: the first grid instant not earlier than the end of phase 8. -/
def startCycle (s : State) : State := startCycleAt s s.time

/-- After QUIET: the first grid instant after the device is in HOLD (R110). -/
def resumeCycle (s : State) : State := startCycleAt s (s.time + 1)

/-! ## The retain journal's records (R87) -/

/-- A record of a slot. -/
structure RetainRec where
  slot : Bool
  gen : Nat
  cycle : Nat
  layout : Nat
  len : Nat
  data : List Byte

/-- The valid record of a slot. -/
def retainSlot (s : State) (slot : Bool) : Option RetainRec :=
  match dirEntryOf s (if slot then 0x31 else 0x30) with
  | none => none
  | some e =>
    let a := e.base
    let n := beAt s.store (a + 0x1C) 4
    if beAt s.store a 4 = 0x524A4E4C ∧ n ≤ 65536 ∧ 68 + n ≤ e.len ∧
        beAt s.store (a + 0x40 + n) 4 = (crc32c (storeBytes s a (0x40 + n))).toNat then
      some { slot := slot, gen := beAt s.store (a + 4) 4, cycle := beAt s.store (a + 8) 8, layout := beAt s.store (a + 0x18) 4,
             len := n, data := storeBytes s (a + 0x40) n }
    else none

/-- The newest valid record; of two that are equally new, slot 0 (log entry 84). -/
def retainNewest (s : State) : Option RetainRec :=
  match retainSlot s false, retainSlot s true with
  | some a, some b => if newerGen b.gen a.gen then some b else some a
  | some a, none => some a
  | none, b => b

/-- The record matches the running image's retain layout. -/
def retainFits (s : State) (r : RetainRec) : Bool :=
  decide (r.layout = s.boot.retainId.toNat) && decide (r.len = s.boot.retainLen.toNat)

/-! ## The lane start (R104) -/

/-- All three lane clocks are enabled and every powered die is ready. -/
def primeReady (s : State) : Bool :=
  decide (s.pwr.lclk = 7) && dies5.all fun d => !powered s d || s.die[d].ready

/-- Lane memory at a start: code stays; retain stays, or takes `retain`; all else is zero. -/
def startMem (m : Memory) (retain : Option (List Byte)) : Memory :=
  let kept := m.filter fun e => decide (e.1 < 0x80000)
  match retain with
  | none => kept
  | some bs => memBlock 0 kept 0x20100000 bs

/-- The lanes as a start leaves them: memories, special registers from the code image header (R153), empty prefetch buffers. -/
def startLane (s : State) (retain : Option (List Byte)) (x : LaneSt) : LaneSt :=
  { x with
    mem := startMem x.mem retain
    closedCopy := []
    pf := []
    xipBase := s.boot.xipBase
    xipSpan := s.boot.xipSpan
    crcVal := 0
    close := closeReset
    trapped := false
    lineReq := none }

/-- The start is done; PRIME begins at the next T0. -/
def laneStarted (s : State) (retain : Option (List Byte)) : State :=
  { s with
    lane := s.lane.map (startLane s retain)
    cyc := { s.cyc with image := [] }
    md := { s.md with laneStarted := true, start := true, startWarm := retain.isSome } }

/-- A pending MODECMD is dropped (R102, R104). -/
def dropCmd (s : State) : State := setDrop { s with md := { s.md with cmd := none, laneStarted := false } }

/-- The device begins the lane start for row 4 after a wake, or for a pending MODECMD PRIME. -/
def laneStart (s : State) : State :=
  if s.md.mode ≠ .hold ∨ s.md.laneStarted then s
  else if s.md.row4 = some true ∧ primeReady s then laneStarted s none
  else
    match s.md.cmd with
    | some (.prime warm) =>
      if !primeReady s then dropCmd s
      else if !warm then laneStarted s none
      else
        match (retainNewest s).filter (retainFits s) with
        | some r => laneStarted s (some r.data)
        | none => dropCmd s
    | _ => s

/-- LANE_START. -/
def execLaneStart (s : State) : Out := .next (laneStart s)

/-! ## MODECMD (R102) -/

/-- The rows by which an owner command leaves a mode. -/
def cmdRow (m : Mode) (target : Nat) : Option Nat :=
  match m, target with
  | .quiet, 2 => some 3
  | .hold, 1 => some 5
  | .hold, 3 => some 6
  | .prime, 7 | .run, 7 | .degraded, 7 | .limp, 7 => some 15
  | .prime, 2 | .run, 2 | .degraded, 2 | .limp, 2 | .safe, 2 => some 16
  | _, _ => none

def cmdTarget : ModeCmd → Nat
  | .quiet => 1
  | .hold => 2
  | .prime _ => 3
  | .safe => 7

/-- MODECMD's checks: an unlisted TARGET or KEY, and a target that no row allows. -/
def modecmdCheck (s : State) (w : Word) : Nat :=
  let t := fieldOf w 0 3
  let listed := decide (t = 1) || decide (t = 2) || decide (t = 3) || decide (t = 7)
  firstFail (failIf (!listed || decide (fieldOf w 24 8 ≠ 0xA5)) stBadValue)
    (failIf (listed && decide (t ≠ modeCode s.md.mode) &&
      ((cmdRow s.md.mode t).isNone || (decide (t = 3) && !primeReady s))) stBadMode)

/-- The command waits for its T0, in place of an earlier one; in QUIET, HOLD is entered by row 3 and the cycle resumes (R110). -/
def modecmdWrite (s : State) (w : Word) : State :=
  let t := fieldOf w 0 3
  let c : ModeCmd := if t = 1 then .quiet else if t = 2 then .hold else if t = 3 then .prime (bitOf w 3) else .safe
  let s1 := { s with md := { s.md with cmd := none, laneStarted := s.md.laneStarted && s.md.row4.isSome } }
  if t = modeCode s.md.mode then s1
  else if s.md.mode = .quiet then resumeCycle (setMode s1 .hold 3)
  else { s1 with md := { s1.md with cmd := some c } }

/-- MODESTAT. -/
def modestatWord (s : State) : Word :=
  place 0 (modeCode s.md.mode) ||| place 3 (if lanesRun s.md.mode then s.cyc.member.toNat else 0) ||| placeB 6 s.md.drop |||
    place 8 s.md.lastCause ||| place 16 (if s.md.mode = .prime then s.md.primeCnt else 0)

/-! ## Wake from QUIET (R109, R110) -/

/-- Dies that WAKEPWR switches on. -/
def wakeDies (s : State) : List Die := dies5.filter fun d => bitOf (cfgWord s 0 0x2A) d.val && !powered s d

/-- Wake sources act, by their bits of WAKESTAT: HOLD by row 3, the dies of WAKEPWR, and row 4 pending with TOPRIME. -/
def wake (s : State) (srcs : BitVec 4) (viso : Nat) : State :=
  let s1 := { s with pwr := { s.pwr with viso := viso, wakeStat := s.pwr.wakeStat ||| srcs } }
  let s2 := resumeCycle (setMode (irq s1 10) .hold 3)
  let on := wakeDies s2
  let s3 := if on = [] then s2 else if viso < 4600 then setDrop s2 else on.foldl diePowerOn s2
  if cfgBit s 0 0x26 4 then
    (if s3.pwr.lclk = 7 then { s3 with md := { s3.md with row4 := some true } } else setDrop s3)
  else s3

def wakeOn (s : State) (src : Nat) : Bool := decide (s.md.mode = .quiet) && cfgBit s 0 0x26 src

/-- The pad has been high for 10 µs and is enabled. -/
def padPresent (s : State) : Bool := wakeOn s 0 && s.pwr.wakeHigh

/-- WAKE_PAD: the WAKE pad has had a level for 10 µs; a high one wakes. -/
def execWakePad (viso : Nat) (s : State) (high : Bool := true) : Out :=
  let s1 := { s with pwr := { s.pwr with wakeHigh := high } }
  .next (if padPresent s1 then wake s1 1 viso else s1)

/-- WAKE_CAN: a frame that a listening controller receives and its filter pair 0 accepts (R109, R364, R384). -/
def execWakeCan (c : Ctrl) (f : CanFrame) (viso : Nat) (s : State) : Out :=
  .next (
    if wakeOn s (1 + c.val) && canHears s c && (!f.fdf || canFd s c) && !f.rtr &&
        filterHit s c (frameIdw f.ide f.fdf f.brs f.id.toNat) 0 then
      wake s (BitVec.ofNat 4 (2 ^ (1 + c.val))) viso
    else s)

/-- WAKETIME as its two registers hold it now: a write of the low word alone moves an armed alarm too (log entry 34). -/
def wakeTime (s : State) : Nat := (cfgWord s 0 0x29).toNat * 2 ^ 32 + (cfgWord s 0 0x28).toNat

/-- WAKE_ALARM: the time base reaches WAKETIME. -/
def execWakeAlarm (viso : Nat) (s : State) : Out :=
  .next (if wakeOn s 3 && s.pwr.alarmArmed then wake (timeTo s (wakeTime s)) 8 viso else s)

/-- The alarm is enabled, armed and not later than the time base. -/
def alarmPresent (s : State) : Bool := wakeOn s 3 && s.pwr.alarmArmed && decide (wakeTime s ≤ s.time)

/-- Sources that are already present at the entry into QUIET wake at once (R109). -/
def wakeAtEntry (s : State) : State :=
  let srcs : BitVec 4 := (if padPresent s then 1 else 0) ||| (if alarmPresent s then 8 else 0)
  if srcs = 0 then s else wake s srcs s.pwr.viso

end Sys2Proof.Machine
end

