-- ==== Sys2Proof/Machine/Boot.lean ====
section
/-!
DEFINITION. The boot (R67, R72 to R81, R85 to R91, R393, R398, R399, R450, R451, R453): reset release, the phases of Table 3.6 and the recovery state.
-/

namespace Sys2Proof.Machine

/-! ## Recovery (R73) -/

/-- The recovery state with an error code: no measurement, no running image; the device stays in BOOT. -/
def enterRecovery (s : State) (err : Nat) : State :=
  { s with
    boot := { s.boot with recovery := true, err := err, phase := 0, trial := false, entry := 0, body := 0, retainId := 0,
                          retainLen := 0, xipBase := 0, xipSpan := 0 }
    attest := { s.attest with meas := [[], [], [], []], valid := 0 } }

/-! ## Phase 2: directory and bank (R74, R75) -/

/-- Header item 4 of R180. -/
def xipItemOk (s : State) (code : DirEntry) (xip : Option DirEntry) : Bool :=
  let b := beAt s.store (code.base + 0x18) 4
  let n := beAt s.store (code.base + 0x1C) 4
  match xip with
  | none => decide (b = 0) && decide (n = 0)
  | some x => decide (x.len % 36 = 0) && decide (b = x.base) && decide (n = x.len)

/-- A bank passes (R75). -/
def bankOk (s : State) (b : Bool) : Bool :=
  let xip := dirEntryOf s (bankBase b + 1)
  match dirEntryOf s (bankBase b), dirEntryOf s (bankBase b + 2) with
  | some code, some cfg =>
    entryOk s code && entryOk s cfg && (match xip with | some x => entryOk s x | none => true) &&
      headerOk s.store code.base code.len && xipItemOk s code xip
  | _, _ => false

/-- The bank that the boot chooses (R75); a trial is written first, and a directory write that fails is counted and starts none. Whether the write succeeds is a free value: no command carries it (log entry 41). -/
def selectBank (s : State) : State :=
  let d := dirNow s
  let active := decide (d.1 = 1)
  let wanted := decide (0 < d.2.1) && (decide (s.boot.sel = 0) || decide (s.boot.sel = 1))
  let trial := wanted && decide (freeNat s % 2 = 0)
  let s1 := if trial then useFree (dirWrite s d.1 (d.2.1 - 1) d.2.2)
    else if wanted then { useFree s with mp := { s.mp with progFail := satAdd 255 s.mp.progFail 1 } }
    else s
  let cand := if trial || decide (s.boot.sel = 2) then !active else active
  if bankOk s1 cand then { s1 with boot := { s1.boot with bank := cand, trial := trial, phase := 3 } }
  else if bankOk s1 (!cand) then { s1 with boot := { s1.boot with bank := !cand, fallback := true, phase := 3 } }
  else enterRecovery s1 4

/-- Every byte of the two headers reads 0xFF, as an erased store's do and as MP_SI's pull gives where nothing answers (R358, Table 2.8). -/
def storeBlank (s : State) : Bool := (storeBytes s 0 64 ++ storeBytes s 0x1000 64).all fun b => decide (b = 0xFF)

/-- The memory-port clock of the boot (R358), in MPCLK and MPSTAT.BOOTCLK: 25 MHz where the store does not answer or reads erased, else the fastest of the three fast clocks that the board follows, or 25 MHz; which one is a free choice, as no command carries it (log entry 39). -/
def bootClock (s : State) : State :=
  let c := if !mpPowered s || storeBlank s then 5
    else match freeNat s % 4 with
      | 0 => 0
      | 1 => 2
      | 2 => 4
      | _ => 5
  putReg { useFree s with mp := { s.mp with bootClk := c } } 21 0 (place 0 c)

/-- Phase 2. A store without its rail does not respond; one that reads blank holds no directory or does not respond, which of the two being a free value (log entry 81). -/
def bootPhase2 (s : State) : State :=
  let s1 := bootClock s
  if !mpPowered s1 then enterRecovery s1 5
  else if storeBlank s1 then enterRecovery (useFree s1) (if freeNat s1 % 2 = 0 then 1 else 5)
  else
  match dirPick s1.store with
  | none => enterRecovery s1 1
  | some b => if dirCount s1.store b = 0 then enterRecovery s1 2 else selectBank s1

/-! ## Phases 3 to 5: firmware, microcode, code (R79, R80, R107, R179) -/

/-- MEAS_k takes a digest. -/
def setMeas (s : State) (k : Nat) (dig : List Word) : State :=
  { s with attest := { s.attest with meas := s.attest.meas.set k dig, valid := s.attest.valid ||| BitVec.ofNat 4 (2 ^ k) } }

/-- The bytes of a present region that passes its checks. -/
def goodRegion (s : State) (type : Nat) : Option (List Byte) :=
  match dirEntryOf s type with
  | some e => if entryOk s e then some (entryBytes s.store e) else none
  | none => none

/-- The manifest libraries (Table 3.5): none where the region is absent, fails its CRC or lies off the NOR selects (R352). -/
def libraries (s : State) : Option (List Byte) := goodRegion s 0x60

def bootPhase3 (s : State) : State :=
  match goodRegion s 1 with
  | none => enterRecovery s 2
  | some fw => let s1 := setMeas s 0 (sha256Words fw); { s1 with boot := { s1.boot with phase := 4 } }

/-- A powered die in phase 4: with the stored digest it keeps running; otherwise it is reset and loaded (R79). -/
def bootDie (s : State) (d : Die) : State :=
  if !powered s d then s
  else if s.die[d].ready && decide (s.die[d].ucode = ucodeOf s d) then dieReady s d (ucodeOf s d)
  else dieClear s d true

def bootPhase4 (s : State) : State :=
  match goodRegion s 2, goodRegion s 3 with
  | some f, some l =>
    let s1 := setMeas { s with boot := { s.boot with ucodeField := sha256Words f, ucodeLoop := sha256Words l, phase := 5 } } 1
      (sha256Words (f ++ l))
    dies5.foldl bootDie s1
  | _, _ => enterRecovery s 3

def bootPhase5 (s : State) : State :=
  match dirEntryOf s (bankBase s.boot.bank) with
  | none => enterRecovery s 4
  | some e =>
    if !headerOk s.store e.base e.len then enterRecovery s 4 else
    let h (o : Nat) : Nat := beAt s.store (e.base + o) 4
    let code := entryBytes s.store e
    let xip := match dirEntryOf s (bankBase s.boot.bank + 1) with | some x => entryBytes s.store x | none => []
    let mem := memBlock 0 [] 0 ((code.drop 64).take (h 8))
    setMeas { s with
      boot := { s.boot with
        body := BitVec.ofNat 32 (h 8), entry := BitVec.ofNat 32 (h 0xC), retainId := BitVec.ofNat 32 (h 0x10)
        retainLen := BitVec.ofNat 32 (h 0x14), xipBase := BitVec.ofNat 32 (h 0x18), xipSpan := BitVec.ofNat 32 (h 0x1C), phase := 6 }
      lane := s.lane.map fun x => { x with mem := mem } } 2 (sha256Words (code ++ xip))

/-! ## Phase 6: the configuration set (R398, R399) -/

/-- Record `i` of the set at `a`: its key, its value, and whether its form holds. -/
def csRecord (m : Memory) (a i : Nat) : Nat × Word × Bool :=
  let b := a + 32 + 8 * i
  let key := regKey (beAt m b 1) (beAt m (b + 2) 2)
  let v := BitVec.ofNat 32 (beAt m (b + 4) 4)
  (key, v, decide (beAt m (b + 1) 1 = 0) && decide (beAt m b 1 ≤ 21) && decide (csMask key ≠ 0) && decide (v &&& ~~~(csMask key) = 0))

/-- The first record whose form fails, or that does not stand above the one before. -/
def csBad : Option Nat → List (Nat × Word × Bool) → Option Nat
  | _, [] => none
  | prev, (k, _, ok) :: r =>
    let up := match prev with | some p => decide (p < k) | none => true
    if ok && up then csBad (some k) r else some k

/-- The header of the set (Table 14.4). -/
def csHeaderOk (m : Memory) (e : DirEntry) : Bool :=
  let n := beAt m (e.base + 8) 4
  decide (32 ≤ e.len) && decide (beAt m e.base 4 = 0x43534554) && decide (beAt m (e.base + 4) 4 = 0x00010000) && decide (n ≤ 8188) &&
    (memTake 0xFF m (e.base + 12) 20).all (fun b => decide (b = 0)) && decide (e.len = 32 + 8 * n)

/-- The registers with every CS field at the value of its record, or zero (R399). -/
def csLoad (regs : RegMap) (rs : List (Nat × Word × Bool)) : RegMap :=
  let base := regs.filterMap fun e => let v := e.2 &&& ~~~(csMask e.1); if v = 0 then none else some (e.1, v)
  rs.foldl (fun m r => rmSet m r.1 (rmGet m r.1 ||| r.2.1)) base

/-- CHLH as the running dies hold it, for the comparison of BAD_LH (log entry 42). -/
def lhInForce (s : State) : RegMap :=
  fdies4.foldl (fun m d => amCopy m s.die[toDie d].settings (regKey (8 + d.val) 0) (regKey (9 + d.val) 0)) []

def dieRuns (s : State) (d : FDie) : Bool := ready s (toDie d) && !s.die[toDie d].fresh

/-- The set fails: recovery with ERR 0x04, and APPLYSTAT shows the reason and the register. -/
def csReject (s : State) (reason key : Nat) : State :=
  let s1 := enterRecovery s 4
  { s1 with app := { s1.app with state := 4, reason := reason, infoPage := key / 65536, infoOff := key % 65536 } }

/-- The power-state plan switches on the dies that are off (R67). -/
def powerPlan (plan : Nat) (s : State) (d : Die) : State :=
  if plan.testBit d.val ∧ !powered s d then diePowerOn s d else s

/-- The object tables of a configuration become active (R372). -/
def canTables (s : State) : State :=
  ctrls2.foldl (fun s c => match objBuild s.regs (canPage c) with
    | .inr (tab, pos) => canUpd s c fun k => { k with tab := tab, pos := pos, buildFail := none }
    | .inl i => canUpd s c fun k => { k with buildFail := some i }) s

/-- A set that passes becomes active and shadow. -/
def csTake (s : State) (regs : RegMap) (cfg : List Byte) : State :=
  let pw := rmGet regs (regKey 0 0x23)
  let hart := rmGet regs (regKey 0 0x24)
  let s1 := { s with regs := rmSet (rmSet regs (regKey 0 0x23) 0) (regKey 0 0x24) 0 }
  let s2 := discardShadows { s1 with
    pwr := { s1.pwr with lclk := BitVec.ofNat 3 (fieldOf pw 5 3), loopmod := BitVec.ofNat 16 (fieldOf pw 16 16),
                         modem := BitVec.ofNat 16 (fieldOf hart 0 16) }
    own := { s1.own with timerAt := s1.mono }
    ld := { s1.ld with hdir := hdirLoad s1 }
    boot := { s1.boot with phase := 7 } }
  setMeas (syncRestart (canTables (dies5.foldl (powerPlan (fieldOf pw 0 5)) s2))) 3 (sha256Words cfg)

def bootPhase6 (s : State) : State :=
  match dirEntryOf s (bankBase s.boot.bank + 2) with
  | none => enterRecovery s 4
  | some e =>
    let rs := (List.range (beAt s.store (e.base + 8) 4)).map (csRecord s.store e.base)
    if !csHeaderOk s.store e then csReject s 8 0
    else
      match csBad none rs with
      | some k => csReject s 8 k
      | none =>
        let regs := csLoad s.regs rs
        match applyCheck (lhInForce s) regs .boot (fun d => if h : d < 4 then (fld s ⟨d, h⟩).lhEn && dieRuns s ⟨d, h⟩ else false) with
        | some r => csReject s r.reason (regKey r.page r.off)
        | none => csTake s regs (entryBytes s.store e)

/-! ## Phase 7: warm or cold (R68, R86, R87) -/

/-- Every recorded source asks for warm. -/
def asksWarm (s : State) : Bool :=
  let pol (i : Nat) := cfgBit s 0 0x14 i
  let src (i : Nat) := s.boot.sources.getLsbD i
  (!src 0 || pol 3) && (!src 1 || pol 0) && !src 2 && (!src 4 || pol 1) && (!src 5 || pol 2)

/-- WARMFAIL, and the record to restore. -/
def warmChoice (s : State) : Nat × Option RetainRec :=
  if !asksWarm s then (0, none)
  else if s.boot.sel ≠ 0 then (3, none)
  else
    match retainNewest s with
    | none => (1, none)
    | some r => if retainFits s r then (0, some r) else (2, none)

/-- The slot regions of the journal that lie on a NAND select, whose reads can fail (R359). -/
def nandSlots (s : State) : List DirEntry :=
  ([0x30, 0x31].filterMap fun t => dirEntryOf s t).filter fun e => decide (mpType s (selOf e.base) = 2)

/-- A warm boot reads the journal; whether a read of a NAND store is uncorrectable no command carries: a free value says it, and the failure is counted and recorded (R359, log entry 57). -/
def journalRead (s : State) : State × Bool :=
  match nandSlots s with
  | [] => (s, false)
  | e :: _ =>
    if !asksWarm s || decide (s.boot.sel ≠ 0) then (s, false)
    else if freeNat s % 2 = 0 then (useFree s, false)
    else (mpReadError (useFree s) (selOf e.base) e.base, true)

/-- The retain restore, with the first cycle's number (R85), and the journal's state (R89). -/
def bootPhase7 (s0 : State) : State :=
  let q := journalRead s0
  let s := q.1
  let w := if q.2 then (4, none) else warmChoice s
  let newest := retainNewest s
  { s with
    boot := { s.boot with
      warmFail := w.1, warm := w.2.isSome, phase := 8
      firstCycle := match w.2 with | some r => (r.cycle + 1) % 2 ^ 64 | none => 0 }
    lane := s.lane.map (startLane s (w.2.map fun r => r.data))
    jrn := { s.jrn with
      slot := match newest with | some r => r.slot | none => false
      gen := match newest with | some r => r.gen | none => 0 } }

/-! ## Phase 8: the time base (R91) -/

def insertNat (x : Nat) : List Nat → List Nat
  | [] => [x]
  | y :: r => if x ≤ y then x :: y :: r else y :: insertNat x r

def sortNat (l : List Nat) : List Nat := l.foldl (fun acc x => insertNat x acc) []

/-- The die kept running through the reset: it has had its own time since (R91, R190). -/
def ranOn (s : State) (d : Die) : Bool := ready s d && s.die[d].corrFrom.isNone

/-- The median of the running dies' times, as a multiple of 4 ns; of an even number a free value between the two middle ones (log entry 44). -/
def medianTime (s : State) : Nat :=
  let ts := sortNat ((dies5.filter (ranOn s)).map fun d => dieTime s d)
  let lo := ts.getD ((ts.length - 1) / 2) 0
  let hi := ts.getD (ts.length / 2) 0
  (if lo < hi then lo + freeNat s % (hi - lo + 1) else lo) / 4 * 4

/-- The time master adopts the median; the dies' own times go on unchanged. -/
def adoptTime (s : State) : State :=
  let t := medianTime s
  { s with
    time := t
    freeCtr := s.freeCtr + 1
    die := s.die.map fun x => if x.corrFrom.isNone then { x with offset := x.offset + s.time - t } else x }

/-- The end of phase 8: row 1 of Table 4.2 (R453), the host watchdog, and the CAN controllers that are enabled. -/
def finishBoot (s : State) : State :=
  let s1 := adoptTime s
  let s2 := { s1 with boot := { s1.boot with phase := 9 } }
  let init := cfgField s2 0 0x22 0 2
  let s3 := if init = 2 then setMode s2 .quiet 1 else startCycle (setMode s2 .hold 1)
  let s4 := if init = 1 then
      (if s3.pwr.lclk = 7 then { s3 with md := { s3.md with row4 := some false } } else setDrop s3)
    else s3
  let s5 := ctrls2.foldl (fun s c => if canEn s c then canStart s c else s) s4
  wakeAtEntry (if wdEn s5 3 then wdArmHost s5 else s5)

/-! ## The commands -/

/-- The boot runs a store boot's next phase. -/
def bootStep (s : State) : State :=
  match s.boot.phase with
  | 3 => bootPhase3 s
  | 4 => bootPhase4 s
  | 5 => bootPhase5 s
  | 6 => bootPhase6 s
  | 7 => bootPhase7 s
  | 8 => finishBoot s
  | _ => s

/-- A store boot is in progress. -/
def booting (s : State) : Bool := !s.boot.inReset && decide (s.md.mode = .boot) && !s.boot.recovery && decide (3 ≤ s.boot.phase) && decide (s.boot.phase ≤ 8)

/-- The release of a reset (R68, R70, R72, R73): with TEST_EN high the die stays in reset (R51). -/
def release (s : State) (sel : BitVec 2) (testEn : Bool) : State :=
  if testEn then { s with boot := { s.boot with testHold := true } }
  else
    let s1 := { s with
      boot := { s.boot with inReset := false, testHold := false, sel := sel, mpRstLow := false
                            bootCnt := satAdd 65535 s.boot.bootCnt 1, phase := 2 } }
    if sel = 3 then enterRecovery s1 0 else bootPhase2 s1

/-- RESET_RELEASE: 100 µs after the last trigger, when no POR took part. A release with TEST_EN high needs a new reset before the next (R51). -/
def execResetRelease (bootSel : BitVec 2) (testEn : Bool) (s : State) : Out :=
  .next (if s.boot.inReset && !s.boot.testHold && !s.boot.sources.getLsbD 0 then release s bootSel testEn else s)

/-- POR_RELEASE: 2 ms to 3 ms after the last control rail enters its range, with VDDIO_SYS among them, provided RESET_N is high (R55). -/
def execPorRelease (bootSel : BitVec 2) (testEn : Bool) (s : State) (resetN : Bool := true) : Out :=
  .next (
    if s.boot.inReset && !s.boot.testHold && s.boot.sources.getLsbD 0 && s.vddio.getLsbD 0 && resetN then release s bootSel testEn
    else s)

/-- BOOT_COMPLETE: the phases that remain, and row 1. -/
def execBootComplete (s : State) : Out :=
  .next ((List.range 6).foldl (fun s _ => if booting s then bootStep s else s) s)

end Sys2Proof.Machine
end

