-- ==== Sys2Proof/Machine/Channels.lean ====
section
/-!
DEFINITION. The output channels' commands (08): pulses, generator and carrier edges, Table 8.4, trips, the thermal model, the toll, open load, the governor, the sense output and current limiting.
-/

namespace Sys2Proof.Machine

/-- The die runs its channels: it has barrier power. -/
def dieOn (s : State) (d : FDie) : Bool := powered s (toDie d)

/-- PULSE_END: the width elapses and the channel returns to OFF (Table 7.5, R203). -/
def execPulseEnd (d : FDie) (k : Chan) (s : State) : Out :=
  .next (
    match (chan s d k).pulseEnd with
    | none => s
    | some t =>
      let s1 := monoTo s t
      settle (updChan s1 d k fun c =>
        { c with pulseEnd := none, repl := some { effCmd c with act := 0 }, lastNon4 := { effCmd c with act := 0 } }) d)

/-- The first instant after die time `t` at which a function of whole steps of `p` ns from origin `o` (an Int) reaches phase `a` or `b`. -/
def nextPhase (t : Nat) (o : Int) (p a b : Nat) : Option Nat :=
  if p = 0 then none
  else
    let x := (((t : Int) - o) % p).toNat
    let base : Int := (t : Int) - x
    let cand (q : Nat) : Int := if x < q then base + q else base + p + q
    some (min (cand a) (cand b)).toNat

/-- The earliest of several instants. -/
def minOpt (l : List (Option Nat)) : Option Nat :=
  l.foldl (fun a b => match a, b with
    | none, y => y
    | x, none => x
    | some x, some y => some (min x y)) none

/-- The command that decides the channel's demand under rows 4 and 5 of Table 9.4. -/
def drivingCmd (s : State) (d : FDie) (k : Chan) : Option Cmd :=
  let c := chan s d k
  let cause := decidingCause c.causes
  if cause = 0 then some (effCmd c)
  else if safeCode s d k.val cause = 2 then (if c.coast.isSome then some c.held else none)
  else some (safeCmd s d k.val (safeCode s d k.val cause))

/-- The next edge of generator `j` for the channel, when it follows it (R217). -/
def pgNext (s : State) (d : FDie) (j : Nat) (k : Chan) : Option Nat :=
  match drivingCmd s d k with
  | some c =>
    if isGov s d k.val ∧ c.act = 3 ∧ c.pgsel % 4 = j then
      let per := fdField s d (0x10 + j) 0 24
      let on := fdField s d (0x14 + j) 0 24
      if on = 0 then none
      else nextPhase (dieTime s (toDie d)) (((vget (fld s d).pgOrg j 0 : Nat) : Int) + 1000 * (chField s d k.val 5 0 24 : Nat))
        (1000 * per) 0 (1000 * on)
    else none
  | none => none

/-- PG_EDGE: the generator's next edge for some follower comes and its followers' demand is examined. -/
def execPgEdge (d : FDie) (j : Fin 4) (s : State) : Out :=
  .next (
    if !dieOn s d then s
    else
      match minOpt (chans16.map (pgNext s d j.val)) with
      | none => s
      | some t => settle (dieTimeTo s (toDie d) t) d)

/-- The next edge of the duty carrier for the channel, when ACT 2 drives it (R219). -/
def dutyNext (s : State) (d : FDie) (k : Chan) : Option Nat :=
  match drivingCmd s d k with
  | some c =>
    let per := fdField s d 2 0 16
    let tOn := (c.duty * (per * 1000)) / 65536 / 4 * 4
    if isGov s d k.val ∧ c.act = 2 ∧ 20000 ≤ tOn ∧ 20000 ≤ per * 1000 - tOn then
      nextPhase (dieTime s (toDie d)) (((fld s d).dutyOrg : Int) + 1000 * (chField s d k.val 5 0 24 % per : Nat))
        (1000 * per) 0 tOn
    else none
  | none => none

def execDutyEdge (d : FDie) (s : State) : Out :=
  .next (
    if !dieOn s d then s
    else
      match minOpt (chans16.map (dutyNext s d)) with
      | none => s
      | some t => settle (dieTimeTo s (toDie d) t) d)

/-- TURN_ON: the waiting channel's checks of R221 are made, with those of every request of the die at this instant (R223, R242). -/
def execTurnOn (d : FDie) (k : Chan) (s : State) : Out :=
  .next (if (chan s d k).st = .wait ∧ !inLimp s d k then waitPass false s d else s)

/-- TURN_OFF (row 5): a conducting channel whose demand is off opens its switch; `iLast` is the mean current of CHILAST, `clamp` whether a clamp event starts. -/
def execTurnOff (d : FDie) (k : Chan) (iLast : Nat) (clamp : Bool) (s : State) : Out :=
  .next (
    if stOn (chan s d k).st ∧ !inLimp s d k ∧ !demandOf s d k ∧ !(fld s d).stopped.getLsbD k.val then
      updChan (openSwitch s d k (iLast % 2 ^ 32) clamp) d k fun c => { c with st := .off }
    else s)

/-- BLANKING_END (row 4): profile time reaches B. -/
def execBlankingEnd (d : FDie) (k : Chan) (s : State) : Out :=
  .next (
    let c := chan s d k
    if c.st = .inrush then
      let s1 := monoTo s (c.onAt + profB c.load)
      updChan s1 d k fun c => { c with st := .on, olFrom := s1.mono }
    else s)

/-- INRUSH_WINDOW_END (R241): profile time reaches W; the slot goes to the head of the queue. -/
def execInrushWindowEnd (d : FDie) (k : Chan) (s : State) : Out :=
  .next (
    let c := chan s d k
    if c.slot then serveSlots (updChan (monoTo s (c.onAt + profW c.load)) d k fun c => { c with slot := false }) d else s)

/-- A trip condition judged only while the switch conducts under Table 8.4 (R229); a trip of either half acts on the pair (R213). -/
def tripCmd (s : State) (d : FDie) (k : Chan) (cause iLast : Nat) (clamp : Bool) (ok : Bool) : State :=
  let g := govOf s d k
  if stOn (chan s d g).st && !inLimp s d g && ok then trip s d g cause (iLast % 2 ^ 32) clamp else s

/-- OT: sensor or model at or above 175 °C. -/
def execOtTrip (d : FDie) (k : Chan) (iLast : Nat) (clamp : Bool) (s : State) : Out :=
  .next (tripCmd s d k 1 iLast clamp (decide (175000000 ≤ hotOf s d (govOf s d k))))

/-- DT: sensor minus substrate at or above 90 K. -/
def execDtTrip (d : FDie) (k : Chan) (iLast : Nat) (clamp : Bool) (s : State) : Out :=
  .next (tripCmd s d k 2 iLast clamp (decide (90 * 16 ≤ (pairMax s d (govOf s d k) fun c => c.tj) - (fld s d).tsub)))

/-- Profile time is at or past B and the stage limits: since when (SC, LIMTIME). -/
def limitPastB (s : State) (d : FDie) (k : Chan) : Option Nat :=
  let c := chan s d (govOf s d k)
  if c.st = .on ∧ c.limit then some (max c.limitAt (c.onAt + profB c.load)) else none

/-- SC: for 200 µs past B the stage has limited with its terminal below VBB / 4; `mV` is the terminal's highest voltage meanwhile. -/
def execScTrip (d : FDie) (k : Chan) (mV : Int) (iLast : Nat) (s : State) (clamp : Bool := false) : Out :=
  .next (
    match limitPastB s d k with
    | some t => if 4 * mV < (fld s d).vbb then tripCmd (monoTo s (t + 200000)) d k 3 iLast clamp true else s
    | none => s)

/-- SC_FAST: the current reaches the part's fast-trip level, 12 A at least. -/
def execScFastTrip (d : FDie) (k : Chan) (uA iLast : Nat) (s : State) (clamp : Bool := false) : Out :=
  .next (tripCmd s d k 4 iLast clamp (decide (12000000 ≤ uA) && decide (max 12000000 (Config.part 4 (16 * d.val + k.val)) ≤ uA)))

/-- LIMTIME: the stage has limited past B for LIMTIME ms; LIMTIME 0 disables the trip. -/
def execLimtimeTrip (d : FDie) (k : Chan) (iLast : Nat) (clamp : Bool) (s : State) : Out :=
  .next (
    let lt := chField s d (govOf s d k).val 1 8 8
    match limitPastB s d k with
    | some t => if lt = 0 then s else tripCmd (monoTo s (t + lt * 1000000)) d k 5 iLast clamp true
    | none => s)

/-- SENSOR: the readings have shown sensor and model more than 30 K apart for 1 ms. -/
def execSensorTrip (d : FDie) (k : Chan) (iLast : Nat) (clamp : Bool) (s : State) : Out :=
  .next (
    match (chan s d k).diffAt with
    | some t => tripCmd (monoTo s (t + 1000000)) d k 6 iLast clamp true
    | none => s)

/-- RETRY_CONDITIONS_MET (rows 7 and 8): cooled to TREL and RDELAY × 10 ms after the trip. -/
def execRetryConditionsMet (d : FDie) (k : Chan) (s : State) : Out :=
  .next (
    let c := chan s d k
    if c.st = .rwait ∧ hotOf s d k ≤ trel s d k.val ∧ !inLimp s d k then
      let s1 := monoTo s (c.tripAt + chField s d k.val 2 16 8 * 10000000)
      if demandOf s1 d k then
        updChan s1 d k fun c => { c with st := .wait, retry := true, stage := 0, demandAt := s1.mono }
      else updChan s1 d k fun c => { c with st := .off }
    else s)

/-- RLEFT_RELOAD: RTYRST × 100 ms of conduction since the last trip (R231). -/
def execRleftReload (d : FDie) (k : Chan) (s : State) : Out :=
  .next (
    let c := chan s d k
    let need := chField s d k.val 2 24 8 * 100000000
    if stOn c.st ∧ need ≠ 0 then
      updChan (monoTo s (c.condAt + (need - c.condAcc))) d k fun c => { c with rleft := chField s d k.val 2 1 4 }
    else s)

/-- One step of the thermal model (R226): temperatures in 10^-6 °C, P in mW, 1.5 K/W. The division rounds down (log entry 12). -/
def modelStep (tm tsub : Int) (p : Nat) : Int := tm + (tsub + 1500 * (p : Int) - tm) / 100

/-- Under limp-home a stage that its own protection opened conducts again below 145 °C (R222). -/
def lhCool (tj : List Int) (d : FDie) (s : State) (k : Chan) : State :=
  let c := chan s d k
  let hot := if isLower s d k.val then max (tj.getD k.val c.tj) (tj.getD (k.val + 1) c.tj) else tj.getD k.val c.tj
  if c.lhShut ∧ hot < 145 * 16 then
    updChan s d k fun c =>
      { c with lhShut := false, lhOn := inLimp s d k && (((fld s d).lhIn.getLsbD c.map.src) != c.map.inv) }
  else s

/-- Since when a condition holds at the readings: kept while it does. -/
def sinceWhen (cond : Bool) (now : Nat) (old : Option Nat) : Option Nat := if cond then (if old.isSome then old else some now) else none

/-- The 10 µs check of an open switch, outside a clamp event and the 1 ms after it (R271). -/
def currentChecked (s : State) (d : FDie) (k : Chan) : Bool :=
  let c := chan s d k
  !stageOn s d k && !c.clamp && (decide (c.clampEnd = 0) || decide (c.clampEnd + 1000000 ≤ s.mono))

/-- A channel takes its sensor reading, its model step and its current check. -/
def thermalChan (tsub : Int) (tj : List Int) (p uA : List Nat) (d : FDie) (s : State) (k : Chan) : State :=
  let c := chan s d k
  let j := satInt 16 (tj.getD k.val c.tj)
  let m := modelStep c.tm (tsub * 62500) (p.getD k.val 0)
  let i := uA.getD k.val 0
  let chk := currentChecked s d k
  let s1 := updChan s d k fun c =>
    { c with
      tj := j, tm := m
      diffAt := sinceWhen (stageOn s d k && decide (30000000 < (j * 62500 - m).natAbs)) s.mono c.diffAt
      highSince := sinceWhen (chk && decide (50000 ≤ i)) s.mono c.highSince
      lowSince := sinceWhen (chk && decide (i < 50000)) s.mono c.lowSince }
  lhCool tj d s1 k

/-- THERMAL_SAMPLE: every 10 µs the die reads Tsub and the sensors, updates the models and checks the currents of open switches; held requests resume (R226 to R228, R271). -/
def execThermalSample (d : FDie) (tsub : Int) (tj : List Int) (p : List Nat) (s : State) (uA : List Nat := []) : Out :=
  .next (
    if !dieOn s d then chans16.foldl (lhCool tj d) s
    else
      let s1 := monoTo s ((fld s d).thermAt + 10000)
      let t := satInt 16 tsub
      let s2 := updField s1 d fun f => { f with tsub := t, thermAt := s1.mono }
      waitPass false (chans16.foldl (thermalChan t tj p uA d) s2) d)

/-- CLAMP_EVENT_END: E µJ is held in CHELAST and taken from the toll bucket unless CAP is 0 (R234, R235). -/
def execClampEventEnd (d : FDie) (k : Chan) (e : Nat) (s : State) : Out :=
  .next (
    if (chan s d k).clamp then
      let cap := chField s d k.val 3 0 10
      updChan s d k fun c =>
        { c with clamp := false, clampEnd := s.mono, elast := e % 2 ^ 32,
                 level := if cap = 0 then c.level else satInt 32 (c.level - (e : Int)) }
    else s)

/-- The next whole multiple of 1 ms, `last` being the one taken last. -/
def nextMs (now last : Nat) : Nat :=
  let t := (now + 999999) / 1000000 * 1000000
  if t = last then t + 1000000 else t

/-- TOLL_REFILL: a whole multiple of 1 ms of the die's time; every bucket refills, and a lock may end (R235, R236). -/
def execTollRefill (d : FDie) (s : State) : Out :=
  .next (
    if !dieOn s d then s
    else
      let now := dieTime s (toDie d)
      let t := nextMs now (fld s d).tollAt
      let s1 := dieTimeTo s (toDie d) t
      let s2 := updField s1 d fun f => { f with tollAt := t }
      let s3 := chans16.foldl (fun s k => updChan s d k fun c =>
        { c with level := satInt 32 (min ((chField s d k.val 3 0 10 * 1000 : Nat) : Int) (c.level + (chField s d k.val 3 16 9 : Nat))) }) s2
      waitPass true s3 d)

/-- On-state open load is evaluated: OLRNG not 0, conducting, profile time at or past B (R237). -/
def olOnActive (s : State) (d : FDie) (k : Chan) : Bool :=
  chField s d k.val 4 0 2 != 0 && (chan s d k).st = .on && !inLimp s d k

/-- The threshold of Table 8.8, µA, and how far a part's may lie from it. -/
def olThreshold (s : State) (d : FDie) (k : Nat) : Nat := chField s d k 4 2 6 * if chField s d k 4 0 2 = 1 then 500 else 10000
def olTolerance (s : State) (d : FDie) (k : Nat) : Nat := (if chField s d k 4 0 2 = 1 then 150 else 3000) + olThreshold s d k / 20

/-- A current is at or above `pct` per cent of the channel's open-load threshold; inside the accuracy the part decides. -/
def olAtOrAbove (s : State) (d : FDie) (k uA pct : Nat) : Bool :=
  let t := olThreshold s d k
  let a := olTolerance s d k
  atOrAbove uA ((t - a) * pct / 100) ((t + a) * pct / 100) 5 (d.val * 16 + k)

/-- Conduction at or above the threshold restarts the count. -/
def olRestart (s : State) (d : FDie) (k : Chan) : State := updChan s d k fun c => { c with olAcc := 0, olFrom := s.mono }

/-- OL_ON_DETECT: the on-state current is `uA`. Below the threshold since the count began, the OLT ms of conduction complete and OL is set; any current at or above it restarts the count (R237). No safe state follows (log entry 82). -/
def execOlOnDetect (d : FDie) (k : Chan) (s : State) (uA : Nat := 0) : Out :=
  .next (
    let c := chan s d k
    if !olOnActive s d k then s
    else if olAtOrAbove s d k.val uA 100 then olRestart s d k
    else if c.ol then s
    else
      let s1 := monoTo s (c.olFrom + (chField s d k.val 4 8 8 * 1000000 - c.olAcc))
      dieLedger (updChan s1 d k fun c => { c with ol := true }) (toDie d) 42 k.val 0)

/-- OL_ON_CLEAR: 1 ms of conduction at `uA`, 110 % of the threshold or more, clears OL. -/
def execOlOnClear (d : FDie) (k : Chan) (s : State) (uA : Nat := 0) : Out :=
  .next (
    if olOnActive s d k ∧ olAtOrAbove s d k.val uA 110 then
      let s1 := monoTo s ((chan s d k).olFrom + 1000000)
      updChan (olRestart s1 d k) d k fun c => { c with ol := false }
    else s)

/-- The off-state test current flows: the switch is off, OLTEST 1 or OUTPUT_RB, from 2 ms after a clamp event (R214, R238). -/
def olOffActive (s : State) (d : FDie) (k : Chan) : Bool :=
  let c := chan s d k
  isGov s d k.val && !conducts s d k && !c.clamp && decide (c.clampEnd + 2000000 ≤ s.mono ∨ c.clampEnd = 0) &&
    ((effCmd c).oltest || chMode s d k.val = 3) && dieOn s d

def execOlOffTest (d : FDie) (k : Chan) (mV : Nat) (s : State) : Out :=
  .next (
    if !olOffActive s d k then s
    else if 4000 < mV then
      (if (chan s d k).ol then s else dieLedger (updChan s d k fun c => { c with ol := true }) (toDie d) 42 k.val 1)
    else if mV < 2500 then updChan s d k fun c => { c with ol := false }
    else s)

/-- STB_DETECT, STB_CLEAR: an open output switch whose terminal stays above VBB − 2.0 V for 1 ms, or falls below VBB − 3.0 V (R238). -/
def execStbDetect (d : FDie) (k : Chan) (mV : Int) (s : State) : Out :=
  .next (
    if isGov s d k.val ∧ !conducts s d k ∧ dieOn s d ∧ !(chan s d k).stb ∧ (fld s d).vbb - 2000 < mV then
      dieLedger (updChan s d k fun c => { c with stb := true }) (toDie d) 43 k.val (codeOf 32 mV)
    else s)

def execStbClear (d : FDie) (k : Chan) (s : State) (mV : Int := 0) : Out :=
  .next (if !conducts s d k ∧ mV < (fld s d).vbb - 3000 then updChan s d k fun c => { c with stb := false } else s)

/-- CURRENT_LIMIT: the load of a stage asks for `askUa`. The stage regulates while that is more than the limit in force (R225); a stage that does not conduct regulates nothing. -/
def execCurrentLimit (d : FDie) (k : Chan) (askUa : Nat) (s : State) : Out :=
  .next (
    let g := govOf s d k
    let on := conducts s d g && decide (stageLimit s d g * 62500 < askUa)
    if (chan s d g).limit ≠ on then
      updChan s d g fun c => { c with limit := on, limitAt := if on then s.mono else c.limitAt }
    else s)

/-- The slice whose EST GOVEST reports: the earliest member lane's; without members the manual names none, and it is a free one (R239, log entry 13). -/
def govLane (s : State) : Nat :=
  if s.cyc.member.getLsbD 0 then 0 else if s.cyc.member.getLsbD 1 then 1 else if s.cyc.member.getLsbD 2 then 2 else freeNat s % 3

/-- Budget reservations that still wait (R240). -/
def waitingResv (f : FieldSt) : Nat := (f.ch.toList.map fun c => c.resv).foldl (· + ·) 0

/-- The sink current of an input, µA: 2.45 to 2.55 mA, by the part (R249). -/
def sinkUa (idx : Nat) : Nat := max 2450 (min 2550 (Config.part 6 idx))

/-- P_IN of channel `k` in nW (R253): the sink draws V_T × I_S always, or WIN of every SPER. -/
def inputNw (s : State) (d : FDie) (k : Chan) : Nat :=
  if chMode s d k.val ≠ 2 then 0
  else
    let p := (chan s d k).vT * sinkUa (d.val * 16 + k.val)
    if chBit s d k.val 0x0C 4 then p else p * chField s d k.val 0x0C 16 10 / fdField s d 0x30 0 14

/-- What a die reports for its input sinks, mW. -/
def inputMw (s : State) (d : FDie) : Nat := if dieOn s d then (chans16.map (inputNw s d)).foldl (fun a x => a + x) 0 / 1000000 else 0

/-- GOV_ALLOWANCE of slice `l` at the next whole 1 ms: EST from the dies' switch and clamp losses (mW) with their input sinks (R253), the allowance to each field die, PKG_OVER at a rise of OVER; held requests resume (R239, R240). -/
def execGovAllowance (l : Lane) (diss : List Nat) (s : State) : Out :=
  .next (
    let t := nextMs s.time s.gov.at_[l]
    let s1 := timeTo (useFree s) t
    let budget := cfgField s 8 8 0 16
    let est := cfgField s 8 9 0 16 + diss.foldl (· + ·) 0 + (fdies4.map (inputMw s)).foldl (fun a x => a + x) 0
    let a := (budget - est) / 4
    let s2 := { s1 with gov := { s1.gov with est := vset s1.gov.est l.val est, at_ := vset s1.gov.at_ l.val t } }
    let ovr := decide (budget < vget s2.gov.est (govLane s2) 0)
    let s3 := { s2 with gov := { s2.gov with overBudget := ovr } }
    let s4 := if ovr ∧ !s2.gov.overBudget then ledger s3 16 0 0 (vget s3.gov.est (govLane s3) 0) else s3
    fdies4.foldl (fun s d =>
      if s.die[toDie d].down[l].up ∧ dieOn s d then
        waitPass false (updField s d fun f =>
          { f with allow := vset f.allow l.val (a, some s.mono), reserved := waitingResv f }) d
      else s) s4)

/-- DIE_SUM_OVER: the mean of ISUM over 1 s, mA (R211). -/
def execDieSumOver (d : FDie) (mA : Nat) (s : State) : Out :=
  .next (
    if !dieOn s d then s
    else
      let ovr := decide (16000 < mA)
      let s1 := updField s d fun f => { f with sumOver := ovr }
      if ovr ∧ !(fld s d).sumOver then dieLedger s1 (toDie d) 47 0 mA else s1)

/-- The next channel of MASK after `cur`, cyclically (R246). -/
def nextMasked (mask : Nat) (cur : Nat) : Nat :=
  match (List.range 16).find? fun i => mask.testBit ((cur + 1 + i) % 16) with
  | some i => (cur + 1 + i) % 16
  | none => cur

/-- SSEL_STEP: a rising edge of SSEL_Fn; `lowLong` is a low time of 500 µs or more before it. -/
def execSselStep (d : FDie) (lowLong : Bool) (s : State) : Out :=
  .next (
    let mask := fdField s d 4 16 16
    if fdBit s d 4 1 ∧ mask ≠ 0 ∧ dieOn s d then
      updField s d fun f => { f with snsCur := if lowLong then nextMasked mask 15 else nextMasked mask f.snsCur }
    else s)

end Sys2Proof.Machine
end

