-- ==== Sys2Proof/Machine/FieldPage.lean ====
section
/-!
DEFINITION. Pages 8 to 11 as read (08, 09) and the channel input record (Table 5.6, Tables 8.10 and 9.5).
-/

namespace Sys2Proof.Machine

/-- A switch state's bits are visible only in OUTPUT and OUTPUT_RB (R279); under limp-home ON is the stage. -/
def chstatWord (s : State) (d : FDie) (k : Chan) : Word :=
  let c := chan s d k
  let bits :=
    if !isOutput s d k.val then 0
    else if isUpper s d k.val then placeB 0 (stageOn s d k)
    else
      placeB 0 (conducts s d k) ||| placeB 1 (c.st = .inrush) ||| placeB 2 c.queued ||| placeB 3 c.bhold ||| placeB 4 c.thold |||
        placeB 5 c.toll ||| placeB 6 c.limit ||| placeB 7 c.ol |||
        placeB 8 ((c.st = .rwait || c.st = .latched) && (c.cause = 3 || c.cause = 4)) ||| placeB 9 c.stb |||
        placeB 10 (decide (trel s d k.val ≤ hotOf s d k)) ||| placeB 11 (c.st = .rwait) ||| placeB 12 (c.st = .latched) |||
        placeB 13 c.lbc
  bits ||| place 16 c.cause ||| place 20 c.rleft

/-- The channel is in its safe state, with its deciding cause (R266); under limp-home row 1 of Table 9.4 decides and the causes stand as they are. -/
def scauseOf (s : State) (d : FDie) (k : Chan) : Nat := if isGov s d k.val then decidingCause (chan s d k).causes else 0

/-- Coast time left in ms, a begun one counting whole (R267); during the wait of R262 it stands as it was when the wait began. -/
def coastLeft (s : State) (d : FDie) (k : Chan) : Nat :=
  match (chan s d k).coast with
  | some t =>
    let now := match (chan s d k).permWait with
      | some e => e - 40000
      | none => s.mono
    (t - now + 999999) / 1000000
  | none => 0

/-- The channel is under limp-home (R277), whatever its settings say (R274); an upper half's bits read 0 (R213). -/
def limpNow (s : State) (d : FDie) (k : Chan) : Bool := !isUpper s d k.val && inLimp s d k

/-- The permit as CHINST_k reports it: a lower half reports its pair (R213). -/
def permShown (s : State) (d : FDie) (k : Chan) : Bool := if isUpper s d k.val then permOwn s d k else permOf s d k

def chinstWord (s : State) (d : FDie) (k : Chan) : Word :=
  let c := chan s d k
  placeB 0 c.level1 ||| placeB 1 c.raw ||| placeB 2 c.wb ||| placeB 3 c.short ||| placeB 4 (permShown s d k) |||
    placeB 5 c.perm.fault ||| placeB 6 (decide (scauseOf s d k ≠ 0)) ||| place 7 (scauseOf s d k) |||
    placeB 10 (decide (scauseOf s d k ≠ 0) && c.coast.isSome) ||| placeB 11 (limpNow s d k) ||| placeB 12 c.stuck |||
    place 20 (if scauseOf s d k = 0 then 0 else coastLeft s d k)

/-- A bit of every local channel. -/
def chanBits (f : Chan → Bool) : Nat := (chans16.map fun k => if f k then 2 ^ k.val else 0).foldl (· + ·) 0

/-- ISUM: the sum of the channel currents last converted; a lower half carries its pair's (R211, R213). -/
def isum (s : State) (d : FDie) : Int :=
  (chans16.map fun k => if chMode s d k.val = 0 ∨ isUpper s d k.val then 0 else (chan s d k).iUa).foldl (· + ·) 0

/-- Register `w` of a channel block. -/
def readChan (s : State) (d : FDie) (k : Chan) (page off : Nat) : Nat → Word
  | 6 => chstatWord s d k
  | 7 => BitVec.ofInt 32 (chan s d k).level
  | 8 => place 0 (codeOf 16 (pairMax s d k fun c => c.tj)) ||| place 16 (codeOf 16 (pairMax s d k fun c => c.tm / 62500))
  | 9 =>
    let c := chan s d k
    place 0 c.trips ||| place 8 c.retries ||| place 16 c.defers ||| place 24 c.locks
  | 10 => BitVec.ofNat 32 (chan s d k).elast
  | 11 => BitVec.ofNat 32 (chan s d k).ilast
  | 15 => chinstWord s d k
  | _ => cfgWord s page off

/-- Requests that the budget holds, over all dies (GOVSTAT.HELDN). -/
def heldCount (s : State) : Nat := (fdies4.map fun d => (chans16.filter fun k => (chan s d k).bhold).length).foldl (· + ·) 0

/-- The field page of die `d` as read. -/
def readField (s : State) (d : FDie) (off : Nat) : Word :=
  let f := fld s d
  let page := 8 + d.val
  match off with
  | 0x00 => place 0 (slotsUsed f) ||| place 3 f.queue.length ||| placeB 8 f.sumOver ||| place 16 f.rot
  | 0x01 => BitVec.ofInt 32 (isum s d)
  | 0x05 => place 0 f.snsCur ||| placeB 4 (dieOn s d && fdBit s d 4 0)
  | 0x0A => if d = 0 then place 0 (min 65535 (vget s.gov.est (govLane s) 0)) else 0
  | 0x0B =>
    if d = 0 then placeB 0 s.gov.overBudget ||| placeB 1 (decide (heldCount s ≠ 0)) ||| place 8 (heldCount s) ||| place 16 s.gov.holds
    else 0
  | 0x20 => place 0 f.defCount ||| place 16 f.defMax
  | 0x31 =>
    placeB 0 f.lhEn ||| place 1 f.lhIn.toNat ||| placeB 5 (f.lhEn && decide (mappedBits f ≠ 0)) ||| place 16 (mappedBits f)
  | 0x32 => place 0 (chanBits (permShown s d)) ||| place 16 (chanBits fun k => (chan s d k).perm.fault)
  | 0x33 =>
    place 0 (chanBits fun k => decide (scauseOf s d k ≠ 0)) ||| placeB 16 s.die[toDie d].linkDown ||| placeB 17 f.noact
  | 0x34 =>
    placeB 0 s.die[toDie d].down[0].up ||| placeB 1 s.die[toDie d].down[1].up ||| placeB 2 s.die[toDie d].down[2].up |||
      place 8 f.losses
  | _ =>
    if 0x18 ≤ off ∧ off < 0x20 then
      let o := vget f.pgOrg ((off - 0x18) / 2) 0
      if off % 2 = 0 then loWord o else hiWord o
    else if 0x40 ≤ off ∧ off < 0x140 then readChan s d ⟨(off - 0x40) / 16 % 16, Nat.mod_lt _ (by decide)⟩ page off ((off - 0x40) % 16)
    else cfgWord s page off

/-- CHCNTCLR: bit k clears CHEVT_k. -/
def chcntclrWrite (s : State) (d : FDie) (w : Word) : State :=
  chans16.foldl (fun s k =>
    if bitOf w k.val then updChan s d k fun c => { c with trips := 0, retries := 0, defers := 0, locks := 0 } else s) s

/-! ## The channel input record -/

/-- REFERR or GNDERR of a die's converter (R328), and what values read meanwhile. -/
def convError (s : State) (d : Die) : Bool := s.survey[d].refErr || s.survey[d].gndErr
def lowestInt : Int := -2147483648

/-- STATUS of channel `k` (Tables 8.10, 9.5; R213 for an upper half). `rb`: the terminal of an OUTPUT_RB channel is above VBB / 2 at the freeze (R214). -/
def recStatus (s : State) (d : FDie) (k : Chan) (rb : Bool) : Word :=
  let c := chan s d k
  if isUpper s d k.val then placeB 1 (isOutput s d k.val && stageOn s d k) ||| placeB 3 (permOwn s d k)
  else
    let w := chstatWord s d k
    let mode := chMode s d k.val
    let inBit := if mode = 2 then c.level1 else if mode = 3 then rb else false
    let sc := if mode = 2 then c.short else bitOf w 8 || bitOf w 9
    placeB 0 inBit ||| placeB 1 (bitOf w 0) ||| placeB 2 (decide (scauseOf s d k ≠ 0)) ||| placeB 3 (permShown s d k) |||
      placeB 4 (bitOf w 6) ||| placeB 5 (bitOf w 7) ||| placeB 6 sc ||| placeB 7 (bitOf w 10) ||| placeB 8 (bitOf w 12) |||
      placeB 9 (bitOf w 5) ||| placeB 10 (decide (mode = 2) && c.wb) ||| placeB 11 (bitOf w 2 || bitOf w 3) |||
      placeB 12 (limpNow s d k) ||| place 16 c.rleft

/-- I_UA, V_MV and the hold instant of the record: a sample pair converted since the last T0, else the routine pair (R207, R326); while the die's converter is in error both values read the lowest number (R328). The lower half of a pair reports the summed current, which its I item converts (R213, Table 11.6). -/
def recPair (s : State) (d : FDie) (k : Chan) : Int × Int × Nat :=
  if convError s (toDie d) then (lowestInt, lowestInt, (chan s d k).holdAt)
  else match (chan s d k).smp with
  | some p => p
  | none => ((chan s d k).iUa, (chan s d k).vMv, (chan s d k).holdAt)

/-- The 16 bytes of a channel input record at the freeze. -/
def chanRecord (s : State) (d : FDie) (k : Chan) (rb : Bool) : List Byte :=
  let p := recPair s d k
  leBytes (recStatus s d k rb) ++ natLe 4 (codeOf 32 p.1) ++ natLe 4 (codeOf 32 p.2.1) ++ natLe 2 (codeOf 16 (pairMax s d k fun c => c.tj)) ++
    natLe 2 (min 65535 ((s.time - p.2.2) / 1000))

/-- CH_VALID of a channel: in INPUT per R256, and not without the field supply (R58); in the other modes the record is valid (log entry 17). -/
def chValid (s : State) (d : FDie) (k : Chan) : Bool :=
  if chMode s d k.val = 2 then (chan s d k).valid && !(fld s d).vbbLow else true

/-- FAULT_ANY of a channel with the record status `w` (Table 5.5). -/
def chFault (s : State) (d : FDie) (k : Chan) (w : Word) : Bool :=
  decide (fieldOf w 5 6 ≠ 0) || (chan s d k).stuck || (chan s d k).perm.fault

end Sys2Proof.Machine
end

