-- ==== Sys2Proof/Machine/Image.lean ====
section
/-!
DEFINITION. The input image (R119, R120, R452, Tables 5.4 to 5.8) and the generations of pages 6 and 7 (R123, R403).
-/

namespace Sys2Proof.Machine

/-! ## Dies and channels -/

/-- A die that fills its part of the image: powered and ready (R452). -/
def dieShown (s : State) (d : Die) : Bool := ready s d

/-- All 64 channels with their die and local number. -/
def allChans : List (FDie × Chan) := fdies4.flatMap fun d => chans16.map fun k => (d, k)

/-- CHn: die n / 16, local n mod 16 (R43). -/
def chNum (e : FDie × Chan) : Nat := 16 * e.1.val + e.2.val

/-- A 64-bit header field from one bit per channel of the dies that are shown. -/
def headBits (s : State) (f : FDie → Chan → Bool) : Nat :=
  (allChans.map fun e => if dieShown s (toDie e.1) && f e.1 e.2 then 2 ^ chNum e else 0).foldl (· + ·) 0

/-- The 16 bytes of CHn. -/
def chanBytes (s : State) (rb : BitVec 64) (e : FDie × Chan) : List Byte :=
  if dieShown s (toDie e.1) then chanRecord s e.1 e.2 (rb.getLsbD (chNum e)) else List.replicate 16 0#8

/-- Record status of CHn, zero where the die is not shown. -/
def chanStatus (s : State) (rb : BitVec 64) (d : FDie) (k : Chan) : Word := recStatus s d k (rb.getLsbD (chNum (d, k)))

/-! ## Loops -/

/-- The output that the image at `t0` carries (R323): a centred one once, else the latest delivered before `t0`. -/
def loopCarried (l : LoopSt) (t0 : Nat) : Option LoopOut :=
  match l.centred with
  | some o => if o.stamp < t0 then some o else (match l.out with
    | some p => if p.stamp < t0 then some p else l.prev
    | none => l.prev)
  | none => match l.out with
    | some p => if p.stamp < t0 then some p else l.prev
    | none => l.prev

/-- The 16 bytes of LPk (Table 5.7). -/
def loopBytes (s : State) (k : Chan) : List Byte :=
  if !dieShown s ldDie then List.replicate 16 0#8
  else
    let o := (loopCarried s.loop[k] s.time).getD { stamp := 0, i := 0, v := 0, seq := 0 }
    natLe 4 (codeOf 32 o.i) ++ natLe 4 (fieldOf (lpstatWord s k) 0 8) ++ natLe 4 (codeOf 32 (if convError s ldDie then lowestInt else o.v)) ++ natLe 4 o.seq

/-! ## Bus receptions -/

/-- Receptions in order of stamp, CAN_A first at equal stamps (R120). -/
def insertRx (x : StageRec) : List StageRec → List StageRec
  | [] => [x]
  | y :: r => if y.r.stamp < x.r.stamp ∨ (y.r.stamp = x.r.stamp ∧ y.ctrl ≤ x.ctrl) then y :: insertRx x r else x :: y :: r

def sortRx (l : List StageRec) : List StageRec := l.foldl (fun acc x => insertRx x acc) []

/-- Table 5.8. -/
def rxBytes (r : RxRec) : List Byte := leBytes r.idw ++ leBytes r.info ++ natLe 8 r.stamp ++ (r.data ++ List.replicate 64 0#8).take 64

/-- Receptions with a stamp before `t0`, which belong to its image. -/
def rxOf (s : State) (t0 : Nat) : List StageRec := sortRx (s.rxStage.filter fun x => decide (x.r.stamp < t0))

/-- Slots written for an image, each once. -/
def slotsOf (l : List StageRec) : List Nat := (l.filterMap fun x => x.slot).eraseDups

/-- Words staged for the next image before now (R115): ten for each object slot update and each list entry, two for each record that differs from the present image in a field other than AGE. The read-back levels of OUTPUT_RB, which the freeze samples, stand as the image has them. -/
def stagedWords (s : State) : Nat :=
  let l := rxOf s s.time
  let upd := (l.filter fun x => x.slot.isSome).length
  let listed := min 64 (l.filter fun x => x.listed).length
  let rb := BitVec.ofNat 64 (leAt s.cyc.image 0x20 8)
  let chg := (allChans.filter fun e => (chanBytes s rb e).take 14 != memTake 0 s.cyc.image (0x100 + 16 * chNum e) 14).length
  let lchg := (chans16.filter fun k => loopBytes s k != memTake 0 s.cyc.image (0x500 + 16 * k.val) 16).length
  10 * upd + 10 * listed + 2 * chg + 2 * lchg

/-- The delivery excess of an image with `w` words staged before the vote close, for the guard of that cycle (R115). -/
def excess (w guard : Nat) : Nat := w * 16 - (guard - 300)

/-! ## The image -/

def headerBytes (s : State) (rb : BitVec 64) (listN chg : Nat) : List Byte :=
  let flags := (if s.own.hostLost then 1 else 0) + (if s.md.start then 2 else 0) + (if s.md.start && s.md.startWarm then 4 else 0) +
    (if s.cyc.acting then 8 else 0) + (if dies5.any fun d => powered s d && s.die[d].holdover then 16 else 0)
  natLe 8 s.cyc.n ++ natLe 8 s.cyc.t0 ++ natLe 1 (modeCode s.md.mode) ++ natLe 1 s.cyc.member.toNat ++ natLe 2 flags ++
    natLe 2 ((dies5.map fun d => if ready s d then 2 ^ d.val else 0).foldl (· + ·) 0) ++
    natLe 2 ((chans16.map fun k => if loopValid s k then 2 ^ k.val else 0).foldl (· + ·) 0) ++
    natLe 8 (headBits s (chValid s)) ++
    natLe 8 (headBits s fun d k => bitOf (chanStatus s rb d k) 0) ++ natLe 8 (headBits s fun d k => bitOf (chanStatus s rb d k) 1) ++
    natLe 8 (headBits s fun d k => bitOf (chanStatus s rb d k) 2) ++
    natLe 8 (headBits s fun d k => chFault s d k (chanStatus s rb d k)) ++
    natLe 8 (headBits s fun d k => bitOf (chanStatus s rb d k) 3) ++
    (fdies4.flatMap fun d => natLe 4 (codeOf 32 (if dieShown s (toDie d) then (fld s d).vbb else -2147483648))) ++
    (fdies4.flatMap fun d => natLe 2 (codeOf 16 (if dieShown s (toDie d) then (fld s d).tsub else -32768))) ++
    natLe 2 (codeOf 16 (if dieShown s ldDie then s.ld.temp else -32768)) ++ natLe 2 0 ++
    natLe 4 s.mbox.seq ++ natLe 2 listN ++ natLe 2 (min 65535 s.cyc.rxLost) ++ natLe 4 chg ++ List.replicate 16 0#8

/-- The latest reception of each slot is written; the others keep their contents (R120). -/
def putSlots (m : Memory) (l : List StageRec) : Memory :=
  l.foldl (fun m x => match x.slot with
    | some j => memBlock 0 m (0x1000 + 80 * j) (rxBytes x.r)
    | none => m) m

/-- The mailbox region (R405). -/
def mboxBytes (s : State) : List Byte := (List.range 128).flatMap fun w => leBytes (cfgWord s 1 (0x100 + w))

/-- The image of the cycle that begins now, over the slots of the image before. `s` carries the cycle, the mode and the membership of the new cycle. -/
def makeImage (s : State) (rb : BitVec 64) : State :=
  let l := rxOf s s.cyc.t0
  let listed := l.filter fun x => x.listed
  let s1 := { s with cyc := { s.cyc with rxLost := listed.length - 64 }, rxStage := s.rxStage.filter fun x => !decide (x.r.stamp < s.cyc.t0) }
  let m0 := putSlots (s.cyc.image.filter fun e => decide (0x1000 ≤ e.1) && decide (e.1 < 0x15000)) l
  let m1 := memBlock 0 m0 0 (headerBytes s1 rb (min 64 listed.length) (slotsOf l).length)
  let m2 := memBlock 0 m1 0x100 (allChans.flatMap (chanBytes s1 rb))
  let m3 := memBlock 0 m2 0x500 (chans16.flatMap (loopBytes s1))
  let m4 := memBlock 0 m3 0x600 (mboxBytes s1)
  let m5 := memBlock 0 m4 0x15000 ((listed.take 64).flatMap fun x => rxBytes x.r)
  { s1 with cyc := { s1.cyc with image := m5 } }

/-- What the freeze uses up: sample pairs of the interval, and a centred output that this image carried. -/
def freezeTaken (s : State) : State :=
  let s1 := allChans.foldl (fun s e => updChan s e.1 e.2 fun c => { c with smp := none }) s
  chans16.foldl (fun s k => updLoop s k fun l =>
    { l with centred := match l.centred with
        | some o => if o.stamp < s.cyc.t0 then none else some o
        | none => none }) s1

/-! ## Generations (R403) -/

/-- Buffer `b` is held by an open READ-SNAP frame. -/
def bufHeld (s : State) (b : Fin 3) : Bool := s.port.toList.any fun p => p.hold = some b

/-- The generation of the present image and committed state is published, or skipped. -/
def publish (s : State) : State :=
  match ([0, 1, 2] : List (Fin 3)).find? fun b => b != s.snap.latest && !bufHeld s b with
  | some b =>
    { s with snap := { s.snap with p6 := s.snap.p6.set b s.cyc.image, p7 := s.snap.p7.set b s.snap.out, latest := b } }
  | none => { s with snap := { s.snap with skip := satAdd (2 ^ 32 - 1) s.snap.skip 1 } }

/-- Page 6 offset `w` of a buffer; page 7 offset `w`. -/
def page6Word (s : State) (b : Fin 3) (w : Nat) : Word := BitVec.ofNat 32 (leNat (memTake 0 s.snap.p6[b] (4 * w) 4))
def page7Word (s : State) (b : Fin 3) (w : Nat) : Word := rmGet s.snap.p7[b] w

end Sys2Proof.Machine
end

