-- ==== Sys2Proof/Machine/Vote.lean ====
section
/-!
DEFINITION. Votes (R126 to R134, Tables 5.9, 5.10, 5.12): what a lane sends at vote close, the field votes of command records, and the outcome of each list and word.
-/

namespace Sys2Proof.Machine

/-! ## The rule of Table 5.12 -/

/-- A value with the lane that sent it. -/
abbrev Sent (α : Type) := Lane × α

/-- Lanes that sent `v`. -/
def agreeing {α : Type} [DecidableEq α] (l : List (Sent α)) (v : α) : Nat := (l.filter fun e => decide (e.2 = v)).length

/-- The outcome among `m` members of the values that the present lanes sent: the value that two of them hold. -/
def voted {α : Type} [DecidableEq α] (m : Nat) (l : List (Sent α)) : Option α :=
  if m < 2 then none else (l.find? fun e => decide (2 ≤ agreeing l e.2)).map fun e => e.2

/-- Lanes in the minority: with three members present, those that differ from the majority. -/
def minority {α : Type} [DecidableEq α] (m : Nat) (l : List (Sent α)) : BitVec 3 :=
  if m = 3 ∧ l.length = 3 then
    match voted m l with
    | some v => (l.filter fun e => decide (e.2 ≠ v)).foldl (fun b e => b ||| bit3 e.1) 0
    | none => 0
  else 0

/-! ## Command records (Table 5.10) -/

/-- The fields of a record; RSV is every other bit of the four words. -/
structure RecF where
  act : Nat
  pgsel : Nat
  clr : Nat
  oltest : Nat
  duty : Nat
  rsv : List Nat
deriving DecidableEq, Repr

/-- The fields of 16 bytes. -/
def recFields (b : List Byte) : RecF :=
  let w (i : Nat) : Word := BitVec.ofNat 32 (leNat ((b.drop (4 * i)).take 4))
  { act := fieldOf (w 0) 0 3, pgsel := fieldOf (w 0) 4 2, clr := fieldOf (w 0) 8 1, oltest := fieldOf (w 0) 9 1
    duty := fieldOf (w 1) 0 16
    rsv := [(w 0 &&& 0xFFFFFCC8#32).toNat, (w 1 &&& 0xFFFF0000#32).toNat, (w 2).toNat, (w 3).toNat] }

/-- A voted record: each field with its majority, or none. -/
structure RecVote where
  act : Option Nat
  pgsel : Option Nat
  clr : Option Nat
  oltest : Option Nat
  duty : Option Nat
  rsv : Option (List Nat)
deriving DecidableEq, Repr

/-- One field of each sent record. -/
def pick {α β : Type} (f : α → β) (l : List (Sent α)) : List (Sent β) := l.map fun e => (e.1, f e.2)

def voteRec (m : Nat) (l : List (Sent RecF)) : RecVote :=
  { act := voted m (pick RecF.act l), pgsel := voted m (pick RecF.pgsel l), clr := voted m (pick RecF.clr l)
    oltest := voted m (pick RecF.oltest l), duty := voted m (pick RecF.duty l), rsv := voted m (pick RecF.rsv l) }

def minorityRec (m : Nat) (l : List (Sent RecF)) : BitVec 3 :=
  minority m (pick RecF.act l) ||| minority m (pick RecF.pgsel l) ||| minority m (pick RecF.clr l) |||
    minority m (pick RecF.oltest l) ||| minority m (pick RecF.duty l) ||| minority m (pick RecF.rsv l)

/-- Fields without a majority, as the ARG of VOTE_NOMAJ names them: ACT 0, PGSEL 1, CLR 2, OLTEST 3, DUTY 4, RSV 5. -/
def noMajBits (v : RecVote) : Nat :=
  (if v.act.isNone then 1 else 0) + (if v.pgsel.isNone then 2 else 0) + (if v.clr.isNone then 4 else 0) +
    (if v.oltest.isNone then 8 else 0) + (if v.duty.isNone then 16 else 0) + (if v.rsv.isNone then 32 else 0)

/-- The assembled record is invalid (R122). -/
def recInvalid (v : RecVote) : Bool := decide (4 < v.act.getD 0) || (v.rsv.getD []).any fun w => w != 0

/-- The four words of page 7; a field without a majority reads zero (Table 5.11). -/
def recWords (v : RecVote) : List Word :=
  let r (i : Nat) : Word := BitVec.ofNat 32 ((v.rsv.getD []).getD i 0)
  [place 0 (v.act.getD 0) ||| place 4 (v.pgsel.getD 0) ||| place 8 (v.clr.getD 0) ||| place 9 (v.oltest.getD 0) ||| r 0,
   place 0 (v.duty.getD 0) ||| r 1, r 2, r 3]

/-- The shadow's record differs from the voted outcome in a field with a majority (R141). -/
def recDiffers (v : RecVote) (r : RecF) : Bool :=
  (v.act.isSome && v.act != some r.act) || (v.pgsel.isSome && v.pgsel != some r.pgsel) || (v.clr.isSome && v.clr != some r.clr) ||
    (v.oltest.isSome && v.oltest != some r.oltest) || (v.duty.isSome && v.duty != some r.duty) || (v.rsv.isSome && v.rsv != some r.rsv)

/-! ## Lists voted by position (R132, R133) -/

/-- The number of positions to vote. -/
def longest {α : Type} (l : List (Sent (List α))) : Nat := (l.map fun e => e.2.length).foldl max 0

/-- Position `i` of each list; past its end a list has the value "no entry". -/
def posOf {α : Type} (l : List (Sent (List α))) (i : Nat) : List (Sent (Option α)) := l.map fun e => (e.1, e.2[i]?)

/-- The outcome at each position: none for no majority, `some none` for a voted "no entry". -/
def voteList {α : Type} [DecidableEq α] (m : Nat) (l : List (Sent (List α))) : List (Option (Option α)) :=
  (List.range (longest l)).map fun i => voted m (posOf l i)

def minorityList {α : Type} [DecidableEq α] (m : Nat) (l : List (Sent (List α))) : BitVec 3 :=
  (List.range (longest l)).foldl (fun b i => b ||| minority m (posOf l i)) 0

def listNoMaj {α : Type} (l : List (Option (Option α))) : Bool := l.any fun x => x.isNone

/-- The accepted items in position order. -/
def accepted {α : Type} (l : List (Option (Option α))) : List α := l.filterMap fun x => x.join

/-- The shadow's list differs at a position with a majority (R141). -/
def listDiffers {α : Type} [DecidableEq α] (v : List (Option (Option α))) (own : List α) : Bool :=
  ((v.zipIdx).any fun e => match e.1 with | some x => decide (x ≠ own[e.2]?) | none => false) || decide (v.length < own.length)

/-! ## What a lane sends at vote close (R117) -/

/-- Record n of a lane's output image. -/
def outRec (x : LaneSt) (n : Nat) : List Byte := memTake 0 x.mem (0x31000000 + 16 * n) 16

/-- Manifest entries that the lane placed for die `d` in this cycle. -/
def laneMan (x : LaneSt) (d : Nat) : List (List Byte) :=
  (List.range (memGet 0 x.mem (0x32001000 + d)).toNat).map fun i => memTake 0 x.mem (0x32000000 + 0x400 * d + 16 * i) 16

/-- Requests that the lane emitted for controller `c`. -/
def laneReq (x : LaneSt) (c : Nat) : List (List Byte) :=
  (List.range (leAt x.mem (0x31000FF8 + 2 * c) 2)).map fun i => memTake 0 x.mem (0x31001000 + 0xA00 * c + 80 * i) 80

/-- The close data of a lane. -/
def closeOf (x : LaneSt) : CloseData :=
  { present := true
    recs := (List.range 64).filterMap fun n =>
      if outRec x n = memTake 0 x.closedCopy (16 * n) 16 then none else some (n, outRec x n)
    crcs := (List.range 4).map fun d => crc32c (memTake 0 x.mem (0x31000000 + 256 * d) 256)
    man := (List.range 4).map (laneMan x)
    req := (List.range 2).map (laneReq x)
    permit := permitWord x
    reports := (List.range 64).map fun i => BitVec.ofNat 32 (leAt x.mem (0x31000800 + 4 * i) 4) }

/-- The 64 records as they stand, by offset: what the next close compares with (R128). -/
def closedOf (x : LaneSt) : Memory := (x.mem.filter fun e => decide (0x31000000 ≤ e.1) && decide (e.1 < 0x31000400)).map fun e => (e.1 - 0x31000000, e.2)

/-- The lane's outputs of the cycle count: it executed ENDCYC without a trap and its image was valid (R126). -/
def voteReady (x : LaneSt) : Bool := decide (x.run = .done) && !x.trapped && x.imgValid

/-! ## Presence -/

/-- Members present on CD, with their close data (R126). -/
def cdPresent (s : State) : List (Sent CloseData) :=
  (lanes3.filter fun l => memberOf s l && s.lane[l].close.present).map fun l => (l, s.lane[l].close)

/-- Members present at a die: their close transfer came whole, and its record-set CRC matches (R126). -/
def diePresent (s : State) (d : Die) : List Lane :=
  lanes3.filter fun l => memberOf s l && s.lane[l].close.present && s.die[d].closeRx.getLsbD l.val

/-- The record of local channel `k` in the die's copy for a lane (R128). -/
def dieRec (s : State) (d : Die) (l : Lane) (k : Nat) : RecF := recFields (memTake 0 s.die[d].copy[l] (16 * k) 16)

/-- The record sets as CD's voters see them. -/
def cdRec (s : State) (l : Lane) (n : Nat) : RecF := recFields (memTake 0 s.lane[l].closedCopy (16 * n) 16)

end Sys2Proof.Machine
end

