-- ==== Sys2Proof/Machine/Reint.lean ====
section
/-!
DEFINITION. Reintegration of a lane (R138 to R143), image delivery (R112, R113) and vote close (R117, R127, R140).
-/

namespace Sys2Proof.Machine

/-! ## Attempts (R138, R139) -/

/-- The lane leaves reintegration without attempts left: state OUT, and its activity ends. -/
def reintOut (s : State) (l : Lane) : State :=
  mntEndOf (updLane s l fun x => { x with state := 1, triesLeft := 0, dirty := [], convCnt := 0 }) 2 l.val endFail

/-- Attempts from the RESET stage on, `n` being left; a lane whose clock has stopped fails each of them with CLOCK (R143). -/
def reintAttempts : Nat → State → Lane → State
  | 0, s, l => reintOut s l
  | n + 1, s, l =>
    let s1 := updLane s l fun x =>
      { x with
        state := 2, triesLeft := n, attempts := satAdd 65535 x.attempts 1, dirty := [], convCnt := 0, stageAt := s.mono
        shadowDiff := false, run := .halted, copyAt := 0, winUsed := 0 }
    if s.lane[l].clockOk then s1 else reintAttempts n (updLane s1 l fun x => { x with rfail := 6 }) l

/-- Reintegration may start or start again: the mode, and two members (R138). -/
def reintAllowed (s : State) : Bool :=
  (s.md.mode = .prime || s.md.mode = .run || s.md.mode = .degraded) && decide (memberCount s.cyc.member = 2)

/-- An attempt fails with a reason; the next one starts while attempts remain. -/
def reintFail (s : State) (l : Lane) (code : Nat) : State :=
  let s1 := { updLane s l fun x => { x with rfail := code } with
    cyc := { s.cyc with finalPass := if s.cyc.finalPass = some l then none else s.cyc.finalPass } }
  reintAttempts (if reintAllowed s then s.lane[l].triesLeft else 0) s1 l

/-- LANE_REINT claims the lane, and the series of attempts begins. -/
def reintStart (s : State) (l : Lane) (port tries : Nat) : State :=
  reintAttempts tries (mntStart s { kind := 2, port := port, index := l.val, mask := 0, lo := 0, hi := 0, dir := false }) l

/-- The lane is in reintegration. -/
def joining (s : State) (l : Lane) : Bool := decide (2 ≤ s.lane[l].state) && decide (s.lane[l].state ≤ 6)

/-! ## Donor, checker and copies -/

/-- Donor and checker: the two members, the earlier letter first. -/
def donorChecker (s : State) : Option (Lane × Lane) :=
  match lanes3.filter (memberOf s) with
  | [a, b] => some (a, b)
  | _ => none

/-- The listed bytes of a range. -/
def memRange (m : Memory) (lo hi : Nat) : Memory := m.filter fun e => decide (lo ≤ e.1) && decide (e.1 < hi)

/-- The ranges that BULK copies and compares: data, retain and output SRAM (Table 5.14). -/
def bulkRanges : List (Nat × Nat) := [(0x20000000, 0x20040000), (0x20100000, 0x20110000), (0x31000000, 0x31008000)]

/-- A range without the blocks that are not clean. -/
def cleanPart (dirty : List Nat) (m : Memory) (r : Nat × Nat) : Memory :=
  (memRange m r.1 r.2).filter fun e => !dirty.contains (e.1 / 256)

/-- Block `b` is equal in donor and checker. -/
def blockEq (a c : Memory) (b : Nat) : Bool := memRange a (256 * b) (256 * b + 256) = memRange c (256 * b) (256 * b + 256)

def copyBlocks (dst src : Memory) (bs : List Nat) : Memory := bs.foldl (fun m b => amCopy m src (256 * b) (256 * b + 256)) dst

def copyRanges (dst src : Memory) (rs : List (Nat × Nat)) : Memory := rs.foldl (fun m r => amCopy m src r.1 r.2) dst

/-! ## Stages -/

/-- REINT_RESET_DONE: the core is reset and every SRAM is zero. -/
def execReintResetDone (l : Lane) (s : State) : Out :=
  .next (
    if s.lane[l].state = 2 then
      updLane s l fun x =>
        { x with
          x := Vector.replicate 16 0, flN := false, flZ := false, flC := false, flV := false, pc := 0, mem := [], closedCopy := []
          pf := [], lineReq := none, trapped := false, close := closeReset, serve := [], state := 3, stageAt := s.mono }
    else s)

/-- REINT_CODE_DONE: code SRAM is copied when donor and checker agree. -/
def execReintCodeDone (l : Lane) (s : State) : Out :=
  .next (
    match s.lane[l].state, donorChecker s with
    | 3, some (a, c) =>
      if memRange s.lane[a].mem 0 0x80000 = memRange s.lane[c].mem 0 0x80000 then
        updLane s l fun x => { x with mem := amCopy x.mem s.lane[a].mem 0 0x80000, state := 4, dirty := [], stageAt := s.mono, winUsed := 0 }
      else reintFail s l 1
    | _, _ => s)

/-- REINT_BULK_DONE: the blocks that no member has written since their copy must agree; IMAGE_IN is copied too, and with it the lane's slice has every event that the donor's has (R113). -/
def execReintBulkDone (l : Lane) (s : State) : Out :=
  .next (
    match s.lane[l].state, donorChecker s with
    | 4, some (a, c) =>
      let d := s.lane[l].dirty
      if bulkRanges.all fun r => cleanPart d s.lane[a].mem r = cleanPart d s.lane[c].mem r then
        updLane s l fun x =>
          { x with
            mem := copyRanges x.mem s.lane[a].mem ((0x30000000, 0x30020000) :: bulkRanges), state := 5, convCnt := 0, stageAt := s.mono
            copyAt := s.mono, evLost := s.lane[a].evLost }
      else reintFail s l 2
    | _, _ => s)

/-- The tick count of an instant of device time near the present one. -/
def monoOf (s : State) (t : Nat) : Nat := ((s.mono : Int) + ((t : Int) - s.time)).toNat

/-- The compute window of the running cycle in tick counts: from T0 + DELIV, later by the delivery excess, to vote close (R112, R115). -/
def windowOf (s : State) : Nat × Nat := (monoOf s (s.cyc.t0 + deliv + s.cyc.late), monoOf s (voteCloseAt s))

/-- The maximum of stage BULK apart from compute-window time, and the compute-window time of its IMAGE_IN copy (Table 5.14). -/
def bulkMax : Nat := 360448
def bulkWindowMax : Nat := 131072

/-- Compute-window time of the running cycle that counts for a lane in BULK when the window is over. -/
def windowGain (s : State) (x : LaneSt) : Nat :=
  let w := windowOf s
  if x.state = 4 then w.2 - max w.1 (x.stageAt + bulkMax) else 0

/-- The tick count at which BULK runs past its maximum, when that falls in the running cycle's window (R139). -/
def bulkEnd (s : State) (x : LaneSt) : Option Nat :=
  let w := windowOf s
  let e := max w.1 (x.stageAt + bulkMax) + (bulkWindowMax - x.winUsed)
  if s.cyc.running ∧ lanesRun s.md.mode ∧ !s.cyc.closed ∧ e ≤ w.2 then some e else none

/-- REINT_STAGE_TIME: the stage has run past its maximum. For BULK only compute-window time counts for the IMAGE_IN copy. -/
def execReintStageTime (l : Lane) (s : State) : Out :=
  .next (
    let x := s.lane[l]
    match x.state with
    | 2 => reintFail (monoTo s (x.stageAt + 200000)) l 7
    | 3 => reintFail (monoTo s (x.stageAt + 524288)) l 7
    | 4 =>
      match bulkEnd s x with
      | some e => reintFail (monoTo s e) l 7
      | none => s
    | _ => s)

/-- REINTCFG.CONVMAX and XWIN. -/
def convMax (s : State) : Nat := cfgField s 4 2 8 8
def xwin (s : State) : Nat := cfgField s 4 2 16 10

/-- REINT_NOCONVERGE: CONVMAX vote closes have passed in CATCHUP without a final pass. -/
def execReintNoconverge (l : Lane) (s : State) : Out :=
  .next (if s.lane[l].state = 5 ∧ s.cyc.finalPass = none ∧ convMax s ≤ s.lane[l].convCnt then reintFail s l 3 else s)

/-- The final pass fits (R140). -/
def passFits (s : State) (l : Lane) : Bool :=
  decide (256 * s.lane[l].dirty.length + 1000 ≤ guardNow s + deliv + xwin s * 1000)

/-- What the engine has recopied by now at 1 byte per ns, in the order of `dirty`: blocks that agree become clean, the others come last (R140, log entry 50). -/
def recopy (s : State) (l : Lane) : State :=
  match donorChecker s with
  | none => s
  | some (a, c) =>
    let x := s.lane[l]
    let n := (s.mono - x.copyAt) / 256
    let ok := (x.dirty.take n).filter (blockEq s.lane[a].mem s.lane[c].mem)
    let bad := (x.dirty.take n).filter fun b => !ok.contains b
    updLane s l fun x =>
      { x with
        mem := copyBlocks x.mem s.lane[a].mem ok
        dirty := x.dirty.drop n ++ bad
        copyAt := if x.dirty.length ≤ n then s.mono else x.copyAt + 256 * n }

/-- A lane in CATCHUP at a vote close: the recopying up to now, then the final pass when it fits. -/
def catchup (s : State) (l : Lane) : State :=
  if s.lane[l].state ≠ 5 ∨ s.cyc.finalPass.isSome then s
  else
    let s1 := recopy s l
    if passFits s1 l ∧ s1.lane[l].convCnt < convMax s then
      { updLane s1 l fun x => { x with shadowEnds := s.cyc.n + 3 } with cyc := { s1.cyc with finalPass := some l } }
    else updLane s1 l fun x => { x with convCnt := satAdd 255 x.convCnt 1 }

/-- FINAL_PASS_DONE: the blocks that are not clean agree and are copied with the persistent special registers, and the lane computes its shadow cycle (R140, R141). -/
def execFinalPassDone (s : State) : Out :=
  .next (
    match s.cyc.finalPass, donorChecker s with
    | some l, some (a, c) =>
      let d := s.lane[l].dirty
      if d.all (blockEq s.lane[a].mem s.lane[c].mem) then
        { updLane s l fun x =>
            { x with
              mem := copyBlocks x.mem s.lane[a].mem d, xipBase := s.lane[a].xipBase, xipSpan := s.lane[a].xipSpan
              closedCopy := s.lane[a].closedCopy, dirty := [], state := 6, stageAt := s.mono, shadowDiff := false
              run := .waiting, delivered := false, trapped := false } with
          cyc := { s.cyc with finalPass := none } }
      else reintFail s l 2
    | _, _ => s)

/-! ## Image delivery -/

/-- The slice of lane `l` has the freeze frame of every ready die, and each event up to the number in it (R113). -/
def imageWhole (s : State) (l : Lane) : Bool :=
  let x := s.lane[l]
  dies5.all fun d => !ready s d ||
    (x.frozen.getLsbD d.val && decide (s.die[d].frz.seq ≤ x.evSeq[d]) &&
      match x.evLost[d] with
      | some n => decide (s.die[d].frz.seq < n)
      | none => true)

/-- The digest comparison (R28, R137): `dig` are the digests of the slices of A, B and C. -/
def digestOk (s : State) (l : Lane) (dig : List Word) : Bool :=
  let own := dig.getD l.val 0
  let others := lanes3.filter fun k => k != l && memberOf s k
  s.md.mode = .limp || others.isEmpty || others.any fun k => dig.getD k.val 0 == own

/-- A lane starts its cycle (R121, R124, R162): registers and flags zero, PC at the entry, the image in IMAGE_IN, the manifest area and the EMIT counts cleared. -/
def laneBegin (s : State) (x : LaneSt) : LaneSt :=
  let m0 := x.mem.filter fun e =>
    !(decide (0x30000000 ≤ e.1) && decide (e.1 < 0x30020000)) && !(decide (0x32000000 ≤ e.1) && decide (e.1 < 0x32002000)) &&
      !(decide (0x31000FF8 ≤ e.1) && decide (e.1 < 0x31000FFC))
  { x with
    x := Vector.replicate 16 0, flN := false, flZ := false, flC := false, flV := false, pc := s.boot.entry, crcVal := 0xFFFFFFFF
    mem := amCopy m0 (s.cyc.image.map fun e => (e.1 + 0x30000000, e.2)) 0x30000000 0x30020000
    lineReq := none, delivered := true, imgValid := true, trapped := false, run := .computing }

/-- IMAGE_DELIVERED: the lane's image is complete and judged; a valid one starts the lane. -/
def execImageDelivered (l : Lane) (dig : List Word) (s : State) : Out :=
  .next (
    let x := s.lane[l]
    if !s.cyc.running || !lanesRun s.md.mode || x.run ≠ .waiting || x.delivered || s.cyc.finalPass.isSome || s.cyc.closed then s
    else if imageWhole s l && digestOk s l dig then updLane s l (laneBegin s)
    else
      let s1 := updLane s l fun y => { y with delivered := true, imgValid := false, shadowDiff := y.shadowDiff || decide (y.state = 6) }
      if memberCount s.cyc.member = 3 then learnCause s1 l 3 else s1)

/-! ## Vote close -/

/-- A lane at vote close: one that has not executed ENDCYC is halted (R127), one whose image never came is absent; the others send their transfers (R117). -/
def laneClose (s : State) (l : Lane) : State :=
  let x := s.lane[l]
  let s1 :=
    match x.run with
    | .computing =>
      learnCause (wdOff (updLane s l fun y => { y with run := .halted, lineReq := none, shadowDiff := y.shadowDiff || decide (y.state = 6) })
        (laneWd l)) l 2
    | .waiting =>
      let s2 := updLane s l fun y => { y with shadowDiff := y.shadowDiff || decide (y.state = 6) }
      if !x.delivered ∧ memberCount s.cyc.member = 3 then learnCause s2 l 3 else s2
    | _ => s
  if voteReady x then updLane s1 l fun y => { y with close := closeOf y, closedCopy := closedOf y }
  else updLane s1 l fun y => { y with close := closeReset }

/-- VC(n) (R112): the lanes close, the words staged for the next image are counted (R115), and a lane in CATCHUP takes its final pass when it fits. -/
def voteClose (s : State) : State :=
  if !s.cyc.running || !lanesRun s.md.mode || s.cyc.closed then s
  else
    let s1 := timeTo s (voteCloseAt s)
    let s2 := lanes3.foldl laneClose s1
    let s3 := { s2 with
      cyc := { s2.cyc with closed := true, staged := stagedWords s2 }
      lane := s2.lane.map fun x => { x with winUsed := x.winUsed + windowGain s1 x } }
    lanes3.foldl catchup s3

def execVoteClose (s : State) : Out := .next (voteClose s)

end Sys2Proof.Machine
end

