-- ==== Sys2Proof/Machine/DieCommit.lean ====
section
/-!
DEFINITION. What an isolated die does at a commit: it takes new settings (R397, R451), votes (R128 to R132), and acts or takes its safe states (R101, R131, R201 to R205, R266).
-/

namespace Sys2Proof.Machine

/-! ## Settings (R397, R451) -/

/-- A register that die `d` uses: its own page, SVCFG_d, and for a field die the grid origin; for LD pages 12 to 14. -/
def dieUses (d : Die) (key : Nat) : Bool :=
  let p := key / 65536
  let o := key % 65536
  if d = 4 then decide (p = 12) || decide (p = 13) || (decide (p = 14) && decide (o = 4 ∨ 0x20 ≤ o))
  else decide (p = 8 + d.val) || (decide (p = 14) && decide (o = d.val)) || (decide (p = 3) && decide (o = 9 ∨ o = 0x0A))

/-- The active SR fields that the die uses. -/
def dieSettings (s : State) (d : Die) : RegMap := (srPart s.regs).filter fun e => dieUses d e.1

/-- MODE of the channel or GANG of its pair changes (row 10 of Table 8.4). -/
def modeChanged (old new : RegMap) (page k : Nat) : Bool :=
  let b := 0x40 + 0x10 * k
  let g := 0x40 + 0x10 * (k - k % 2)
  decide (cf old page b 0 2 ≠ cf new page b 0 2) || cb old page g 2 != cb new page g 2

/-- The level of R235 at an APPLY that changes CAP. -/
def capLevel (old new : RegMap) (page k : Nat) (l : Int) : Int :=
  let o := cf old page (0x43 + 0x10 * k) 0 10
  let n := cf new page (0x43 + 0x10 * k) 0 10
  if o = n then l else if o = 0 then (n * 1000 : Nat) else min l ((n * 1000 : Nat) : Int)

/-- The limp-home block takes a changed mapping (R274); under LH_EN a channel enters or leaves limp-home with it. -/
def takeMap (new : RegMap) (d : FDie) (s : State) (k : Chan) : State :=
  let o := 0x4E + 0x10 * k.val
  let m : LhMap := { en := cb new (8 + d.val) o 0, src := cf new (8 + d.val) o 1 2, inv := cb new (8 + d.val) o 3 }
  if (fld s d).vbbLow ∨ (chan s d k).map = m then s
  else if (fld s d).lhEn then
    enterLimp d (updChan (leaveLimp d s k) d k fun c => { c with map := m }) k
  else updChan s d k fun c => { c with map := m }

/-- The causes that stand on a channel when it comes under Table 8.4 (Table 9.3). -/
def causesNow (s : State) (d : FDie) (k : Chan) : BitVec 8 :=
  (if s.die[toDie d].linkDown then causeBit 1 else 0) ||| (if (fld s d).noact then causeBit 2 else 0) |||
    (if permOf s d k then 0 else causeBit 3) ||| (if anyStuck s d k then causeBit 4 else 0)

/-- A channel whose MODE or pairing changed: row 10 of Table 8.4; in its new mode it has the causes that stand now, and without a safe state none (R265). -/
def newMode (s : State) (d : FDie) (k : Chan) : State :=
  let s1 := updChan (rowTen s d k) d k fun c => { c with causes := 0, coast := none, permWait := none }
  if isGov s1 d k.val then setCauses s1 d k 0 (causesNow s1 d k) else s1

/-- In a safe state, new settings of CHSAFE enter HOLD-LAST with the demand of the state before as the held command, or leave it (R267). -/
def newSafe (old new : RegMap) (d : FDie) (s : State) (k : Chan) : State :=
  let cause := decidingCause (chan s d k).causes
  let o := 0x4D + 0x10 * k.val
  let code (m : RegMap) : Nat := if cause = 6 then cf m (8 + d.val) o 2 2 else cf m (8 + d.val) o 0 2
  if !isGov s d k.val || decide (cause = 0) || decide (code old = code new) then s
  else if code new = 2 then
    let act := if code old = 1 then 1 else if code old = 3 then 3 else 0
    let cw := chField s d k.val 0x0D 8 11
    updChan s d k fun c =>
      { c with
        held := { act := act, pgsel := if act = 3 then cf old (8 + d.val) o 4 2 else 0, clr := false, oltest := false, duty := 0 }
        coast := if cw = 0 then none else some (s.mono + cw * 1000000) }
  else updChan s d k fun c => { c with coast := none }

/-- One channel takes its new settings: row 10, the toll level, the sink and the validity of an input, the limp-home mapping. -/
def chanSettings (old new : RegMap) (fresh applied : Bool) (d : FDie) (s : State) (k : Chan) : State :=
  let page := 8 + d.val
  let b := 0x40 + 0x10 * k.val
  let s0 := if fresh || modeChanged old new page k.val then newMode s d k
    else newSafe old new d (updChan s d k fun c => { c with level := capLevel old new page k.val c.level }) k
  let s1 := updChan s0 d k fun c => { c with lhIlim := cf new page (b + 1) 0 5 }
  let input := decide (cf new page b 0 2 = 2)
  let enters := input && decide (cf old page b 0 2 ≠ 2)
  let cont := cb new page (b + 0x0C) 4
  let s2 := updChan s1 d k fun c =>
    { c with
      sink := input && (cont || (c.sink && !cb old page (b + 0x0C) 4))
      valid := c.valid && !enters
      rawCnt := if enters then 0 else c.rawCnt
      wbCnt := if enters then 0 else c.wbCnt
      shortCnt := if enters then 0 else c.shortCnt }
  if fresh || applied || decide (cf old page (b + 0x0E) 0 4 ≠ cf new page (b + 0x0E) 0 4) then takeMap new d s2 k else s2

/-- Origins of the generators and the carrier (R218, R219). -/
def originSettings (old new : RegMap) (fresh : Bool) (d : FDie) (now : Nat) (f : FieldSt) : FieldSt :=
  let page := 8 + d.val
  let moved (j : Nat) : Bool :=
    fresh || decide (cf old page (0x10 + j) 0 24 ≠ cf new page (0x10 + j) 0 24) || decide (cf old page (0x14 + j) 0 24 ≠ cf new page (0x14 + j) 0 24)
  { f with
    pgOrg := Vector.ofFn fun j => if moved j.val then now else f.pgOrg[j]
    dutyOrg := if fresh || decide (cf old page 2 0 16 ≠ cf new page 2 0 16) then now else f.dutyOrg
    snsCur := if cb new page 4 1 then f.snsCur else cf new page 4 4 4 }

def fieldSettings (s : State) (d : FDie) (old new : RegMap) (fresh applied : Bool) : State :=
  let s1 := updField s d (originSettings old new fresh d (dieTime s (toDie d)))
  sweepStore (chans16.foldl (chanSettings old new fresh applied d) s1) d

/-- A loop takes its new settings: MODE with its switch and supply, and a START when N or SET changes (R281, R298, R317). -/
def loopSettings (old new : RegMap) (s : State) (k : Chan) : State :=
  let b := 0x40 + 0x10 * k.val
  let s1 := loopMode s k
  let s2 := if cf old 12 b 0 2 = cf new 12 b 0 2 then s1 else trimLoopFault s1 k
  let s3 := if cf old 14 (0x40 + 4 * k.val) 0 18 ≠ cf new 14 (0x40 + 4 * k.val) 0 18 ∧ s2.loop[k].churn.running ∧ s2.loop[k].churn.test.isNone
    then startChurn s2 k else s2
  churnSync s3 k

/-- An APPLY takes effect at this commit. -/
def appliedNow (s : State) : Bool := decide (s.app.state = 3) && decide (s.app.cyc = BitVec.ofNat 32 s.cyc.n)

/-- The die takes the settings that are active now; a value equal to the one in force changes nothing, but every APPLY copies the limp-home mapping (R274). A fresh die starts with them. -/
def takeSettings (s : State) (d : Die) : State :=
  let x := s.die[d]
  let new := dieSettings s d
  let applied := appliedNow s
  if x.settings = new ∧ !x.fresh ∧ !applied then s
  else
    let s1 := updDie s d fun x => { x with settings := new, fresh := false }
    let s2 := match asField d with
      | some f => fieldSettings s1 f x.settings new x.fresh applied
      | none => chans16.foldl (loopSettings x.settings new) s1
    if x.fresh then startSurvey s2 d else s2

/-! ## What the die votes (R129 to R132) -/

/-- Members at this commit. -/
def votersOf (s : State) : Nat := memberCount s.cyc.member

/-- The records of local channel `k` that the present lanes sent. -/
def sentRecs (s : State) (d : Die) (k : Nat) : List (Sent RecF) := (diePresent s d).map fun l => (l, dieRec s d l k)

def chanVote (s : State) (d : Die) (k : Nat) : RecVote := voteRec (votersOf s) (sentRecs s d k)

/-- The entry lists that the present lanes sent to the die. -/
def sentMan (s : State) (d : Die) : List (Sent (List (List Byte))) := (diePresent s d).map fun l => (l, s.die[d].manRx[l])

def manVote (s : State) (d : Die) : List (Option (Option (List Byte))) := voteList (votersOf s) (sentMan s d)

/-- Local channels whose records the die votes: LD has none. -/
def votedChans (d : Die) : List Chan := if d = 4 then [] else chans16

/-- Some vote of this commit has no majority at the die. -/
def dieNoMaj (s : State) (d : Die) : Bool :=
  (votedChans d).any (fun k => decide (noMajBits (chanVote s d k.val) ≠ 0)) || listNoMaj (manVote s d)

/-- Lanes in the minority of some vote at the die. -/
def dieMinority (s : State) (d : Die) : BitVec 3 :=
  (votedChans d).foldl (fun b k => b ||| minorityRec (votersOf s) (sentRecs s d k.val)) (minorityList (votersOf s) (sentMan s d))

/-- Members whose close transfer failed while their downlink is up (cause 5 of Table 5.13). -/
def dieCloseFail (s : State) (d : Die) : BitVec 3 :=
  lanes3.foldl (fun b l =>
    if memberOf s l && s.lane[l].close.present && !s.die[d].closeRx.getLsbD l.val && s.die[d].down[l].up then b ||| bit3 l else b) 0

/-- The shadow lane of the cycle just ended differs from the voted outcome (R141). -/
def shadowDiffers (s : State) (d : Die) (l : Lane) : Bool :=
  !s.die[d].closeRx.getLsbD l.val ||
    (votedChans d).any (fun k => recDiffers (chanVote s d k.val) (dieRec s d l k.val)) ||
    listDiffers (manVote s d) s.die[d].manRx[l]

/-- What the die will report in its freeze frame (R135, R141), and NOMAJ_d (R131). `shadow`: the lane whose shadow cycle has just ended. -/
def dieReports (s : State) (shadow : Option Lane) (d : Die) : State :=
  let s1 := updDie s d fun x =>
    { x with
      repMinority := dieMinority s d
      repClose := dieCloseFail s d
      repShadow := match shadow with | some l => if shadowDiffers s d l then bit3 l else 0 | none => 0 }
  if h : d.val < 4 then
    (if dieNoMaj s d then { s1 with nomaj := s1.nomaj.set d.val (satAdd (2 ^ 32 - 1) s1.nomaj[d.val] 1) } else s1)
  else s1

/-! ## Acting (R131, R203, R216, R262, R266) -/

/-- The command of a voted record. -/
def cmdOf (v : RecVote) : Cmd :=
  { act := v.act.getD 0, pgsel := v.pgsel.getD 0, clr := decide (v.clr.getD 0 = 1), oltest := decide (v.oltest.getD 0 = 1), duty := v.duty.getD 0 }

/-- Two records differ in ACT, PGSEL or DUTY. -/
def switchDiffers (a b : Cmd) : Bool := decide (a.act ≠ b.act) || decide (a.pgsel ≠ b.pgsel) || decide (a.duty ≠ b.duty)

/-- The record is not acted on: a field has no majority, or it is invalid (R131). -/
def recBad (v : RecVote) : Bool := decide (noMajBits v ≠ 0) || recInvalid v

/-- A voted record takes its place; one that differs from the record before ends a replacement (R203). -/
def takeRec (v : RecVote) (c : ChanSt) : ChanSt :=
  if recBad v then c
  else
    let n := cmdOf v
    if switchDiffers n c.vrec then { c with vrec := n, repl := none, pulseEnd := none } else { c with vrec := n }

/-- CLR is judged (R216). -/
def takeClr (v : RecVote) (d : FDie) (s : State) (k : Chan) : State :=
  match v.clr with
  | none => s
  | some b =>
    let s1 := if b = 1 ∧ (chan s d k).clrRef ≠ some true ∧ isGov s d k.val then clrEdge s d k else s
    updChan s1 d k fun c => { c with clrRef := some (decide (b = 1)) }

/-- The bits of Table 9.3 that this commit ends or begins, for a governing channel. -/
def causeEnds (s : State) (d : FDie) (k : Chan) (v : RecVote) : BitVec 8 :=
  causeBit 2 ||| (if s.die[toDie d].linkDown then 0 else causeBit 1) ||| (if permOf s d k then causeBit 3 else 0) |||
    (if (effCmd (chan s d k)).act = 4 then 0 else causeBit 5) ||| (if recBad v then 0 else causeBit 6)

def causeBegins (s : State) (d : FDie) (k : Chan) (v : RecVote) : BitVec 8 :=
  (if permOf s d k then 0 else causeBit 3) ||| (if (effCmd (chan s d k)).act = 4 then causeBit 5 else 0) |||
    (if recBad v then causeBit 6 else 0)

/-- VOTE_NOMAJ or CMD_INVALID, once at the begin of the cause (R131). -/
def noteNoMaj (v : RecVote) (was : Bool) (d : FDie) (s : State) (k : Chan) : State :=
  if was || !recBad v then s
  else if noMajBits v ≠ 0 then dieLedger s (toDie d) 32 k.val (noMajBits v)
  else dieLedger s (toDie d) 33 k.val (v.act.getD 0)

/-- A channel at an acting commit. -/
def chanAct (votes : Chan → RecVote) (d : FDie) (s : State) (k : Chan) : State :=
  let v := votes k
  let s1 := updChan (takeClr v d s k) d k (takeRec v)
  if !isGov s1 d k.val then s1
  else
    let was := (chan s1 d k).causes.getLsbD 6
    let s2 := noteNoMaj v was d (if recBad v then dropBits s1 d k.val else s1) k
    let s3 := setCauses s2 d k (causeEnds s2 d k v) (causeBegins s2 d k v)
    let s4 := if (chan s3 d k).causes = causeBit 3 ∧ (chan s3 d k).permWait.isNone then
        updChan s3 d k fun c => { c with permWait := some (s3.mono + 40000) }
      else if (chan s3 d k).causes.getLsbD 3 then s3
      else endPermWait s3 d k
    updChan s4 d k fun c => if (effCmd c).act = 4 then c else { c with lastNon4 := effCmd c }

/-- The voted entries examined in position order (R201), an entry without a bit that counts leaving the store at once (R204); F0 keeps TX entries out of its store (R200). -/
def examineMan (s : State) (d : FDie) (es : List (List Byte)) : Exam :=
  let l := (es.map entryOf).filter fun e => !(decide (d = 0) && decide (e.action = 8))
  l.foldl (fun x e =>
    let y := examine1 true (decide (d = 0)) s.cyc.t0 512 x e
    { y with pend := y.pend.filter (entryLives s d) })
    { pend := (fld s d).pend, man := (fld s d).man, now := [], bad := 0, full := 0 }

/-- MAN_INVALID and MAN_FULL of unit `d` (R201). -/
def noteMan (s : State) (d : Die) (bad full : Nat) : State :=
  let s1 := if bad = 0 then s else dieLedger s d 34 0 bad
  if full = 0 then s1 else dieLedger s1 d 35 0 full

/-- Entries at a commit that acts: accepted ones join the store, and all that fall due at T0 act after the records (R202). -/
def manAct (s : State) (d : FDie) (es : List (List Byte)) : State :=
  let t0 := s.cyc.t0
  let x := examineMan s d es
  let group := ((fld s d).pend.filter fun e => decide (dueAt e ≤ t0)) ++ x.now
  let s1 := updField s d fun f => { f with pend := x.pend.filter fun e => !decide (dueAt e ≤ t0), man := x.man }
  actGroup (noteMan s1 (toDie d) x.bad x.full) d group

/-- A field die acts on the votes of the cycle just ended. -/
def fieldAct (s : State) (d : FDie) : State :=
  let votes (k : Chan) : RecVote := chanVote s (toDie d) k.val
  let es := accepted (manVote s (toDie d))
  let s1 := updField s d fun f => { f with noact := false, vbbOff := f.vbbLow }
  let s2 := chans16.foldl (chanAct votes d) s1
  waitPass false (settle (manAct s2 d es) d) d

/-- What becomes of the votes of the cycle just ended: none was due, every member's vote was absent by its trap (R170), or they are voted. -/
inductive VoteKind where
  | none
  | lost
  | voted
deriving DecidableEq, Repr

/-- A channel at a commit that does not act: NOACT (Table 9.3). In PRIME the voted record is kept for the comparisons of R203, and a good vote ends NOMAJ. When the traps of all three lanes have left every vote absent, NOMAJ begins too (R170, log entry 66). -/
def chanRest (kind : VoteKind) (votes : Chan → RecVote) (d : FDie) (s : State) (k : Chan) : State :=
  let voted := decide (kind = .voted)
  let s1 := if voted then updChan s d k (takeRec (votes k)) else s
  if !isGov s1 d k.val then s1
  else
    let lost := decide (kind = .lost)
    let s2 := updChan s1 d k fun c => { c with permWait := none }
    let s3 := if lost then noteNoMaj (votes k) ((chan s2 d k).causes.getLsbD 6) d s2 k else s2
    setCauses s3 d k (if voted && !recBad (votes k) then causeBit 6 else 0) (causeBit 2 ||| if lost then causeBit 6 else 0)

/-- A field die at a commit that does not act (R101, R205). -/
def fieldRest (s : State) (d : FDie) (kind : VoteKind) : State :=
  let votes (k : Chan) : RecVote := chanVote s (toDie d) k.val
  let s1 := updField s d fun f => { f with noact := true, vbbOff := f.vbbLow, pend := [] }
  waitPass false (settle (chans16.foldl (chanRest kind votes d) s1) d) d

/-- LD's examination of F0's SAMPLE entries with a loop mask; their fates are counted at F0. An entry is pending at LD until its TIME has come. An accepted entry re-phases each masked loop (R200, R201, R207, R321). -/
def ldAct (s : State) : State :=
  let l := (accepted (manVote s ldDie)).map entryOf
  let held := s.ld.pend.filter fun e => decide (s.cyc.t0 ≤ dueAt e)
  let x := l.foldl (examine1 true true s.cyc.t0 512) { pend := held, man := manReset, now := [], bad := 0, full := 0 }
  let new := x.now ++ x.pend.filter fun e => decide (s.cyc.t0 < dueAt e) && !held.contains e
  let s1 := noteMan { s with ld := { s.ld with pend := x.pend.filter fun e => decide (s.cyc.t0 < dueAt e) } } ldDie x.bad x.full
  new.foldl (fun s e => chans16.foldl (fun s k =>
    if e.arg.testBit k.val then updChurn s k fun c => acceptRephase c (dieTime s ldDie) e.time else s) s) s1

/-! ## The die's commit -/

/-- The first commit after a boot ends the replacements that held outputs kept: the test of R92 is between the first voted record and the held command alone (R203, log entry 73). -/
def endReplaced (s : State) (d : FDie) : State :=
  updField s d fun f => { f with ch := f.ch.map fun c => { c with repl := none, pulseEnd := none } }

/-- The die has a commit: it runs, and a downlink or the time link brings the marker. -/
def hasCommit (s : State) (d : Die) : Bool := ready s d && ((s.die[d].down.toList.any fun l => l.up) || s.die[d].time.up)

/-- A freeze frame reports what one commit found, and the next one no more (R135). -/
def clearReports (s : State) (d : Die) : State := updDie s d fun x => { x with repMinority := 0, repClose := 0, repShadow := 0 }

/-- Die `d` at the commit: settings, votes and their reports, then it acts or rests. `acts`: the marker; `kind`: the votes of the cycle just ended; `shadow` as in `dieReports`. -/
def dieCommit (acts : Bool) (kind : VoteKind) (shadow : Option Lane) (s : State) (d : Die) : State :=
  if !hasCommit s d then clearReports s d
  else
    let s1 := takeSettings s d
    let s2 := if kind = .voted then dieReports s1 shadow d else clearReports s1 d
    let s3 := match asField d with
      | some f =>
        let s3 := if acts then fieldAct s2 f else fieldRest s2 f kind
        if s.die[d].firstCommit then endReplaced s3 f else s3
      | none => if acts then ldAct s2 else ldDiscard s2
    updDie s3 d fun x => { x with firstCommit := false }

/-- The dies' copies of the joining lane become those of the donor (R140). -/
def adoptCopy (donor l : Lane) (s : State) (d : Die) : State :=
  updDie s d fun x => { x with copy := x.copy.set l x.copy[donor] }

/-- After the commit: close transfers are used up and the freeze frame is due (R113); the health word's bits are given nowhere, so it is a free value (log entry 67). -/
def dieAfter (s : State) (d : Die) : State :=
  updDie (useFree s) d fun x =>
    { x with
      closeRx := 0, manRx := Vector.replicate 3 []
      frz := { cycle := s.cyc.n, seq := x.evSeq, health := BitVec.ofNat 32 (freeNat s) } }

/-- Every copy is zero when lanes start (R128). -/
def zeroCopies (s : State) (d : Die) : State := updDie s d fun x => { x with copy := Vector.replicate 3 [] }

end Sys2Proof.Machine
end

