-- ==== Sys2Proof/Machine/CdVote.lean ====
section
/-!
DEFINITION. The voters on CD (R18, R123, R130, R133, R134) and the bus hub at a commit (R206, R378, R380, R381).
-/

namespace Sys2Proof.Machine

/-! ## Votes on CD -/

def votePermit (m : Nat) (l : List (Sent CloseData)) (n : Nat) : Option Bool := voted m (pick (fun c => c.permit.getLsbD n) l)

def voteReport (m : Nat) (l : List (Sent CloseData)) (i : Nat) : Option Word := voted m (pick (fun c => c.reports.getD i 0) l)

def voteReq (m : Nat) (l : List (Sent CloseData)) (c : Nat) : List (Option (Option (List Byte))) :=
  voteList m (pick (fun x => x.req.getD c []) l)

/-- The F0 entries with action TX that a lane sends to the hub (R200). -/
def txOf (c : CloseData) : List (List Byte) := (c.man.getD 0 []).filter fun b => decide ((entryOf b).action = 8)

def voteTx (m : Nat) (l : List (Sent CloseData)) : List (Option (Option (List Byte))) := voteList m (pick txOf l)

/-- The record of CHn as CD votes it for page 7 (R123). -/
def cdRecVote (s : State) (n : Nat) : RecVote := voteRec (votersOf s) ((cdPresent s).map fun e => (e.1, cdRec s e.1 n))

/-- Lanes in the minority of a vote of R130 or of the hub. -/
def cdMinority (s : State) : BitVec 3 :=
  let m := votersOf s
  let l := cdPresent s
  (List.range 64).foldl (fun b n => b ||| minority m (pick (fun c => c.permit.getLsbD n) l) ||| minority m (pick (fun c => c.reports.getD n 0) l))
    (minorityList m (pick (fun x => x.req.getD 0 []) l) ||| minorityList m (pick (fun x => x.req.getD 1 []) l) ||| minorityList m (pick txOf l))

/-- Some vote on CD has no majority (NOMAJ_4). -/
def cdNoMaj (s : State) : Bool :=
  let m := votersOf s
  let l := cdPresent s
  (List.range 64).any (fun n => (votePermit m l n).isNone || (voteReport m l n).isNone || decide (noMajBits (cdRecVote s n) ≠ 0)) ||
    listNoMaj (voteReq m l 0) || listNoMaj (voteReq m l 1) || listNoMaj (voteTx m l)

/-- The outputs of a shadow lane differ from the voted ones, or did not come (R141). -/
def cdShadowDiffers (s : State) (x : LaneSt) : Bool :=
  let m := votersOf s
  let l := cdPresent s
  let c := x.close
  !c.present ||
    (List.range 64).any (fun n =>
      (match votePermit m l n with | some b => b != c.permit.getLsbD n | none => false) ||
        (match voteReport m l n with | some w => w != c.reports.getD n 0 | none => false)) ||
    listDiffers (voteReq m l 0) (c.req.getD 0 []) || listDiffers (voteReq m l 1) (c.req.getD 1 []) || listDiffers (voteTx m l) (txOf c)

/-- The voted permits; a bit without a majority is 0 (R18, R134). -/
def permitBits (s : State) : BitVec 64 :=
  let m := votersOf s
  let l := cdPresent s
  BitVec.ofNat 64 (((List.range 64).filter fun n => votePermit m l n = some true).foldl (fun a n => a + 2 ^ n) 0)

/-- Bits of numbers that satisfy `p`, below 64. -/
def bits64 (p : Nat → Bool) : Nat := ((List.range 64).filter p).foldl (fun a n => a + 2 ^ n) 0

/-- Page 7 (Table 5.11) after the votes of the cycle `n - 1`; a report word without a majority keeps its value (R134). -/
def page7Of (s : State) : RegMap :=
  let m := votersOf s
  let l := cdPresent s
  let vs := (List.range 64).map (cdRecVote s)
  let nomaj := bits64 fun n => decide (noMajBits (cdRecVote s n) ≠ 0)
  let rn := bits64 fun i => (voteReport m l i).isNone
  let p := (permitBits s).toNat
  let n := s.cyc.n - 1
  let m1 := putWords [] 0 (vs.flatMap recWords)
  let m2 := putWords m1 0x100 [loWord p, hiWord p, loWord nomaj, hiWord nomaj, loWord n, hiWord n, loWord rn, hiWord rn]
  putWords m2 0x200 ((List.range 64).map fun i => (voteReport m l i).getD (rmGet s.snap.out (0x200 + i)))

/-- CD's part of the votes: page 7, NOMAJ_4, minorities, and the comparison of a shadow. `shadow`: the lane whose shadow cycle has just ended. -/
def cdVote (s : State) (shadow : Option Lane) : State :=
  let min := cdMinority s
  let s1 := { s with
    snap := { s.snap with out := page7Of s }
    nomaj := if cdNoMaj s then s.nomaj.set 4 (satAdd (2 ^ 32 - 1) s.nomaj[4] 1) else s.nomaj }
  let s2 := match shadow with
    | some l => if cdShadowDiffers s s.lane[l] then updLane s1 l fun x => { x with shadowDiff := true } else s1
    | none => s1
  lanes3.foldl (fun s l => if min.getLsbD l.val then learnCause s l 4 else s) s2

/-! ## The bus hub -/

/-- The voted request of controller `c` at position `p`. -/
def reqAt (s : State) (c p : Nat) : Option (List Byte) := ((voteReq (votersOf s) (cdPresent s) c)[p]?).bind fun v => v.join

/-- Voted requests of controller `c` in position order, without those that TX entries take. -/
def voteFrames (s : State) (c : Nat) (taken : List (Nat × Nat)) : List TxFrame :=
  ((voteReq (votersOf s) (cdPresent s) c).zipIdx.filterMap fun e =>
    match e.1.join with
    | some r => if taken.contains (c, e.2) then none else some (reqFrame r)
    | none => none)

/-- The hub examines F0's TX entries (R206). -/
def hubExamine (s : State) : HubExam :=
  ((accepted (voteTx (votersOf s) (cdPresent s))).map entryOf).foldl (hubExamine1 true s.cyc.t0 (reqAt s))
    { pend := s.hub.pend, man := s.hub.man, now := [], taken := [], bad := 0, full := 0 }

/-- MAN_INVALID and MAN_FULL of the hub (R201). -/
def noteHub (s : State) (bad full : Nat) : State :=
  let s1 := if bad = 0 then s else ledger s 34 14 0 bad
  if full = 0 then s1 else ledger s1 35 14 0 full

/-- An acting commit at the hub: the voted requests in position order, then the held requests that fall due (R378). -/
def hubAct (s : State) : State :=
  let x := hubExamine s
  let due := x.pend.filter fun h => decide (dueAt h.e ≤ s.cyc.t0)
  let s1 := noteHub { s with hub := { pend := x.pend.filter fun h => !decide (dueAt h.e ≤ s.cyc.t0), man := x.man } } x.bad x.full
  let s2 := ctrls2.foldl (fun s' c => fifoPutAll s' c (voteFrames s c.val x.taken)) s1
  hubPlace s2 (due ++ x.now)

/-- LIMP: the single lane's requests that the object table marks (R97, R381). -/
def hubLimp (s : State) : State :=
  match lanes3.filter (memberOf s) with
  | [l] =>
    if !s.lane[l].close.present then s
    else ctrls2.foldl (fun s c =>
      let fs := (s.lane[l].close.req.getD c.val []).map fun b => limpFrame s c (reqFrame b)
      let lost := (fs.filter fun f => f.isNone).length
      fifoPutAll (canUpd s c fun k => { k with dMode := satAdd 255 k.dMode lost }) c (fs.filterMap id)) s
  | _ => s

/-- The hub at a commit: ages, the flush of the first commit that does not act after an acting one (R380), and what is enqueued. `was`: the commit before acted; `lanes`: the cycle just ended had lanes. -/
def hubCommit (s : State) (was lanes : Bool) : State :=
  let s1 := ageFrames s
  let s2 := if was && !s.cyc.acting then ctrls2.foldl (fun s c => dropHeld (canFlush s c false) c) s1 else s1
  if s.cyc.acting then hubAct s2
  else if s.md.mode = .limp ∧ lanes then hubLimp s2
  else s2

end Sys2Proof.Machine
end

