-- ==== Sys2Proof/Machine/Commit.lean ====
section
/-!
DEFINITION. The commit T0 (R28, R95, R98 to R102, R111, R129 to R141, R397): membership, mode, APPLY, the new image, the dies' and CD's part, and the cycle that begins.
-/

namespace Sys2Proof.Machine

/-! ## The new cycle -/

/-- The number of the next cycle: the running number goes on; the first one is that of R85. -/
def nextCycle (s : State) : Nat := if s.cyc.everRan then s.cyc.n + 1 else s.boot.firstCycle

/-- T0 of the next cycle has come. -/
def newCycle (s : State) : State :=
  let s1 := timeTo s s.cyc.nextT0
  { s1 with cyc := { s1.cyc with n := nextCycle s, t0 := s.cyc.nextT0, everRan := true } }

/-! ## Exclusion (R135, R136) -/

/-- The pending cause excludes the lane at this commit; causes 3, 4 and 9 need three members (Table 5.13); the others exclude a sole member too (log entry 85). -/
def excluded (s : State) (l : Lane) : Bool :=
  let c := s.lane[l].pendCause
  memberOf s l && decide (c ≠ 0) && (decide (memberCount s.cyc.member = 3) || !(decide (c = 3) || decide (c = 4) || decide (c = 9)))

def excludeLane (s : State) (l : Lane) : State :=
  let c := s.lane[l].pendCause
  let s1 := updLane (haltLane s l) l fun x =>
    { x with state := 1, exc := satAdd 0xFFFFFFFF x.exc 1, cause := c, ownerExcl := decide (c = 9), triesLeft := 0 }
  irq (ledger { s1 with cyc := { s1.cyc with member := s1.cyc.member &&& ~~~(bit3 l) } } 1 (6 + l.val) 0 c) 1

/-- All lanes that are excluded leave together; the commit ends every LANE_EXCL activity (R138 of Table 15.5). -/
def exclusions (s : State) (out : List Lane) : State :=
  let s1 := out.foldl excludeLane s
  let s2 := { s1 with lane := s1.lane.map fun x => { x with pendCause := 0 } }
  if out = [] then s2 else lanes3.foldl (fun s l => mntEndOf s 1 l.val endPass) s2

/-! ## Rejoin (R141) -/

/-- Some ready die's downlink or uplink of the lane is lost (R17). -/
def laneLinkLost (s : State) (l : Lane) : Bool := dies5.any fun d => ready s d && (!s.die[d].down[l].up || !s.die[d].up[l].up)

/-- A lane that becomes a member over a lost link is excluded by it like any member (R17). -/
def learnLinks (s : State) (l : Lane) : State := if laneLinkLost s l then learnCause s l 6 else s

def rejoin (s : State) (l : Lane) : State :=
  let s1 := updLane s l fun x => { x with state := 0, triesLeft := 0 }
  let s2 := learnLinks { s1 with cyc := { s1.cyc with member := s1.cyc.member ||| bit3 l } } l
  irq (ledger (mntEndOf s2 2 l.val endPass) 2 (6 + l.val) 0 s.lane[l].attempts) 1

/-- A lane in reintegration at the commit: DONOR_LOST below two members, and the outcome of its shadow. -/
def shadowEnd (s : State) (l : Lane) : State :=
  let x := s.lane[l]
  if !joining s l then s
  else if memberCount s.cyc.member < 2 then reintFail s l 5
  else if x.state = 6 ∧ x.shadowEnds ≤ s.cyc.n then (if x.shadowDiff then reintFail s l 4 else rejoin s l)
  else s

/-! ## Modes at T0 (R98 to R102, Table 4.2) -/

/-- The output images of the lanes are identical and all came (R98). -/
def imagesAgree (s : State) (ls : List Lane) : Bool :=
  ls.all (fun l => s.lane[l].close.present) &&
    match ls with
    | [] => true
    | a :: r => r.all fun l =>
        decide (s.lane[l].closedCopy = s.lane[a].closedCopy) && decide (s.lane[l].close.permit = s.lane[a].close.permit) &&
          decide (s.lane[l].close.man = s.lane[a].close.man) && decide (s.lane[l].close.req = s.lane[a].close.req)

def primeN (s : State) : Nat := cfgField s 0 0x22 8 8
def primeTmo (s : State) : Nat := cfgField s 0 0x22 16 16

/-- By lane: cycles in a row in which the two other lanes were in the vote, are not excluded now and agreed (R100). -/
def pairStep (s : State) (before : BitVec 3) (l : Lane) : Nat :=
  let pair := lanes3.filter fun k => k ≠ l
  if pair.all (fun k => before.getLsbD k.val && memberOf s k) && imagesAgree s pair then s.md.pairCnt[l] + 1 else 0

/-- The two lanes that remain in the vote have agreed for PRIME_N consecutive cycles (R100). -/
def pairAgreed (s : State) : Bool :=
  lanes3.any fun l => !memberOf s l && decide (memberCount s.cyc.member = 2) && decide (0 < s.md.pairCnt[l]) &&
    decide (cfgField s 0 0x22 8 8 ≤ s.md.pairCnt[l])

/-- A commit of PRIME: the counts of R98 and R100, rows 7 to 9. `before`: members of the cycle just ended; `out`: some lane is excluded now. -/
def primeStep (s : State) (before : BitVec 3) (out : Bool) : State :=
  let ls := lanes3.filter fun l => before.getLsbD l.val
  let agree := !out && imagesAgree s ls
  let s1 := { s with md := { s.md with
    primeCnt := if agree ∧ before = 7 then s.md.primeCnt + 1 else 0
    pairCnt := Vector.ofFn (pairStep s before)
    primeLasted := s.md.primeLasted + 1 } }
  if primeN s ≤ s1.md.primeCnt ∧ 0 < s1.md.primeCnt then setMode s1 .run 7
  else if primeTmo s ≠ 0 ∧ primeTmo s ≤ s1.md.primeLasted then
    (if cfgBit s 0 0x22 3 ∧ pairAgreed s1 then setMode s1 .degraded 8 else setMode s1 .safe 9)
  else s1

/-- Rows 10 to 14. -/
def memberRows (s : State) : State :=
  let m := memberCount s.cyc.member
  match s.md.mode with
  | .run | .degraded =>
    if m ≤ 1 then (if cfgBit s 0 0x22 2 ∧ m = 1 then setMode s .limp 12 else setMode s .safe 13)
    else if m = 2 ∧ s.md.mode = .run then setMode s .degraded 10
    else if m = 3 ∧ s.md.mode = .degraded then setMode s .run 11
    else s
  | .limp => if m = 0 then setMode s .safe 14 else s
  | _ => s

/-- PRIME begins: every lane is a member and waits for its first image; the dies' copies are zero (R104, R128, R153). -/
def beginPrime (s : State) (row : Nat) : State :=
  let warm := if s.md.row4 = some false then s.boot.warm else s.md.startWarm
  let s1 := dies5.foldl zeroCopies (setMode s .prime row)
  let s2 := { s1 with
    lane := s1.lane.map fun x =>
      { x with
        state := 0, run := .waiting, pendCause := 0, closedCopy := [], close := closeReset, trapped := false, ownerExcl := false
        xipBase := s.boot.xipBase, xipSpan := s.boot.xipSpan, evLost := Vector.replicate 5 none }
    cyc := { s1.cyc with member := 7, finalPass := none }
    md := { s1.md with start := true, startWarm := warm } }
  lanes3.foldl learnLinks s2

/-- Row 4 at the first T0 at which its conditions hold (R110, R453). -/
def row4Step (s : State) : State :=
  match s.md.mode, s.md.row4 with
  | .hold, some w =>
    let s1 := if w && primeReady s then laneStart s else s
    if primeReady s1 && (!w || s1.md.laneStarted) then beginPrime s1 4 else s1
  | _, _ => s

/-- Row 15 by a watchdog. -/
def safeStep (s : State) : State :=
  let s1 := { s with md := { s.md with safePending := false } }
  if s.md.safePending ∧ lanesRun s.md.mode then setMode s1 .safe 15 else s1

/-- The mode of a code of Table 4.1. -/
def modeOfCmd : ModeCmd → Mode
  | .quiet => .quiet
  | .hold => .hold
  | .prime _ => .prime
  | .safe => .safe

/-- MODECMD PRIME at its T0: the lane start, and the conditions once more (R104). -/
def cmdPrime (s : State) : State :=
  let s1 := laneStart s
  if s1.md.laneStarted && primeReady s1 then beginPrime { s1 with md := { s1.md with cmd := none } } 6 else dropCmd s1

/-- The pending owner command, after the device's own transitions (R102). -/
def ownerCmd (s : State) : State :=
  match s.md.cmd with
  | none => s
  | some c =>
    let s1 := { s with md := { s.md with cmd := none } }
    match cmdRow s.md.mode (cmdTarget c) with
    | none => setDrop s1
    | some row => if row = 6 then cmdPrime s else setMode s1 (modeOfCmd c) row

/-- The START flag belongs to the first cycle after a lane start (Table 5.5). -/
def startFlag (old : Mode) (s : State) : State :=
  if s.md.mode = .prime ∧ old ≠ .prime then s else { s with md := { s.md with start := s.md.start && s.md.laneStarted } }

/-- All mode changes of a T0 in the order of R102. -/
def modeStep (s : State) (before : BitVec 3) (out : Bool) : State :=
  let s1 := if s.md.mode = .prime then primeStep s before out else memberRows s
  startFlag s.md.mode (ownerCmd (safeStep (row4Step s1)))

/-! ## APPLY (R81, R368, R396, R397) -/

/-- What starts, or stops, controller `c` when the SR registers change from `old` to the present ones (R368). -/
def canApplied (old : RegMap) (s : State) (c : Ctrl) : State :=
  let p := canPage c
  let was := cb old p 0 0
  let differs := decide (rmGet old (regKey p 0) &&& 6 ≠ cfgWord s p 0 &&& 6) ||
    ([1, 2, 3] : List Nat).any fun o => decide (rmGet old (regKey p o) ≠ cfgWord s p o)
  if canEn s c then (if !was || differs then canStart s c else s)
  else if was && !(headOnBus s.can[c] || s.can[c].tail.isSome || s.can[c].onWs) then canUpd s c fun k => { k with state := 0 }
  else s

/-- A pending APPLY is refused by a rule on the mode that results (R397 step 1). -/
def applyRefuse (s : State) (r : ApplyRule) : State :=
  irq { s with app := { s.app with state := 4, reason := r.reason, infoPage := r.page, infoOff := r.off } } 3

/-- MEAS_3 is extended (R81). -/
def extendMeas (s : State) (old new : RegMap) : State :=
  let a := sha256 (changeBytes (regChanges (srPart old) (srPart new)))
  let m := (s.attest.meas.getD 3 []).flatMap beBytes
  { s with attest := { s.attest with meas := s.attest.meas.set 3 (sha256Words (m ++ a)), extCnt := satAdd 0xFFFFFFFF s.attest.extCnt 1 } }

/-- Every active value takes the copy's value (R397 step 2); `n` is the number of APPLYCYC. -/
def applyTake (s : State) (n : Nat) : State :=
  let old := s.regs
  let new := takeSr s.regs s.app.copy
  let s1 := extendMeas { s with regs := new } old new
  let s2 := discardShadows { s1 with app := { s1.app with state := 3, reason := 0, cyc := BitVec.ofNat 32 n } }
  let s3 := tsyncOff (if cf old 3 8 0 2 = timeSrc s2 then s2 else syncRestart s2)
  irq (ctrls2.foldl (canApplied old) (canTables (wdApplied old s3))) 3

/-- A pending APPLY whose 200 µs have passed takes effect, or is refused. -/
def applyStep (s : State) (n : Nat) : State :=
  if s.app.state = 2 ∧ s.app.endedAt + 200000 ≤ s.mono then
    match (modeRules s.regs s.app.copy s.md.mode).find? fun r => r.bad with
    | some r => applyRefuse s r
    | none => applyTake s n
  else s

/-! ## The cycle that begins -/

/-- A member, or a lane in its shadow, waits for its image; its watchdog is armed (R411). -/
def laneNew (s : State) (l : Lane) : State :=
  let x := s.lane[l]
  let s1 := updLane s l fun x => { x with frozen := 0, close := closeReset }
  if memberOf s l ∨ x.state = 6 then
    wdLaneT0 (updLane s1 l fun x => { x with run := .waiting, delivered := false, imgValid := false, trapped := false, lineReq := none }) l
  else s1

/-- Automatic reintegration of lanes excluded at this commit (R138, R144). -/
def autoReint (s : State) (l : Lane) : State :=
  let tries := cfgField s 4 2 0 4
  if reintAllowed s ∧ 0 < tries ∧ !s.lane[l].ownerExcl then reintStart s l 3 tries else s

/-- A journal cycle begins, or is skipped while the engine is busy (R88, R89). -/
def journalStep (s : State) : State :=
  let k := cfgField s 0 0x15 0 16
  let due := cfgBit s 0 0x15 16 && lanesRun s.md.mode && ((decide (0 < k) && decide (s.cyc.n % k = 0)) || s.jrn.now)
  let j := { s.jrn with now := false, members := if s.jrn.active then s.cyc.member else s.jrn.members }
  if !due then { s with jrn := j }
  else if j.active || j.writing.isSome then { s with jrn := { j with skip := satAdd 255 j.skip 1 } }
  else { s with jrn := { j with active := true, cycle := s.cyc.n, t0 := s.cyc.t0, cap := Vector.replicate 3 none, members := s.cyc.member } }

/-- The lane whose copies the dies set at this commit, and the one whose shadow cycle has just ended. -/
def adoptingLane (s : State) : Option Lane :=
  lanes3.find? fun l => (decide (s.lane[l].state = 6) || decide (s.cyc.finalPass = some l)) && decide (s.lane[l].shadowEnds = s.cyc.n + 2)

def shadowLane (s : State) : Option Lane :=
  lanes3.find? fun l => decide (s.lane[l].state = 6) && decide (s.lane[l].shadowEnds = s.cyc.n + 1)

def adoptStep (s : State) : State :=
  match adoptingLane s, donorChecker s with
  | some l, some (a, _) => dies5.foldl (adoptCopy a l) s
  | _, _ => s

/-! ## The commit -/

/-- The grid of the new cycle (R111, R191). -/
def setNext (s : State) : State :=
  { s with cyc := { s.cyc with
      period := cfgPeriod s
      nextT0 := gridNext (gridOrg s) (cfgPeriod s * 1000) (s.cyc.t0 + cfgPeriod s * 1000)
      closed := false, staged := 0, acting := actsIn s.md.mode } }

/-- Membership, mode and configuration of the cycle that begins; the second part are the lanes excluded. -/
def commitHead (s : State) : State × List Lane :=
  let x := if lanesRun s.md.mode then excess s.cyc.staged (guardNow s) else 0
  let s1 := newCycle s
  let s2 := { s1 with cyc := { s1.cyc with delivx := min 0xFFFFFFFF (max s1.cyc.delivx x), late := x }, own := { s1.own with hostLost := s1.own.lapsed } }
  let out := lanes3.filter (excluded s2)
  let s3 := lanes3.foldl shadowEnd (exclusions s2 out)
  let s4 := modeStep s3 s.cyc.member (decide (out ≠ []))
  (setNext (applyStep s4 s4.cyc.n), out)

/-- Permits of the commit (R18, R101). -/
def permitStep (s : State) : State := { s with permits := if s.cyc.acting then permitBits s else 0 }

/-- The data words of a push's first frame: the voted report words and the check word (R351). -/
def pushWords (s : State) : List Word :=
  let first := cfgField s 17 0x10 16 6
  let off := cfgField s 17 0x11 16 16
  let ws := (List.range (cfgField s 17 0x10 22 7)).map fun i => rmGet s.snap.out (0x200 + first + i)
  ws ++ [crc32c (natBe 1 (32 + cfgField s 17 0x11 0 5) ++ natBe 2 off ++ ws.flatMap beBytes)]

/-- An acting commit counts, sets IRQ source COMMIT, and is every PUSHK-th time the instant of a push; one that meets an unfinished push is dropped (R351, R404). Without its rail the port is inert and makes no push (R50, log entry 80). -/
def actCount (s : State) : State :=
  let n := s.cyc.acts + 1
  let s1 := irq { s with cyc := { s.cyc with acts := n } } 12
  let k := cfgField s 17 0x10 8 8
  if cfgBit s 17 0x10 0 ∧ s.vddio.getLsbD 3 ∧ 0 < k ∧ n % k = 0 then
    { s1 with peer := if s1.peer.busy.isSome then { s1.peer with drops := satAdd 255 s1.peer.drops 1 }
                      else { s1.peer with busy := some (pushWords s1) } }
  else s1

/-- What becomes of the votes of the cycle just ended; without a vote page 7 keeps its content (log entry 86). In mode `old` with the lanes `out` excluded now (R126, R129, R170). A vote needs two members, and a mode that has one. -/
def voteKind (s : State) (old : Mode) (out : List Lane) : VoteKind :=
  if lanesRun old && (s.md.mode = .prime || actsIn s.md.mode) && decide (2 ≤ memberCount s.cyc.member) then .voted
  else if actsIn old && decide (out.length = 3) && (s.lane.toList.all fun x => x.trapped) then .lost
  else .none

/-- The rest of a commit after `commitHead`: image, dies, CD, generation, and the lanes of the new cycle. `old`: the mode of the cycle just ended; `was`: the commit before acted. -/
def commitBody (s : State) (old : Mode) (was : Bool) (out : List Lane) (rb : BitVec 64) : State :=
  let kind := voteKind s old out
  let voted := decide (kind = .voted)
  let shadow := if voted then shadowLane s else none
  let s1 := freezeTaken (makeImage (loopPower s) rb)
  let s2 := dies5.foldl (dieCommit s.cyc.acting kind shadow) s1
  let s3 := if voted then cdVote s2 shadow else s2
  let s4 := publish (hubCommit (permitStep s3) was (lanesRun old))
  let s5 := adoptStep s4
  let s6 := lanes3.foldl laneNew (dies5.foldl dieAfter s5)
  let s7 := journalStep (out.foldl autoReint s6)
  if s7.cyc.acting then actCount s7 else s7

/-- HOLD to QUIET by row 5: no cycle begins, and a due APPLY takes effect in QUIET (R102, R108, R397). -/
def quietEntry (s : State) : State :=
  let s1 := timeTo s s.cyc.nextT0
  let s2 := setMode { s1 with md := { s1.md with cmd := none, start := false }, own := { s1.own with hostLost := s1.own.lapsed } } .quiet 5
  let s3 := applyStep s2 (nextCycle s2)
  let s4 := if s2.app.state = 2 ∧ s3.app.state = 3 then
      (dies5.filter fun d => hasCommit s3 d && !s3.die[d].firstCommit).foldl takeSettings s3
    else s3
  wakeAtEntry (loopPower s4)

/-- Row 4 is taken at this T0. -/
def row4Now (s : State) : Bool := s.md.row4.isSome && primeReady s

/-- T0(n+1). `rb`: OUTPUT_RB terminals above VBB / 2 at the freeze, by channel (R214). -/
def commit (s : State) (rb : BitVec 64) : State :=
  let s0 := voteClose s
  if s0.md.mode = .hold ∧ s0.md.cmd = some .quiet ∧ !row4Now s0 then quietEntry s0
  else
    let q := commitHead s0
    commitBody q.1 s0.md.mode s0.cyc.acting q.2 rb

/-- COMMIT. -/
def execCommit (rb : BitVec 64) (s : State) : Out := .next (if s.cyc.running then commit s rb else s)

/-- PRIME_TIMEOUT: the commit at which PRIME has lasted PRIME_TMO cycles (R100). -/
def execPrimeTimeout (rb : BitVec 64) (s : State) : Out :=
  .next (
    if s.cyc.running ∧ s.md.mode = .prime ∧ primeTmo s ≠ 0 ∧ primeTmo s ≤ s.md.primeLasted + 1 then commit s rb else s)

end Sys2Proof.Machine
end

