-- ==== Sys2Proof/Machine/Events.lean ====
section
/-!
DEFINITION. The events of an isolated die (R113): what it tells of, and when it stamps a change.
-/

namespace Sys2Proof.Machine

/-- What a die's events tell: the records of its channels without AGE, which counts frames, and its supply and temperature; for LD the loop records and its temperature. -/
def dieContent (s : State) (d : Die) : List Byte :=
  match asField d with
  | some f =>
    let rb := BitVec.ofNat 64 (leAt s.cyc.image 0x20 8)
    (chans16.flatMap fun k => (chanBytes s rb (f, k)).take 14) ++ natLe 4 (codeOf 32 (fld s f).vbb) ++ natLe 2 (codeOf 16 (fld s f).tsub)
  | none => (chans16.flatMap (loopBytes s)) ++ natLe 2 (codeOf 16 s.ld.temp)

/-- The die stamps a change at `t`: the next number, and nothing left to tell. -/
def stampEvent (s : State) (d : Die) (t : Nat) : State :=
  let c := dieContent s d
  updDie s d fun x => { x with evSeq := x.evSeq + 1, evAt := stampOf t, told := c }

/-- INPUT_EVENT_FRAME: at die time `t` the die stamps what has changed since its last event, and sends it; stamps do not go back. -/
def execInputEventFrame (d : Die) (t : Nat) (s : State) : Out :=
  .next (
    if ready s d && dieContent s d != s.die[d].told then
      let s1 := dieTimeTo s d t
      stampEvent s1 d (max s1.die[d].evAt (dieTime s1 d))
    else s)

/-- A LEVEL that was valid before changes; taking a first value is no change (R256). -/
def levelChanged (s s1 : State) (d : FDie) : Bool := chans16.any fun k => (chan s d k).valid && (chan s d k).level1 != (chan s1 d k).level1

/-- INPUT_SAMPLE: the next sample instant of the die, with the loaded terminal voltages and, for a running test, the comparators that do not answer what they read; a change of a LEVEL is an event stamped with that instant (R252, R256). -/
def execInputSample (d : FDie) (mV : List Nat) (s : State) (dead : BitVec 16 := 0) : Out :=
  .next (
    if !powered s (toDie d) || s.die[toDie d].fresh then s
    else
      let s1 := takeSample d mV dead s
      if levelChanged s s1 d then stampEvent s1 (toDie d) (nextSample s d) else s1)

end Sys2Proof.Machine
end

