-- ==== Sys2Proof/Machine/Journal.lean ====
section
/-!
DEFINITION. The retain journal engine (R87 to R89, Table 3.9) and the confirmation of a trial bank (R76).
-/

namespace Sys2Proof.Machine

/-! ## Captures (R88) -/

/-- The captures of the lanes in the vote. -/
def captures (s : State) : List (List Byte) := (lanes3.filter fun l => s.jrn.members.getLsbD l.val).filterMap fun l => s.jrn.cap[l]

/-- Other members' captures with the same CRC-32C. -/
def sameCopies (l : List (List Byte)) (c : List Byte) : Nat := (l.filter fun x => crc32c x == crc32c c).length

/-- The copy to journal: of three, one that another matches; of two, both match. -/
def goodCapture (s : State) : Option (List Byte) := (captures s).find? fun c => decide (2 ≤ sameCopies (captures s) c)

/-- The slot that does not hold the newest valid record; slot 0 when there is none. -/
def freeSlot (s : State) : Bool := match retainNewest s with | some r => !r.slot | none => false

/-- Bytes of a record (Table 3.9). -/
def retainRecord (s : State) (data : List Byte) : List Byte :=
  let gen := match retainNewest s with | some r => nextNum r.gen | none => 1
  let head := natBe 4 0x524A4E4C ++ natBe 4 gen ++ natBe 8 s.jrn.cycle ++ natBe 8 s.jrn.t0 ++ natBe 4 s.boot.retainId.toNat ++
    natBe 4 data.length ++ List.replicate 32 0#8
  let body := head ++ data
  body ++ beBytes (crc32c body)

/-- The slot's region, when it holds a record of `n` payload bytes. -/
def slotRegion (s : State) (slot : Bool) (n : Nat) : Option DirEntry :=
  (dirEntryOf s (if slot then 0x31 else 0x30)).filter fun e => decide (68 + n ≤ e.len)

/-- The write of a record begins on the slot's select. -/
def journalBegin (s : State) (data : List Byte) : State :=
  let slot := freeSlot s
  match slotRegion s slot data.length with
  | none => s
  | some e => mpAsk { s with jrn := { s.jrn with writing := some (slot, retainRecord s data) } } (selOf e.base) 2 .erase

/-- JOURNAL_CAPTURE_DONE: the captures of the journal cycle are compared after its end; without a matching copy nothing is written, and JRN_DISAGREE is recorded. -/
def execJournalCaptureDone (s : State) : Out :=
  .next (
    if !s.jrn.active || (s.cyc.running && decide (s.cyc.n = s.jrn.cycle)) then s
    else
      let s1 := { s with jrn := { s.jrn with active := false, cap := Vector.replicate 3 none } }
      match goodCapture s with
      | some c => journalBegin s1 c
      | none => ledger { s1 with jrn := { s1.jrn with disagree := true } } 14 0 0 (s.jrn.cycle % 2 ^ 32))

/-! ## The write (R89) -/

/-- The newest valid record as JRNSTAT and JRNGEN show it. -/
def journalShow (s : State) : State :=
  match retainNewest s with
  | some r => { s with jrn := { s.jrn with slot := r.slot, gen := r.gen } }
  | none => { s with jrn := { s.jrn with gen := 0 } }

/-- JOURNAL_WRITE_DONE: the slot was erased and written; a failed write leaves it without a valid record. -/
def execJournalWriteDone (ok : Bool) (s0 : State) : Out :=
  .next (
    match s0.jrn.writing with
    | none => s0
    | some (slot, bs) =>
      let type := if slot then 0x31 else 0x30
      let s := mpServe s0 (regionSel s0 type)
      match dirEntryOf s type with
      | none => mpDrop { s with jrn := { s.jrn with writing := none } } 2
      | some e =>
        if !mpRuns s (selOf e.base) 2 then s
        else
          let s1 := storeErase { s with jrn := { s.jrn with writing := none } } e.base (e.base + e.len)
          mpFinish (if ok then journalShow (storePut s1 e.base bs) else mpCount s1 false) (selOf e.base))

/-- JRNCTL's effect (R88). -/
def jrnctlWrite (s : State) (w : Word) : State := if bitOf w 0 then { s with jrn := { s.jrn with now := true } } else s

/-- JRNSTAT. -/
def jrnstatWord (s : State) : Word :=
  placeB 0 s.jrn.writing.isSome ||| placeB 1 s.jrn.slot ||| placeB 2 s.jrn.disagree ||| place 8 s.jrn.skip

/-- A write of JRNSTAT clears DISAGREE. -/
def jrnstatWrite (s : State) (w : Word) : State := if bitOf w 2 then { s with jrn := { s.jrn with disagree := false } } else s

/-! ## CONFIRM (R76) -/

def confirmAct (p : Port) : ActSt := { kind := 4, port := p.val, index := 0, mask := 0, lo := 0, hi := 0, dir := true }

/-- BOOTCTL's check: during a trial, CONFIRM asks the arbiter. -/
def bootctlCheck (s : State) (p : Port) (w : Word) : Nat := if bitOf w 0 && s.boot.trial then mntStatus s (confirmAct p) else 0

/-- BOOTCTL's effect: the directory write starts; without a trial there is no action. -/
def bootctlWrite (s : State) (p : Port) (w : Word) : State :=
  if bitOf w 0 && s.boot.trial then mpAsk (mntStart { s with boot := { s.boot with confirming := true } } (confirmAct p)) 0 4 .program else s

/-- CONFIRM_WRITE_DONE: a new generation names the running bank ACTIVE, with no tries; a failed write keeps TRIAL. -/
def execConfirmWriteDone (ok : Bool) (s0 : State) : Out :=
  .next (
    let s := mpServe s0 0
    if !s.boot.confirming || !mpRuns s 0 4 then s
    else
      let s1 := { s with boot := { s.boot with confirming := false, trial := s.boot.trial && !ok } }
      let s2 := if ok then dirWrite s1 (if s.boot.bank then 1 else 0) 0 (dirNow s).2.2 else mpCount s1 false
      mpFinish (mntEndOf s2 4 0 (if ok then endPass else endFail)) 0)

end Sys2Proof.Machine
end

