-- ==== Sys2Proof/Machine/Ecdsa.lean ====
section
/-!
DEFINITION. ECDSA over P-256 as FIPS 186-4 gives it (R9, R82, R84): the curve, the part's key pair, and the signature of a digest.
-/

namespace Sys2Proof.Machine

/-- The field's prime, the order of the base point, the curve's coefficient b (a is −3), and the base point. -/
def curveP : Nat := 2 ^ 256 - 2 ^ 224 + 2 ^ 192 + 2 ^ 96 - 1
def curveN : Nat := 0xFFFFFFFF00000000FFFFFFFFFFFFFFFFBCE6FAADA7179E84F3B9CAC2FC632551
def curveB : Nat := 0x5AC635D8AA3A93E7B3EBBD55769886BC651D06B0CC53B0F63BCE3C3E27D2604B
def curveG : Nat × Nat :=
  (0x6B17D1F2E12C4247F8BCE6E563A440F277037D812DEB33A0F4A13945D898C296,
   0x4FE342E2FE1A7F9B8EE7EB4A7C0F9E162BCE33576B315ECECBB6406837BF51F5)

/-- `b` to the low `n` bits of `e`, modulo `m`. -/
def powMod (m b e : Nat) : Nat → Nat
  | 0 => 1 % m
  | n + 1 => let h := powMod m b (e / 2) n; h * h % m * (if e % 2 = 1 then b % m else 1) % m

/-- The inverse modulo a prime. -/
def invMod (m x : Nat) : Nat := powMod m x (m - 2) 256

/-- A point of the curve; none is the point at infinity. -/
abbrev CurvePoint := Option (Nat × Nat)

/-- The point whose coordinates the slope `k` through (x, y) and a point with abscissa `x2` gives. -/
def curveThird (k x y x2 : Nat) : CurvePoint :=
  let x3 := (k * k + 2 * curveP - x - x2) % curveP
  some (x3, (k * (x + curveP - x3) + curveP - y) % curveP)

/-- The group operation. -/
def curveAdd : CurvePoint → CurvePoint → CurvePoint
  | none, q => q
  | p, none => p
  | some (x1, y1), some (x2, y2) =>
    if x1 = x2 then
      if (y1 + y2) % curveP = 0 then none
      else curveThird (3 * (x1 * x1 + curveP - 1) % curveP * invMod curveP (2 * y1) % curveP) x1 y1 x1
    else curveThird ((y2 + curveP - y1) * invMod curveP (x2 + curveP - x1) % curveP) x1 y1 x2

/-- The multiple of a point by the low `n` bits of `e`. -/
def curveMul (p : CurvePoint) (e : Nat) : Nat → CurvePoint
  | 0 => none
  | n + 1 => let h := curveMul p (e / 2) n; let d := curveAdd h h; if e % 2 = 1 then curveAdd d p else d

/-- A number from 1 to the order less 1. -/
def curveScalar (x : Nat) : Nat := 1 + x % (curveN - 1)

/-- The multiple of the base point. -/
def curveBase (k : Nat) : Nat × Nat := (curveMul (some curveG) k 256).getD (0, 0)

/-- The part's private key (R82). -/
def privKey : Nat := curveScalar Config.privateKey

/-- PUBKEY: X and Y of the public key. -/
def pubKey : List Byte := natBe 32 (curveBase privKey).1 ++ natBe 32 (curveBase privKey).2

/-- r and s for the digest `z` under the key `d` with the secret `k`. -/
def ecdsaSign (d k z : Nat) : Nat × Nat :=
  let r := (curveBase k).1 % curveN
  (r, invMod curveN k * ((z + r * d) % curveN) % curveN)

/-- The signature with the first secret that leaves neither r nor s zero, of at most `n + 1` drawn from the random generator's values from number `c` on; and the number of the next value. -/
def ecdsaDraw (d z : Nat) : Nat → Nat → (Nat × Nat) × Nat
  | 0, c => (ecdsaSign d (curveScalar (Config.freeValue c)) z, c + 1)
  | n + 1, c =>
    let x := ecdsaSign d (curveScalar (Config.freeValue c)) z
    if x.1 = 0 ∨ x.2 = 0 then ecdsaDraw d z n (c + 1) else (x, c + 1)

/-- The signature of a message's SHA-256 digest as 64 bytes, r and then s, with secrets from number `c` on. -/
def signature (c : Nat) (msg : List Byte) : List Byte × Nat :=
  let x := ecdsaDraw privKey (beNat (sha256 msg)) 3 c
  (natBe 32 x.1.1 ++ natBe 32 x.1.2, x.2)

/-- Verification (FIPS 186-4): r and s in range, and the abscissa that the digest, the signature and the public key give is r. -/
def ecdsaVerify (q : Nat × Nat) (z r s : Nat) : Bool :=
  let w := invMod curveN s
  let u := curveAdd (curveMul (some curveG) (z * w % curveN) 256) (curveMul (some q) (r * w % curveN) 256)
  decide (0 < r ∧ r < curveN ∧ 0 < s ∧ s < curveN) && (match u with | some (x, _) => decide (x % curveN = r) | none => false)

end Sys2Proof.Machine
end

