-- ==== Sys2Proof/Machine/LedgerPage.lean ====
section
/-!
DEFINITION. The ledger's clears, journal and page (R417 to R421, page 2).
-/

namespace Sys2Proof.Machine

/-- A record that is not an event: CLEAR (2) or BOOT (3), with code 0 (Table 15.3). -/
def ledOther (s : State) (type src arg : Nat) : State :=
  { s with led := ledRecord s.led { type := type, supp := 0, seq := 0, time := s.time, cycle := ledCycle s, code := 0,
                                    src := src, arg := arg % 2 ^ 32 } }

/-- A write of 1 clears set bits of LEDGER_r and makes one CLEAR record when it changes the register (R417). -/
def ledClear (s : State) (p : Port) (r : Nat) (w : Word) : State :=
  let old := vget s.led.bits r 0
  let hit := old &&& w
  if hit = 0 then s
  else ledOther { s with led := { s.led with bits := vset s.led.bits r (old &&& ~~~w) } } 2 (ledSrc 9 (4 * p.val + r)) hit.toNat

/-- The ledger journal region when it is usable: base and length (R420). -/
def journalRegion (s : State) : Option (Nat × Nat) :=
  match dirEntryOf s 0x40 with
  | some e =>
    let u := eraseUnit s (selOf e.base)
    if e.len % u = 0 ∧ 2 * u ≤ e.len then some (e.base, e.len) else none
  | none => none

/-- A record of the journal, when MAGIC and CRC are correct (R420). -/
def journalRec (m : Memory) (a : Nat) : Option LedRec :=
  if beAt m a 2 = 0x4C47 ∧ beAt m (a + 0x1C) 4 = (crc32c (memTake 0xFF m a 0x1C)).toNat then
    some { type := beAt m (a + 2) 1, supp := beAt m (a + 3) 1, seq := beAt m (a + 4) 4, time := beAt m (a + 8) 8,
           cycle := beAt m (a + 0x10) 4, code := beAt m (a + 0x14) 2, src := beAt m (a + 0x16) 2, arg := beAt m (a + 0x18) 4 }
  else none

/-- The valid records of the journal with their positions. -/
def journalRecs (s : State) : List (Nat × LedRec) :=
  match journalRegion s with
  | some (b, n) => (List.range (n / 32)).filterMap fun i => (journalRec s.store (b + 32 * i)).map fun r => (32 * i, r)
  | none => []

/-- The newest of two by SEQ (R421). -/
def newestRec : List (Nat × LedRec) → Option (Nat × LedRec)
  | [] => none
  | e :: r => match newestRec r with
    | none => some e
    | some f => if newerGen f.2.seq e.2.seq then some f else some e

/-- The sticky bit of a code as the journal gives it: some EVENT record is newer than every CLEAR that cleared the bit (R421). -/
def journalBit (rs : List LedRec) (c : Nat) : Bool :=
  rs.any fun e => decide (e.type = 1) && decide (e.code = c) &&
    !(rs.any fun r => decide (r.type = 2) && decide (r.src % 4 = c / 32) && (BitVec.ofNat 32 r.arg).getLsbD (c % 32) && newerGen r.seq e.seq)

/-- The four sticky words from the journal. -/
def journalBits (rs : List LedRec) (r : Nat) : Word :=
  (List.range 32).foldl (fun w b => if journalBit rs (32 * r + b) then w ||| place b 1 else w) 0

/-- Events in stamp order; equal stamps keep their order. -/
def insertStamp (x : LedRec) : List LedRec → List LedRec
  | [] => [x]
  | y :: r => if x.time < y.time then x :: y :: r else y :: insertStamp x r

def sortStamp (l : List LedRec) : List LedRec := l.foldl (fun acc x => insertStamp x acc) []

/-- The word of RSTCAUSE. -/
def rstcauseWord (s : State) : Word := place 0 s.boot.cause.toNat ||| place 16 s.boot.bootCnt

/-- JREADY: the newest journal record is located, a BOOT record follows the newest of ring and journal, and the queued events follow in stamp order; after a POR the sticky bits are rebuilt (R421). -/
def execJready (s : State) : Out :=
  .next (
    if s.led.jready ∨ s.boot.phase ≠ 9 then s
    else
      let js := journalRecs s
      let nj := newestRec js
      let nr := s.led.ring.head?
      let num := match nj, nr with
        | none, none => 0
        | some j, none => j.2.seq
        | none, some r => r.seq
        | some j, some r => if newerGen j.2.seq r.seq then j.2.seq else r.seq
      let bits := if s.boot.sources.getLsbD 0 then Vector.ofFn fun r : Fin 4 => vget s.led.bits r.val 0 ||| journalBits (js.map fun e => e.2) r.val
        else s.led.bits
      let l0 := { s.led with
        bits := bits
        seq := num
        jseq := match nj with | some j => j.2.seq | none => s.led.jseq
        jen := (journalRegion s).isSome
        jready := true
        pos := match nj with | some j => j.1 + 32 | none => 0
        queue := [] }
      let s1 := ledOther { s with led := l0 } 3 0 (rstcauseWord s).toNat
      (sortStamp s.led.queue).foldl (fun t r => { t with led := ledPush t.led r }) s1)

/-- A pending record is written at the next position; a unit is erased before its first record (R420). A write that fails leaves the record pending. -/
def execLedgerJournalWrite (ok : Bool) (s0 : State) : Out :=
  .next (
    let sel := regionSel s0 0x40
    let s := mpServe s0 sel
    match s.led.pend, journalRegion s with
    | r :: rest, some (b, n) =>
      if !mpRuns s sel 3 then s
      else
        let u := eraseUnit s (selOf b)
        let pos := s.led.pos % n
        let s1 := if pos % u = 0 then storeErase s (b + pos) (b + pos + u) else s
        if ok then
          let s2 := storePut s1 (b + pos) (ledBytes r)
          mpFinish { s2 with led := { s2.led with pend := rest, jseq := r.seq, pos := pos + 32 } } sel
        else mpFinish (mpCount s1 false) sel
    | _, _ => s)

/-- Word `w` of the ring slot. -/
def ringWord (s : State) (i : Nat) : Word :=
  match s.led.ring.find? fun r => decide (r.seq % 256 = i / 8) with
  | some r => BitVec.ofNat 32 (beNat (((ledBytes r).drop (4 * (i % 8))).take 4))
  | none => 0

/-- Page 2 as read. -/
def readLedger (s : State) (off : Nat) : Word :=
  match off with
  | 4 => BitVec.ofNat 32 s.led.seq
  | 5 => BitVec.ofNat 32 s.led.jseq
  | 6 => placeB 0 s.led.jen ||| placeB 1 s.led.jready ||| placeB 2 (s.mp.op.toList.any fun o => match o with | some o => decide (o.owner = 3) | none => false) ||| place 8 s.led.jlost ||| place 16 s.led.pend.length
  | _ =>
    if off < 4 then vget s.led.bits off 0
    else if 0x80 ≤ off ∧ off < 0x100 then BitVec.ofNat 32 (amGet 0 s.led.cnt (off - 0x80))
    else if 0x800 ≤ off ∧ off < 0x1000 then ringWord s (off - 0x800)
    else cfgWord s 2 off

/-! ## Measurements and quotes as read (page 20) -/

def readAttest (s : State) (off : Nat) : Word :=
  if off < 0x20 then (s.attest.meas.getD (off / 8) []).getD (off % 8) 0
  else if off = 0x20 then place 0 s.attest.valid.toNat
  else if off = 0x21 then BitVec.ofNat 32 s.attest.extCnt
  else if 0x22 ≤ off ∧ off < 0x25 then place 0 (vget s.attest.qstate (off - 0x22) 0)
  else if 0x30 ≤ off ∧ off < 0x40 then (wordsBe pubKey).getD (off - 0x30) 0
  else if 0x40 ≤ off ∧ off < 0x42 then (wordsBe Config.devId).getD (off - 0x40) 0
  else if 0x100 ≤ off ∧ off < 0x144 then (vget s.attest.qbuf 0 []).getD (off - 0x100) 0
  else if 0x180 ≤ off ∧ off < 0x1C4 then (vget s.attest.qbuf 1 []).getD (off - 0x180) 0
  else if 0x200 ≤ off ∧ off < 0x244 then (vget s.attest.qbuf 2 []).getD (off - 0x200) 0
  else 0

/-- IDENT (page 0, offset 0): part 0x6416, revision 0xB0, grade (R1, R2). -/
def identWord : Word := place 16 0x6416 ||| place 8 0xB0 ||| place 4 (if Config.grade then 2 else 1)

/-- The word of BOOTSTAT. -/
def bootstatWord (s : State) : Word :=
  place 0 s.boot.sel.toNat ||| placeB 2 s.boot.bank ||| placeB 3 s.boot.trial ||| placeB 4 s.boot.fallback |||
    placeB 5 s.boot.recovery ||| placeB 6 s.boot.warm ||| place 8 s.boot.warmFail ||| place 16 s.boot.err

/-- The first 0xD0 bytes of a quote (Table 3.8), from the measurements as they stand. -/
def quoteBody (s : State) (nonce : List Word) : List Byte :=
  let m (k : Nat) := ((List.range 8).map fun j => beBytes ((s.attest.meas.getD k []).getD j 0)).flatten
  natBe 4 0x51540001 ++ natBe 4 272 ++ (Config.devId ++ List.replicate 8 0#8).take 8 ++ beBytes identWord ++ beBytes (rstcauseWord s) ++
    beBytes (bootstatWord s) ++ natBe 4 s.attest.extCnt ++ natBe 8 s.cyc.n ++ natBe 8 s.cyc.t0 ++ m 0 ++ m 1 ++ m 2 ++ m 3 ++
    (nonce.map beBytes).flatten

/-- The engine starts the next waiting quote (R84). -/
def quoteNext (s : State) : State :=
  match s.attest.active, s.attest.waiting with
  | none, (p, nonce) :: r => { s with attest := { s.attest with active := some (p, quoteBody s nonce), waiting := r } }
  | _, _ => s

/-- An accepted QUOTE: its port is busy, its buffer reads zero, and it waits in order of arrival (R83, R84). -/
def quoteStart (s : State) (p : Port) (nonce : List Word) : State :=
  quoteNext { s with attest := { s.attest with
    qstate := s.attest.qstate.set p 1, qbuf := s.attest.qbuf.set p [], waiting := s.attest.waiting ++ [(p, nonce)] } }

/-- QUOTE_COMPLETE: the quote with its signature over SHA-256 of bytes 0x00 to 0xCF stands in QBUF_p, or the random generator failed and QUOTE_FAIL is recorded; IRQ source QUOTE of that port (R84, R404). The per-signature secret is a free value. -/
def execQuoteComplete (ok : Bool) (s : State) : Out :=
  .next (
    match s.attest.active with
    | none => s
    | some (p, body) =>
      let sig := signature s.freeCtr body
      let s1 := { s with freeCtr := sig.2, attest := { s.attest with
        active := none
        qstate := s.attest.qstate.set p (if ok then 2 else 3)
        qbuf := if ok then s.attest.qbuf.set p (wordsBe (body ++ sig.1)) else s.attest.qbuf } }
      let s2 := if ok then s1 else ledger s1 18 9 p.val 0
      quoteNext (irqQuote s2 p))

end Sys2Proof.Machine
end

