-- ==== Sys2Proof/Machine/Links.lean ====
section
/-!
DEFINITION. The links across the barrier and the events around them (R16 to R21, R33, R113, R117, R185, R190, R269, R414, R50, R52).
-/

namespace Sys2Proof.Machine

/-! ## One link's receiver (R16) -/

/-- The link as its receiver sees it, after a CRC-valid frame: a lost link is restored by the third in a row. -/
def linkGood (x : LinkSt) : LinkSt :=
  if x.up then x else if 2 ≤ x.good then { up := true, good := 0 } else { x with good := x.good + 1 }

/-- After a frame whose CRC fails: it does not count towards the three, and they start afresh, since no frame may come between them (R16, log entry 33). -/
def linkBad (x : LinkSt) : LinkSt := { x with good := 0 }

def linkDownSt : LinkSt := { up := false, good := 0 }

/-- The die of a link. -/
def linkDie : Link → Die
  | .down _ d => d
  | .up _ d => d
  | .time d => d

/-- The receiver of a link. -/
def linkOf (s : State) : Link → LinkSt
  | .down l d => s.die[d].down[l]
  | .up l d => s.die[d].up[l]
  | .time d => s.die[d].time

/-- A link's receiver changed. -/
def updLink (s : State) (k : Link) (f : LinkSt → LinkSt) : State :=
  match k with
  | .down l d => updDie s d fun x => { x with down := vmod x.down l f }
  | .up l d => updDie s d fun x => { x with up := vmod x.up l f }
  | .time d => updDie s d fun x => { x with time := f x.time }

/-- The events after number `seq` up to `last` did not come to a slice that lacks those from `lost` on already (R113). -/
def eventsLost (lost : Option Nat) (seq last : Nat) : Option Nat := if seq < last then some (lost.getD (seq + 1)) else lost

/-- The slice of lane `l` has no more to come of the events that die `d` has sent; those that did not come are lost to it. -/
def missEvents (s : State) (l : Lane) (d : Die) : State :=
  let n := s.die[d].evSeq
  updLane s l fun y => { y with evLost := y.evLost.set d (eventsLost y.evLost[d] y.evSeq[d] n), evSeq := y.evSeq.set d (max n y.evSeq[d]) }

/-- What a restored link ends: LINK at the die (R269), the silence of its uplinks (R414), its holdover (R20). The events of an uplink's outage are lost to its slice. -/
def linkRestored (s : State) : Link → State
  | .down _ d => updDie s d fun x => { x with linkDown := false }
  | .up l d => missEvents (sendKept s d) l d
  | .time d => updDie s d fun x => { x with holdover := false }

/-! ## What frames carry -/

/-- Entries of a close transfer as the die receives them: LD gets F0's SAMPLE entries with a loop mask (R200). -/
def closeMan (c : CloseData) (d : Die) : List (List Byte) :=
  if d = 4 then (c.man.getD 0 []).filter fun b => decide ((entryOf b).action = 7) && decide ((entryOf b).arg % 65536 ≠ 0)
  else c.man.getD d.val []

/-- The changed records written into a die's copy of the lane. -/
def closeCopy (d : Die) (m : Memory) : List (Nat × List Byte) → Memory
  | [] => m
  | r :: rs => closeCopy d (if r.1 / 16 = d.val then memPut 0 m (16 * (r.1 % 16)) r.2 else m) rs

/-- The close transfer of lane `l` arrives at die `d` (R117, R128): it counts when the record-set CRC of the copy matches (R126). -/
def takeClose (s : State) (l : Lane) (d : Die) : State :=
  let c := s.lane[l].close
  if !c.present || decide (s.md.mode = .limp) || s.die[d].closeRx.getLsbD l.val then s
  else
    let m := closeCopy d s.die[d].copy[l] c.recs
    let ok := decide (d = 4) || decide (crc32c (memTake 0 m 0 256) = c.crcs.getD d.val 0)
    updDie s d fun x =>
      { x with
        copy := x.copy.set l m
        manRx := x.manRx.set l (closeMan c d)
        closeRx := if ok then x.closeRx ||| bit3 l else x.closeRx }

/-- The lanes that a die reports, learned by CD: minorities (cause 4), close failures (cause 5) and shadow differences (R135, R141). -/
def takeReports (s : State) (d : Die) : State :=
  let x := s.die[d]
  lanes3.foldl (fun s k =>
    let s1 := if x.repMinority.getLsbD k.val then learnCause s k 4 else s
    let s2 := if x.repClose.getLsbD k.val then learnCause s1 k 5 else s1
    if x.repShadow.getLsbD k.val then updLane s2 k fun y => { y with shadowDiff := true } else s2) s

/-- The freeze frame of die `d` arrives at the slice of lane `l` (R113). -/
def takeFreeze (s : State) (l : Lane) (d : Die) : State :=
  takeReports (updLane s l fun y => { y with frozen := y.frozen ||| bit5 d }) d

/-- An event frame of the die arrives at the slice: the next one in stamp order (R113). -/
def takeEvent (s : State) (l : Lane) (d : Die) : State :=
  updLane s l fun y => { y with evSeq := y.evSeq.set d (min s.die[d].evSeq (y.evSeq[d] + 1)) }

/-- The next event frame of the die fails its CRC: the slice lacks that event (R113, log entry 67). -/
def spoilEvent (s : State) (l : Lane) (d : Die) : State :=
  if s.lane[l].evSeq[d] < s.die[d].evSeq then
    updLane s l fun y =>
      { y with evLost := y.evLost.set d (some (y.evLost[d].getD (y.evSeq[d] + 1))), evSeq := y.evSeq.set d (y.evSeq[d] + 1) }
  else s

/-- A valid frame on a link that is up is taken. -/
def takeFrame (s : State) (k : Link) (kind : FrameKind) : State :=
  match k, kind with
  | .down l d, .close => takeClose s l d
  | .up l d, .freeze => takeFreeze s l d
  | .up l d, .event => takeEvent s l d
  | _, _ => s

/-- What a discarded frame takes with it. -/
def spoilFrame (s : State) (k : Link) (kind : FrameKind) : State :=
  match k, kind with
  | .up l d, .event => if (linkOf s k).up then spoilEvent s l d else s
  | _, _ => s

/-- A frame arrives whole: discarded and counted when its CRC fails, else supervised and, on a link that was up, taken. -/
def linkFrame (s : State) (k : Link) (crcOk : Bool) (kind : FrameKind) : State :=
  if !ready s (linkDie k) then s
  else if !crcOk then
    updDie (updLink (spoilFrame s k kind) k linkBad) (linkDie k) fun x => { x with linkErr := x.linkErr + 1 }
  else
    let was := (linkOf s k).up
    let s1 := updLink s k linkGood
    if was then takeFrame s1 k kind
    else if (linkOf s1 k).up then linkRestored s1 k
    else s1

/-- LINK_FRAME_RX. -/
def execLinkFrameRx (k : Link) (crcOk : Bool) (kind : FrameKind) (s : State) : Out := .next (linkFrame s k crcOk kind)

/-- IDLE_FRAME: a frame that carries nothing. -/
def execIdleFrame (k : Link) (crcOk : Bool) (s : State) : Out := .next (linkFrame s k crcOk .idle)

/-! ## Loss (R16, R17, R20, R269) -/

/-- LINK begins at a field die: the cause on every governing channel, its manifest store emptied, a link loss counted (R205, R269). -/
def fieldLink (s : State) (d : FDie) : State :=
  let s1 := updField s d fun f => { f with losses := satAdd 255 f.losses 1, pend := [] }
  let s2 := chans16.foldl (fun s k => if isGov s d k.val then setCauses s d k 0 (causeBit 1) else s) s1
  settle s2 d

/-- The third downlink of a die is lost: LINK with its ledger event, and its tests end (R269, R424). -/
def dieLink (s : State) (d : Die) : State :=
  let s1 := dieLedger (updDie s d fun x => { x with linkDown := true }) d 36 0 0
  let s2 := match asField d with
    | some f => fieldLink s1 f
    | none => ldDiscard s1
  abortOnDie s2 d

/-- A receiver declares its link lost. -/
def loseLink (s : State) (k : Link) : State :=
  let s1 := updLink s k fun _ => linkDownSt
  match k with
  | .down l d =>
    let s2 := learnCause s1 l 6
    if (s2.die[d].down.toList.all fun x => !x.up) && !s2.die[d].linkDown then dieLink s2 d else s2
  | .up l _ => learnCause s1 l 6
  | .time d => dieLedger (updDie s1 d fun x => { x with holdover := true, offset := curOffset s d, corrFrom := none }) d 7 0 0

/-- LINK_LOST: no CRC-valid frame for 32 µs. -/
def execLinkLost (k : Link) (s : State) : Out :=
  .next (if ready s (linkDie k) && (linkOf s k).up then loseLink s k else s)

/-! ## Time of a die (R19, R190) -/

/-- A die takes a time frame. The first one after it ran without its link's time shows its offset `offset`, die time minus link time; from then on the die corrects it. Beyond 100 µs it steps, within 10 ns it is locked (R190). -/
def dieLock (s : State) (d : Die) (offset : Int) : State :=
  let x := s.die[d]
  let o := if x.corrFrom.isNone then offset else curOffset s d
  if 100000 < o.natAbs then
    dieLedger (updDie s d fun x => { x with offset := 0, corrFrom := some s.mono, lock := true }) d 6 0 (codeOf 32 (satInt 32 (-o)))
  else if x.corrFrom.isNone then
    updDie s d fun x => { x with offset := o, corrFrom := some s.mono, lock := decide (o.natAbs ≤ 10) }
  else updDie s d fun x => { x with lock := x.lock || decide (o.natAbs ≤ 10) }

/-- TIME_FRAME: the dies follow the time link once the time master has adopted its time (R91). -/
def execTimeFrame (d : Die) (crcOk : Bool) (offset : Int) (s : State) : Out :=
  .next (
    let was := s.die[d].time.up
    let s1 := linkFrame s (.time d) crcOk .idle
    if ready s d && crcOk && was && decide (s.boot.phase = 9) then dieLock s1 d offset else s1)

/-! ## Barrier power (R21) -/

/-- A channel that switches under a generator or a duty command, or that limits (R21). -/
def mayStop (s : State) (d : FDie) (k : Chan) : Bool :=
  isGov s d k.val && ((chan s d k).limit || match drivingCmd s d k with
    | some c => c.act = 2 || c.act = 3
    | none => false)

/-- Which of them stand still during the transfer is a free value; one that does keeps its switch as it is (R21, log entry 77). -/
def transferStops (s : State) (d : Die) : State :=
  match asField d with
  | some f =>
    let stop := (BitVec.ofNat 16 (freeNat s)) &&& (chans16.foldl (fun m k => if mayStop s f k then m ||| BitVec.ofNat 16 (2 ^ k.val) else m) 0)
    updField (useFree s) f fun x => { x with stopped := stop }
  | none => s

/-- TRANSFORMER_FAIL: recorded; the survivor carries the die, and without one the die is in its reset state. -/
def execTransformerFail (d : Die) (t : Fin 2) (s : State) : Out :=
  .next (
    if !powered s d || !s.die[d].pt.getLsbD t.val then s
    else
      let s1 := updDie s d fun x => { x with pt := x.pt &&& ~~~(BitVec.ofNat 2 (2 ^ t.val)) }
      let s2 := ledger s1 11 (d.val + 1) 0 t.val
      if s2.die[d].pt = 0 then dieClear (abortOnDie s2 d) d false
      else transferStops (updDie s2 d fun x => { x with transfer := true }) d)

/-- RAIL_REGULATION_RESTORED: the channels that stood still resume without waiting for a commit. -/
def execRailRegulationRestored (d : Die) (s : State) : Out :=
  .next (
    let s1 := updDie s d fun x => { x with transfer := false }
    match asField d with
    | some f => if powered s d then settle (updField s1 f fun x => { x with stopped := 0 }) f else s1
    | none => s1)

/-! ## Monitors of the control die (R33, R185) -/

/-- A lane's clock stops: the lane halts and counts as faulty. -/
def clockLost (s : State) (l : Lane) : State :=
  if s.boot.inReset || !s.lane[l].clockOk then s
  else
    let s1 := learnCause (haltLane (updLane s l fun x => { x with clockOk := false }) l) l 8
    if joining s1 l then reintFail s1 l 6 else s1

/-- The time master goes over to REF_S, with an advance of 0 to 8 ns (R186, R188). -/
def toRefS (s : State) (adv : Nat) : State :=
  let s0 := { s with tm := { s.tm with refpOk := false } }
  if s.tm.ref then s0
  else ledger { s0 with time := (s.time + refAdvance adv) % 2 ^ 64, tm := { s0.tm with ref := true } } 5 0 0 0

/-- CLOCK_MONITOR_FAIL: lane A's clock is that of the crystal, whose failure is REF_P's too; the advance of the switch is a free value (R33, R186). -/
def execClockMonitorFail (l : Lane) (s : State) : Out :=
  .next (
    let s1 := clockLost s l
    if l = 0 ∧ !s.boot.inReset ∧ !s.tm.ref then toRefS (useFree s1) (4 * (freeNat s % 3))
    else if l = 0 ∧ !s.boot.inReset then toRefS s1 0
    else s1)

/-- REF_SWITCH: REF_P fails with the crystal or its PLL, and lane A with it (R33, R186). -/
def execRefSwitch (adv : Nat) (s : State) : Out := .next (toRefS (clockLost s 0) adv)

/-- REFP_OK_RESTORED: REF_P is again within its limits and lane A's clock runs; the 1 s towards a revert starts (R186). -/
def execRefpOkRestored (s : State) : Out :=
  .next (
    if s.tm.refpOk then s
    else updLane { s with tm := { s.tm with refpOk := true, refpSince := s.mono } } 0 fun x => { x with clockOk := true })

/-- More than half of the ready dies hold a time within 40 ns of `v` (Table 1.6). -/
def diesAgree (s : State) (v : Nat) : Bool :=
  let run := dies5.filter (ready s)
  decide (run.length < 2 * (run.filter fun d => decide (((v : Int) - dieTime s d).natAbs ≤ 40)).length)

/-- Section `sec` is dropped; the other one's time base goes on. -/
def dropSection (s : State) (sec v : Nat) : State :=
  { s with time := stampOf v, tm := { s.tm with sect := s.tm.sect &&& ~~~(BitVec.ofNat 2 (2 ^ sec)) } }

/-- TM_SECTION_FAULT: the sections TM_0 and TM_1 show the times `v0` and `v1` at a tick. When they differ, the one that agrees with the majority of the dies is kept; with neither, both have failed (R185, Table 1.6). When the dies single out none of the two, a free value does (log entry 69). -/
def execTmSectionFault (v0 : Nat) (s : State) (v1 : Nat := 0) : Out :=
  .next (
    if s.boot.inReset || decide (s.tm.sect ≠ 3) || decide (v0 = v1) then s
    else
      let a := diesAgree s v0
      let b := diesAgree s v1
      if a && !b then dropSection s 1 v0
      else if b && !a then dropSection s 0 v1
      else if !a && (dies5.any (ready s)) then enterReset s 5
      else if freeNat s % 2 = 0 then dropSection (useFree s) 1 v0
      else dropSection (useFree s) 0 v1)

/-- MCORE_WATCHDOG_RESET: the management core resets alone; its HART transactions end (R33). -/
def execMcoreWatchdogReset (s : State) : Out :=
  .next (if s.boot.inReset then s else chans16.foldl hartAbort { s with coreDown := true })

/-- CORE_RESET_COMPLETE: host access works again. -/
def execCoreResetComplete (s : State) : Out := .next { s with coreDown := false }

/-- PERMIT_READBACK: the lane's voter slice disagrees with its read-back; Table 5.13 names no cause code for it, so the code is a free value (log entry 51). -/
def execPermitReadback (l : Lane) (s : State) : Out := .next (learnCause (useFree s) l (1 + freeNat s % 8))

end Sys2Proof.Machine
end

