-- ==== Sys2Proof/Machine/Maint.lean ====
section
/-!
DEFINITION. Maintenance commands (R144, R422 to R426): MNTCMD with its tests, LANECMD, and page 19.
-/

namespace Sys2Proof.Machine

/-! ## MNTCMD (R425, R426) -/

/-- The activity that an op of MNTCMD asks for: op 1 SV_TEST, 2 IN_TEST, 3 OL_PROBE. -/
def mntAct (p : Port) (w : Word) : ActSt :=
  let op := fieldOf w 0 3
  { kind := 8 + op, port := p.val, index := fieldOf w 3 3, mask := if op = 1 then 0 else BitVec.ofNat 16 (fieldOf w 8 16), lo := 0, hi := 0, dir := false }

/-- The channel is in a mode that the test requires. -/
def testMode (s : State) (op : Nat) (d : FDie) (k : Chan) : Bool := if op = 2 then decide (chMode s d k.val = 2) else isOutput s d k.val

/-- A masked channel lies outside the mode that the test requires. -/
def maskBad (s : State) (op unit : Nat) (mask : BitVec 16) : Bool :=
  if h : unit < 4 then chans16.any fun k => mask.getLsbD k.val && !testMode s op ⟨unit, h⟩ k else true

/-- READY of a unit. -/
def unitReady (s : State) (unit : Nat) : Bool := if h : unit < 5 then ready s ⟨unit, h⟩ else true

/-- MNTCMD's checks. -/
def mntCheck (s : State) (p : Port) (w : Word) : Nat :=
  let op := fieldOf w 0 3
  let unit := fieldOf w 3 3
  let mask := BitVec.ofNat 16 (fieldOf w 8 16)
  let masked := decide (op = 2) || decide (op = 3)
  if !unitReady s unit then stNotReady
  else if op = 0 ∨ 4 < op ∨ fieldOf w 24 8 ≠ 0xD2 ∨ 4 < unit ∨ (masked ∧ (mask = 0 ∨ maskBad s op unit mask)) then stBadValue
  else if op = 4 then 0
  else mntStatus s (mntAct p w)

/-- The sink of a channel under an input test is off (R425). -/
def testChan (mask : BitVec 16) (d : FDie) (s : State) (k : Chan) : State :=
  if mask.getLsbD k.val then updChan s d k fun c => { c with sink := false } else s

/-- The largest FILT of the masked channels (R425). -/
def maxFilt (s : State) (d : FDie) (mask : BitVec 16) : Nat :=
  chans16.foldl (fun n k => if mask.getLsbD k.val then max n (chField s d k.val 0x0C 8 8) else n) 0

/-- Masked channels that conduct, or that an event of R214 keeps from the probe: within 2 ms of a clamp event, since the probe began (R425). -/
def probeSkips (s : State) (d : FDie) (a : ActSt) : BitVec 16 :=
  chans16.foldl (fun m k =>
    let c := chan s d (govOf s d k)
    let on := stageOn s d k || (c.onAt != 0 && decide (a.start ≤ c.onAt))
    let near := (chan s d k).clamp || c.clamp || (c.clampEnd != 0 && decide (a.start < c.clampEnd + 2000000)) ||
      ((chan s d k).clampEnd != 0 && decide (a.start < (chan s d k).clampEnd + 2000000))
    if a.mask.getLsbD k.val && (on || near) then m ||| BitVec.ofNat 16 (2 ^ k.val) else m) 0

/-- A test with what it has to do: 64 conversions, 2F sample instants, or 10 ms (R425). -/
def testAct (s : State) (p : Port) (w : Word) : ActSt :=
  let a := { mntAct p w with start := s.mono }
  if a.kind = 9 then { a with total := 64 }
  else if h : a.index < 4 then
    (if a.kind = 10 then { a with total := 2 * maxFilt s ⟨a.index, h⟩ a.mask } else { a with skip := probeSkips s ⟨a.index, h⟩ a })
  else a

/-- A test starts. -/
def testStart (s : State) (p : Port) (w : Word) : State :=
  let a := testAct s p w
  let s1 := setRes (mntStart s a) a.index fun _ => { state := 1, kind := a.kind, fail := 0, skip := 0 }
  if h : a.kind = 10 ∧ a.index < 4 then chans16.foldl (testChan a.mask ⟨a.index, h.2⟩) s1
  else if h : a.kind = 9 ∧ a.index < 5 then testRequests s1 ⟨a.index, h.2⟩
  else s1

/-- The tests of a unit that run. -/
def unitTests (s : State) (unit : Nat) : List (Nat × ActSt) :=
  (mntRunning s).filter fun e => decide (9 ≤ e.2.kind) && decide (e.2.kind ≤ 11) && decide (e.2.index = unit)

/-- MNTCMD's effect; ABORT ends the unit's tests. -/
def mntWrite (s : State) (p : Port) (w : Word) : State :=
  if fieldOf w 0 3 = 4 then (unitTests s (fieldOf w 3 3)).foldl (fun s e => abortAct s e.1 e.2) s
  else testStart s p w

/-- The channels or converter items that a test judges. -/
def testMask (a : ActSt) : BitVec 16 := if a.kind = 9 then 3 else a.mask

/-- A test ends with its result: FAIL and SKIP bits of what it judged. -/
def testEnd (s : State) (j : Nat) (a : ActSt) (fail skip : BitVec 16) : State :=
  let sk := if a.kind = 11 then skip &&& a.mask else 0
  let fl := fail &&& testMask a &&& ~~~sk
  let e := if fl = 0 then endPass else endFail
  mntEnd (setRes s a.index fun _ => { state := e, kind := a.kind, fail := fl, skip := sk }) j e

/-- FAIL bits of an open-load probe: the terminal ends above 4.0 V (R425). -/
def probeFails (mV : List Nat) : BitVec 16 :=
  chans16.foldl (fun m k => if 4000 < mV.getD k.val 0 then m ||| BitVec.ofNat 16 (2 ^ k.val) else m) 0

/-- MAINT_END: the activity of slot `j` ends by itself. A converter test or an input test ends when it has its last result, an open-load probe 10 ms after its start with the terminal voltages `mV` and the channels that conducted or clamped, as their stages show or as `conducts` and `clamps` tell of open ones; every other kind ends with its own command (R425). -/
def execMaintEnd (j : Fin 32) (mV : List Nat) (conducts clamps : BitVec 16) (s : State) : Out :=
  .next (
    match s.mnt.slot[j] with
    | none => s
    | some a =>
      if a.kind = 9 ∨ a.kind = 10 then (if a.total ≤ a.count then testEnd s j.val a a.fail 0 else s)
      else if a.kind = 11 then
        let s1 := monoTo s (a.start + 10000000)
        let skip := if h : a.index < 4 then a.skip ||| probeSkips s1 ⟨a.index, h⟩ a else a.skip
        testEnd s1 j.val a (probeFails mV) (skip ||| conducts ||| clamps)
      else s)

/-- Page 19 as read. -/
def readMaint (s : State) (off : Nat) : Word :=
  if off = 1 then
    place 0 s.mnt.refKind ||| place 4 s.mnt.refBlocker ||| place 8 s.mnt.refSlot ||| place 16 s.mnt.refCode ||| place 24 s.mnt.refCount
  else if 8 ≤ off ∧ off < 13 then
    let r := vget s.mnt.res (off - 8) { state := 0, kind := 0, fail := 0, skip := 0 }
    place 0 r.state ||| place 8 r.kind
  else if 0x10 ≤ off ∧ off < 0x15 then
    let r := vget s.mnt.res (off - 0x10) { state := 0, kind := 0, fail := 0, skip := 0 }
    place 0 r.fail.toNat ||| place 16 r.skip.toNat
  else if 0x20 ≤ off ∧ off < 0x40 then
    match vget s.mnt.slot (off - 0x20) none with
    | some a => place 0 a.kind ||| place 4 a.port ||| place 8 a.index ||| place 16 a.mask.toNat
    | none => 0
  else 0

/-! ## LANECMD (R144) -/

/-- LANE_EXCL or LANE_REINT of the named lane. -/
def laneAct (p : Port) (w : Word) : ActSt :=
  { kind := fieldOf w 0 2, port := p.val, index := fieldOf w 4 2, mask := 0, lo := 0, hi := 0, dir := false }

def laneOfWord (w : Word) : Lane := ⟨fieldOf w 4 2 % 3, Nat.mod_lt _ (by decide)⟩

/-- The op is allowed now: exclusion of a member in RUN with three members; reintegration of a lane that is OUT, in PRIME or DEGRADED with two. LANE 3 names no lane, which the value's check refuses. -/
def lanecmdMode (s : State) (w : Word) : Bool :=
  let n := memberCount s.cyc.member
  match fieldOf w 0 2 with
  | 1 => decide (s.md.mode = .run) && decide (n = 3)
  | 2 => reintAllowed s && (decide (fieldOf w 4 2 = 3) || decide (s.lane[laneOfWord w].state = 1))
  | _ => true

/-- LANECMD's checks. -/
def lanecmdCheck (s : State) (p : Port) (w : Word) : Nat :=
  let op := fieldOf w 0 2
  if !lanecmdMode s w then stBadMode
  else if op = 0 ∨ fieldOf w 24 8 ≠ 0x3C ∨ (op ≠ 3 ∧ fieldOf w 4 2 = 3) then stBadValue
  else if op = 3 then 0
  else mntStatus s (laneAct p w)

/-- LANECMD's effect. -/
def lanecmdWrite (s : State) (p : Port) (w : Word) : State :=
  let l := laneOfWord w
  match fieldOf w 0 2 with
  | 1 => learnCause (mntStart s (laneAct p w)) l 9
  | 2 => reintStart s l p.val (max 1 (cfgField s 4 2 0 4))
  | _ => { s with lane := s.lane.map fun x => { x with slack := 0xFFFFFFFF } }

end Sys2Proof.Machine
end

