-- ==== Sys2Proof/Machine/Owner.lean ====
section
/-!
DEFINITION. Ownership (R386 to R393) and APPLY (R394 to R397): CLAIM and APPLY frames, the owner timer, grants, the check and its effect in QUIET, and page 1.
-/

namespace Sys2Proof.Machine

/-! ## Ownership -/

/-- The port is the owner. -/
def isOwner (s : State) (p : Port) : Bool := decide (s.own.owner = some p)

/-- Every change of owner: no grant is left, the change counts, every shadow takes its active value, and IRQ source OWN is set (R389, R391). -/
def ownerSet (s : State) (o : Option Port) : State :=
  irq (discardShadows { s with own := { s.own with
    owner := o, grant := none, timerAt := s.mono, changes := (s.own.changes + 1) % 256 } }) 4

/-- OWNCFG.TMO, ns; it reads zero in recovery (R393). -/
def ownTmo (s : State) : Nat := if s.boot.recovery then 0 else cfgField s 1 8 0 16 * 1000000

/-- The owner timer restarts at the end of a frame from the owner's port (R390). -/
def ownerRestart (s : State) (p : Port) (code : Nat) : State :=
  if isOwner s p ∧ code ≠ stBadLength ∧ code ≠ stTimeout then { s with own := { s.own with timerAt := s.mono } } else s

/-- OWN_LAPSE: the owner timer reaches TMO (R390). -/
def execOwnLapse (s : State) : Out :=
  .next (
    match s.own.owner with
    | none => s
    | some p =>
      if ownTmo s = 0 then s
      else
        let s1 := monoTo s (s.own.timerAt + ownTmo s)
        let s2 := ledger (ownerSet s1 none) 17 9 p.val 0
        { s2 with own := { s2.own with lapsed := true, lapses := satAdd 255 s2.own.lapses 1 } })

/-- GRANT_EXPIRE: 1,000 ms after the HANDOVER (R389). -/
def execGrantExpire (s : State) : Out :=
  .next (
    if s.own.grant.isNone then s
    else
      let s1 := monoTo s (s.own.grantAt + 1000000000)
      { s1 with own := { s1.own with grant := none } })

/-! ## CLAIM (R388, Table 14.2) -/

/-- The sender lacks the right that Table 14.2 asks for. -/
def claimForeign (s : State) (p : Port) (w : Word) : Bool :=
  match fieldOf w 0 2 with
  | 1 => s.own.owner.isSome && !isOwner s p && !decide (s.own.grant = some p)
  | 2 | 3 => !isOwner s p
  | _ => false

/-- The CLAIM word's checks. -/
def claimCheck (s : State) (p : Port) (w : Word) : Nat :=
  let op := fieldOf w 0 2
  let target := fieldOf w 4 2
  if claimForeign s p w then stNotOwner
  else failIf (decide (op = 0) || decide (fieldOf w 24 8 ≠ 0xE1) || (decide (op = 3) && (decide (target = 3) || decide (target = p.val)))) stBadValue

def portOf (n : Nat) : Port := ⟨n % 3, Nat.mod_lt _ (by decide)⟩

/-- Table 14.2. -/
def claimAct (s : State) (p : Port) (w : Word) : State :=
  match fieldOf w 0 2 with
  | 1 =>
    if isOwner s p then s
    else
      let s1 := ownerSet s (some p)
      { s1 with own := { s1.own with lapsed := false } }
  | 2 => ownerSet s none
  | _ => { s with own := { s.own with grant := some (portOf (fieldOf w 4 2)), grantAt := s.mono } }

/-! ## APPLY (R394 to R397) -/

/-- The APPLY word's checks. -/
def applyWordCheck (s : State) (p : Port) (w : Word) : Nat :=
  if !isOwner s p then stNotOwner
  else if fieldOf w 0 2 = 0 ∨ fieldOf w 0 2 = 3 ∨ fieldOf w 24 8 ≠ 0xA9 then stBadValue
  else failIf (decide (s.app.state = 1) || decide (s.app.state = 2)) stApplyRejected

/-- A BUSY refusal (R395). -/
def applyBusy (s : State) : State := irq { s with app := { s.app with reason := 1 } } 3

/-- An accepted APPLY frame: DISCARD at once, or the check begins on a copy of every shadow. -/
def applyAct (s : State) (w : Word) : State :=
  let s1 := { s with app := { s.app with seq := (s.app.seq + 1) % 65536 } }
  if fieldOf w 0 2 = 2 then discardShadows s1
  else { s1 with app := { s1.app with state := 1, copy := s1.shadow } }

/-- LH_EN of a die as rule BAD_LH takes it. -/
def lhEnOf (s : State) (d : Nat) : Bool := if h : d < 4 then (fld s ⟨d, h⟩).lhEn else false

/-- APPLY_CHECK_DONE: PENDING, or REJECTED with the first failing rule (R396). -/
def execApplyCheckDone (s : State) : Out :=
  .next (
    if s.app.state ≠ 1 then s
    else
      match applyCheck s.regs (takeSr s.regs s.app.copy) s.md.mode (lhEnOf s) with
      | some r => applyRefuse s r
      | none => { s with app := { s.app with state := 2, endedAt := s.mono } })

/-- In QUIET a pending APPLY takes effect 200 µs after the check ended; the dies that have had a commit take their settings then (R397). -/
def quietApply (s : State) : State :=
  let s1 := monoTo s (s.app.endedAt + 200000)
  let s2 := applyStep s1 (nextCycle s1)
  if s2.app.state = 3 then (dies5.filter fun d => hasCommit s2 d && !s2.die[d].firstCommit).foldl takeSettings s2 else s2

/-- APPLY_QUIET_EFFECT. -/
def execApplyQuietEffect (s : State) : Out :=
  .next (if s.md.mode = .quiet ∧ s.app.state = 2 then quietApply s else s)

/-! ## Page 1 as read -/

/-- OWNSTAT. -/
def ownstatWord (s : State) : Word :=
  let num (o : Option Port) (d : Nat) : Nat := match o with | some p => p.val | none => d
  place 0 (num s.own.owner 3) ||| place 2 (num s.own.grant 0) ||| placeB 4 s.own.grant.isSome ||| placeB 5 s.own.hostLost |||
    place 16 s.own.lapses ||| place 24 s.own.changes

def readOwn (s : State) (off : Nat) : Word :=
  match off with
  | 0 => ownstatWord s
  | 1 => place 0 s.app.state ||| place 8 s.app.reason ||| place 16 s.app.seq
  | 2 => place 0 s.app.infoOff ||| place 16 s.app.infoPage
  | 3 => s.app.cyc
  | 4 => BitVec.ofNat 32 s.mbox.seq
  | 5 => BitVec.ofNat 32 (ownStaged s)
  | 6 => BitVec.ofNat 32 s.snap.skip
  | _ => cfgWord s 1 off

end Sys2Proof.Machine
end

