-- ==== Sys2Proof/Machine/Pages.lean ====
section
/-!
DEFINITION. The register pages as a host reads and writes them (R6, R7, R35, R387, R394, R401, R450, R451, Table 1.7): live words, shadows and latches; the checks of rows 8 to 16 of Table 12.6 for one register; and the effect of writing one.
-/

namespace Sys2Proof.Machine

/-! ## Pages 0, 3, 4 and 17 as read -/

def readSys (s : State) (off : Nat) : Word :=
  match off with
  | 0 => identWord
  | 0x10 => rstcauseWord s
  | 0x12 => bootstatWord s
  | 0x17 => jrnstatWord s
  | 0x18 => BitVec.ofNat 32 s.jrn.gen
  | 0x20 => modestatWord s
  | 0x23 => pwrctlWord s
  | 0x24 => place 0 s.pwr.modem.toNat
  | 0x25 => pwrstatWord s
  | 0x27 => place 0 s.pwr.wakeStat.toNat
  | 0x30 => place 0 (vget s.irqStat 0 0).toNat
  | 0x31 => place 0 (vget s.irqStat 1 0).toNat
  | _ => cfgWord s 0 off

def syncCode : SyncSt → Nat
  | .free => 0
  | .acquiring => 1
  | .locked => 2
  | .holdover => 3

/-- TIMESTAT. -/
def timestatWord (s : State) : Word :=
  let bits (lo : Nat) (f : DieSt → Bool) : Word := dies5.foldl (fun w d => w ||| placeB (lo + d.val) (f s.die[d])) 0
  placeB 0 s.tm.ref ||| placeB 1 s.tm.refpOk ||| place 2 s.tm.sect.toNat ||| place 4 (syncCode s.tm.sync) ||| placeB 6 s.tm.far |||
    bits 8 (fun x => x.lock) ||| bits 13 (fun x => x.holdover)

/-- The counts of a manifest store with its entries: MANSTAT_d and MANERR_d. -/
def manOf (s : State) (d : Nat) : Nat × ManCnt :=
  if h : d < 4 then ((fld s ⟨d, h⟩).pend.length, (fld s ⟨d, h⟩).man) else (s.hub.pend.length, s.hub.man)

def readTime (s : State) (off : Nat) : Word :=
  match off with
  | 0 => loWord s.time
  | 1 => hiWord s.time
  | 0x18 => timestatWord s
  | 0x19 => BitVec.ofInt 32 s.tm.toffset
  | 0x1A => BitVec.ofInt 32 s.tm.trate
  | 0x1B => place 0 s.tm.tsOk ||| place 16 s.tm.tsRej ||| place 24 s.tm.tsLost
  | 0x1C => place 0 s.tm.wsOk ||| place 16 s.tm.wsRej ||| place 24 s.tm.wsLost
  | _ =>
    if 0x20 ≤ off ∧ off < 0x25 then
      let m := manOf s (off - 0x20)
      place 0 m.1 ||| place 16 m.2.full ||| place 24 m.2.invalid
    else if 0x28 ≤ off ∧ off < 0x2D then
      let m := (manOf s (off - 0x28)).2
      place 0 m.late ||| place 8 m.horizon ||| place 16 m.dup ||| place 24 m.conflict
    else cfgWord s 3 off

/-- A compute window of the active configuration (R112). -/
def cwinFor (s : State) (guard : Nat) : Nat := cfgPeriod s * 1000 - deliv - guard

/-- LSTAT_l. -/
def lstatWord (x : LaneSt) : Word :=
  place 0 x.state ||| place 4 x.triesLeft ||| place 8 x.cause ||| place 12 x.rfail ||| place 16 x.attempts

def readLane (s : State) (off : Nat) : Word :=
  let lane (i : Nat) : LaneSt := vget s.lane i s.lane[(0 : Lane)]
  match off with
  | 4 => BitVec.ofNat 32 deliv
  | 5 => BitVec.ofNat 32 (guardRun s)
  | 6 => BitVec.ofNat 32 (guardPrime s)
  | 7 => BitVec.ofNat 32 (cwinFor s (guardRun s))
  | 8 => BitVec.ofNat 32 (cwinFor s (guardPrime s))
  | 9 => BitVec.ofNat 32 s.cyc.delivx
  | _ =>
    if 0x10 ≤ off ∧ off < 0x13 then lstatWord (lane (off - 0x10))
    else if 0x14 ≤ off ∧ off < 0x17 then BitVec.ofNat 32 (lane (off - 0x14)).exc
    else if 0x18 ≤ off ∧ off < 0x1B then BitVec.ofNat 32 (lane (off - 0x18)).ecc
    else if 0x1C ≤ off ∧ off < 0x1F then BitVec.ofNat 32 (lane (off - 0x1C)).slack
    else if 0x28 ≤ off ∧ off < 0x2D then BitVec.ofNat 32 (vget s.nomaj (off - 0x28) 0)
    else cfgWord s 4 off

def readPorts (s : State) (off : Nat) : Word :=
  if 4 ≤ off ∧ off < 7 then
    let x := vget s.port (off - 4) portReset
    x.last.setWidth 32 ||| place 16 x.seq
  else if 8 ≤ off ∧ off < 11 then
    let x := vget s.port (off - 8) portReset
    place 0 x.okCnt ||| place 16 x.rejCnt ||| place 24 x.tmoCnt
  else if off = 0x12 then s.peer.lastStat.setWidth 32 ||| place 8 s.peer.faults ||| place 16 s.peer.drops
  else cfgWord s 17 off

/-! ## Any register as read -/

/-- Until the status of the first commit after the boot has come, the RO status fields of pages 8 to 14 read their reset values (R451). -/
def unheard (s : State) (page off : Nat) : Bool :=
  if page ≤ 11 then (vget s.die (page - 8) dieReset).firstCommit
  else if page = 14 ∧ 8 ≤ off ∧ off < 0x1D then (vget s.die (off % 8) dieReset).firstCommit
  else s.die[ldDie].firstCommit

/-- Reset values of the read-only words of pages 8 to 11 (08, 09). -/
def fieldResetWord (s : State) (d : FDie) (off : Nat) : Word :=
  let k := (off - 0x40) / 16
  if off = 0x31 then readField s d off &&& ~~~(placeB 5 true)
  else if off = 0x33 then placeB 17 true
  else if 0x40 ≤ off ∧ off % 16 = 6 then place 20 (cfgField s (8 + d.val) (0x42 + 16 * k) 1 4)
  else if 0x40 ≤ off ∧ off % 16 = 7 then BitVec.ofNat 32 (cfgField s (8 + d.val) (0x43 + 16 * k) 0 10 * 1000)
  else if 0x40 ≤ off ∧ off % 16 = 8 then readField s d off
  else 0

/-- A register whose every field is read-only. -/
def roReg (page off : Nat) : Bool :=
  match regAt page off with
  | some r => decide (r.sr = 0) && decide (r.lk = 0) && decide (r.rw = 0) && decide (r.w1c = 0) && decide (r.wo = 0)
  | none => false

/-- The active word of a register, as the blocks hold it. Pages 6 and 7 show the latest generation (R37). -/
def liveWord (s : State) (page off : Nat) : Word :=
  match page with
  | 0 => readSys s off
  | 1 => readOwn s off
  | 2 => readLedger s off
  | 3 => readTime s off
  | 4 => readLane s off
  | 5 => readProg s off
  | 6 => page6Word s s.snap.latest off
  | 7 => page7Word s s.snap.latest off
  | 8 => readField s 0 off
  | 9 => readField s 1 off
  | 10 => readField s 2 off
  | 11 => readField s 3 off
  | 12 => readLoop s off
  | 13 => readHart s off
  | 14 => readConv s off
  | 15 => readCan s 0 off
  | 16 => readCan s 1 off
  | 17 => readPorts s off
  | 18 => readWdog s off
  | 19 => readMaint s off
  | 20 => readAttest s off
  | 21 => readMemport s off
  | _ => 0

/-- The word before a die's first commit: a read-only register of pages 8 to 14 reads its reset value; FIRWIN and the stored HART directory are the control die's own. -/
def quietWord (s : State) (page off : Nat) : Word :=
  if h : 8 ≤ page ∧ page < 12 then fieldResetWord s ⟨page - 8, by omega⟩ off
  else if (page = 14 ∧ 0xA0 ≤ off) ∨ (page = 13 ∧ 0x1000 ≤ off) then liveWord s page off
  else 0

/-- What a host reads: SR fields show their shadow (Table 0.4). -/
def hostWord (s : State) (page off : Nat) : Word :=
  if 8 ≤ page ∧ page ≤ 14 ∧ roReg page off ∧ unheard s page off then quietWord s page off
  else
    let m := srMask (regKey page off)
    (liveWord s page off &&& ~~~m) ||| (rmGet s.shadow (regKey page off) &&& m)

/-- The _HI partner of a _LO register (R401). -/
def hiOf (page off : Nat) : Option Nat :=
  match page with
  | 0 => if off = 0x28 then some 0x29 else none
  | 3 => if off = 0 ∨ off = 6 ∨ off = 9 then some (off + 1) else none
  | 8 | 9 | 10 | 11 => if 0x18 ≤ off ∧ off < 0x20 ∧ off % 2 = 0 then some (off + 1) else none
  | 13 => if 0x40 ≤ off ∧ off < 0xC0 ∧ off % 8 = 2 then some (off - 1) else none
  | _ => none

/-- One word read by port `p`, with its latches (R401). -/
def readOne (s : State) (p : Port) (page off : Nat) : State × Word :=
  let key := regKey page off
  match s.port[p].latch.find? fun e => decide (e.1 = key) with
  | some e => (updPort s p fun x => { x with latch := x.latch.filter fun e => decide (e.1 ≠ key) }, e.2)
  | none =>
    match hiOf page off with
    | some hi =>
      let h := regKey page hi
      (updPort s p fun x => { x with latch := (h, hostWord s page hi) :: x.latch.filter fun e => decide (e.1 ≠ h) }, hostWord s page off)
    | none => (s, hostWord s page off)

/-! ## The checks of one register (rows 8 to 16 of Table 12.6) -/

/-- The port may write the register (Table 14.1). -/
def mayWrite (s : State) (p : Port) (page off : Nat) : Bool :=
  decide (s.own.owner = some p) ||
    (decide (page = 0) && decide (p.val < 2) && (decide (off = 0x30 + p.val) || decide (off = 0x32 + p.val))) ||
    (decide (page = 1) && decide (p = 2) && decide (0x140 ≤ off) && decide (off ≤ 0x17F) && cfgBit s 1 8 16)

def ctrlOf (page : Nat) : Ctrl := if page = 15 then 0 else 1
def loopOf (n : Nat) : Chan := ⟨n % 16, Nat.mod_lt _ (by decide)⟩

/-- The home chapter's checks of a word. -/
def homeCheck (s : State) (p : Port) (page off : Nat) (w : Word) : Nat :=
  match page with
  | 0 =>
    match off with
    | 0x11 => rstctlCheck w
    | 0x13 => bootctlCheck s p w
    | 0x21 => modecmdCheck s w
    | 0x23 => pwrctlCheck s w
    | 0x24 => pwrhartCheck s w
    | _ => 0
  | 4 => if off = 0x20 then lanecmdCheck s p w else 0
  | 5 => progCheck s p off w
  | 12 => if off = 2 then owcmdCheck s p w else if off = 3 then trimcmdCheck s p w else 0
  | 13 =>
    if off = 2 then hscanCheck s w
    else if 0x40 ≤ off ∧ off < 0xC0 ∧ off % 8 = 3 then hctlCheck s (loopOf ((off - 0x40) / 8)) w
    else if 0x200 ≤ off ∧ off < 0x600 then failIf (hbufBusy s off) stHartBusy
    else 0
  | 14 => if off = 0x30 then cvtestCheck s p w else 0
  | 15 | 16 => if off = 6 then cancmdCheck s (ctrlOf page) w else 0
  | 19 => if off = 0 then mntCheck s p w else 0
  | 21 => memportCheck s p off w
  | _ => 0

/-- An LK field outside QUIET, HOLD and SAFE (R6, R96). -/
def lkCheck (s : State) (page off : Nat) : Nat :=
  match regAt page off with
  | some r => failIf (decide (r.lk ≠ 0) && !lkWritable s.md.mode) stBadMode
  | none => 0

def regCheck (s : State) (p : Port) (page off : Nat) (w : Word) : Nat := firstFail (lkCheck s page off) (homeCheck s p page off w)

/-- The activity that a written word asks the arbiter for (Table 15.5). -/
def mntAsk (s : State) (p : Port) (page off : Nat) (w : Word) : Option ActSt :=
  match page, off with
  | 0, 0x13 => if bitOf w 0 && s.boot.trial then some (confirmAct p) else none
  | 4, 0x20 => if fieldOf w 0 2 = 1 ∨ fieldOf w 0 2 = 2 then some (laneAct p w) else none
  | 5, 0x10 =>
    if fieldOf w 0 3 = 1 then some (plAct p (cfgWord s 5 0x11).toNat (cfgWord s 5 0x12).toNat)
    else if fieldOf w 0 3 = 5 then some (plAct p 0 0)
    else none
  | 12, 2 => if fieldOf w 4 2 = 1 then some (owAct p (fieldOf w 0 4)) else none
  | 12, 3 => if fieldOf w 4 3 = 1 then some (trimAct p (fieldOf w 0 4)) else none
  | 14, 0x30 => if fieldOf w 4 2 = 1 then some (cvAct p (fieldOf w 0 4)) else none
  | 19, 0 => if fieldOf w 0 3 ≠ 4 then some (mntAct p w) else none
  | 21, 0x11 => if fieldOf w 0 3 = 2 ∨ fieldOf w 0 3 = 3 then some (mpxAct s p (fieldOf w 0 3) (fieldOf w 8 8)) else none
  | _, _ => none

/-! ## The effect of one written register (R344) -/

/-- Fields that stand in the register map: the shadow takes SR bits, the active word RW and LK bits. -/
def plainWrite (s : State) (page off : Nat) (w : Word) : State :=
  match regAt page off with
  | none => s
  | some r =>
    let key := regKey page off
    let sr := BitVec.ofNat 32 r.sr
    let direct := BitVec.ofNat 32 (r.rw ||| r.lk)
    { s with
      shadow := if r.sr = 0 then s.shadow else rmSet s.shadow key (w &&& sr)
      regs := if direct = 0 then s.regs else rmSet s.regs key ((rmGet s.regs key &&& ~~~direct) ||| (w &&& direct)) }

/-- Page 0. RSTCTL acts when the frame's other writes are done. -/
def writeSys (s : State) (p : Port) (off : Nat) (w : Word) : State :=
  match off with
  | 0x10 => { s with boot := { s.boot with cause := s.boot.cause &&& ~~~(w.setWidth 6) } }
  | 0x13 => bootctlWrite s p w
  | 0x16 => jrnctlWrite s w
  | 0x17 => jrnstatWrite s w
  | 0x20 => if bitOf w 6 then { s with md := { s.md with drop := false } } else s
  | 0x21 => modecmdWrite s w
  | 0x23 => pwrctlWrite s w
  | 0x24 => pwrhartWrite s w
  | 0x25 => { s with pwr := { s.pwr with dieFail := s.pwr.dieFail &&& ~~~(BitVec.ofNat 5 (fieldOf w 5 5)) } }
  | 0x27 => { s with pwr := { s.pwr with wakeStat := s.pwr.wakeStat &&& ~~~(w.setWidth 4) } }
  | 0x29 => { plainWrite s 0 off w with pwr := { s.pwr with alarmArmed := true } }
  | 0x30 => { s with irqStat := vset s.irqStat 0 (vget s.irqStat 0 0 &&& ~~~(w.setWidth 13)) }
  | 0x31 => { s with irqStat := vset s.irqStat 1 (vget s.irqStat 1 0 &&& ~~~(w.setWidth 13)) }
  | _ => plainWrite s 0 off w

/-- MANCLR clears the counts of MANSTAT_d and MANERR_d. -/
def manclrWrite (s : State) (w : Word) : State :=
  let s1 := fdies4.foldl (fun s d => if bitOf w d.val then updField s d fun f => { f with man := manReset } else s) s
  if bitOf w 4 then { s1 with hub := { s1.hub with man := manReset } } else s1

/-- Page 3: a write of TSET_HI steps the time base to the pair (R188). -/
def writeTime (s : State) (off : Nat) (w : Word) : State :=
  match off with
  | 7 => timeStep (plainWrite s 3 7 w) (w.toNat * 2 ^ 32 + (cfgWord s 3 6).toNat)
  | 0x30 => manclrWrite s w
  | _ => plainWrite s 3 off w

/-- PCNTCLR. -/
def pcntclrWrite (s : State) (w : Word) : State :=
  ([0, 1, 2] : List Port).foldl (fun s p =>
    if bitOf w p.val then updPort s p fun x => { x with okCnt := 0, rejCnt := 0, tmoCnt := 0 } else s) s

/-- One register of an accepted frame. -/
def regWrite (s : State) (p : Port) (page off : Nat) (w : Word) : State :=
  match page with
  | 0 => writeSys s p off w
  | 2 => if off < 4 then ledClear s p off w else plainWrite s 2 off w
  | 3 => writeTime s off w
  | 4 => if off = 0x20 then lanecmdWrite s p w else plainWrite s 4 off w
  | 5 => if off = 0x10 then plctlWrite s p w else plainWrite s 5 off w
  | 8 => if off = 3 then chcntclrWrite s 0 w else plainWrite s 8 off w
  | 9 => if off = 3 then chcntclrWrite s 1 w else plainWrite s 9 off w
  | 10 => if off = 3 then chcntclrWrite s 2 w else plainWrite s 10 off w
  | 11 => if off = 3 then chcntclrWrite s 3 w else plainWrite s 11 off w
  | 12 =>
    if off = 2 then owcmdWrite s p w
    else if off = 3 then trimcmdWrite s p w
    else if off = 4 then lpcntclrWrite s w
    else plainWrite s 12 off w
  | 13 =>
    if off = 2 then hscanWrite s w
    else if 0x40 ≤ off ∧ off < 0xC0 ∧ off % 8 = 3 then hctlWrite s (loopOf ((off - 0x40) / 8)) w
    else plainWrite s 13 off w
  | 14 => if off = 0x20 then cvclrWrite s w else if off = 0x30 then cvtestWrite s p w else plainWrite s 14 off w
  | 15 | 16 =>
    if off = 6 then cancmdWrite s (ctrlOf page) w
    else if off = 0xA then cntclrWrite s (ctrlOf page) w
    else plainWrite s page off w
  | 17 => if off = 0xC then pcntclrWrite s w else plainWrite s 17 off w
  | 18 => if off = 0x20 then wdCheckin s 3 w else if off = 0x21 then wdclrWrite s w else plainWrite s 18 off w
  | 19 => if off = 0 then mntWrite s p w else s
  | 21 => if off = 0x11 then mpxWrite s p w else plainWrite s 21 off w
  | _ => plainWrite s page off w

end Sys2Proof.Machine
end

