-- ==== Sys2Proof/Machine/Ports.lean ====
section
/-!
DEFINITION. Frames on the serving ports (R335 to R348, R377, R386 to R403) and the peer port (R349 to R351).
-/

namespace Sys2Proof.Machine

/-! ## Frames -/

/-- A frame as it travelled: command, page, offset, the data words (of a read: as many as it clocked out), and whether it ended inside a word. -/
structure Frame where
  cmd : Nat
  page : Nat
  off : Nat
  words : List Word
  part : Bool
deriving DecidableEq, Repr

/-- The three header bytes (Table 12.2). -/
def header (cmd page off : Nat) : List Byte := natBe 1 (cmd % 8 * 32 + page % 32) ++ natBe 2 off

/-- The check word over a header and data words (R337). -/
def checkWord (cmd page off : Nat) (ws : List Word) : Word := crc32c (header cmd page off ++ ws.flatMap beBytes)

/-- A WRITE, CLAIM or APPLY frame with its check word. -/
def checkedFrame (cmd page off : Nat) (ws : List Word) : Frame :=
  { cmd := cmd, page := page, off := off, words := ws ++ [checkWord cmd page off ws], part := false }

/-- A CLAIM or APPLY frame with one data word, as it travelled. -/
def sentFrame (cmd : Nat) (how : HowSent) (w : Word) : Frame :=
  let page := how.page % 32
  let off := how.off % 65536
  { cmd := cmd, page := page, off := off, part := how.part
    words := ([w, checkWord cmd page off [w] ^^^ how.damage] ++ List.replicate (how.words - 2) 0).take how.words }

/-- Data words of a frame without its check word. -/
def Frame.data (f : Frame) : List Word := f.words.dropLast

/-- The port serves no frame: its rail is absent (R50), the control die is in reset (R348), the management core is (R33), or boundary scan has its pads (R52). -/
def portInert (s : State) (p : Port) : Bool := s.boot.inReset || s.coreDown || !s.vddio.getLsbD (p.val + 1) || tapHolds s

/-! ## Checks, in the order of Table 12.6 -/

/-- Row 1. -/
def lengthBad (f : Frame) : Bool :=
  f.part ||
    (match f.cmd with
     | 1 => decide (f.words.length = 0) || decide (257 < f.words.length)
     | 4 | 5 => decide (f.words.length ≠ 2)
     | 6 => decide (f.words.length ≠ 8)
     | _ => false)

/-- Row 3. -/
def pageBad (f : Frame) : Bool :=
  decide (22 ≤ f.page) ||
    (match f.cmd with
     | 1 => decide (f.page = 6 ∨ f.page = 7)
     | 2 => !decide (f.page = 6 ∨ f.page = 7)
     | 4 | 5 => decide (f.page ≠ 1)
     | 6 => decide (f.page ≠ 20)
     | _ => false)

/-- The pages that are served in BOOT and in recovery (R73, R96). -/
def bootPage (page : Nat) : Bool := decide (page = 0 ∨ page = 1 ∨ page = 5 ∨ page = 20 ∨ page = 21)

/-- The port does not serve the frame in the present boot state (R73, R83, R96, R352, R395). -/
def bootRefuses (s : State) (p : Port) (f : Frame) : Bool :=
  if s.boot.recovery then decide (p ≠ 0) || !bootPage f.page || decide (f.cmd = 5)
  else if s.md.mode = .boot then
    decide (s.boot.phase ≤ 3) || !bootPage f.page || decide (f.cmd = 5) || (decide (f.cmd = 6) && decide (s.boot.phase < 7))
  else false

/-- The offsets and words that a WRITE addresses. -/
def writes (f : Frame) : List (Nat × Word) := f.data.zipIdx.map fun e => (f.off + e.2, e.1)

/-- The offset lies on the page and holds SR fields. -/
def srAt (page off : Nat) : Bool := decide (off ≤ pageLast page) && decide (srMask (regKey page off) ≠ 0)

/-- A WRITE that the present state does not serve: SR fields while an APPLY is checked or pending, or in BOOT (R394); a unit or modem that is not ready. -/
def writeNotReady (s : State) (p : Port) (f : Frame) : Bool :=
  (writes f).any fun e =>
    (srAt f.page e.1 && (decide (s.app.state = 1 ∨ s.app.state = 2) || decide (s.md.mode = .boot))) ||
      decide (regCheck s p f.page e.1 e.2 = stNotReady)

/-- The queue whose window holds the offset (R377). -/
def queueWindow (page off : Nat) : Option (Ctrl × Fin 2) :=
  if page = 15 ∨ page = 16 then
    if 0x20 ≤ off ∧ off < 0x34 then some (ctrlOf page, 0)
    else if 0x40 ≤ off ∧ off < 0x54 then some (ctrlOf page, 1)
    else none
  else none

/-- The offsets that a read addresses. -/
def readOffs (f : Frame) : List Nat := (List.range f.words.length).map fun i => f.off + i

/-- A READ of a window that another port has locked. -/
def readForeign (s : State) (p : Port) (f : Frame) : Bool :=
  decide (f.cmd = 0) && (readOffs f).any fun o => match queueWindow f.page o with | some (c, q) => rxqForeign s p c q | none => false

/-- Rows 2 to 4. -/
def earlyCode (s : State) (p : Port) (f : Frame) : Nat :=
  if f.cmd = 7 then stBadCmd
  else if f.cmd = 3 then 0
  else if pageBad f then stBadPage
  else if bootRefuses s p f || (decide (f.cmd = 1) && writeNotReady s p f) || readForeign s p f then stNotReady
  else 0

/-- A READ of LMWIN outside HOLD and SAFE. -/
def lmwinBad (s : State) (f : Frame) : Bool :=
  decide (f.cmd = 0) && decide (f.page = 5) && !(decide (s.md.mode = .hold) || decide (s.md.mode = .safe)) &&
    (readOffs f).any fun o => decide (0x200 ≤ o) && decide (o < 0x240)

/-- What the checks of a later register of the frame see of an earlier one: its plain fields, and the loop commands that it starts (R342). -/
def checkNext (s : State) (p : Port) (page off : Nat) (w : Word) : State :=
  if page = 12 ∧ off = 2 then owcmdWrite s p w
  else if page = 13 ∧ off = 2 then hscanWrite s w
  else plainWrite s page off w

/-- Rows 9 to 16 over the registers in ascending offset: the first register that fails, with its code and its state. -/
def regsFail (p : Port) (page : Nat) : State → List (Nat × Word) → Option (Nat × State × Nat × Word)
  | _, [] => none
  | s, e :: r =>
    let c := regCheck s p page e.1 e.2
    if c ≠ 0 then some (c, s, e.1, e.2) else regsFail p page (checkNext s p page e.1 e.2) r

/-- Rows 5 to 16 of a WRITE. -/
def writeCode (s : State) (p : Port) (f : Frame) : Nat :=
  let ws := writes f
  if f.words.getLast? ≠ some (checkWord f.cmd f.page f.off f.data) then stBadCrc
  else if ws.any fun e => decide (e.1 ≤ pageLast f.page) && (regAt f.page e.1).isNone then stBadOffset
  else if ws.any fun e => decide (pageLast f.page < e.1) then stPastEnd
  else if ws.any fun e => !mayWrite s p f.page e.1 then stNotOwner
  else match regsFail p f.page s ws with | some (c, _) => c | none => 0

/-- Rows 5 to 16 of a CLAIM or APPLY frame at offset `o`. -/
def commandCode (f : Frame) (o word : Nat) : Nat :=
  if f.words.getLast? ≠ some (checkWord f.cmd f.page f.off f.data) then stBadCrc
  else if f.off ≠ o then stBadOffset
  else word

/-- The data word of a CLAIM or APPLY frame. -/
def Frame.word (f : Frame) : Word := f.words.headD 0

/-- The code of the first failing check but TIMEOUT; 0 is OK. -/
def frameCode (s : State) (p : Port) (f : Frame) : Nat :=
  if lengthBad f then stBadLength
  else if earlyCode s p f ≠ 0 then earlyCode s p f
  else
    match f.cmd with
    | 0 => failIf (lmwinBad s f) stBadMode
    | 1 => writeCode s p f
    | 4 => commandCode f 0 (claimCheck s p f.word)
    | 5 => commandCode f 1 (applyWordCheck s p f.word)
    | 6 => if f.off ≠ 0 then stBadOffset else failIf (decide (s.attest.qstate[p] = 1)) stQuoteBusy
    | _ => 0

/-! ## The record of a frame (R338, R339) -/

/-- Frame numbers run modulo 65,536 and skip 0. -/
def nextSeq (n : Nat) : Nat := n % 65535 + 1

/-- Echo byte 2 (Table 12.4). -/
def echoByte (s : State) (p : Port) : Byte :=
  BitVec.ofNat 8 (0x80 + (if p.val < 2 ∧ intLow s p.val then 32 else 0) + (if isOwner s p then 16 else 0) +
    (if s.boot.recovery then 8 else 0) + modeCode s.md.mode)

/-- The port echo (Table 12.4): what SO carries during a header, of the latest frame before the present one. -/
def portEcho (s : State) (p : Port) : List Byte := [s.port[p].last, BitVec.ofNat 8 s.port[p].seq, echoByte s p]

/-- A header passes, with the echo on SO. -/
def sendEcho (s : State) (p : Port) : State := updPort s p fun x => { x with echo := portEcho s p }

/-- A non-STATUS frame ends: its record, its counts, and the owner timer (R339, R390, PCNT_p). `sent`: its data words as they travelled. -/
def frameEnd (s : State) (p : Port) (f : Frame) (code : Nat) (beyond : Bool) (so sent : List Word) : State :=
  let s1 := updPort s p fun x =>
    { x with
      last := BitVec.ofNat 8 (code + if beyond then 128 else 0)
      seq := nextSeq x.seq
      crc := checkWord f.cmd f.page f.off sent
      count := min 65535 sent.length
      so := so
      hold := none
      selected := false
      okCnt := if code = 0 then (x.okCnt + 1) % 65536 else x.okCnt
      rejCnt := if code = 0 ∨ code = stTimeout then x.rejCnt else satAdd 255 x.rejCnt 1
      tmoCnt := if code = stTimeout then satAdd 255 x.tmoCnt 1 else x.tmoCnt }
  ownerRestart s1 p code

/-! ## READ (R340, R341, R377, R401) -/

/-- The words at the offsets, with the latches that reading them sets and ends. Past the page end they are zero. -/
def readWords (p : Port) (page : Nat) : List Nat → State → State × List Word
  | [], s => (s, [])
  | o :: r, s =>
    let a := if pageLast page < o then (s, 0) else readOne s p page o
    let b := readWords p page r a.1
    (b.1, a.2 :: b.2)

/-- A frame reads past the page end. -/
def readsBeyond (f : Frame) : Bool := (readOffs f).any fun o => decide (pageLast f.page < o)

/-- Queues whose windows the frame reads, and those of which it reads word 19. -/
def windows (f : Frame) : List (Ctrl × Fin 2) :=
  (if (readOffs f).any (fun o => decide (0x20 ≤ o) && decide (o < 0x34)) then [(ctrlOf f.page, 0)] else []) ++
    (if (readOffs f).any (fun o => decide (0x40 ≤ o) && decide (o < 0x54)) then [(ctrlOf f.page, 1)] else [])

def popsOf (f : Frame) : List (Ctrl × Fin 2) :=
  (if (readOffs f).contains 0x33 then [(ctrlOf f.page, 0)] else []) ++ (if (readOffs f).contains 0x53 then [(ctrlOf f.page, 1)] else [])

/-- The queue's lock is the port's. -/
def ownLock (s : State) (p : Port) (c : Ctrl) (q : Fin 2) : Bool :=
  match s.can[c].rxq[q].lock with
  | some (o, _) => decide (o = p)
  | none => false

/-- The locks of a READ of window words: an accepted frame takes them and pops at word 19; a rejected one keeps only what the port had (R377, R343). -/
def queueLocks (s : State) (p : Port) (f : Frame) (ok : Bool) : State :=
  if f.page ≠ 15 ∧ f.page ≠ 16 then s
  else
    let s1 := (windows f).foldl (fun s e => if ok || ownLock s p e.1 e.2 then rxqLock s p e.1 e.2 else s) s
    if ok then (popsOf f).foldl (fun s e => if ownLock s p e.1 e.2 then rxqDrop s e.1 e.2 else s) s1 else s1

/-- A READ, with the code that its end gives. -/
def readFrame (s : State) (p : Port) (f : Frame) (code : Nat) : State :=
  if earlyCode s p f ≠ 0 ∨ lmwinBad s f then
    let z := List.replicate f.words.length (0 : Word)
    frameEnd s p f code false z z
  else
    let r := readWords p f.page (readOffs f) s
    frameEnd (queueLocks r.1 p f (decide (code = 0))) p f code (readsBeyond f) r.2 r.2

/-! ## WRITE (R343, R344, R406) -/

/-- The writes of an accepted frame in ascending offset. -/
def regWrites (p : Port) (page : Nat) (s : State) (ws : List (Nat × Word)) : State := ws.foldl (fun s e => regWrite s p page e.1 e.2) s

/-- A frame that wrote a mailbox word counts once. -/
def mboxCount (s : State) (page : Nat) (ws : List (Nat × Word)) : State :=
  if page = 1 ∧ ws.any (fun e => decide (0x100 ≤ e.1)) then { s with mbox := { s.mbox with seq := (s.mbox.seq + 1) % 2 ^ 32 } } else s

/-- MNTREF describes a request that the arbiter refused (R423). -/
def noteRefusal (s : State) (p : Port) (f : Frame) : State :=
  match regsFail p f.page s (writes f) with
  | some (c, t, o, w) =>
    match mntAsk t p f.page o w with
    | some a =>
      match mntDecide t a with
      | some r => if r.code = c then mntRefuse s a.kind r else s
      | none => s
    | none => s
  | none => s

/-- RSTCTL in an accepted frame resets the control die when everything else has been applied (R71). -/
def resetLast (s : State) (page : Nat) (ws : List (Nat × Word)) : State :=
  if page = 0 then
    match ws.find? fun e => decide (e.1 = 0x11) with
    | some e => rstctlWrite s e.2
    | none => s
  else s

def writeFrame (s : State) (p : Port) (f : Frame) (code : Nat) : State :=
  let z := List.replicate f.words.length (0 : Word)
  if code = 0 then
    let s1 := mboxCount (regWrites p f.page s (writes f)) f.page (writes f)
    resetLast (frameEnd s1 p f 0 false z f.words) f.page (writes f)
  else
    let s1 := if code = stMaintBusy ∨ code = stMaintConflict then noteRefusal s p f else s
    frameEnd s1 p f code false z f.words

/-! ## READ-SNAP (R403) -/

/-- The words of the held generation. -/
def snapWords (s : State) (b : Fin 3) (f : Frame) : List Word :=
  (readOffs f).map fun o => if pageLast f.page < o then 0 else if f.page = 6 then page6Word s b o else page7Word s b o

def snapFrame (s : State) (p : Port) (f : Frame) (code : Nat) : State :=
  if earlyCode s p f ≠ 0 then
    let z := List.replicate f.words.length (0 : Word)
    frameEnd s p f code false z z
  else
    let so := snapWords s (s.port[p].hold.getD s.snap.latest) f
    frameEnd s p f code (readsBeyond f) so so

/-! ## The other commands -/

/-- CLAIM. -/
def claimFrame (s : State) (p : Port) (f : Frame) (code : Nat) : State :=
  let z := List.replicate f.words.length (0 : Word)
  frameEnd (if code = 0 then claimAct s p f.word else s) p f code false z f.words

/-- APPLY and DISCARD. -/
def applyFrame (s : State) (p : Port) (f : Frame) (code : Nat) : State :=
  let z := List.replicate f.words.length (0 : Word)
  frameEnd (if code = 0 then applyAct s f.word else if code = stApplyRejected then applyBusy s else s) p f code false z f.words

/-- QUOTE. -/
def quoteFrame (s : State) (p : Port) (f : Frame) (code : Nat) : State :=
  let z := List.replicate f.words.length (0 : Word)
  frameEnd (if code = 0 then quoteStart s p f.words else s) p f code false z f.words

/-- CMD 7. -/
def otherFrame (s : State) (p : Port) (f : Frame) (code : Nat) : State :=
  frameEnd s p f code false (List.replicate f.words.length (0 : Word)) f.words

/-- STATUS words (Table 12.5). -/
def statusWords (s : State) (p : Port) (n : Nat) : List Word :=
  let x := s.port[p]
  ([x.last.setWidth 32 ||| place 16 x.seq, x.crc, BitVec.ofNat 32 x.count, (echoByte s p).setWidth 32] ++ List.replicate n 0).take n

/-- A STATUS frame changes neither the record nor the counts (R339); it restarts the owner timer (R390). -/
def statusFrame (s : State) (p : Port) (n code : Nat) : State :=
  ownerRestart (updPort s p fun x => { x with so := statusWords s p n, hold := none, selected := false }) p code

/-- A frame ends with a code. -/
def frameAct (s : State) (p : Port) (f : Frame) (code : Nat) : State :=
  match f.cmd with
  | 0 => readFrame s p f code
  | 1 => writeFrame s p f code
  | 2 => snapFrame s p f code
  | 3 => statusFrame s p f.words.length code
  | 4 => claimFrame s p f code
  | 5 => applyFrame s p f code
  | 6 => quoteFrame s p f code
  | _ => otherFrame s p f code

/-- A frame is served: the echo during its header, then its effect. -/
def serveFrame (s : State) (p : Port) (f : Frame) (code : Nat) : State := frameAct (sendEcho s p) p f code

/-- A whole frame on a serving port. A port that does not serve takes no frame, and a port has one frame at a time, so the end of a frame leaves no generation held (R335, R403). -/
def hostFrame (s : State) (p : Port) (f : Frame) : State := if portInert s p then s else serveFrame s p f (frameCode s p f)

/-- An owner write of one register. -/
def hostWrite (s : State) (p : Port) (page off : Nat) (ws : List Word) : State := hostFrame s p (checkedFrame 1 page off ws)

/-! ## The frame commands -/

/-- PORT_SELECT: the handshake of Table 12.7; with RDY low the fall of CS_N is ignored whole (R347). -/
def execPortSelect (p : Port) (s : State) (rdy : Bool := true) : Out :=
  .next (if portInert s p || !rdy then s else updPort s p fun x => { x with selected := true })

/-- READ of `n` words. -/
def execRead (p : Port) (page off n : Nat) (part : Bool) (s : State) : Out :=
  .next (hostFrame s p { cmd := 0, page := page % 32, off := off % 65536, words := List.replicate n 0, part := part })

/-- WRITE; the last word is the check word. -/
def execWrite (p : Port) (page off : Nat) (words : List Word) (part : Bool) (s : State) : Out :=
  .next (hostFrame s p { cmd := 1, page := page % 32, off := off % 65536, words := words, part := part })

/-- READ_SNAP of `n` words; with `ends` false the frame is still open and holds its buffer. -/
def execReadSnap (p : Port) (page off n : Nat) (part ends : Bool) (s : State) : Out :=
  .next (
    let f : Frame := { cmd := 2, page := page % 32, off := off % 65536, words := List.replicate n 0, part := part }
    if portInert s p then s
    else if ends then hostFrame s p f
    else if earlyCode s p f ≠ 0 ∨ n = 0 then sendEcho s p
    else updPort (sendEcho s p) p fun x => { x with hold := some (x.hold.getD s.snap.latest), selected := true })

/-- STATUS of `n` words. -/
def execStatus (p : Port) (n : Nat) (s : State) (part : Bool := false) : Out :=
  .next (hostFrame s p { cmd := 3, page := 0, off := 0, words := List.replicate n 0, part := part })

/-- BAD_CMD: a frame with CMD 7. -/
def execBadCmd (p : Port) (page off : Nat) (words : List Word) (part : Bool) (s : State) : Out :=
  .next (hostFrame s p { cmd := 7, page := page % 32, off := off % 65536, words := words, part := part })

/-- FRAME_TIMEOUT: TIMEOUT is the last check, so an earlier one that fails gives the code (R342, R346). -/
def execFrameTimeout (p : Port) (cmd : BitVec 3) (page off : Nat) (words : List Word) (s : State) : Out :=
  .next (
    let f : Frame := { cmd := cmd.toNat, page := page % 32, off := off % 65536, words := words, part := false }
    if portInert s p || decide (cfgField s 17 p.val 8 8 = 0) then s
    else serveFrame s p f (if frameCode s p f = 0 then stTimeout else frameCode s p f))

/-! ## The peer port (R350, R351) -/

/-- A push ends with a fault. -/
def pushFault (s : State) (code arg : Nat) : State :=
  ledger { s with peer := { s.peer with busy := none, faults := satAdd 255 s.peer.faults 1 } } code 9 2 arg

/-- The two frames of a push (R351): the WRITE with its check word, and a STATUS frame of one word. -/
def pushFrames (s : State) (ws : List Word) : List PushFrame :=
  let dummy := cfgField s 17 0x11 5 3
  [{ cmd := 1, page := cfgField s 17 0x11 0 5, off := cfgField s 17 0x11 16 16, dummy := dummy, words := ws },
   { cmd := 3, page := 0, off := 0, dummy := dummy, words := [0] }]

/-- PEER_PUSH: the push of the latest push instant runs; `collisions` select collisions came first, and `reply` is the partner's status byte. -/
def execPeerPush (collisions : Nat) (reply : Byte) (s : State) : Out :=
  .next (
    match s.peer.busy.filter fun _ => s.vddio.getLsbD 3 with
    | none => s
    | some ws =>
      if cfgField s 17 0x10 4 3 < collisions then pushFault s 96 (cfgField s 17 0x10 4 3 + 1)
      else { s with peer := { s.peer with busy := none, lastStat := reply, sent := pushFrames s ws } })

/-- PP_STALL: PP_RDY stays low for 100 µs within a frame that the device masters. -/
def execPpStall (s : State) : Out := .next (if s.peer.busy.isNone || !s.vddio.getLsbD 3 then s else pushFault s 97 0)

end Sys2Proof.Machine
end

