-- ==== Sys2Proof/Machine/HostRows.lean ====
section
/-!
DEFINITION. The commands that are an owner's write of one register, or another frame with one purpose: each is the frame that carries it (R342, R344). KEY and operand fields stand in the word as the register's home chapter places them.
-/

namespace Sys2Proof.Machine

/-- A key in bits [31:24]. -/
def keyed (key : Byte) (w : Word) : Word := place 24 key.toNat ||| w

/-! ## Pages 0 and 4: reset, boot, journal, mode, power, lanes -/

def execRstctlCold (p : Port) (key : Byte) (s : State) : Out := .next (hostWrite s p 0 0x11 [keyed key (place 0 1)])
def execRstctlWarm (p : Port) (key : Byte) (s : State) : Out := .next (hostWrite s p 0 0x11 [keyed key (place 0 2)])
def execConfirm (p : Port) (s : State) : Out := .next (hostWrite s p 0 0x13 [1])
def execJrnctlNow (p : Port) (s : State) : Out := .next (hostWrite s p 0 0x16 [1])

/-- QUOTE: the data words are the nonce (R83). -/
def execQuote (p : Port) (page off : Nat) (nonce : List Word) (s : State) (part : Bool := false) : Out :=
  .next (hostFrame s p { cmd := 6, page := page % 32, off := off % 65536, words := nonce, part := part })

def execModecmdQuiet (p : Port) (key : Byte) (s : State) : Out := .next (hostWrite s p 0 0x21 [keyed key (place 0 1)])
def execModecmdHold (p : Port) (key : Byte) (s : State) : Out := .next (hostWrite s p 0 0x21 [keyed key (place 0 2)])
def execModecmdPrime (p : Port) (key : Byte) (warm : Bool) (s : State) : Out :=
  .next (hostWrite s p 0 0x21 [keyed key (place 0 3 ||| placeB 3 warm)])
def execModecmdSafe (p : Port) (key : Byte) (s : State) : Out := .next (hostWrite s p 0 0x21 [keyed key (place 0 7)])

/-- BPWR_ON: PWRCTL as it stands with the die's bit 1; `viso` is VISO in mV at the write (R106). -/
def execBpwrOn (p : Port) (d : Die) (viso : Nat) (s : State) : Out :=
  .next (
    let s1 := { s with pwr := { s.pwr with viso := viso } }
    hostWrite s1 p 0 0x23 [pwrctlWord s ||| place d.val 1])

def execBpwrOff (p : Port) (d : Die) (s : State) : Out := .next (hostWrite s p 0 0x23 [pwrctlWord s &&& ~~~(place d.val 1)])

def execLclkSet (p : Port) (v : BitVec 3) (s : State) : Out :=
  .next (hostWrite s p 0 0x23 [(pwrctlWord s &&& ~~~0xE0#32) ||| place 5 v.toNat])

def execLoopmodSet (p : Port) (v : BitVec 16) (s : State) : Out :=
  .next (hostWrite s p 0 0x23 [(pwrctlWord s &&& 0xFFFF#32) ||| place 16 v.toNat])

def execPwrhartSet (p : Port) (v : BitVec 16) (s : State) : Out := .next (hostWrite s p 0 0x24 [place 0 v.toNat])

def execLanecmdExclude (p : Port) (key : Byte) (l : BitVec 2) (s : State) : Out :=
  .next (hostWrite s p 4 0x20 [keyed key (place 0 1 ||| place 4 l.toNat)])
def execLanecmdReint (p : Port) (key : Byte) (l : BitVec 2) (s : State) : Out :=
  .next (hostWrite s p 4 0x20 [keyed key (place 0 2 ||| place 4 l.toNat)])
def execLanecmdSlackReset (p : Port) (key : Byte) (s : State) : Out := .next (hostWrite s p 4 0x20 [keyed key (place 0 3)])

/-! ## Pages 3 and 5: time set, program load -/

/-- TSET: both words in one frame (R188). -/
def execTset (p : Port) (lo hi : Word) (s : State) : Out := .next (hostWrite s p 3 6 [lo, hi])

def execPlStart (p : Port) (key : Byte) (type : BitVec 8) (s : State) : Out :=
  .next (hostWrite s p 5 0x10 [keyed key (place 0 1 ||| place 16 type.toNat)])
def execPlChunk (p : Port) (key : Byte) (n : BitVec 8) (s : State) : Out :=
  .next (hostWrite s p 5 0x10 [keyed key (place 0 2 ||| place 8 n.toNat)])
def execPlFinish (p : Port) (key : Byte) (s : State) : Out := .next (hostWrite s p 5 0x10 [keyed key (place 0 3)])
def execPlAbort (p : Port) (key : Byte) (s : State) : Out := .next (hostWrite s p 5 0x10 [keyed key (place 0 4)])
def execPlTrial (p : Port) (key : Byte) (n : BitVec 8) (s : State) : Out :=
  .next (hostWrite s p 5 0x10 [keyed key (place 0 5 ||| place 8 n.toNat)])

/-! ## Pages 12 to 14: loops, HART, chain test -/

def execOwTestStart (p : Port) (key : Byte) (k : Chan) (s : State) : Out := .next (hostWrite s p 12 2 [keyed key (place 0 k.val ||| place 4 1)])
def execOwTestAbort (p : Port) (key : Byte) (k : Chan) (s : State) : Out := .next (hostWrite s p 12 2 [keyed key (place 0 k.val ||| place 4 2)])
def execTrimPoint1 (p : Port) (key : Byte) (k : Chan) (s : State) : Out := .next (hostWrite s p 12 3 [keyed key (place 0 k.val ||| place 4 1)])
def execTrimPoint2 (p : Port) (key : Byte) (k : Chan) (s : State) : Out := .next (hostWrite s p 12 3 [keyed key (place 0 k.val ||| place 4 2)])
def execTrimCompute (p : Port) (key : Byte) (k : Chan) (s : State) : Out := .next (hostWrite s p 12 3 [keyed key (place 0 k.val ||| place 4 3)])
def execTrimAbort (p : Port) (key : Byte) (k : Chan) (s : State) : Out := .next (hostWrite s p 12 3 [keyed key (place 0 k.val ||| place 4 4)])

/-- HART_GO: HCTL_k with OP 1 and the KEY of `ctl`. -/
def execHartGo (p : Port) (k : Chan) (ctl : Word) (s : State) : Out :=
  .next (hostWrite s p 13 (0x43 + 8 * k.val) [(ctl &&& 0xFF000000#32) ||| 1])
def execHartCancel (p : Port) (k : Chan) (s : State) : Out := .next (hostWrite s p 13 (0x43 + 8 * k.val) [keyed 0x69 (place 0 2)])

def execHscan (p : Port) (key : Byte) (k : Chan) (first last : BitVec 6) (s : State) : Out :=
  .next (hostWrite s p 13 2 [keyed key (place 0 k.val ||| place 4 first.toNat ||| place 10 last.toNat)])

/-- CHAIN_TEST_START: PATTERN is the low two bits of `pattern`. -/
def execChainTestStart (p : Port) (key : Byte) (k : Chan) (pattern : BitVec 4) (s : State) : Out :=
  .next (hostWrite s p 14 0x30 [keyed key (place 0 k.val ||| place 4 1 ||| place 6 (pattern.toNat % 4))])
def execChainTestStop (p : Port) (key : Byte) (k : Chan) (s : State) : Out :=
  .next (hostWrite s p 14 0x30 [keyed key (place 0 k.val ||| place 4 2)])

/-! ## Pages 15, 16 and 21: CAN commands, queue windows, raw memory port -/

/-- RXQ_POP: a READ of the twenty words of the window (R377). -/
def execRxqPop (p : Port) (c : Ctrl) (q : Fin 2) (s : State) : Out :=
  .next (hostFrame s p { cmd := 0, page := canPage c, off := if q = 0 then 0x20 else 0x40, words := List.replicate 20 0, part := false })

def execCancmdRecover (p : Port) (c : Ctrl) (key : Byte) (s : State) : Out := .next (hostWrite s p (canPage c) 6 [keyed key (place 0 1)])
def execCancmdFlush (p : Port) (c : Ctrl) (key : Byte) (s : State) : Out := .next (hostWrite s p (canPage c) 6 [keyed key (place 0 2)])

def execMpxRead (p : Port) (key n : Byte) (s : State) : Out := .next (hostWrite s p 21 0x11 [keyed key (place 0 1 ||| place 8 n.toNat)])
def execMpxProgram (p : Port) (key n : Byte) (s : State) : Out := .next (hostWrite s p 21 0x11 [keyed key (place 0 2 ||| place 8 n.toNat)])
def execMpxErase (p : Port) (key : Byte) (s : State) : Out := .next (hostWrite s p 21 0x11 [keyed key (place 0 3)])
def execMpxReadid (p : Port) (key : Byte) (s : State) : Out := .next (hostWrite s p 21 0x11 [keyed key (place 0 4)])

/-! ## CLAIM and APPLY frames (R388, R395) -/

def execClaimTake (p : Port) (key : Byte) (s : State) (how : HowSent := wholeFrame 0) : Out :=
  .next (hostFrame s p (sentFrame 4 how (keyed key (place 0 1))))
def execClaimRelease (p : Port) (key : Byte) (s : State) (how : HowSent := wholeFrame 0) : Out :=
  .next (hostFrame s p (sentFrame 4 how (keyed key (place 0 2))))
def execClaimHandover (p : Port) (target : BitVec 2) (key : Byte) (s : State) (how : HowSent := wholeFrame 0) : Out :=
  .next (hostFrame s p (sentFrame 4 how (keyed key (place 0 3 ||| place 4 target.toNat))))

def execApply (p : Port) (key : Byte) (s : State) (how : HowSent := wholeFrame 1) : Out :=
  .next (hostFrame s p (sentFrame 5 how (keyed key (place 0 1))))
def execDiscard (p : Port) (key : Byte) (s : State) (how : HowSent := wholeFrame 1) : Out :=
  .next (hostFrame s p (sentFrame 5 how (keyed key (place 0 2))))

/-! ## Pages 2, 18 and 19: ledger, host watchdog, maintenance -/

def execWdhost (p : Port) (word : Word) (s : State) : Out := .next (hostWrite s p 18 0x20 [word])
def execLedgerClear (p : Port) (r : Fin 4) (bits : Word) (s : State) : Out := .next (hostWrite s p 2 r.val [bits])

def execMntSvTest (p : Port) (key : Byte) (unit : BitVec 3) (s : State) : Out :=
  .next (hostWrite s p 19 0 [keyed key (place 0 1 ||| place 3 unit.toNat)])
def execMntInTest (p : Port) (key : Byte) (unit : BitVec 3) (mask : BitVec 16) (s : State) : Out :=
  .next (hostWrite s p 19 0 [keyed key (place 0 2 ||| place 3 unit.toNat ||| place 8 mask.toNat)])
def execMntOlProbe (p : Port) (key : Byte) (unit : BitVec 3) (mask : BitVec 16) (s : State) : Out :=
  .next (hostWrite s p 19 0 [keyed key (place 0 3 ||| place 3 unit.toNat ||| place 8 mask.toNat)])
def execMntAbort (p : Port) (key : Byte) (unit : BitVec 3) (s : State) : Out :=
  .next (hostWrite s p 19 0 [keyed key (place 0 4 ||| place 3 unit.toNat)])

end Sys2Proof.Machine
end

