-- ==== Sys2Proof/Machine/LynAlu.lean ====
section
/-!
DEFINITION. LYN arithmetic, logic, shifts, multiply, divide, immediates, LUI and CSEL (R158 to R160).
-/

namespace Sys2Proof.Machine

def execAdd (l : Lane) (rd ra rb : Reg) (s : State) : Out :=
  .next (lyn s l (encAlu 0x00 rd ra rb) (lynAlu rd fun x => aluAdd (xget x ra) (xget x rb) false))

def execSub (l : Lane) (rd ra rb : Reg) (s : State) : Out :=
  .next (lyn s l (encAlu 0x01 rd ra rb) (lynAlu rd fun x => aluSub (xget x ra) (xget x rb) true))

def execAdc (l : Lane) (rd ra rb : Reg) (s : State) : Out :=
  .next (lyn s l (encAlu 0x02 rd ra rb) (lynAlu rd fun x => aluAdd (xget x ra) (xget x rb) x.flC))

def execSbc (l : Lane) (rd ra rb : Reg) (s : State) : Out :=
  .next (lyn s l (encAlu 0x03 rd ra rb) (lynAlu rd fun x => aluSub (xget x ra) (xget x rb) x.flC))

def execAdds (l : Lane) (rd ra rb : Reg) (s : State) : Out :=
  .next (lyn s l (encAlu 0x04 rd ra rb) (lynAlu rd fun x => aluAdds (xget x ra) (xget x rb)))

def execSubs (l : Lane) (rd ra rb : Reg) (s : State) : Out :=
  .next (lyn s l (encAlu 0x05 rd ra rb) (lynAlu rd fun x => aluSubs (xget x ra) (xget x rb)))

def execCmp (l : Lane) (ra rb : Reg) (s : State) : Out :=
  .next (lyn s l (encAlu 0x06 0 ra rb) (lynCmp fun x => aluSub (xget x ra) (xget x rb) true))

def execAnd (l : Lane) (rd ra rb : Reg) (s : State) : Out :=
  .next (lyn s l (encAlu 0x08 rd ra rb) (lynAlu rd fun x => aluKeep (xget x ra &&& xget x rb)))

def execOr (l : Lane) (rd ra rb : Reg) (s : State) : Out :=
  .next (lyn s l (encAlu 0x09 rd ra rb) (lynAlu rd fun x => aluKeep (xget x ra ||| xget x rb)))

def execXor (l : Lane) (rd ra rb : Reg) (s : State) : Out :=
  .next (lyn s l (encAlu 0x0A rd ra rb) (lynAlu rd fun x => aluKeep (xget x ra ^^^ xget x rb)))

def execAndn (l : Lane) (rd ra rb : Reg) (s : State) : Out :=
  .next (lyn s l (encAlu 0x0B rd ra rb) (lynAlu rd fun x => aluKeep (xget x ra &&& ~~~(xget x rb))))

def execTst (l : Lane) (ra rb : Reg) (s : State) : Out :=
  .next (lyn s l (encAlu 0x0C 0 ra rb) (lynCmp fun x => aluKeep (xget x ra &&& xget x rb)))

/-- The amount of a register shift is X(rb)[7:0] (R159). -/
def shiftAmt (x : LaneSt) (rb : Reg) : Nat := (xget x rb).toNat % 256

def execSll (l : Lane) (rd ra rb : Reg) (s : State) : Out :=
  .next (lyn s l (encAlu 0x10 rd ra rb) (lynAlu rd fun x => shiftLeft (xget x ra) (shiftAmt x rb)))

def execSrl (l : Lane) (rd ra rb : Reg) (s : State) : Out :=
  .next (lyn s l (encAlu 0x11 rd ra rb) (lynAlu rd fun x => shiftRight (xget x ra) (shiftAmt x rb)))

def execSra (l : Lane) (rd ra rb : Reg) (s : State) : Out :=
  .next (lyn s l (encAlu 0x12 rd ra rb) (lynAlu rd fun x => shiftArith (xget x ra) (shiftAmt x rb)))

def execRor (l : Lane) (rd ra rb : Reg) (s : State) : Out :=
  .next (lyn s l (encAlu 0x13 rd ra rb) (lynAlu rd fun x => shiftRotate (xget x ra) (shiftAmt x rb)))

def execMul (l : Lane) (rd ra rb : Reg) (s : State) : Out :=
  .next (lyn s l (encAlu 0x18 rd ra rb) (lynAlu rd fun x => aluMul (xget x ra) (xget x rb)))

def execMulhs (l : Lane) (rd ra rb : Reg) (s : State) : Out :=
  .next (lyn s l (encAlu 0x19 rd ra rb) (lynAlu rd fun x => aluMulhs (xget x ra) (xget x rb)))

def execMulhu (l : Lane) (rd ra rb : Reg) (s : State) : Out :=
  .next (lyn s l (encAlu 0x1A rd ra rb) (lynAlu rd fun x => aluMulhu (xget x ra) (xget x rb)))

def execDivs (l : Lane) (rd ra rb : Reg) (s : State) : Out :=
  .next (lyn s l (encAlu 0x1C rd ra rb) (lynAlu rd fun x => aluDivs (xget x ra) (xget x rb)))

def execDivu (l : Lane) (rd ra rb : Reg) (s : State) : Out :=
  .next (lyn s l (encAlu 0x1D rd ra rb) (lynAlu rd fun x => aluDivu (xget x ra) (xget x rb)))

def execRems (l : Lane) (rd ra rb : Reg) (s : State) : Out :=
  .next (lyn s l (encAlu 0x1E rd ra rb) (lynAlu rd fun x => aluRems (xget x ra) (xget x rb)))

def execRemu (l : Lane) (rd ra rb : Reg) (s : State) : Out :=
  .next (lyn s l (encAlu 0x1F rd ra rb) (lynAlu rd fun x => aluRemu (xget x ra) (xget x rb)))

def execMin (l : Lane) (rd ra rb : Reg) (s : State) : Out :=
  .next (lyn s l (encAlu 0x20 rd ra rb)
    (lynAlu rd fun x => aluKeep (if (xget x ra).toInt ≤ (xget x rb).toInt then xget x ra else xget x rb)))

def execMax (l : Lane) (rd ra rb : Reg) (s : State) : Out :=
  .next (lyn s l (encAlu 0x21 rd ra rb)
    (lynAlu rd fun x => aluKeep (if (xget x ra).toInt ≤ (xget x rb).toInt then xget x rb else xget x ra)))

def execMinu (l : Lane) (rd ra rb : Reg) (s : State) : Out :=
  .next (lyn s l (encAlu 0x22 rd ra rb)
    (lynAlu rd fun x => aluKeep (if (xget x ra).toNat ≤ (xget x rb).toNat then xget x ra else xget x rb)))

def execMaxu (l : Lane) (rd ra rb : Reg) (s : State) : Out :=
  .next (lyn s l (encAlu 0x23 rd ra rb)
    (lynAlu rd fun x => aluKeep (if (xget x ra).toNat ≤ (xget x rb).toNat then xget x rb else xget x ra)))

def execClz (l : Lane) (rd ra : Reg) (s : State) : Out :=
  .next (lyn s l (encAlu 0x28 rd ra 0) (lynAlu rd fun x => aluKeep (BitVec.ofNat 32 (clzFrom (xget x ra) 32))))

def execPopc (l : Lane) (rd ra : Reg) (s : State) : Out :=
  .next (lyn s l (encAlu 0x29 rd ra 0) (lynAlu rd fun x => aluKeep (BitVec.ofNat 32 (popFrom (xget x ra) 32))))

def execAddi (l : Lane) (rd ra : Reg) (imm : BitVec 18) (s : State) : Out :=
  .next (lyn s l (encI 0x02 rd ra imm) (lynAlu rd fun x => aluAdd (xget x ra) (simm18 imm) false))

def execCmpi (l : Lane) (ra : Reg) (imm : BitVec 18) (s : State) : Out :=
  .next (lyn s l (encI 0x03 0 ra imm) (lynCmp fun x => aluSub (xget x ra) (simm18 imm) true))

def execAndi (l : Lane) (rd ra : Reg) (imm : BitVec 18) (s : State) : Out :=
  .next (lyn s l (encI 0x04 rd ra imm) (lynAlu rd fun x => aluKeep (xget x ra &&& uimm18 imm)))

def execOri (l : Lane) (rd ra : Reg) (imm : BitVec 18) (s : State) : Out :=
  .next (lyn s l (encI 0x05 rd ra imm) (lynAlu rd fun x => aluKeep (xget x ra ||| uimm18 imm)))

def execXori (l : Lane) (rd ra : Reg) (imm : BitVec 18) (s : State) : Out :=
  .next (lyn s l (encI 0x06 rd ra imm) (lynAlu rd fun x => aluKeep (xget x ra ^^^ uimm18 imm)))

/-- imm18 of SHI: amount in [4:0], kind in [6:5] (Table 6.6). -/
def shiImm (kind : BitVec 2) (amt : BitVec 5) : BitVec 18 := BitVec.ofNat 18 (kind.toNat * 32 + amt.toNat)

def execShi (l : Lane) (rd ra : Reg) (kind : BitVec 2) (amt : BitVec 5) (s : State) : Out :=
  .next (lyn s l (encI 0x07 rd ra (shiImm kind amt)) (lynAlu rd fun x => shiftKind kind (xget x ra) amt.toNat))

def execLui (l : Lane) (rd : Reg) (imm : BitVec 22) (s : State) : Out :=
  .next (lyn s l (encU 0x08 rd.val imm) fun x => .next (pcNext (xset x rd (imm.setWidth 32 <<< 10))) [])

/-- A condition of 0xF raises ILLEGAL (R156). -/
def execCsel (l : Lane) (rd ra rb : Reg) (cond : BitVec 4) (s : State) : Out :=
  .next (lyn s l (encR 0x09 rd ra rb cond.toNat 0) fun x =>
    match condHolds cond x.flN x.flZ x.flC x.flV with
    | some b => .next (pcNext (xset x rd (if b then xget x ra else xget x rb))) []
    | none => .trap trapIllegal 0 0)

end Sys2Proof.Machine
end

