-- ==== Sys2Proof/Machine/LynMem.lean ====
section
/-!
DEFINITION. LYN loads, stores, the CRC unit's stores and control transfer (R148 to R154, R158, R171, R449), and the words that raise a trap at the fetch (R155, R171).
-/

namespace Sys2Proof.Machine

/-- A load into rd: the bytes read as a number, extended by `ext`. -/
def lynLd (s : State) (x : LaneSt) (rd ra : Reg) (imm : BitVec 18) (size : Nat) (ecc : Ecc) (ext : Nat → Word) : LynRes :=
  lynLoad s x (effAddr x ra imm) size ecc fun y v => .next (pcNext (xset y rd (ext v))) []

def execLdw (l : Lane) (rd ra : Reg) (imm : BitVec 18) (ecc : Ecc) (s : State) : Out :=
  .next (lyn s l (encI 0x10 rd ra imm) fun x => lynLd s x rd ra imm 4 ecc fun v => BitVec.ofNat 32 v)

def execLdh (l : Lane) (rd ra : Reg) (imm : BitVec 18) (ecc : Ecc) (s : State) : Out :=
  .next (lyn s l (encI 0x11 rd ra imm) fun x => lynLd s x rd ra imm 2 ecc fun v => (BitVec.ofNat 16 v).signExtend 32)

def execLdhu (l : Lane) (rd ra : Reg) (imm : BitVec 18) (ecc : Ecc) (s : State) : Out :=
  .next (lyn s l (encI 0x12 rd ra imm) fun x => lynLd s x rd ra imm 2 ecc fun v => BitVec.ofNat 32 v)

def execLdb (l : Lane) (rd ra : Reg) (imm : BitVec 18) (ecc : Ecc) (s : State) : Out :=
  .next (lyn s l (encI 0x13 rd ra imm) fun x => lynLd s x rd ra imm 1 ecc fun v => (BitVec.ofNat 8 v).signExtend 32)

def execLdbu (l : Lane) (rd ra : Reg) (imm : BitVec 18) (ecc : Ecc) (s : State) : Out :=
  .next (lyn s l (encI 0x14 rd ra imm) fun x => lynLd s x rd ra imm 1 ecc fun v => BitVec.ofNat 32 v)

def execStw (l : Lane) (rs ra : Reg) (imm : BitVec 18) (s : State) : Out :=
  .next (lyn s l (encI 0x15 rs ra imm) fun x => lynStoreWord s x (effAddr x ra imm) (xget x rs))

def execSth (l : Lane) (rs ra : Reg) (imm : BitVec 18) (ecc : Ecc) (s : State) : Out :=
  .next (lyn s l (encI 0x16 rs ra imm) fun x => lynStorePart s x (effAddr x ra imm) 2 (xget x rs) ecc)

def execStb (l : Lane) (rs ra : Reg) (imm : BitVec 18) (ecc : Ecc) (s : State) : Out :=
  .next (lyn s l (encI 0x17 rs ra imm) fun x => lynStorePart s x (effAddr x ra imm) 1 (xget x rs) ecc)

/-- The fetched word is an STW of rs whose effective address is `a`. -/
def isStwTo (s : State) (l : Lane) (rs : Reg) (a : Nat) (w : Word) : Bool :=
  let x := s.lane[l]
  decide (fieldOf w 26 6 = 0x15) && decide (fieldOf w 22 4 = rs.val) &&
    decide ((xget x ⟨fieldOf w 18 4 % 16, by omega⟩ + simm18 (BitVec.ofNat 18 (fieldOf w 0 18))).toNat = a)

/-- STW of rs to CRC_VAL sets the running value (Table 6.3). -/
def execCrcValSet (l : Lane) (rs : Reg) (s : State) : Out :=
  .next (lynStep s l (isStwTo s l rs 0x40000000) fun x => lynStoreWord s x 0x40000000#32 (xget x rs))

/-- STW of rs to CRC_W feeds its four bytes, bits [7:0] first. -/
def execCrcW (l : Lane) (rs : Reg) (s : State) : Out :=
  .next (lynStep s l (isStwTo s l rs 0x40000004) fun x => lynStoreWord s x 0x40000004#32 (xget x rs))

/-- STW of rs to CRC_B feeds bits [7:0]. -/
def execCrcB (l : Lane) (rs : Reg) (s : State) : Out :=
  .next (lynStep s l (isStwTo s l rs 0x40000008) fun x => lynStoreWord s x 0x40000008#32 (xget x rs))

/-- A condition of 0xF raises ILLEGAL (R156). -/
def execB (l : Lane) (cond : BitVec 4) (imm : BitVec 22) (s : State) : Out :=
  .next (lyn s l (encU 0x20 cond.toNat imm) fun x =>
    match condHolds cond x.flN x.flZ x.flC x.flV with
    | some true => .next { x with pc := x.pc + simm22 imm * 4 } []
    | some false => .next (pcNext x) []
    | none => .trap trapIllegal 0 0)

def execJal (l : Lane) (rd : Reg) (imm : BitVec 22) (s : State) : Out :=
  .next (lyn s l (encU 0x21 rd.val imm) fun x => .next (xset { x with pc := x.pc + simm22 imm * 4 } rd (x.pc + 4)) [])

/-- A target that is not a multiple of 4 raises ALIGN; X(ra) is read before rd is written. -/
def execJalr (l : Lane) (rd ra : Reg) (imm : BitVec 18) (s : State) : Out :=
  .next (lyn s l (encI 0x22 rd ra imm) fun x =>
    let tgt := effAddr x ra imm
    if tgt.toNat % 4 ≠ 0 then .trap trapAlign 0 0 else .next (xset { x with pc := tgt } rd (x.pc + 4)) [])

/-- The fetched word raises ILLEGAL (R155 to R157). -/
def execIllegal (l : Lane) (word : Word) (s : State) : Out :=
  .next (lyn s l word fun x => if lynLegal word then .next x [] else .trap trapIllegal 0 0)

/-- A fetch outside a fetchable region raises ADDR, an uncorrectable error in the fetch raises ECC; a corrected one is counted (R171). -/
def execFetchFault (l : Lane) (ecc : Ecc) (s : State) : Out :=
  .next (lynStep s l (fun _ => true) fun x =>
    match ecc with
    | .clean => .next x []
    | .single => .next (countEcc x) []
    | .double => .trap trapEcc 0 0)

end Sys2Proof.Machine
end

