-- ==== Sys2Proof/Machine/Pads.lean ====
section
/-!
DEFINITION. The pads: what stands at every signal of Table 2.8 (R48 to R50), boundary scan (R52), the VDDIO rails (R50, R56), and the pad field of the package (R38 to R47).
-/

namespace Sys2Proof.Machine

/-! ## Control-side pads -/

/-- The VDDIO rail of a pad: 0 SYS, 1 HP0, 2 HP1, 3 PP, 4 MP (Table 2.8). -/
def ctlRail : CtlPad → Nat
  | .hpSck n | .hpSi n | .hpCsN n | .hpSo n | .hpRdy n | .intN n => 1 + n.val
  | .ppSck | .ppSi | .ppCsN | .ppSo | .ppRdy | .faultN => 3
  | .mpSck | .mpSo | .mpCsN _ | .mpSi | .mpRstN => 4
  | .canTxd _ | .canRxd _ | .canStb _ | .tsyncIn | .tsyncOut | .resetN | .rstoutN | .bootSel _ | .wake | .testEn => 0

/-- The device never drives the pad. -/
def ctlInput : CtlPad → Bool
  | .hpSck _ | .hpSi _ | .hpCsN _ | .ppSi | .mpSi | .canRxd _ | .tsyncIn | .resetN | .bootSel _ | .wake | .testEn => true
  | _ => false

/-- What the pull of a pad holds it at while nobody drives it (Table 2.8). -/
def ctlPull : CtlPad → PadLevel
  | .hpCsN _ | .ppCsN | .mpSi | .canRxd _ | .resetN => .high
  | .tsyncIn | .bootSel _ | .wake | .testEn => .low
  | _ => .released

def levelOf (high : Bool) : PadLevel := if high then .high else .low

/-- An open drain. -/
def drainOf (low : Bool) : PadLevel := if low then .low else .released

/-- SO of a serving port: driven from the select to the end of a frame (Table 12.2). -/
def soLevel (s : State) (p : Port) : PadLevel := if !portInert s p && s.port[p].selected then .frame else .released

/-- A frame is in its attempt on the bus. -/
def canSends (s : State) (c : Ctrl) : Bool :=
  (canState s c = 2 || canState s c = 3) && (s.can[c].onWs || s.can[c].tail.isSome || !s.can[c].fifo.isEmpty)

/-- What the device's functions drive on a pad whose rail is present, between transactions of the memory port; in reset this is the reset state of Table 2.8. -/
def ctlFunction (s : State) : CtlPad → PadLevel
  | .hpSo n => soLevel s ⟨n.val, by omega⟩
  | .hpRdy n => levelOf (!portInert s ⟨n.val, by omega⟩)
  | .intN n => drainOf (!s.boot.inReset && intLow s n.val)
  | .ppSo => soLevel s 2
  | .ppRdy => .released
  | .faultN => drainOf (faultNLow s)
  | .mpSck | .mpSo => .low
  | .mpCsN _ => .high
  | .mpRstN => levelOf (!s.boot.mpRstLow)
  | .canTxd c => if canSends s c then .frame else .high
  | .canStb c => levelOf (canStb s c)
  | .tsyncOut => levelOf s.tm.tsyncOut
  | .rstoutN => levelOf (!s.boot.rstoutLow)
  | p => ctlPull p

/-- The pair of a pad in a list. -/
def padIn (l : List (CtlPad × PadLevel)) (p : CtlPad) : Option PadLevel := (l.find? fun e => decide (e.1 = p)).map fun e => e.2

/-- What the device drives on a control-side pad: nothing without its rail (R50), its boundary cell under EXTEST (R52), else its function. -/
def ctlLevel (s : State) (p : CtlPad) : PadLevel :=
  if !s.vddio.getLsbD (ctlRail p) then .released
  else if tapHolds s && !ctlInput p then (padIn s.tap.cells p).getD .released
  else ctlFunction s p

/-- The pads of the boundary register. -/
def ctlPads : List CtlPad :=
  ([0, 1].flatMap fun n : Fin 2 => [.hpSck n, .hpSi n, .hpCsN n, .hpSo n, .hpRdy n, .intN n]) ++
    [.ppSck, .ppSi, .ppCsN, .ppSo, .ppRdy, .faultN, .mpSck, .mpSo, .mpCsN 0, .mpCsN 1, .mpSi, .mpRstN] ++
    ([0, 1].flatMap fun c : Ctrl => [.canTxd c, .canRxd c, .canStb c]) ++
    [.tsyncIn, .tsyncOut, .resetN, .rstoutN, .bootSel 0, .bootSel 1, .wake, .testEn]

/-- What the boundary cells capture: what the outside puts on the input pads, and the levels of the others. -/
def padsSeen (s : State) (inputs : List (CtlPad × PadLevel)) : List (CtlPad × PadLevel) :=
  ctlPads.map fun p => (p, if ctlInput p then (padIn inputs p).getD (ctlPull p) else ctlLevel s p)

/-- TAP_INSTRUCTION: SAMPLE captures the pads and loads the cells, EXTEST drives the cells' values and captures; outside BOOT and QUIET only BYPASS and IDCODE are accepted (R52). -/
def execTapInstruction (ins : TapIns) (s : State) (cells : List (CtlPad × PadLevel) := []) (inputs : List (CtlPad × PadLevel) := []) : Out :=
  .next (
    let free := decide (s.md.mode = .boot) || decide (s.md.mode = .quiet)
    let t := if free || decide (ins = .idcode) then ins else .bypass
    let s1 :=
      if t = .sample ∨ t = .extest then
        let s2 := { s with tap := { s.tap with ins := t, cells := cells } }
        { s2 with tap := { s2.tap with seen := padsSeen s2 inputs } }
      else { s with tap := { s.tap with ins := t } }
    wdSync s1)

/-! ## VDDIO rails -/

/-- The port of a VDDIO rail: HP0, HP1, PP. -/
def railPort (rail : Fin 5) : Option Port := if h : 1 ≤ rail.val ∧ rail.val ≤ 3 then some ⟨rail.val - 1, by omega⟩ else none

/-- VDDIO_ABSENT: a rail leaves or returns; a port without its rail is inert (R50), and without VDDIO_SYS the control die is in power-on reset (R55, R56). -/
def execVddioAbsent (rail : Fin 5) (present : Bool) (s : State) : Out :=
  .next (
    let b := BitVec.ofNat 5 (2 ^ rail.val)
    let s1 := { s with vddio := if present then s.vddio ||| b else s.vddio &&& ~~~b }
    if rail = 0 ∧ !present then enterReset s1 0
    else
      match railPort rail with
      | some p => if present then s1 else updPort s1 p fun x => { x with hold := none, selected := false }
      | none => if present then mpServe (mpServe s1 0) 1 else s1)

/-! ## Field and loop pads -/

/-- VAUX_Fn is on while the die's isolated rail is in regulation. -/
def vauxOn (s : State) (d : FDie) : Bool := powered s (toDie d) && s.die[toDie d].pt != 0

/-- What a channel's terminal carries: its switch, and its input sink. -/
structure ChanPad where
  closed : Bool
  sink : Bool
deriving DecidableEq, Repr

def chanPad (s : State) (d : FDie) (k : Chan) : ChanPad := { closed := stageOn s d k, sink := (chan s d k).sink }

/-- The load current of a channel, or the summed one of a ganged pair, as last converted, µA. -/
def loadCurrent (s : State) (d : FDie) (k : Chan) : Int :=
  let g := govOf s d k
  if isLower s d g.val then (chan s d g).iUa + (chan s d ⟨(g.val + 1) % 16, Nat.mod_lt _ (by decide)⟩).iUa else (chan s d k).iUa

/-- SNS_Fn (R245): the selected channel's current over 2,000, in nA, none for reverse current; high impedance with EN 0 or without barrier power. -/
def snsLevel (s : State) (d : FDie) : Option Nat :=
  if dieOn s d && fdBit s d 4 0 then some ((loadCurrent s d ⟨(fld s d).snsCur % 16, Nat.mod_lt _ (by decide)⟩).toNat / 2) else none

/-- A loop's pads: LPk_SUP on, the burden path of LPk_IN connected, a test current drawn there; LPk_SP and LPk_SN only sense. -/
structure LoopPad where
  supplyOn : Bool
  connected : Bool
  testCurrent : Bool
deriving DecidableEq, Repr

def loopPad (s : State) (k : Chan) : LoopPad :=
  { supplyOn := s.loop[k].supon, connected := s.loop[k].connected, testCurrent := owCurrent s.loop[k].ow }

/-! ## The pad field (R38 to R47) -/

/-- Row letters by row index 1 to 36 (Table 2.1). -/
def rowLetters : List String :=
  ["A", "B", "C", "D", "E", "F", "G", "H", "J", "K", "L", "M", "N", "P", "T", "U", "V", "W"] ++
    ["Y", "AA", "AB", "AC", "AD", "AE", "AF", "AG", "AH", "AJ", "AK", "AL", "AM", "AN", "AP", "AT", "AU", "AV"]

/-- A pad's name: its row letters and its column number (R39). -/
def padName (r c : Nat) : String := rowLetters.getD (r - 1) "" ++ toString c

/-- The regions of Table 2.2. -/
inductive PadRegion where
  | field (d : FDie)
  | loop
  | control
  | barrier
deriving DecidableEq, Repr

/-- The region of the pad in row `r` and column `c`, each 1 to 36 (Table 2.2). -/
def padRegion (r c : Nat) : PadRegion :=
  if r ≤ 8 then (if c ≤ 16 then .field 0 else if c ≤ 20 then .barrier else .field 1)
  else if 29 ≤ r then (if c ≤ 16 then .field 2 else if c ≤ 20 then .barrier else .field 3)
  else if r ≤ 11 ∨ 26 ≤ r then .barrier
  else if c ≤ 10 then .loop
  else if c ≤ 13 then .barrier
  else .control

/-- The named signals and supplies of the pad field. -/
inductive Signal where
  | ctl (p : CtlPad)
  | dbgTck
  | dbgTms
  | dbgTdi
  | dbgTdo
  | xin
  | xout
  | tdiodeP
  | tdiodeN
  | vss
  | vddCore
  | vdd18
  | vdda18
  | viso
  | vddio (rail : Fin 5)
  | chIo (d : FDie) (k : Chan)
  | vbb (d : FDie)
  | gndF (d : FDie)
  | sns (d : FDie)
  | ssel (d : FDie)
  | vaux (d : FDie)
  | lhEn (d : FDie)
  | lhIn (d : FDie) (j : Fin 4)
  | lpSup (k : Chan)
  | lpIn (k : Chan)
  | lpSp (k : Chan)
  | lpSn (k : Chan)
  | vlb
  | gndLd
  | dnc
  | bar
deriving DecidableEq, Repr

/-- Rows of a field die's region by index, from the channel rows inwards: three channel rows, VBB, GND, and the row of Table 2.4 (Table 2.3). -/
def fieldRow (d : FDie) (r : Nat) : Nat := if d.val < 2 then r - 1 else if 34 ≤ r then r - 34 else if 32 ≤ r then r - 29 else if 30 ≤ r then r - 25 else 7

/-- Tables 2.3 and 2.4 at column offset `o`. -/
def fieldPad (d : FDie) (row o : Nat) : Signal :=
  if row < 3 then .chIo d ⟨o % 16, Nat.mod_lt _ (by decide)⟩
  else if row < 5 then .vbb d
  else if row < 7 then .gndF d
  else
    match o with
    | 0 | 2 | 5 | 11 => .gndF d
    | 1 => .sns d
    | 3 => .ssel d
    | 4 => .vaux d
    | 6 => .lhEn d
    | 7 => .lhIn d 0
    | 8 => .lhIn d 1
    | 9 => .lhIn d 2
    | 10 => .lhIn d 3
    | _ => .dnc

/-- Table 2.5: rows from M as 0. -/
def loopRegionPad (row c : Nat) : Signal :=
  if row < 8 ∧ c ≤ 8 then
    let k : Chan := ⟨(row + if c ≤ 4 then 0 else 8) % 16, Nat.mod_lt _ (by decide)⟩
    match (c - 1) % 4 with
    | 0 => .lpSup k
    | 1 => .lpIn k
    | 2 => .lpSp k
    | _ => .lpSn k
  else if row = 8 ∧ c ≤ 8 then .vlb
  else .gndLd

/-- Table 2.7 by row from M. -/
def signalBlock : List (List Signal) :=
  [[.vss, .vddio 1, .ctl (.hpCsN 0), .ctl (.hpSck 0), .ctl (.hpSi 0)],
   [.vddio 1, .ctl (.hpSo 0), .ctl (.hpRdy 0), .ctl (.intN 0), .vss],
   [.vss, .vddio 2, .ctl (.hpCsN 1), .ctl (.hpSck 1), .ctl (.hpSi 1)],
   [.vddio 2, .ctl (.hpSo 1), .ctl (.hpRdy 1), .ctl (.intN 1), .vss],
   [.vss, .vddio 3, .ctl .ppCsN, .ctl .ppSck, .ctl .ppSi],
   [.vddio 3, .ctl .ppSo, .ctl .ppRdy, .ctl .faultN, .vss],
   [.vss, .vddio 4, .ctl (.mpCsN 0), .ctl .mpSck, .ctl .mpSi],
   [.vddio 4, .ctl .mpSo, .ctl (.mpCsN 1), .ctl .mpRstN, .vss],
   [.vss, .vddio 0, .ctl (.canTxd 0), .ctl (.canRxd 0), .ctl (.canStb 0)],
   [.vddio 0, .ctl (.canTxd 1), .ctl (.canRxd 1), .ctl (.canStb 1), .vss],
   [.vss, .ctl .tsyncIn, .ctl .tsyncOut, .ctl .resetN, .ctl .rstoutN],
   [.vdda18, .ctl (.bootSel 0), .ctl (.bootSel 1), .ctl .wake, .ctl .testEn],
   [.vdda18, .xin, .xout, .tdiodeP, .tdiodeN],
   [.vss, .dbgTck, .dbgTms, .dbgTdi, .dbgTdo]]

/-- R47, Table 2.6: rows from M as 0. -/
def controlPad (row c : Nat) : Signal :=
  if c ≤ 15 then .viso
  else if c ≤ 31 then (if row = 0 then .vdd18 else if row % 2 = 0 then .vddCore else .vss)
  else (signalBlock.getD row []).getD (c - 32) .vss

/-- The signal of the pad in row `r` and column `c`. -/
def signalAt (r c : Nat) : Signal :=
  match padRegion r c with
  | .field d => fieldPad d (fieldRow d r) (if c ≤ 16 then c - 1 else c - 21)
  | .loop => loopRegionPad (r - 12) c
  | .control => controlPad (r - 12) c
  | .barrier => .bar

/-- The pads of a signal, row by row. -/
def padsOf (x : Signal) : List (Nat × Nat) :=
  (List.range 36).flatMap fun r => (List.range 36).filterMap fun c => if signalAt (r + 1) (c + 1) = x then some (r + 1, c + 1) else none

/-- What the device drives on a named signal pad: the digital ones by level, VAUX as its 5 V output; analogue pads have their own functions. -/
def signalLevel (s : State) : Signal → PadLevel
  | .ctl p => ctlLevel s p
  | .vaux d => levelOf (vauxOn s d)
  | .lpSup k => levelOf s.loop[k].supon
  | .chIo d k => if (chanPad s d k).closed then .high else .released
  | _ => .released

end Sys2Proof.Machine
end

