-- ==== Sys2Proof/Machine/Dispatch.lean ====
section
/-!
DEFINITION. The dispatch: one arm per command of Syntax.lean, each one direct call of the meaning that its family file gives.
-/

namespace Sys2Proof.Machine

def exec (i : Instr) (s : State) : Host.Outcome State Fault Refusal :=
  match i with
  | .linkFrameRx link crcOk kind => Sys2Proof.Machine.execLinkFrameRx link crcOk kind s
  | .idleFrame link crcOk => Sys2Proof.Machine.execIdleFrame link crcOk s
  | .linkLost link => Sys2Proof.Machine.execLinkLost link s
  | .inputEventFrame d t => Sys2Proof.Machine.execInputEventFrame d t s
  | .timeFrame d crcOk offset => Sys2Proof.Machine.execTimeFrame d crcOk offset s
  | .transformerFail d t => Sys2Proof.Machine.execTransformerFail d t s
  | .railRegulationRestored d => Sys2Proof.Machine.execRailRegulationRestored d s
  | .clockMonitorFail l => Sys2Proof.Machine.execClockMonitorFail l s
  | .refSwitch adv => Sys2Proof.Machine.execRefSwitch adv s
  | .refPRevert adv => Sys2Proof.Machine.execRefPRevert adv s
  | .tmSectionFault v0 v1 => Sys2Proof.Machine.execTmSectionFault v0 s v1
  | .mcoreWatchdogReset => Sys2Proof.Machine.execMcoreWatchdogReset s
  | .commit rb => Sys2Proof.Machine.execCommit rb s
  | .imageDelivered l dig => Sys2Proof.Machine.execImageDelivered l dig s
  | .voteClose => Sys2Proof.Machine.execVoteClose s
  | .finalPassDone => Sys2Proof.Machine.execFinalPassDone s
  | .reintResetDone l => Sys2Proof.Machine.execReintResetDone l s
  | .reintCodeDone l => Sys2Proof.Machine.execReintCodeDone l s
  | .reintBulkDone l => Sys2Proof.Machine.execReintBulkDone l s
  | .reintStageTime l => Sys2Proof.Machine.execReintStageTime l s
  | .reintNoconverge l => Sys2Proof.Machine.execReintNoconverge l s
  | .por => Sys2Proof.Machine.execPor s
  | .porRelease bootSel testEn resetN => Sys2Proof.Machine.execPorRelease bootSel testEn s resetN
  | .pinReset => Sys2Proof.Machine.execPinReset s
  | .rstctlCold p key => Sys2Proof.Machine.execRstctlCold p key s
  | .rstctlWarm p key => Sys2Proof.Machine.execRstctlWarm p key s
  | .fatalReset => Sys2Proof.Machine.execFatalReset s
  | .resetRelease bootSel testEn => Sys2Proof.Machine.execResetRelease bootSel testEn s
  | .bootComplete => Sys2Proof.Machine.execBootComplete s
  | .rstoutRelease => Sys2Proof.Machine.execRstoutRelease s
  | .confirm p => Sys2Proof.Machine.execConfirm p s
  | .confirmWriteDone ok => Sys2Proof.Machine.execConfirmWriteDone ok s
  | .quote p page off nonce part => Sys2Proof.Machine.execQuote p page off nonce s part
  | .quoteComplete ok => Sys2Proof.Machine.execQuoteComplete ok s
  | .jrnctlNow p => Sys2Proof.Machine.execJrnctlNow p s
  | .journalCaptureDone => Sys2Proof.Machine.execJournalCaptureDone s
  | .journalWriteDone ok => Sys2Proof.Machine.execJournalWriteDone ok s
  | .modecmdQuiet p key => Sys2Proof.Machine.execModecmdQuiet p key s
  | .modecmdHold p key => Sys2Proof.Machine.execModecmdHold p key s
  | .modecmdPrime p key warm => Sys2Proof.Machine.execModecmdPrime p key warm s
  | .modecmdSafe p key => Sys2Proof.Machine.execModecmdSafe p key s
  | .laneStart => Sys2Proof.Machine.execLaneStart s
  | .primeTimeout rb => Sys2Proof.Machine.execPrimeTimeout rb s
  | .bpwrOn p d viso => Sys2Proof.Machine.execBpwrOn p d viso s
  | .bpwrOff p d => Sys2Proof.Machine.execBpwrOff p d s
  | .lclkSet p v => Sys2Proof.Machine.execLclkSet p v s
  | .loopmodSet p v => Sys2Proof.Machine.execLoopmodSet p v s
  | .pwrhartSet p v => Sys2Proof.Machine.execPwrhartSet p v s
  | .dieUcodeCheck d digest => Sys2Proof.Machine.execDieUcodeCheck d digest s
  | .visoLow mV => Sys2Proof.Machine.execVisoLow mV s
  | .visoCollapse mV => Sys2Proof.Machine.execVisoCollapse s mV
  | .vbbLow d mV => Sys2Proof.Machine.execVbbLow d mV s
  | .vbbRestored d => Sys2Proof.Machine.execVbbRestored d s
  | .vbbHigh d mV => Sys2Proof.Machine.execVbbHigh d mV s
  | .wakePad viso high => Sys2Proof.Machine.execWakePad viso s high
  | .wakeCan c f viso => Sys2Proof.Machine.execWakeCan c f viso s
  | .wakeAlarm viso => Sys2Proof.Machine.execWakeAlarm viso s
  | .lanecmdExclude p key l => Sys2Proof.Machine.execLanecmdExclude p key l s
  | .lanecmdReint p key l => Sys2Proof.Machine.execLanecmdReint p key l s
  | .lanecmdSlackReset p key => Sys2Proof.Machine.execLanecmdSlackReset p key s
  | .add l rd ra rb => Sys2Proof.Machine.execAdd l rd ra rb s
  | .sub l rd ra rb => Sys2Proof.Machine.execSub l rd ra rb s
  | .adc l rd ra rb => Sys2Proof.Machine.execAdc l rd ra rb s
  | .sbc l rd ra rb => Sys2Proof.Machine.execSbc l rd ra rb s
  | .adds l rd ra rb => Sys2Proof.Machine.execAdds l rd ra rb s
  | .subs l rd ra rb => Sys2Proof.Machine.execSubs l rd ra rb s
  | .cmp l ra rb => Sys2Proof.Machine.execCmp l ra rb s
  | .and l rd ra rb => Sys2Proof.Machine.execAnd l rd ra rb s
  | .or l rd ra rb => Sys2Proof.Machine.execOr l rd ra rb s
  | .xor l rd ra rb => Sys2Proof.Machine.execXor l rd ra rb s
  | .andn l rd ra rb => Sys2Proof.Machine.execAndn l rd ra rb s
  | .tst l ra rb => Sys2Proof.Machine.execTst l ra rb s
  | .sll l rd ra rb => Sys2Proof.Machine.execSll l rd ra rb s
  | .srl l rd ra rb => Sys2Proof.Machine.execSrl l rd ra rb s
  | .sra l rd ra rb => Sys2Proof.Machine.execSra l rd ra rb s
  | .ror l rd ra rb => Sys2Proof.Machine.execRor l rd ra rb s
  | .mul l rd ra rb => Sys2Proof.Machine.execMul l rd ra rb s
  | .mulhs l rd ra rb => Sys2Proof.Machine.execMulhs l rd ra rb s
  | .mulhu l rd ra rb => Sys2Proof.Machine.execMulhu l rd ra rb s
  | .divs l rd ra rb => Sys2Proof.Machine.execDivs l rd ra rb s
  | .divu l rd ra rb => Sys2Proof.Machine.execDivu l rd ra rb s
  | .rems l rd ra rb => Sys2Proof.Machine.execRems l rd ra rb s
  | .remu l rd ra rb => Sys2Proof.Machine.execRemu l rd ra rb s
  | .min l rd ra rb => Sys2Proof.Machine.execMin l rd ra rb s
  | .max l rd ra rb => Sys2Proof.Machine.execMax l rd ra rb s
  | .minu l rd ra rb => Sys2Proof.Machine.execMinu l rd ra rb s
  | .maxu l rd ra rb => Sys2Proof.Machine.execMaxu l rd ra rb s
  | .clz l rd ra => Sys2Proof.Machine.execClz l rd ra s
  | .popc l rd ra => Sys2Proof.Machine.execPopc l rd ra s
  | .addi l rd ra imm => Sys2Proof.Machine.execAddi l rd ra imm s
  | .cmpi l ra imm => Sys2Proof.Machine.execCmpi l ra imm s
  | .andi l rd ra imm => Sys2Proof.Machine.execAndi l rd ra imm s
  | .ori l rd ra imm => Sys2Proof.Machine.execOri l rd ra imm s
  | .xori l rd ra imm => Sys2Proof.Machine.execXori l rd ra imm s
  | .shi l rd ra kind amt => Sys2Proof.Machine.execShi l rd ra kind amt s
  | .lui l rd imm => Sys2Proof.Machine.execLui l rd imm s
  | .csel l rd ra rb cond => Sys2Proof.Machine.execCsel l rd ra rb cond s
  | .ldw l rd ra imm ecc => Sys2Proof.Machine.execLdw l rd ra imm ecc s
  | .ldh l rd ra imm ecc => Sys2Proof.Machine.execLdh l rd ra imm ecc s
  | .ldhu l rd ra imm ecc => Sys2Proof.Machine.execLdhu l rd ra imm ecc s
  | .ldb l rd ra imm ecc => Sys2Proof.Machine.execLdb l rd ra imm ecc s
  | .ldbu l rd ra imm ecc => Sys2Proof.Machine.execLdbu l rd ra imm ecc s
  | .stw l rs ra imm => Sys2Proof.Machine.execStw l rs ra imm s
  | .sth l rs ra imm ecc => Sys2Proof.Machine.execSth l rs ra imm ecc s
  | .stb l rs ra imm ecc => Sys2Proof.Machine.execStb l rs ra imm ecc s
  | .crcValSet l rs => Sys2Proof.Machine.execCrcValSet l rs s
  | .crcW l rs => Sys2Proof.Machine.execCrcW l rs s
  | .crcB l rs => Sys2Proof.Machine.execCrcB l rs s
  | .b l cond imm => Sys2Proof.Machine.execB l cond imm s
  | .jal l rd imm => Sys2Proof.Machine.execJal l rd imm s
  | .jalr l rd ra imm => Sys2Proof.Machine.execJalr l rd ra imm s
  | .endcyc l => Sys2Proof.Machine.execEndcyc l s
  | .trap l code => Sys2Proof.Machine.execTrap l code s
  | .sched l rd ra rb ecc => Sys2Proof.Machine.execSched l rd ra rb ecc s
  | .emit l rd ra rb ecc => Sys2Proof.Machine.execEmit l rd ra rb ecc s
  | .permitSet l ra rb => Sys2Proof.Machine.execPermitSet l ra rb s
  | .permitClr l ra rb => Sys2Proof.Machine.execPermitClr l ra rb s
  | .permitWrite l ra rb => Sys2Proof.Machine.execPermitWrite l ra rb s
  | .serve l ra => Sys2Proof.Machine.execServe l ra s
  | .rds l rd num => Sys2Proof.Machine.execRds l rd num s
  | .wrs l ra num => Sys2Proof.Machine.execWrs l ra num s
  | .xipLineFill addr ok1 ok2 => Sys2Proof.Machine.execXipLineFill addr ok1 ok2 s
  | .xipFail l => Sys2Proof.Machine.execXipFail l s
  | .plStart p key type => Sys2Proof.Machine.execPlStart p key type s
  | .plChunk p key n => Sys2Proof.Machine.execPlChunk p key n s
  | .plFinish p key => Sys2Proof.Machine.execPlFinish p key s
  | .plAbort p key => Sys2Proof.Machine.execPlAbort p key s
  | .plTrial p key n => Sys2Proof.Machine.execPlTrial p key n s
  | .plEraseDone ok => Sys2Proof.Machine.execPlEraseDone ok s
  | .plChunkDone ok => Sys2Proof.Machine.execPlChunkDone ok s
  | .plFinishDone ok => Sys2Proof.Machine.execPlFinishDone ok s
  | .plTrialDone ok => Sys2Proof.Machine.execPlTrialDone ok s
  | .tsyncInEdge t => Sys2Proof.Machine.execTsyncInEdge t s
  | .tsyncLost => Sys2Proof.Machine.execTsyncLost s
  | .tset p lo hi => Sys2Proof.Machine.execTset p lo hi s
  | .tsyncOutPulse => Sys2Proof.Machine.execTsyncOutPulse s
  | .wsSyncDue => Sys2Proof.Machine.execWsSyncDue s
  | .wsSyncAbandon => Sys2Proof.Machine.execWsSyncAbandon s
  | .wsOwnSyncStamp t => Sys2Proof.Machine.execWsOwnSyncStamp t s
  | .wsSyncRx domain seq t => Sys2Proof.Machine.execWsSyncRx domain seq t s
  | .wsFollowRx ts t => Sys2Proof.Machine.execWsFollowRx ts t s
  | .wsLost => Sys2Proof.Machine.execWsLost s
  | .manifestEntryDue u => Sys2Proof.Machine.execManifestEntryDue u s
  | .pulseEnd d k => Sys2Proof.Machine.execPulseEnd d k s
  | .pgEdge d j => Sys2Proof.Machine.execPgEdge d j s
  | .dutyEdge d => Sys2Proof.Machine.execDutyEdge d s
  | .turnOn d k => Sys2Proof.Machine.execTurnOn d k s
  | .turnOff d k iLast clamp => Sys2Proof.Machine.execTurnOff d k iLast clamp s
  | .blankingEnd d k => Sys2Proof.Machine.execBlankingEnd d k s
  | .inrushWindowEnd d k => Sys2Proof.Machine.execInrushWindowEnd d k s
  | .otTrip d k iLast clamp => Sys2Proof.Machine.execOtTrip d k iLast clamp s
  | .dtTrip d k iLast clamp => Sys2Proof.Machine.execDtTrip d k iLast clamp s
  | .scTrip d k mV iLast clamp => Sys2Proof.Machine.execScTrip d k mV iLast s clamp
  | .scFastTrip d k uA iLast clamp => Sys2Proof.Machine.execScFastTrip d k uA iLast s clamp
  | .limtimeTrip d k iLast clamp => Sys2Proof.Machine.execLimtimeTrip d k iLast clamp s
  | .sensorTrip d k iLast clamp => Sys2Proof.Machine.execSensorTrip d k iLast clamp s
  | .retryConditionsMet d k => Sys2Proof.Machine.execRetryConditionsMet d k s
  | .rleftReload d k => Sys2Proof.Machine.execRleftReload d k s
  | .thermalSample d tsub tj p uA => Sys2Proof.Machine.execThermalSample d tsub tj p s uA
  | .clampEventEnd d k e => Sys2Proof.Machine.execClampEventEnd d k e s
  | .tollRefill d => Sys2Proof.Machine.execTollRefill d s
  | .olOnDetect d k uA => Sys2Proof.Machine.execOlOnDetect d k s uA
  | .olOnClear d k uA => Sys2Proof.Machine.execOlOnClear d k s uA
  | .olOffTest d k mV => Sys2Proof.Machine.execOlOffTest d k mV s
  | .stbDetect d k mV => Sys2Proof.Machine.execStbDetect d k mV s
  | .govAllowance l diss => Sys2Proof.Machine.execGovAllowance l diss s
  | .dieSumOver d mA => Sys2Proof.Machine.execDieSumOver d mA s
  | .sselStep d lowLong => Sys2Proof.Machine.execSselStep d lowLong s
  | .inputSample d mV dead => Sys2Proof.Machine.execInputSample d mV s dead
  | .sinkWindowStart d => Sys2Proof.Machine.execSinkWindowStart d s
  | .permitEdge d k half => Sys2Proof.Machine.execPermitEdge d k half s
  | .permitStop d k => Sys2Proof.Machine.execPermitStop d k s
  | .pfaultClear d k => Sys2Proof.Machine.execPfaultClear d k s
  | .permitWaitEnd d k => Sys2Proof.Machine.execPermitWaitEnd d k s
  | .coastEnd d k => Sys2Proof.Machine.execCoastEnd d k s
  | .chStuck d k uA => Sys2Proof.Machine.execChStuck d k uA s
  | .limpHome d => Sys2Proof.Machine.execLimpHome d s
  | .lhEnRelease d => Sys2Proof.Machine.execLhEnRelease d s
  | .lhInChange d j level => Sys2Proof.Machine.execLhInChange d j level s
  | .lhTrip d k cause => Sys2Proof.Machine.execLhTrip d k cause s
  | .loopFold k limiting supMv => Sys2Proof.Machine.execLoopFold k s limiting supMv
  | .foldbackReleaseTry k limiting supMv => Sys2Proof.Machine.execFoldbackReleaseTry k limiting s supMv
  | .loopMiswire k cond => Sys2Proof.Machine.execLoopMiswire k cond s
  | .miswireReconnect k => Sys2Proof.Machine.execMiswireReconnect k s
  | .miswireRampEnd k => Sys2Proof.Machine.execMiswireRampEnd k s
  | .vlbLow mV => Sys2Proof.Machine.execVlbLow mV s
  | .loopHeadroom k => Sys2Proof.Machine.execLoopHeadroom k s
  | .headroomClear k => Sys2Proof.Machine.execHeadroomClear k s
  | .owFieldSet k => Sys2Proof.Machine.execOwFieldSet k s
  | .owFieldClear k => Sys2Proof.Machine.execOwFieldClear k s
  | .owPathSet k => Sys2Proof.Machine.execOwPathSet k s
  | .owPathClear k => Sys2Proof.Machine.execOwPathClear k s
  | .owTestStart p key k => Sys2Proof.Machine.execOwTestStart p key k s
  | .owTestAbort p key k => Sys2Proof.Machine.execOwTestAbort p key k s
  | .owTestDone k => Sys2Proof.Machine.execOwTestDone k s
  | .trimPoint1 p key k => Sys2Proof.Machine.execTrimPoint1 p key k s
  | .trimPoint2 p key k => Sys2Proof.Machine.execTrimPoint2 p key k s
  | .trimCompute p key k => Sys2Proof.Machine.execTrimCompute p key k s
  | .trimAbort p key k => Sys2Proof.Machine.execTrimAbort p key k s
  | .trimPointDone k => Sys2Proof.Machine.execTrimPointDone k s
  | .trimTimeout k => Sys2Proof.Machine.execTrimTimeout k s
  | .hartGo p k ctl => Sys2Proof.Machine.execHartGo p k ctl s
  | .hartCancel p k => Sys2Proof.Machine.execHartCancel p k s
  | .hartRequestTx k => Sys2Proof.Machine.execHartRequestTx k s
  | .hartResponse k parityOk frame => Sys2Proof.Machine.execHartResponse k parityOk frame s
  | .hartResponseTimeout k => Sys2Proof.Machine.execHartResponseTimeout k s
  | .hartBurst k parityOk frame => Sys2Proof.Machine.execHartBurst k parityOk frame s
  | .hscan p key k first last => Sys2Proof.Machine.execHscan p key k first last s
  | .hdirStoreWrite ok => Sys2Proof.Machine.execHdirStoreWrite ok s
  | .modulatorOverload k => Sys2Proof.Machine.execModulatorOverload k s
  | .churnOutput k bits => Sys2Proof.Machine.execChurnOutput k bits s
  | .rephase k => Sys2Proof.Machine.execRephase k s
  | .surveyConversionDone d samples lsb => Sys2Proof.Machine.execSurveyConversionDone d samples lsb s
  | .urgentRequest d => Sys2Proof.Machine.execUrgentRequest d s
  | .chainTestStart p key k pattern => Sys2Proof.Machine.execChainTestStart p key k pattern s
  | .chainTestStop p key k => Sys2Proof.Machine.execChainTestStop p key k s
  | .portSelect p rdy => Sys2Proof.Machine.execPortSelect p s rdy
  | .read p page off n part => Sys2Proof.Machine.execRead p page off n part s
  | .write p page off words part => Sys2Proof.Machine.execWrite p page off words part s
  | .readSnap p page off n part ends => Sys2Proof.Machine.execReadSnap p page off n part ends s
  | .status p n part => Sys2Proof.Machine.execStatus p n s part
  | .badCmd p page off words part => Sys2Proof.Machine.execBadCmd p page off words part s
  | .frameTimeout p cmd page off words => Sys2Proof.Machine.execFrameTimeout p cmd page off words s
  | .peerPush collisions reply => Sys2Proof.Machine.execPeerPush collisions reply s
  | .ppStall => Sys2Proof.Machine.execPpStall s
  | .mpTimeout sel => Sys2Proof.Machine.execMpTimeout sel s
  | .mpSuspend sel => Sys2Proof.Machine.execMpSuspend sel s
  | .mpxRead p key n => Sys2Proof.Machine.execMpxRead p key n s
  | .mpxProgram p key n => Sys2Proof.Machine.execMpxProgram p key n s
  | .mpxErase p key => Sys2Proof.Machine.execMpxErase p key s
  | .mpxReadid p key => Sys2Proof.Machine.execMpxReadid p key s
  | .mpxDone err id => Sys2Proof.Machine.execMpxDone err id s
  | .canFrameRx c f => Sys2Proof.Machine.execCanFrameRx c f s
  | .protocolException c => Sys2Proof.Machine.execProtocolException c s
  | .rxqPop p c q => Sys2Proof.Machine.execRxqPop p c q s
  | .rxqLockLapse c q => Sys2Proof.Machine.execRxqLockLapse c q s
  | .canTxEnd c result lec tdcv exc => Sys2Proof.Machine.execCanTxEnd c result lec tdcv s exc
  | .canRecover c => Sys2Proof.Machine.execCanRecover c s
  | .canIntegrated c => Sys2Proof.Machine.execCanIntegrated c s
  | .cancmdRecover p c key => Sys2Proof.Machine.execCancmdRecover p c key s
  | .cancmdFlush p c key => Sys2Proof.Machine.execCancmdFlush p c key s
  | .claimTake p key how => Sys2Proof.Machine.execClaimTake p key s how
  | .claimRelease p key how => Sys2Proof.Machine.execClaimRelease p key s how
  | .claimHandover p target key how => Sys2Proof.Machine.execClaimHandover p target key s how
  | .grantExpire => Sys2Proof.Machine.execGrantExpire s
  | .ownLapse => Sys2Proof.Machine.execOwnLapse s
  | .apply p key how => Sys2Proof.Machine.execApply p key s how
  | .discard p key how => Sys2Proof.Machine.execDiscard p key s how
  | .applyCheckDone => Sys2Proof.Machine.execApplyCheckDone s
  | .applyQuietEffect => Sys2Proof.Machine.execApplyQuietEffect s
  | .wdogCheckin l => Sys2Proof.Machine.execWdogCheckin l s
  | .wdhost p word => Sys2Proof.Machine.execWdhost p word s
  | .wdogExp w => Sys2Proof.Machine.execWdogExp w s
  | .wdogClock w => Sys2Proof.Machine.execWdogClock w s
  | .ledgerClear p r bits => Sys2Proof.Machine.execLedgerClear p r bits s
  | .ledgerJournalWrite ok => Sys2Proof.Machine.execLedgerJournalWrite ok s
  | .jready => Sys2Proof.Machine.execJready s
  | .mntSvTest p key unit => Sys2Proof.Machine.execMntSvTest p key unit s
  | .mntInTest p key unit mask => Sys2Proof.Machine.execMntInTest p key unit mask s
  | .mntOlProbe p key unit mask => Sys2Proof.Machine.execMntOlProbe p key unit mask s
  | .mntAbort p key unit => Sys2Proof.Machine.execMntAbort p key unit s
  | .maintEnd j mV conducts clamps => Sys2Proof.Machine.execMaintEnd j mV conducts clamps s
  | .tapInstruction ins cells inputs => Sys2Proof.Machine.execTapInstruction ins s cells inputs
  | .stbClear d k mV => Sys2Proof.Machine.execStbClear d k s mV
  | .currentLimit d k askUa => Sys2Proof.Machine.execCurrentLimit d k askUa s
  | .carrierDetect k on => Sys2Proof.Machine.execCarrierDetect k on s
  | .busError c errCnt lec => Sys2Proof.Machine.execBusError c errCnt lec s
  | .coreResetComplete => Sys2Proof.Machine.execCoreResetComplete s
  | .permitReadback l => Sys2Proof.Machine.execPermitReadback l s
  | .refpOkRestored => Sys2Proof.Machine.execRefpOkRestored s
  | .vddioAbsent rail present => Sys2Proof.Machine.execVddioAbsent rail present s
  | .illegal l word => Sys2Proof.Machine.execIllegal l word s
  | .fetchFault l ecc => Sys2Proof.Machine.execFetchFault l ecc s

end Sys2Proof.Machine
end

