-- ==== Sys2Proof/Machine/Idle.lean ====
section
/-!
DEFINITION. What the block does while no command waits (log entry 5): one tick of TCLK, and a store boot's next phase.
-/

namespace Sys2Proof.Machine

/-- One tick with no command: nothing in reset; else the time base advances (R184, R187), TSYNC_OUT may fall (R194), and a store boot goes on (R73). -/
def idleTick (s : State) : State :=
  if s.boot.inReset then s
  else
    let s1 := withClock s (tsyncFall (tickClock (clockOf s)))
    if booting s1 then bootStep s1 else s1

end Sys2Proof.Machine
end

