-- ==== Sys2Proof/Safety.lean ====
section
/-!
DEFINITION. The terms in which claims are made: what a lane must stand at for an instruction to run, the instruction formats of Table 6.4 as bit strings, a lane after an instruction, and the invariant of every step.
-/

namespace Sys2Proof.Machine

/-! ## Instruction words (Tables 6.4 to 6.7) -/

/-- A register number as four bits. -/
def reg4 (r : Reg) : BitVec 4 := BitVec.ofNat 4 r.val

/-- Format R: op, rd, ra, rb, four zero bits, cond, func. -/
def wordR (op : BitVec 6) (rd ra rb : Reg) (cond : BitVec 4) (func : BitVec 6) : Word :=
  op ++ reg4 rd ++ reg4 ra ++ reg4 rb ++ 0#4 ++ cond ++ func

/-- The ALU instructions: major opcode 0x01, cond zero. -/
def wordAlu (func : BitVec 6) (rd ra rb : Reg) : Word := wordR 0x01#6 rd ra rb 0#4 func

/-- Format I: op, rd, ra, imm18. -/
def wordI (op : BitVec 6) (rd ra : Reg) (imm : BitVec 18) : Word := op ++ reg4 rd ++ reg4 ra ++ imm

/-- Formats U and B: op, rd or cond, imm22. -/
def wordU (op : BitVec 6) (f : BitVec 4) (imm : BitVec 22) : Word := op ++ f ++ imm

/-! ## Lanes -/

/-- Lane `l` computes and fetches the word `w` at its PC. -/
def Runs (s : State) (l : Lane) (w : Word) : Prop := s.lane[l].run = .computing ∧ lynFetch s s.lane[l] = .word w

/-- The state with lane `l` standing at `x`. -/
def laneAt (s : State) (l : Lane) (x : LaneSt) : State := { s with lane := s.lane.set l x }

/-- Register `rd` takes `r` (X0 takes nothing, R145) and PC moves to the next instruction. -/
def wrote (x : LaneSt) (rd : Reg) (r : Word) : LaneSt :=
  { x with x := if rd = 0 then x.x else x.x.set rd r, pc := x.pc + 4 }

/-- The flags N and Z of `r`, with C and V as given. -/
def flagged (x : LaneSt) (r : Word) (c v : Bool) : LaneSt :=
  { x with flN := r.getLsbD 31, flZ := decide (r = 0), flC := c, flV := v }

/-- The integer does not fit a signed word. -/
def wide (i : Int) : Bool := !(decide (-2147483648 ≤ i) && decide (i ≤ 2147483647))

/-- The load of `n` bytes at `ea` is allowed by Table 6.1, and its bytes are there: `bs`. -/
def Loads (s : State) (x : LaneSt) (ea : Word) (n : Nat) (bs : List Byte) : Prop :=
  loadCause (laneRegion s x ea) n ea.toNat = 0 ∧ laneBytes (laneRegion s x ea) x ea n = some bs

/-- A corrected single-bit error of lane memory is counted (R124, R171). -/
def corrected (s : State) (x : LaneSt) (ea : Word) (ecc : Ecc) : LaneSt :=
  if ecc = .single ∧ laneRegion s x ea ≠ .periph then { x with ecc := min 0xFFFFFFFF (x.ecc + 1) } else x

/-- The lane after the `n` words of a block at `a` were read: each corrected one is counted (R124, R171). -/
def blockCorrected (s : State) (x : LaneSt) (a : Word) (n : Nat) (ecc : List Ecc) : LaneSt :=
  let k := ((List.range n).filter fun i => decide (eccAt s x a ecc i = .single)).length
  if k = 0 then x else { x with ecc := min 0xFFFFFFFF (x.ecc + k) }

/-- The `n` words of a block at `a` can be read (R164, R165): `bs`. -/
def Block (s : State) (x : LaneSt) (a : Word) (n : Nat) (bs : List Byte) : Prop :=
  blockCause s x a n = none ∧ blockBytes s x a n = .ok bs

/-- The store of `bs` at `ea` into lane memory is allowed by Table 6.1, and a command record keeps its budget (R151). -/
def Stores (s : State) (x : LaneSt) (ea : Word) (bs : List Byte) : Prop :=
  storeCause (laneRegion s x ea) bs.length ea.toNat = 0 ∧ laneRegion s x ea ≠ .periph ∧
    (laneRegion s x ea = .cmdRec → budgetOver s x (memPut 0 x.mem ea.toNat bs) ea.toNat = false)

/-- In `t`, lane `l` stands at `y` with exactly the bytes `bs` stored at `ea`; elsewhere only marks of written blocks (R140) may differ from `s`. -/
def StoredAt (s t : State) (l : Lane) (x y : LaneSt) (ea : Word) (bs : List Byte) : Prop :=
  (∀ i (h : i < bs.length), memGet 0 t.lane[l].mem (ea.toNat + i) = bs[i]) ∧
  (∀ a, a < ea.toNat ∨ ea.toNat + bs.length ≤ a → memGet 0 t.lane[l].mem a = memGet 0 x.mem a) ∧
  t.lane[l] = { y with mem := t.lane[l].mem, dirty := t.lane[l].dirty } ∧
  (∀ k : Lane, k ≠ l → t.lane[k] = { s.lane[k] with dirty := t.lane[k].dirty }) ∧
  t = { s with lane := t.lane }

/-- The state after a trap of lane `l` with cause `c`, code `k` and data address `a` (R169): the lane is halted with TRAPREC written and learns cause 1 as a member, a joining lane's shadow has failed, and its watchdog is off. -/
def trapState (s : State) (l : Lane) (c k : Nat) (a : Word) : State :=
  { s with
    lane := s.lane.set l { s.lane[l] with
      run := .halted, trapped := true, lineReq := none, shadowDiff := s.lane[l].shadowDiff || decide (s.lane[l].state = 6)
      trap := { cause := c, code := k, pc := s.lane[l].pc, addr := a, cyc := BitVec.ofNat 32 s.cyc.n }
      pendCause := if memberOf s l ∧ s.lane[l].pendCause = 0 then 1 else s.lane[l].pendCause }
    wd := s.wd.set l { s.wd[l] with state := 0, seen := 0 } }

/-- In `t` the lanes stand as in `s`, but for what their slices have of the dies' events (R113). -/
def SameLanes (s t : State) : Prop := ∀ l : Lane, t.lane[l] = { s.lane[l] with evSeq := t.lane[l].evSeq, evLost := t.lane[l].evLost }

/-! ## The memory port -/

/-- The memory port serves a new request for `sel` at once: its rail is present, nothing runs on the select, and no lane and no request waits (R356). -/
def MpIdle (s : State) (sel : Nat) : Prop :=
  s.vddio.getLsbD 4 = true ∧ (∀ k : Lane, s.lane[k].lineReq = none) ∧ mpWaiting s = [] ∧ vget s.mp.op sel none = none

/-- An operation of a class runs on `sel`: begun, not suspended, and the port's rail present. -/
def MpBusy (s : State) (sel owner : Nat) : Prop :=
  s.vddio.getLsbD 4 = true ∧ ∃ kind, vget s.mp.op sel none = some { owner := owner, kind := kind, suspended := false }

/-! ## Frames -/

/-- Port `p` serves the frame `f`, and every check of Table 12.6 passes. -/
def Accepted (s : State) (p : Port) (f : Frame) : Prop := portInert s p = false ∧ frameCode s p f = 0

/-- The frame that writes the words `ws` from offset `off` of a page, with its check word. -/
def writeOf (page off : Nat) (ws : List Word) : Frame := checkedFrame 1 page off ws

/-- In `t`, port `p` has answered a frame with OK: its record and its count of good frames; the other ports are as in `s`. -/
def Answered (s t : State) (p : Port) : Prop :=
  t.port[p].last = 0 ∧ t.port[p].seq = nextSeq s.port[p].seq ∧ t.port[p].okCnt = (s.port[p].okCnt + 1) % 65536 ∧
    t.port[p].rejCnt = s.port[p].rejCnt ∧ t.port[p].tmoCnt = s.port[p].tmoCnt ∧ ∀ q : Port, q ≠ p → t.port[q] = s.port[q]

/-- In `t`, port `p` has answered an accepted frame of the owner: its record, and the owner timer restarted (R390). -/
def Took (s t : State) (p : Port) : Prop := Answered s t p ∧ t.own = { s.own with timerAt := s.mono }

/-- The frame that reads `n` words from offset `off` of a page, by READ (0) or READ-SNAP (2). -/
def readOf (cmd page off n : Nat) : Frame :=
  { cmd := cmd, page := page, off := off, words := List.replicate n 0, part := false }

/-! ## Output channels -/

/-- The channel is examined by Table 8.4 on its own: not an upper half, not under limp-home. -/
def Governed (s : State) (d : FDie) (k : Chan) : Prop := isGov s d k.val = true ∧ isUpper s d k.val = false ∧ inLimp s d k = false

/-- In `t`, channel `k` has tripped at tick count `at_` (row 6; Tables 8.6 and 8.7): CAUSE and the counts; LATCHED for the sensor, for RMODE 0 and with no retry left, else RWAIT with one retry fewer. -/
def Tripped (s t : State) (d : FDie) (k : Chan) (cause at_ : Nat) : Prop :=
  t.field[d].ch[k].cause = cause ∧ t.field[d].ch[k].tripAt = at_ ∧ t.field[d].ch[k].trips = min 255 (s.field[d].ch[k].trips + 1) ∧
    ((cause = 6 ∨ chBit s d k.val 2 0 = false ∨ s.field[d].ch[k].rleft = 0) → t.field[d].ch[k].st = .latched) ∧
    (cause ≠ 6 → chBit s d k.val 2 0 = true → s.field[d].ch[k].rleft ≠ 0 →
      t.field[d].ch[k].st = .rwait ∧ t.field[d].ch[k].rleft = s.field[d].ch[k].rleft - 1) ∧
    (uplinksDown s (toDie d) = false → t.led.bits[1].getLsbD 7 = true) ∧
    (∀ f : FDie, f ≠ d → t.field[f] = s.field[f]) ∧
    t = { s with field := t.field, die := t.die, led := t.led, irqStat := t.irqStat, mono := t.mono, time := t.time, tm := t.tm }

/-- The state with channel `k` of die `d` standing at `x`. -/
def chanAt (s : State) (d : FDie) (k : Chan) (x : ChanSt) : State :=
  { s with field := s.field.set d { s.field[d] with ch := s.field[d].ch.set k x } }

/-- In `t` only channels of die `d` differ from `s`, and time with its corrections. -/
def ChansOnly (s t : State) (d : FDie) : Prop :=
  (∀ f : FDie, f ≠ d → t.field[f] = s.field[f]) ∧ t = { s with field := t.field, mono := t.mono, time := t.time, tm := t.tm }

/-- In `t` only die `d` differs from `s`, the ledger with its interrupt, and time with its corrections. -/
def DieOnly (s t : State) (d : FDie) : Prop :=
  (∀ f : FDie, f ≠ d → t.field[f] = s.field[f]) ∧
    t = { s with field := t.field, die := t.die, led := t.led, irqStat := t.irqStat, mono := t.mono, time := t.time, tm := t.tm }

/-! ## The invariant -/

/-- What every step keeps, from any state that has it: the store, the lane memories, the image under assembly and the register maps stand in their one canonical form, and every lane's PC, with the ENTRY that it is started at, is a multiple of 4 (R145). -/
structure Inv (s : State) : Prop where
  store : Memory.wf 0xFF s.store = true
  mem : ∀ l : Lane, Memory.wf 0 s.lane[l].mem = true
  image : Memory.wf 0 s.cyc.image = true
  regs : amWf 0 s.regs = true
  shadow : amWf 0 s.shadow = true
  pc : ∀ l : Lane, s.lane[l].pc.toNat % 4 = 0
  entry : s.boot.entry.toNat % 4 = 0

/-! ## Loops -/

/-- In `t` only loop `k` of the loops differs from `s`; besides, only LD's own registers, the arbiter, the ledger with its interrupt, and time with its corrections. -/
def LoopOnly (s t : State) (k : Chan) : Prop :=
  (∀ j : Chan, j ≠ k → t.loop[j] = s.loop[j]) ∧
    t = { s with loop := t.loop, ld := t.ld, mnt := t.mnt, die := t.die, led := t.led, irqStat := t.irqStat, mono := t.mono, time := t.time, tm := t.tm }

/-- The state with loop `k` standing at `x`. -/
def loopAt (s : State) (k : Chan) (x : LoopSt) : State := { s with loop := s.loop.set k x }

/-! ## Resets and wake -/

/-- In `t` the control die is in reset by source `src` (a bit of RSTCAUSE): mode BOOT by row 2, no owner, no cycle, no lane in the vote, couplers off, ports as after reset; the store, the rails and the queue as in `s`. -/
def InReset (s t : State) (src : Nat) : Prop :=
  t.boot.inReset = true ∧ t.boot.sources.getLsbD src = true ∧ t.boot.cause.getLsbD src = true ∧ t.boot.rstoutLow = true ∧
    t.boot.mpRstLow = true ∧ t.md.mode = .boot ∧ t.md.lastCause = 2 ∧ t.own.owner = none ∧ t.cyc.running = false ∧ t.cyc.member = 0 ∧
    t.permits = 0 ∧ (∀ l : Lane, t.lane[l].run = .halted) ∧ (∀ p : Port, t.port[p].last = 0x7F#8 ∧ t.port[p].seq = 0) ∧
    t.store = s.store ∧ t.vddio = s.vddio ∧ t.tap = s.tap ∧ t.pending = s.pending

/-- In `t` the device has woken from QUIET by source `src` of WAKESTAT. -/
def Woken (s t : State) (src : Nat) : Prop :=
  t.md.mode = .hold ∧ t.md.lastCause = 3 ∧ t.pwr.wakeStat.getLsbD src = true ∧ t.cyc.running = true ∧ t.regs = s.regs ∧ t.store = s.store

end Sys2Proof.Machine
end

