-- ==== Sys2Proof/Certificates/Slice0/Obligations.lean ====
section
/-!
DEFINITION. The statements about the model, from the spec's numbered rules: the lanes' instructions (06), links and time (01, 02, 07), the cycle and the vote (05), reset, boot, modes and power (03, 04), frames and stores (12), outputs, inputs and loops (08 to 11), CAN (13), ownership, watchdogs, ledger and maintenance (14, 15), and the step of the block.
-/

open Sys2Proof Sys2Proof.Machine

/-! ### The lanes (06) -/

/-- ADD, SUB, ADC, SBC and ADDI (R158, Tables 6.7 and 6.8): the word, N and Z of it, C the carry out (no borrow for a subtraction), V the signed overflow; nothing else changes but PC. -/
def Obligations.LynAddSub : Prop :=
  ∀ (s : State) (l : Lane) (rd ra rb : Reg) (imm : BitVec 18) (x : LaneSt) (a b i c n : Word),
    x = s.lane[l] → a = xget x ra → b = xget x rb → i = imm.signExtend 32 →
    c = (if x.flC then 1 else 0) → n = (if x.flC then 0 else 1) →
    (Runs s l (wordAlu 0x00#6 rd ra rb) → exec (.add l rd ra rb) s =
      .next (laneAt s l (wrote (flagged x (a + b) (decide (2 ^ 32 ≤ a.toNat + b.toNat)) (wide (a.toInt + b.toInt))) rd (a + b)))) ∧
    (Runs s l (wordAlu 0x01#6 rd ra rb) → exec (.sub l rd ra rb) s =
      .next (laneAt s l (wrote (flagged x (a - b) (decide (b.toNat ≤ a.toNat)) (wide (a.toInt - b.toInt))) rd (a - b)))) ∧
    (Runs s l (wordAlu 0x02#6 rd ra rb) → exec (.adc l rd ra rb) s =
      .next (laneAt s l (wrote (flagged x (a + b + c) (decide (2 ^ 32 ≤ a.toNat + b.toNat + c.toNat)) (wide (a.toInt + b.toInt + c.toInt)))
        rd (a + b + c)))) ∧
    (Runs s l (wordAlu 0x03#6 rd ra rb) → exec (.sbc l rd ra rb) s =
      .next (laneAt s l (wrote (flagged x (a - b - n) (decide (b.toNat + n.toNat ≤ a.toNat)) (wide (a.toInt - b.toInt - n.toInt)))
        rd (a - b - n)))) ∧
    (Runs s l (wordI 0x02#6 rd ra imm) → exec (.addi l rd ra imm) s =
      .next (laneAt s l (wrote (flagged x (a + i) (decide (2 ^ 32 ≤ a.toNat + i.toNat)) (wide (a.toInt + i.toInt))) rd (a + i))))

/-- ADDS, SUBS, MUL, MULHS and MULHU (R158, Tables 6.7 and 6.8): saturated sums, the halves of the products, C cleared; V says that the exact value does not fit, and is cleared by the high halves. -/
def Obligations.LynSaturateMultiply : Prop :=
  ∀ (s : State) (l : Lane) (rd ra rb : Reg) (x : LaneSt) (a b r : Word),
    x = s.lane[l] → a = xget x ra → b = xget x rb →
    (Runs s l (wordAlu 0x04#6 rd ra rb) → r.toInt = max (-2147483648) (min 2147483647 (a.toInt + b.toInt)) →
      exec (.adds l rd ra rb) s = .next (laneAt s l (wrote (flagged x r false (wide (a.toInt + b.toInt))) rd r))) ∧
    (Runs s l (wordAlu 0x05#6 rd ra rb) → r.toInt = max (-2147483648) (min 2147483647 (a.toInt - b.toInt)) →
      exec (.subs l rd ra rb) s = .next (laneAt s l (wrote (flagged x r false (wide (a.toInt - b.toInt))) rd r))) ∧
    (Runs s l (wordAlu 0x18#6 rd ra rb) →
      exec (.mul l rd ra rb) s = .next (laneAt s l (wrote (flagged x (a * b) false (wide (a.toInt * b.toInt))) rd (a * b)))) ∧
    (Runs s l (wordAlu 0x19#6 rd ra rb) → r = ((a.signExtend 64 * b.signExtend 64) >>> 32).setWidth 32 →
      exec (.mulhs l rd ra rb) s = .next (laneAt s l (wrote (flagged x r false false) rd r))) ∧
    (Runs s l (wordAlu 0x1A#6 rd ra rb) → r = ((a.setWidth 64 * b.setWidth 64) >>> 32).setWidth 32 →
      exec (.mulhu l rd ra rb) s = .next (laneAt s l (wrote (flagged x r false false) rd r)))

/-- CMP, CMPI and TST (R158, Table 6.8): the flags of the subtraction or of the and, TST keeping C and V; no register changes but PC. MIN, MAX, MINU, MAXU, CLZ and POPC (R158, Table 6.7): the smaller or the larger value, the leading zeros, the one bits; N and Z of the result, C and V kept. -/
def Obligations.LynCompareMinMaxCount : Prop :=
  (∀ (s : State) (l : Lane) (ra rb : Reg) (imm : BitVec 18) (x : LaneSt) (a b i : Word),
    x = s.lane[l] → a = xget x ra → b = xget x rb → i = imm.signExtend 32 →
    (Runs s l (wordAlu 0x06#6 0 ra rb) → exec (.cmp l ra rb) s =
      .next (laneAt s l { flagged x (a - b) (decide (b.toNat ≤ a.toNat)) (wide (a.toInt - b.toInt)) with pc := x.pc + 4 })) ∧
    (Runs s l (wordI 0x03#6 0 ra imm) → exec (.cmpi l ra imm) s =
      .next (laneAt s l { flagged x (a - i) (decide (i.toNat ≤ a.toNat)) (wide (a.toInt - i.toInt)) with pc := x.pc + 4 })) ∧
    (Runs s l (wordAlu 0x0C#6 0 ra rb) → exec (.tst l ra rb) s =
      .next (laneAt s l { flagged x (a &&& b) x.flC x.flV with pc := x.pc + 4 }))) ∧
  (∀ (s : State) (l : Lane) (rd ra rb : Reg) (x : LaneSt) (a b : Word) (k : Nat), x = s.lane[l] → a = xget x ra → b = xget x rb →
    (Runs s l (wordAlu 0x20#6 rd ra rb) → exec (.min l rd ra rb) s =
      .next (laneAt s l (wrote (flagged x (if b.slt a then b else a) x.flC x.flV) rd (if b.slt a then b else a)))) ∧
    (Runs s l (wordAlu 0x21#6 rd ra rb) → exec (.max l rd ra rb) s =
      .next (laneAt s l (wrote (flagged x (if a.slt b then b else a) x.flC x.flV) rd (if a.slt b then b else a)))) ∧
    (Runs s l (wordAlu 0x22#6 rd ra rb) → exec (.minu l rd ra rb) s =
      .next (laneAt s l (wrote (flagged x (if b < a then b else a) x.flC x.flV) rd (if b < a then b else a)))) ∧
    (Runs s l (wordAlu 0x23#6 rd ra rb) → exec (.maxu l rd ra rb) s =
      .next (laneAt s l (wrote (flagged x (if a < b then b else a) x.flC x.flV) rd (if a < b then b else a)))) ∧
    (Runs s l (wordAlu 0x28#6 rd ra 0) → k ≤ 32 → a.toNat < 2 ^ (32 - k) → (k < 32 → 2 ^ (31 - k) ≤ a.toNat) →
      exec (.clz l rd ra) s =
        .next (laneAt s l (wrote (flagged x (BitVec.ofNat 32 k) x.flC x.flV) rd (BitVec.ofNat 32 k)))) ∧
    (Runs s l (wordAlu 0x29#6 rd ra 0) → k = ((List.range 32).filter fun i => a.getLsbD i).length →
      exec (.popc l rd ra) s =
        .next (laneAt s l (wrote (flagged x (BitVec.ofNat 32 k) x.flC x.flV) rd (BitVec.ofNat 32 k)))))

/-- AND, OR, XOR, ANDN, ANDI, ORI, XORI, LUI and CSEL (R158, Tables 6.5, 6.7 and 6.8): the bitwise results with N and Z of them; LUI and CSEL change no flag. -/
def Obligations.LynLogic : Prop :=
  ∀ (s : State) (l : Lane) (rd ra rb : Reg) (imm : BitVec 18) (u : BitVec 22) (cond : BitVec 4) (h : Bool) (x : LaneSt) (a b i : Word),
    x = s.lane[l] → a = xget x ra → b = xget x rb → i = imm.setWidth 32 →
    (Runs s l (wordAlu 0x08#6 rd ra rb) → exec (.and l rd ra rb) s =
      .next (laneAt s l (wrote (flagged x (a &&& b) x.flC x.flV) rd (a &&& b)))) ∧
    (Runs s l (wordAlu 0x09#6 rd ra rb) → exec (.or l rd ra rb) s =
      .next (laneAt s l (wrote (flagged x (a ||| b) x.flC x.flV) rd (a ||| b)))) ∧
    (Runs s l (wordAlu 0x0A#6 rd ra rb) → exec (.xor l rd ra rb) s =
      .next (laneAt s l (wrote (flagged x (a ^^^ b) x.flC x.flV) rd (a ^^^ b)))) ∧
    (Runs s l (wordAlu 0x0B#6 rd ra rb) → exec (.andn l rd ra rb) s =
      .next (laneAt s l (wrote (flagged x (a &&& ~~~b) x.flC x.flV) rd (a &&& ~~~b)))) ∧
    (Runs s l (wordI 0x04#6 rd ra imm) → exec (.andi l rd ra imm) s =
      .next (laneAt s l (wrote (flagged x (a &&& i) x.flC x.flV) rd (a &&& i)))) ∧
    (Runs s l (wordI 0x05#6 rd ra imm) → exec (.ori l rd ra imm) s =
      .next (laneAt s l (wrote (flagged x (a ||| i) x.flC x.flV) rd (a ||| i)))) ∧
    (Runs s l (wordI 0x06#6 rd ra imm) → exec (.xori l rd ra imm) s =
      .next (laneAt s l (wrote (flagged x (a ^^^ i) x.flC x.flV) rd (a ^^^ i)))) ∧
    (Runs s l (wordU 0x08#6 (reg4 rd) u) → exec (.lui l rd u) s = .next (laneAt s l (wrote x rd (u ++ 0#10)))) ∧
    (Runs s l (wordR 0x09#6 rd ra rb cond 0#6) → condHolds cond x.flN x.flZ x.flC x.flV = some h →
      exec (.csel l rd ra rb cond) s = .next (laneAt s l (wrote x rd (if h then a else b))))

/-- SLL, SRL, SRA, ROR and SHI (R159, Table 6.9a) by `k`: X(rb)[7:0], or imm18[4:0] with the kind in imm18[6:5]. -/
def Obligations.LynShift : Prop :=
  ∀ (s : State) (l : Lane) (rd ra rb : Reg) (kind : BitVec 2) (amt : BitVec 5) (x : LaneSt) (a : Word) (k : Nat),
    x = s.lane[l] → a = xget x ra → k = (xget x rb).toNat % 256 →
    (Runs s l (wordAlu 0x10#6 rd ra rb) → exec (.sll l rd ra rb) s =
      .next (laneAt s l (wrote (flagged x (a <<< k) (if k = 0 then x.flC else decide (k ≤ 32) && a.getLsbD (32 - k)) x.flV) rd (a <<< k)))) ∧
    (Runs s l (wordAlu 0x11#6 rd ra rb) → exec (.srl l rd ra rb) s =
      .next (laneAt s l (wrote (flagged x (a >>> k) (if k = 0 then x.flC else a.getLsbD (k - 1)) x.flV) rd (a >>> k)))) ∧
    (Runs s l (wordAlu 0x12#6 rd ra rb) → exec (.sra l rd ra rb) s =
      .next (laneAt s l (wrote (flagged x (a.sshiftRight k) (if k = 0 then x.flC else a.getLsbD (min 31 (k - 1))) x.flV) rd
        (a.sshiftRight k)))) ∧
    (Runs s l (wordAlu 0x13#6 rd ra rb) → exec (.ror l rd ra rb) s =
      .next (laneAt s l (wrote (flagged x (a.rotateRight k) (if k = 0 then x.flC else (a.rotateRight k).getLsbD 31) x.flV) rd
        (a.rotateRight k)))) ∧
    (Runs s l (0x07#6 ++ reg4 rd ++ reg4 ra ++ 0#11 ++ kind ++ amt) → kind = 0#2 → exec (.shi l rd ra kind amt) s =
      .next (laneAt s l (wrote (flagged x (a <<< amt.toNat) (if amt = 0 then x.flC else a.getLsbD (32 - amt.toNat)) x.flV) rd
        (a <<< amt.toNat)))) ∧
    (Runs s l (0x07#6 ++ reg4 rd ++ reg4 ra ++ 0#11 ++ kind ++ amt) → kind = 1#2 → exec (.shi l rd ra kind amt) s =
      .next (laneAt s l (wrote (flagged x (a >>> amt.toNat) (if amt = 0 then x.flC else a.getLsbD (amt.toNat - 1)) x.flV) rd
        (a >>> amt.toNat)))) ∧
    (Runs s l (0x07#6 ++ reg4 rd ++ reg4 ra ++ 0#11 ++ kind ++ amt) → kind = 2#2 → exec (.shi l rd ra kind amt) s =
      .next (laneAt s l (wrote (flagged x (a.sshiftRight amt.toNat) (if amt = 0 then x.flC else a.getLsbD (amt.toNat - 1)) x.flV) rd
        (a.sshiftRight amt.toNat)))) ∧
    (Runs s l (0x07#6 ++ reg4 rd ++ reg4 ra ++ 0#11 ++ kind ++ amt) → kind = 3#2 → exec (.shi l rd ra kind amt) s =
      .next (laneAt s l (wrote (flagged x (a.rotateRight amt.toNat)
        (if amt = 0 then x.flC else (a.rotateRight amt.toNat).getLsbD 31) x.flV) rd (a.rotateRight amt.toNat))))

/-- DIVS, DIVU, REMS and REMU (R160, Table 6.9): division truncates towards zero; by zero the quotient is 0 and the remainder is a with V set, and the one signed overflow gives 0x8000_0000 and 0 with V set; every case keeps a = q × b + rm modulo 2^32. -/
def Obligations.LynDivide : Prop :=
  ∀ (s : State) (l : Lane) (rd ra rb : Reg) (x : LaneSt) (a b : Word), x = s.lane[l] → a = xget x ra → b = xget x rb →
    (Runs s l (wordAlu 0x1C#6 rd ra rb) → exec (.divs l rd ra rb) s =
      .next (laneAt s l (wrote (flagged x (if b = 0 then 0 else a.sdiv b) false
        (decide (b = 0) || (decide (a = 0x80000000#32) && decide (b = 0xFFFFFFFF#32)))) rd (if b = 0 then 0 else a.sdiv b)))) ∧
    (Runs s l (wordAlu 0x1D#6 rd ra rb) → exec (.divu l rd ra rb) s =
      .next (laneAt s l (wrote (flagged x (if b = 0 then 0 else a / b) false (decide (b = 0))) rd (if b = 0 then 0 else a / b)))) ∧
    (Runs s l (wordAlu 0x1E#6 rd ra rb) → exec (.rems l rd ra rb) s =
      .next (laneAt s l (wrote (flagged x (if b = 0 then a else a.srem b) false
        (decide (b = 0) || (decide (a = 0x80000000#32) && decide (b = 0xFFFFFFFF#32)))) rd (if b = 0 then a else a.srem b)))) ∧
    (Runs s l (wordAlu 0x1F#6 rd ra rb) → exec (.remu l rd ra rb) s =
      .next (laneAt s l (wrote (flagged x (if b = 0 then a else a % b) false (decide (b = 0))) rd (if b = 0 then a else a % b)))) ∧
    (aluDivs a b).r * b + (aluRems a b).r = a ∧ (aluDivu a b).r * b + (aluRemu a b).r = a

/-- The conditions of Table 6.5, one by one, with no value for 0xF (R156). -/
def Obligations.LynConditions : Prop :=
  ∀ (n z c v : Bool),
    condHolds 0x0#4 n z c v = some z ∧ condHolds 0x1#4 n z c v = some (!z) ∧
    condHolds 0x2#4 n z c v = some c ∧ condHolds 0x3#4 n z c v = some (!c) ∧
    condHolds 0x4#4 n z c v = some n ∧ condHolds 0x5#4 n z c v = some (!n) ∧
    condHolds 0x6#4 n z c v = some v ∧ condHolds 0x7#4 n z c v = some (!v) ∧
    condHolds 0x8#4 n z c v = some (c && !z) ∧ condHolds 0x9#4 n z c v = some (!c || z) ∧
    condHolds 0xA#4 n z c v = some (n == v) ∧ condHolds 0xB#4 n z c v = some (n != v) ∧
    condHolds 0xC#4 n z c v = some (!z && n == v) ∧ condHolds 0xD#4 n z c v = some (z || n != v) ∧
    condHolds 0xE#4 n z c v = some true ∧ condHolds 0xF#4 n z c v = none

/-- B, JAL and JALR (R158): a branch goes imm22 words on when its condition holds and to the next word when not; a jump links PC + 4, JALR reading X(ra) before rd is written; no flag changes. A JALR to a target that is not a multiple of 4 raises ALIGN with no effect. -/
def Obligations.LynBranchJump : Prop :=
  ∀ (s : State) (l : Lane) (rd ra : Reg) (imm : BitVec 18) (off : BitVec 22) (cond : BitVec 4) (x : LaneSt) (ea : Word),
    x = s.lane[l] → ea = xget x ra + imm.signExtend 32 →
    (Runs s l (wordU 0x20#6 cond off) → condHolds cond x.flN x.flZ x.flC x.flV = some true →
      exec (.b l cond off) s = .next (laneAt s l { x with pc := x.pc + off.signExtend 32 * 4 })) ∧
    (Runs s l (wordU 0x20#6 cond off) → condHolds cond x.flN x.flZ x.flC x.flV = some false →
      exec (.b l cond off) s = .next (laneAt s l { x with pc := x.pc + 4 })) ∧
    (Runs s l (wordU 0x21#6 (reg4 rd) off) →
      exec (.jal l rd off) s = .next (laneAt s l { wrote x rd (x.pc + 4) with pc := x.pc + off.signExtend 32 * 4 })) ∧
    (Runs s l (wordI 0x22#6 rd ra imm) → ea.toNat % 4 = 0 →
      exec (.jalr l rd ra imm) s = .next (laneAt s l { wrote x rd (x.pc + 4) with pc := ea })) ∧
    (Runs s l (wordI 0x22#6 rd ra imm) → ea.toNat % 4 ≠ 0 →
      exec (.jalr l rd ra imm) s = .next (trapState s l 2 0 0))

/-- LDW, LDH, LDHU, LDB and LDBU (R148, R149, R171): where Table 6.1 allows the access and the bytes are there (a window line in the buffer), rd takes the little-endian value, sign-extended by LDH and LDB; a corrected single-bit error is counted, and nothing else changes but PC. -/
def Obligations.LynLoad : Prop :=
  ∀ (s : State) (l : Lane) (rd ra : Reg) (imm : BitVec 18) (ecc : Ecc) (x : LaneSt) (ea : Word) (bs : List Byte) (v : Nat),
    x = s.lane[l] → ea = xget x ra + imm.signExtend 32 → v = leNat bs → ecc ≠ .double →
    (Runs s l (wordI 0x10#6 rd ra imm) → Loads s x ea 4 bs →
      exec (.ldw l rd ra imm ecc) s = .next (laneAt s l (wrote (corrected s x ea ecc) rd (BitVec.ofNat 32 v)))) ∧
    (Runs s l (wordI 0x11#6 rd ra imm) → Loads s x ea 2 bs →
      exec (.ldh l rd ra imm ecc) s = .next (laneAt s l (wrote (corrected s x ea ecc) rd ((BitVec.ofNat 16 v).signExtend 32)))) ∧
    (Runs s l (wordI 0x12#6 rd ra imm) → Loads s x ea 2 bs →
      exec (.ldhu l rd ra imm ecc) s = .next (laneAt s l (wrote (corrected s x ea ecc) rd (BitVec.ofNat 32 v)))) ∧
    (Runs s l (wordI 0x13#6 rd ra imm) → Loads s x ea 1 bs →
      exec (.ldb l rd ra imm ecc) s = .next (laneAt s l (wrote (corrected s x ea ecc) rd ((BitVec.ofNat 8 v).signExtend 32)))) ∧
    (Runs s l (wordI 0x14#6 rd ra imm) → Loads s x ea 1 bs →
      exec (.ldbu l rd ra imm ecc) s = .next (laneAt s l (wrote (corrected s x ea ecc) rd (BitVec.ofNat 32 v))))

/-- STW, STH and STB (R151, R449): where Table 6.1 allows the store and a command record keeps its budget, the bytes of the form's width at the effective address take those of X(rs), least significant first, and every other byte of the lane's memory reads as before; a correction of the word that STH or STB merges into is counted. No flag, register, other lane's register or memory, or anything else changes, but PC and the marks of blocks that a lane being reintegrated must copy again. -/
def Obligations.LynStore : Prop :=
  ∀ (s : State) (l : Lane) (rs ra : Reg) (imm : BitVec 18) (ecc : Ecc) (x : LaneSt) (ea v : Word),
    x = s.lane[l] → ea = xget x ra + imm.signExtend 32 → v = xget x rs → Memory.wf 0 x.mem = true → ecc ≠ .double →
    (Runs s l (wordI 0x15#6 rs ra imm) → Stores s x ea (leBytes v) →
      ∃ t, exec (.stw l rs ra imm) s = .next t ∧ StoredAt s t l x { x with pc := x.pc + 4 } ea (leBytes v)) ∧
    (Runs s l (wordI 0x16#6 rs ra imm) → Stores s x ea ((leBytes v).take 2) →
      ∃ t, exec (.sth l rs ra imm ecc) s = .next t ∧
        StoredAt s t l x { corrected s x ea ecc with pc := x.pc + 4 } ea ((leBytes v).take 2)) ∧
    (Runs s l (wordI 0x17#6 rs ra imm) → Stores s x ea ((leBytes v).take 1) →
      ∃ t, exec (.stb l rs ra imm ecc) s = .next t ∧
        StoredAt s t l x { corrected s x ea ecc with pc := x.pc + 4 } ea ((leBytes v).take 1))

/-- CRC_VAL_SET, CRC_W and CRC_B (R154, Table 6.3): word stores to the CRC unit set its running value, feed the four bytes of X(rs) with bits [7:0] first, or feed bits [7:0]; no memory byte changes. Feeding a byte is eight steps of the reflected polynomial 0x82F6_3B78. -/
def Obligations.LynCrcUnit : Prop :=
  (∀ (s : State) (l : Lane) (rs ra : Reg) (imm : BitVec 18) (x : LaneSt) (ea v : Word),
    x = s.lane[l] → ea = xget x ra + imm.signExtend 32 → v = xget x rs → Runs s l (wordI 0x15#6 rs ra imm) →
    (ea = 0x40000000#32 → exec (.crcValSet l rs) s = .next (laneAt s l { x with crcVal := v, pc := x.pc + 4 })) ∧
    (ea = 0x40000004#32 → exec (.crcW l rs) s =
      .next (laneAt s l { x with
        crcVal := crcFeed (crcFeed (crcFeed (crcFeed x.crcVal (v.extractLsb' 0 8)) (v.extractLsb' 8 8)) (v.extractLsb' 16 8))
          (v.extractLsb' 24 8)
        pc := x.pc + 4 })) ∧
    (ea = 0x40000008#32 → exec (.crcB l rs) s =
      .next (laneAt s l { x with crcVal := crcFeed x.crcVal (v.extractLsb' 0 8), pc := x.pc + 4 }))) ∧
  (∀ (c : Word) (b : Byte), crcFeed c b =
    (List.range 8).foldl (fun (c : Word) _ => (c >>> 1) ^^^ (if c.getLsbD 0 then 0x82F63B78#32 else 0)) (c ^^^ b.setWidth 32))

/-- A trap (R163, R169 to R171): TRAP raises SOFT with its code, a word that Tables 6.4 to 6.7 do not allow raises ILLEGAL (the all-zeros and the all-ones word among them), an uncorrectable error in the fetch raises ECC and a fetch outside CODE and the window ADDR, a fill that does not complete raises XIP_FAIL, a misaligned or forbidden load or store raises the cause of Table 6.1 with its address. The lane halts at the instruction with TRAPREC written, its watchdog goes off, a member learns cause 1, and no register, flag or memory byte changes. -/
def Obligations.LynTrap : Prop :=
  ∀ (s : State) (l : Lane) (code : BitVec 18) (w : Word) (rd ra : Reg) (imm : BitVec 18) (ecc : Ecc) (x : LaneSt) (ea : Word),
    x = s.lane[l] → ea = xget x ra + imm.signExtend 32 →
    (Runs s l (0x29#6 ++ 0#8 ++ code) → exec (.trap l code) s = .next (trapState s l 10 code.toNat 0)) ∧
    (Runs s l w → lynLegal w = false → exec (.illegal l w) s = .next (trapState s l 1 0 0)) ∧
    (Runs s l w → exec (.fetchFault l .double) s = .next (trapState s l 6 0 0)) ∧
    (x.run = .computing → fetchable (laneRegion s x x.pc) = false → exec (.fetchFault l ecc) s = .next (trapState s l 3 0 0)) ∧
    (x.run = .computing → x.lineReq.isSome → x.lineAt + xipWait s + 50000 ≤ s.mono →
      exec (.xipFail l) s = .next (trapState s l 8 0 x.lineData)) ∧
    (Runs s l (wordI 0x10#6 rd ra imm) → loadCause (laneRegion s x ea) 4 ea.toNat ≠ 0 →
      exec (.ldw l rd ra imm ecc) s = .next (trapState s l (loadCause (laneRegion s x ea) 4 ea.toNat) 0 ea)) ∧
    (Runs s l (wordI 0x15#6 rd ra imm) → storeCause (laneRegion s x ea) 4 ea.toNat ≠ 0 →
      exec (.stw l rd ra imm) s = .next (trapState s l (storeCause (laneRegion s x ea) 4 ea.toNat) 0 ea)) ∧
    lynLegal 0 = false ∧ lynLegal 0xFFFFFFFF#32 = false

/-- The lane address map (R148, R149, Table 6.1) over all addresses: which loads and stores each region allows, alignment before the region, and where a fetch may go. -/
def Obligations.LynAddressMap : Prop :=
  ∀ (body retain span a : Nat), body ≤ 0x80000 → retain ≤ 0x10000 → 32 * span / 36 ≤ 0x10000000 →
    (a % 4 ≠ 0 → loadCause (regionOf body retain span a) 4 a = 2 ∧ storeCause (regionOf body retain span a) 4 a = 2) ∧
    (a % 4 = 0 → (loadCause (regionOf body retain span a) 4 a = 0 ↔
      a < body ∨ (0x10000000 ≤ a ∧ a < 0x10000000 + 32 * span / 36) ∨ (0x20000000 ≤ a ∧ a < 0x20040000) ∨
      (0x20100000 ≤ a ∧ a < 0x20100000 + retain) ∨ (0x30000000 ≤ a ∧ a < 0x30020000) ∨ (0x31000000 ≤ a ∧ a < 0x31008000) ∨
      (0x32000000 ≤ a ∧ a < 0x32001004) ∨ (0x40000000 ≤ a ∧ a < 0x40000010))) ∧
    (a % 4 = 0 → (storeCause (regionOf body retain span a) 4 a = 0 ↔
      (0x20000000 ≤ a ∧ a < 0x20040000) ∨ (0x20100000 ≤ a ∧ a < 0x20100000 + retain) ∨ (0x31000000 ≤ a ∧ a < 0x31000400) ∨
      (0x31000800 ≤ a ∧ a < 0x31000900) ∨ (0x40000000 ≤ a ∧ a < 0x4000000C))) ∧
    (fetchable (regionOf body retain span a) = true ↔ a < body ∨ (0x10000000 ≤ a ∧ a < 0x10000000 + 32 * span / 36)) ∧
    (loadCause (regionOf body retain span 0x40000000) 2 0x40000000 = 3 ∧ loadCause (regionOf body retain span 0x40000001) 1 0x40000001 = 3)

/-- SCHED (R164, R171): with the block of four words readable, an entry for a die from 0 to 3 under its budget is copied to the next place of that die's manifest area and counted, rd taking the count before and C cleared; a die above 3 gives −2 and a full budget −1 with C set. V, every other register and every other byte of lane memory keep their values; each corrected word of the block is counted, and an uncorrectable one traps with ECC and the address of its word. -/
def Obligations.LynSched : Prop :=
  ∀ (s : State) (l : Lane) (rd ra rb : Reg) (ecc : List Ecc) (x y : LaneSt) (d cnt a : Nat) (bs : List Byte),
    x = s.lane[l] → d = (xget x rb).toNat → Memory.wf 0 x.mem = true → Runs s l (wordR 0x2A#6 rd ra rb 0#4 0#6) →
    Block s x (xget x ra) 4 bs → y = blockCorrected s x (xget x ra) 4 ecc → cnt = (memGet 0 x.mem (0x32001000 + d)).toNat →
    a = 0x32000000 + 0x400 * d + 16 * cnt →
    (∀ i, i < 4 → eccAt s x (xget x ra) ecc i = .double → (∀ j, j < i → eccAt s x (xget x ra) ecc j ≠ .double) →
      exec (.sched l rd ra rb ecc) s = .next (trapState s l 6 0 (xget x ra + BitVec.ofNat 32 (4 * i)))) ∧
    ((∀ i, i < 4 → eccAt s x (xget x ra) ecc i ≠ .double) →
      (3 < d → exec (.sched l rd ra rb ecc) s = .next (laneAt s l (wrote (flagged y 0xFFFFFFFE#32 true x.flV) rd 0xFFFFFFFE#32))) ∧
      (d ≤ 3 → manMax s ≤ cnt →
        exec (.sched l rd ra rb ecc) s = .next (laneAt s l (wrote (flagged y 0xFFFFFFFF#32 true x.flV) rd 0xFFFFFFFF#32))) ∧
      (d ≤ 3 → cnt < manMax s → cnt < 64 → ∃ m, exec (.sched l rd ra rb ecc) s =
          .next (laneAt s l { wrote (flagged y (BitVec.ofNat 32 cnt) false x.flV) rd (BitVec.ofNat 32 cnt) with mem := m }) ∧
        memTake 0 m a 16 = bs ∧ memGet 0 m (0x32001000 + d) = BitVec.ofNat 8 (cnt + 1) ∧
        ∀ b, (b < a ∨ a + 16 ≤ b) → b ≠ 0x32001000 + d → memGet 0 m b = memGet 0 x.mem b))

/-- EMIT (R165, R171): with the block of twenty words readable, a well-formed request for controller 0 or 1 whose list holds fewer than 32 is placed as the next request of that controller and counted; −2, −1 and −3 are the refusals, in that order, with C set. Each corrected word of the block is counted, and an uncorrectable one traps with ECC and the address of its word. -/
def Obligations.LynEmit : Prop :=
  ∀ (s : State) (l : Lane) (rd ra rb : Reg) (ecc : List Ecc) (x y : LaneSt) (c n a : Nat) (bs : List Byte),
    x = s.lane[l] → c = (xget x rb).toNat → Memory.wf 0 x.mem = true → Runs s l (wordR 0x2B#6 rd ra rb 0#4 0#6) →
    Block s x (xget x ra) 20 bs → y = blockCorrected s x (xget x ra) 20 ecc → n = leAt x.mem (0x31000FF8 + 2 * c) 2 →
    a = 0x31001000 + 0xA00 * c + 80 * n →
    (∀ i, i < 20 → eccAt s x (xget x ra) ecc i = .double → (∀ j, j < i → eccAt s x (xget x ra) ecc j ≠ .double) →
      exec (.emit l rd ra rb ecc) s = .next (trapState s l 6 0 (xget x ra + BitVec.ofNat 32 (4 * i)))) ∧
    ((∀ i, i < 20 → eccAt s x (xget x ra) ecc i ≠ .double) →
      (1 < c → exec (.emit l rd ra rb ecc) s = .next (laneAt s l (wrote (flagged y 0xFFFFFFFE#32 true x.flV) rd 0xFFFFFFFE#32))) ∧
      (c ≤ 1 → n = 32 → exec (.emit l rd ra rb ecc) s = .next (laneAt s l (wrote (flagged y 0xFFFFFFFF#32 true x.flV) rd 0xFFFFFFFF#32))) ∧
      (c ≤ 1 → n ≠ 32 → frameOk bs = false →
        exec (.emit l rd ra rb ecc) s = .next (laneAt s l (wrote (flagged y 0xFFFFFFFD#32 true x.flV) rd 0xFFFFFFFD#32))) ∧
      (c ≤ 1 → n < 32 → frameOk bs = true → ∃ t, exec (.emit l rd ra rb ecc) s = .next t ∧
        t.lane[l] = { wrote (flagged y (BitVec.ofNat 32 n) false x.flV) rd (BitVec.ofNat 32 n) with
          mem := t.lane[l].mem, dirty := t.lane[l].dirty } ∧
        memTake 0 t.lane[l].mem a 80 = emitForm bs c ∧ leAt t.lane[l].mem (0x31000FF8 + 2 * c) 2 = n + 1 ∧
        (∀ b, (b < a ∨ a + 80 ≤ b) → b ≠ 0x31000FF8 + 2 * c → b ≠ 0x31000FF9 + 2 * c → memGet 0 t.lane[l].mem b = memGet 0 x.mem b) ∧
        (∀ k : Lane, k ≠ l → t.lane[k] = { s.lane[k] with dirty := t.lane[k].dirty }) ∧ t = { s with lane := t.lane }))

/-- PERMIT SET, CLR and WRITE (R166): the eight bytes of the permit word at IMAGE_OUT offset 0x0400 take the word with the mask X(rb):X(ra) set, cleared or in its place; no flag, register or other byte changes. -/
def Obligations.LynPermit : Prop :=
  ∀ (s : State) (l : Lane) (ra rb : Reg) (x : LaneSt) (p m : BitVec 64),
    x = s.lane[l] → Memory.wf 0 x.mem = true → p = BitVec.ofNat 64 (leAt x.mem 0x31000400 8) → m = xget x rb ++ xget x ra →
    (Runs s l (wordR 0x2C#6 0 ra rb 0#4 0#6) → ∃ t, exec (.permitSet l ra rb) s = .next t ∧
      StoredAt s t l x { x with pc := x.pc + 4 } 0x31000400#32 (natLe 8 (p ||| m).toNat)) ∧
    (Runs s l (wordR 0x2C#6 0 ra rb 0#4 1#6) → ∃ t, exec (.permitClr l ra rb) s = .next t ∧
      StoredAt s t l x { x with pc := x.pc + 4 } 0x31000400#32 (natLe 8 (p &&& ~~~m).toNat)) ∧
    (Runs s l (wordR 0x2C#6 0 ra rb 0#4 2#6) → ∃ t, exec (.permitWrite l ra rb) s = .next t ∧
      StoredAt s t l x { x with pc := x.pc + 4 } 0x31000400#32 (natLe 8 m.toNat))

/-- SERVE, RDS and WRS (R152, R167, R168, Table 6.2): SERVE sends X(ra) and writes nothing a program can see; RDS gives rd the value of a listed register and WRS sets XIPBASE to multiples of 4 and XIPSPAN to multiples of 36 up to 301,989,888; every other number or value raises SR. -/
def Obligations.LynSpecial : Prop :=
  ∀ (s : State) (l : Lane) (rd ra : Reg) (num : BitVec 8) (x : LaneSt) (v : Word), x = s.lane[l] → v = xget x ra →
    (Runs s l (0x2D#6 ++ 0#4 ++ reg4 ra ++ 0#18) →
      exec (.serve l ra) s = .next (laneAt s l { x with serve := x.serve ++ [v], pc := x.pc + 4 })) ∧
    (Runs s l (0x2E#6 ++ reg4 rd ++ 0#14 ++ num) →
      (num = 0x00#8 → exec (.rds l rd num) s = .next (laneAt s l (wrote x rd 0x00010000#32))) ∧
      (num = 0x01#8 → exec (.rds l rd num) s = .next (laneAt s l (wrote x rd (cfgWord s 4 0 &&& 0xFFFFF#32)))) ∧
      (num = 0x02#8 → exec (.rds l rd num) s =
        .next (laneAt s l (wrote x rd (BitVec.ofNat 32 ((if s.md.mode = .run ∨ s.md.mode = .degraded then recMax s else 16) + 256 * manMax s))))) ∧
      (num = 0x08#8 → exec (.rds l rd num) s = .next (laneAt s l (wrote x rd x.xipBase))) ∧
      (num = 0x09#8 → exec (.rds l rd num) s = .next (laneAt s l (wrote x rd x.xipSpan))) ∧
      (num = 0x03#8 → exec (.rds l rd num) s = .next (laneAt s l (wrote x rd
        (BitVec.ofNat 32 (chgCount x x.mem 0 + 2 ^ 8 * chgCount x x.mem 1 + 2 ^ 16 * chgCount x x.mem 2 + 2 ^ 24 * chgCount x x.mem 3))))) ∧
      (num ∉ [0#8, 1#8, 2#8, 3#8, 8#8, 9#8] → exec (.rds l rd num) s = .next (trapState s l 9 0 0))) ∧
    (Runs s l (0x2F#6 ++ 0#4 ++ reg4 ra ++ 0#10 ++ num) →
      (num = 8#8 → v.toNat % 4 = 0 → exec (.wrs l ra num) s = .next (laneAt s l { x with xipBase := v, pc := x.pc + 4 })) ∧
      (num = 9#8 → v.toNat % 36 = 0 → v.toNat ≤ 301989888 →
        exec (.wrs l ra num) s = .next (laneAt s l { x with xipSpan := v, pc := x.pc + 4 })) ∧
      (num = 8#8 → v.toNat % 4 ≠ 0 → exec (.wrs l ra num) s = .next (trapState s l 9 0 0)) ∧
      (num = 9#8 → (v.toNat % 36 ≠ 0 ∨ 301989888 < v.toNat) → exec (.wrs l ra num) s = .next (trapState s l 9 0 0)) ∧
      (num ∉ [8#8, 9#8] → exec (.wrs l ra num) s = .next (trapState s l 9 0 0)))

/-- ENDCYC (R88, R161, R162): before vote close the lane is done, its slack kept as the smallest, and in a journal cycle its retain contents are captured; at vote close it has overrun and is halted with cause 2 for a member. Registers, flags and memory keep their values. XIP_LINE_FILL (R174, R175): the line that a lane waits for is delivered, or, when no lane and no other request waits, the next line that the streaming fetch stands at, and no other; one that passes its check, at most on the second try, stands in all three buffers, which keep at most 64 lines, every lane that waited for it goes on, and the stream stands at the stored line after it; a line that fails twice is in no buffer that did not hold it and traps the lanes that request it with XIP_CHECK. -/
def Obligations.LynEndcycXip : Prop :=
  (∀ (s : State) (l : Lane) (x : LaneSt), x = s.lane[l] → Runs s l (0x28#6 ++ 0#26) →
    (s.time < voteCloseAt s → ∃ t, exec (.endcyc l) s = .next t ∧
      t.lane[l] = { x with run := .done, slack := min x.slack (voteCloseAt s - s.time) } ∧
      t.jrn.cap[l] = (if s.jrn.active ∧ s.jrn.cycle = s.cyc.n then some (memTake 0 x.mem 0x20100000 s.boot.retainLen.toNat)
        else s.jrn.cap[l]) ∧
      (∀ k : Lane, k ≠ l → t.lane[k] = s.lane[k]) ∧ t = { s with lane := t.lane, jrn := { s.jrn with cap := t.jrn.cap } }) ∧
    (voteCloseAt s ≤ s.time → ∃ t, exec (.endcyc l) s = .next t ∧
      t.lane[l] = { x with
        run := .halted
        shadowDiff := x.shadowDiff || decide (x.state = 6)
        pendCause := if memberOf s l ∧ x.pendCause = 0 then 2 else x.pendCause } ∧
      (∀ k : Lane, k ≠ l → t.lane[k] = s.lane[k]) ∧ t = { s with lane := t.lane, wd := t.wd })) ∧
  (∀ (s : State) (addr : Word) (ok1 ok2 : Bool) (n : Nat),
    s.vddio.getLsbD 4 = true → selBlocked s (selOf addr.toNat) = false →
    ((∃ w rest, lineWanters s addr.toNat = w :: rest ∧ n = lineNum s.lane[w] addr.toNat) ∨
      ((∀ k : Lane, s.lane[k].lineReq = none) ∧ mpWaiting s = [] ∧ s.mp.stream = some (addr.toNat, n))) →
    (lineGood s addr.toNat n = true → (ok1 || ok2) = true → (∀ k : Lane, s.lane[k].pf.length ≤ 64) →
      ∃ t, exec (.xipLineFill addr ok1 ok2) s = .next t ∧
        (∀ k : Lane, lineBytes t.lane[k] addr.toNat = some (storeBytes s addr.toNat 32) ∧ t.lane[k].pf.length ≤ 64 ∧
          t.lane[k] = { s.lane[k] with
            pf := t.lane[k].pf
            lineReq := if s.lane[k].lineReq = some addr.toNat then none else s.lane[k].lineReq }) ∧
        (mpWaiting s = [] → t.mp.stream = some ((addr.toNat + 36) % 2 ^ 32, n + 1)) ∧
        t = { s with lane := t.lane, mp := t.mp }) ∧
    ((lineGood s addr.toNat n && (ok1 || ok2)) = false →
      ∃ t, exec (.xipLineFill addr ok1 ok2) s = .next t ∧ t.led.bits[0].getLsbD 15 = true ∧
        ∀ k : Lane, t.lane[k].pf = s.lane[k].pf ∧
          (s.lane[k].lineReq = some addr.toNat → t.lane[k].run = .halted ∧ t.lane[k].trap.cause = 7) ∧
          (s.lane[k].lineReq ≠ some addr.toNat → t.lane[k] = s.lane[k]))) ∧
  (∀ (s : State) (addr : Word) (ok1 ok2 : Bool), (∀ k : Lane, s.lane[k].lineReq ≠ some addr.toNat) → s.mp.stream = none →
    exec (.xipLineFill addr ok1 ok2) s = .next s)

/-! ### Links, barrier power, monitors, pads (01, 02) -/

/-- LINK_FRAME_RX and IDLE_FRAME (R16, R113): a frame whose CRC fails is counted, breaks the run of good frames (log entry 33) and is as if never sent: an event in it is missing from the lane's slice from its number on. A lost link is restored by the third good frame in a row and not before. On a link that is up a good event frame leaves its number with the lane's slice, a freeze frame is noted with the die's reports, and an idle frame changes nothing. LINK_LOST, CLOCK_MONITOR_FAIL and PERMIT_READBACK (R16, R17, R33): the link is down, and a member lane with no cause learned yet learns one: 6 for a lost link, 8 for its clock, which halts it; with lane A's clock the device goes to REF_S. For a read-back fault it is some code from 1 to 8 (Table 5.13 names none: log entry 51). -/
def Obligations.LinksAndLaneFaults : Prop :=
  (∀ (s : State) (k : Link) (l : Lane) (d : Die) (kind : FrameKind), ready s (linkDie k) = true → ready s d = true →
    (∃ t, exec (.linkFrameRx k false kind) s = .next t ∧ t.die[linkDie k].linkErr = s.die[linkDie k].linkErr + 1 ∧
      linkOf t k = { linkOf s k with good := 0 } ∧ (kind ≠ .event → t.lane = s.lane) ∧ t = { s with die := t.die, lane := t.lane } ∧
      (∀ e : Die, e ≠ linkDie k → t.die[e] = s.die[e])) ∧
    (∃ t, exec (.idleFrame k false) s = .next t ∧ t.die[linkDie k].linkErr = s.die[linkDie k].linkErr + 1 ∧
      linkOf t k = { linkOf s k with good := 0 } ∧ t = { s with die := t.die }) ∧
    ((linkOf s k).up = true → exec (.idleFrame k true) s = .next s) ∧
    ((linkOf s k).up = false → (linkOf s k).good < 2 → ∃ t, exec (.idleFrame k true) s = .next t ∧
      linkOf t k = { up := false, good := (linkOf s k).good + 1 } ∧ t = { s with die := t.die } ∧
      (∀ e : Die, e ≠ linkDie k → t.die[e] = s.die[e])) ∧
    ((linkOf s k).up = false → (linkOf s k).good = 2 → ∃ t, exec (.linkFrameRx k true kind) s = .next t ∧ (linkOf t k).up = true) ∧
    ((linkOf s (.up l d)).up = true → s.lane[l].evSeq[d] < s.die[d].evSeq →
      (exec (.linkFrameRx (.up l d) true .event) s =
        .next { s with lane := s.lane.set l { s.lane[l] with evSeq := s.lane[l].evSeq.set d (s.lane[l].evSeq[d] + 1) } }) ∧
      (∃ t, exec (.linkFrameRx (.up l d) false .event) s = .next t ∧ t.lane[l].evSeq[d] = s.lane[l].evSeq[d] + 1 ∧
        t.lane[l].evLost[d] = some (s.lane[l].evLost[d].getD (s.lane[l].evSeq[d] + 1)) ∧ (∀ j : Lane, j ≠ l → t.lane[j] = s.lane[j]))) ∧
    ((linkOf s (.up l d)).up = true → ∃ t, exec (.linkFrameRx (.up l d) true .freeze) s = .next t ∧ t.lane[l].frozen.getLsbD d.val = true ∧
      (∀ j : Lane, memberOf s j = true → s.lane[j].pendCause = 0 → s.die[d].repMinority.getLsbD j.val = true → t.lane[j].pendCause = 4) ∧
      t = { s with lane := t.lane })) ∧
  (∀ (s : State) (l : Lane) (d : Die), memberOf s l = true → s.lane[l].pendCause = 0 →
    (ready s d = true → (linkOf s (.up l d)).up = true → ∃ t, exec (.linkLost (.up l d)) s = .next t ∧
      (linkOf t (.up l d)).up = false ∧ t.lane[l] = { s.lane[l] with pendCause := 6 } ∧ (∀ k : Lane, k ≠ l → t.lane[k] = s.lane[k]) ∧
      t = { s with lane := t.lane, die := t.die }) ∧
    (ready s d = true → (linkOf s (.down l d)).up = true → ∃ t, exec (.linkLost (.down l d)) s = .next t ∧
      (linkOf t (.down l d)).up = false ∧ t.lane[l].pendCause = 6) ∧
    (s.boot.inReset = false → s.lane[l].clockOk = true → s.lane[l].state < 2 → ∃ t, exec (.clockMonitorFail l) s = .next t ∧
      t.lane[l] = { s.lane[l] with run := .halted, lineReq := none, clockOk := false, pendCause := 8 } ∧
      (∀ k : Lane, k ≠ l → t.lane[k] = s.lane[k]) ∧ (l ≠ 0 → t = { s with lane := t.lane, wd := t.wd }) ∧
      (l = 0 → t.tm = { s.tm with ref := true, refpOk := false } ∧ (s.tm.ref = true → t.time = s.time) ∧
        t = { s with lane := t.lane, wd := t.wd, time := t.time, tm := t.tm, led := t.led, irqStat := t.irqStat, freeCtr := t.freeCtr })) ∧
    (∃ t, exec (.permitReadback l) s = .next t ∧ 1 ≤ t.lane[l].pendCause ∧ t.lane[l].pendCause ≤ 8 ∧
      t.lane[l] = { s.lane[l] with pendCause := t.lane[l].pendCause } ∧ (∀ k : Lane, k ≠ l → t.lane[k] = s.lane[k]) ∧
      t = { s with lane := t.lane, freeCtr := s.freeCtr + 1 }))

/-- INPUT_EVENT_FRAME (R113): with an input, a flag or a measurement of a ready die changed since its latest event, the die's event takes its next sequence number and the die's time of it, to 4 ns; with nothing changed there is no event. TIME_FRAME (R190): a ready die that runs without its link's time takes the measured offset, locked within 10 ns, or steps beyond 100 µs with TIME_STEP recorded; a die that corrects its offset by 4 ns each 16 µs is locked within 10 ns; a frame that fails its CRC is counted and not used. -/
def Obligations.DieEventsAndTime : Prop :=
  ∀ (s : State) (d : Die) (t0 : Nat) (offset : Int) (m : Nat), ready s d = true →
    (dieContent s d ≠ s.die[d].told → t0 ≤ dieTime s d → s.die[d].evAt ≤ dieTime s d → dieTime s d < 2 ^ 64 →
      exec (.inputEventFrame d t0) s = .next { s with die := s.die.set d { s.die[d] with
        evSeq := s.die[d].evSeq + 1, evAt := dieTime s d / 4 * 4, told := dieContent s d } }) ∧
    (dieContent s d ≠ s.die[d].told → ∃ t, exec (.inputEventFrame d t0) s = .next t ∧ t.die[d].evSeq = s.die[d].evSeq + 1 ∧
      t.die[d].evAt % 4 = 0 ∧ (∀ e : Die, e ≠ d → t.die[e] = s.die[e]) ∧
      t.die[d] = { s.die[d] with evSeq := t.die[d].evSeq, evAt := t.die[d].evAt, told := t.die[d].told } ∧
      t = { s with die := t.die, time := t.time, mono := t.mono, tm := t.tm }) ∧
    (dieContent s d = s.die[d].told → exec (.inputEventFrame d t0) s = .next s) ∧
    (∃ t, exec (.timeFrame d false offset) s = .next t ∧ t.die[d].linkErr = s.die[d].linkErr + 1 ∧ t.die[d].offset = s.die[d].offset ∧
      t.die[d].lock = s.die[d].lock ∧ t = { s with die := t.die }) ∧
    (s.die[d].time.up = true → s.boot.phase = 9 →
      (s.die[d].corrFrom = none → offset.natAbs ≤ 100000 → exec (.timeFrame d true offset) s = .next { s with
        die := s.die.set d { s.die[d] with offset := offset, corrFrom := some s.mono, lock := decide (offset.natAbs ≤ 10) } }) ∧
      (s.die[d].corrFrom = none → 100000 < offset.natAbs → ∃ t, exec (.timeFrame d true offset) s = .next t ∧ t.die[d].offset = 0 ∧
        t.die[d].lock = true ∧ t.die[d].corrFrom = some s.mono ∧ (uplinksDown s d = false → t.led.bits[0].getLsbD 6 = true) ∧
        t = { s with die := t.die, led := t.led, irqStat := t.irqStat }) ∧
      (s.die[d].corrFrom = some m → s.die[d].offset.natAbs ≤ 100000 → exec (.timeFrame d true offset) s = .next { s with
        die := s.die.set d { s.die[d] with
          lock := s.die[d].lock || decide (s.die[d].offset.natAbs - 4 * ((s.mono - m) / 16000) ≤ 10) } }))

/-- TRANSFORMER_FAIL, RAIL_REGULATION_RESTORED, TM_SECTION_FAULT, MCORE_WATCHDOG_RESET, CORE_RESET_COMPLETE, TAP_INSTRUCTION and VDDIO_ABSENT (R21, R33, R50 to R52, R56, R185): a failed transformer leaves the other in service, BPWR_SINGLE in the ledger and a transfer until the rail regulates again, during which switching or limiting channels may stand; of two sections of the time master that disagree the one within 40 ns of the majority of the ready dies stays and gives the time, and with neither the device resets; the management core's reset aborts the HART transactions; the test access port takes its instruction in BOOT and QUIET, and captures the pads with SAMPLE and EXTEST; the loss of VDDIO_SYS resets the device, that of a port's rail takes its frame, and a rail's return changes nothing else, but that the memory port serves what waits. -/
def Obligations.PowerAndMonitorEvents : Prop :=
  ∀ (s : State) (d : Die) (u : Fin 2) (ins : TapIns) (cells inputs : List (CtlPad × PadLevel)) (rail : Fin 5) (p : Port) (v0 v1 n a b : Nat),
    (powered s d = true → s.die[d].pt.getLsbD u.val = true → s.die[d].pt.getLsbD (1 - u.val) = true →
      ∃ t, exec (.transformerFail d u) s = .next t ∧ t.die[d].pt.getLsbD u.val = false ∧ t.die[d].pt.getLsbD (1 - u.val) = true ∧
        t.die[d].transfer = true ∧ t.led.bits[0].getLsbD 11 = true ∧
        (∀ f : FDie, t.field[f] = { s.field[f] with stopped := t.field[f].stopped } ∧ (toDie f ≠ d → t.field[f] = s.field[f])) ∧
        t = { s with die := t.die, led := t.led, irqStat := t.irqStat, field := t.field, freeCtr := t.freeCtr }) ∧
    (∃ t, exec (.railRegulationRestored d) s = .next t ∧ t.die[d].transfer = false ∧
      (powered s d = true → ∀ f : FDie, toDie f = d → t.field[f].stopped = 0) ∧ (∀ f : FDie, toDie f ≠ d → t.field[f] = s.field[f]) ∧
      t.lane = s.lane ∧ t.regs = s.regs ∧ t.store = s.store ∧ t.md = s.md ∧ t.own = s.own ∧ t.loop = s.loop ∧ t.cyc = s.cyc) ∧
    (s.boot.inReset = false → s.tm.sect = 3 → v0 ≠ v1 → v0 < 2 ^ 64 → v1 < 2 ^ 64 → n = (dies5.filter (ready s)).length →
      a = ((dies5.filter (ready s)).filter fun e => decide (((v0 : Int) - dieTime s e).natAbs ≤ 40)).length →
      b = ((dies5.filter (ready s)).filter fun e => decide (((v1 : Int) - dieTime s e).natAbs ≤ 40)).length →
      (n < 2 * a → 2 * b ≤ n → exec (.tmSectionFault v0 v1) s = .next { s with time := v0 / 4 * 4, tm := { s.tm with sect := 1 } }) ∧
      (n < 2 * b → 2 * a ≤ n → exec (.tmSectionFault v0 v1) s = .next { s with time := v1 / 4 * 4, tm := { s.tm with sect := 2 } }) ∧
      (2 * a ≤ n → 2 * b ≤ n → 0 < n → ∃ t, exec (.tmSectionFault v0 v1) s = .next t ∧ InReset s t 5) ∧
      ((n < 2 * a ∧ n < 2 * b ∨ n = 0) → ∃ t, exec (.tmSectionFault v0 v1) s = .next t ∧
        (t.tm.sect = 1 ∧ t.time = v0 / 4 * 4 ∨ t.tm.sect = 2 ∧ t.time = v1 / 4 * 4) ∧
        t = { s with time := t.time, tm := { s.tm with sect := t.tm.sect }, freeCtr := s.freeCtr + 1 })) ∧
    (s.boot.inReset = false → ∃ t, exec .mcoreWatchdogReset s = .next t ∧ t.coreDown = true ∧ (∀ k : Chan, t.loop[k].hart.job = 0) ∧
      t.regs = s.regs ∧ t.lane = s.lane ∧ t.field = s.field ∧ t.md = s.md ∧ t.store = s.store ∧ t.own = s.own) ∧
    (exec .coreResetComplete s = .next { s with coreDown := false }) ∧
    ((s.md.mode = .boot ∨ s.md.mode = .quiet) → (ins = .sample ∨ ins = .extest) → ∃ t, exec (.tapInstruction ins cells inputs) s = .next t ∧
      t.tap.ins = ins ∧ t.tap.cells = cells ∧ t.tap.seen.map Prod.fst = ctlPads ∧
      (∀ q ∈ ctlPads, ctlInput q = true → (q, (padIn inputs q).getD (ctlPull q)) ∈ t.tap.seen) ∧ t = { s with tap := t.tap, wd := t.wd }) ∧
    ((s.md.mode = .boot ∨ s.md.mode = .quiet) → (ins = .bypass ∨ ins = .idcode) → ∃ t, exec (.tapInstruction ins cells inputs) s = .next t ∧
      t = { s with tap := { s.tap with ins := ins }, wd := t.wd }) ∧
    (s.md.mode ≠ .boot → s.md.mode ≠ .quiet → ∃ t, exec (.tapInstruction ins cells inputs) s = .next t ∧
      t = { s with tap := { s.tap with ins := if ins = .idcode then .idcode else .bypass }, wd := t.wd }) ∧
    (∃ t, exec (.vddioAbsent 0 false) s = .next t ∧ InReset { s with vddio := s.vddio &&& 0x1E#5 } t 0) ∧
    (rail ≠ 0 → ∃ t, exec (.vddioAbsent rail false) s = .next t ∧ t.vddio.getLsbD rail.val = false ∧
      (∀ j : Fin 5, j ≠ rail → t.vddio.getLsbD j.val = s.vddio.getLsbD j.val) ∧
      (rail.val = p.val + 1 → t.port[p] = { s.port[p] with hold := none, selected := false }) ∧
      (rail.val ≠ p.val + 1 → t.port[p] = s.port[p]) ∧ t = { s with vddio := t.vddio, port := t.port }) ∧
    (∃ t, exec (.vddioAbsent rail true) s = .next t ∧ t.vddio.getLsbD rail.val = true ∧
      (∀ j : Fin 5, j ≠ rail → t.vddio.getLsbD j.val = s.vddio.getLsbD j.val) ∧ (1 ≤ rail.val → rail.val ≤ 3 → t.mp = s.mp) ∧
      t = { s with vddio := t.vddio, mp := t.mp })

/-! ### Time (07) -/

/-- REF_SWITCH, REF_P_REVERT, REFP_OK_RESTORED, TSYNC_OUT_PULSE, TSYNC_LOST and WS_LOST (R33, R186, R188, R189, R192, R194): the failure of REF_P takes lane A's clock and switches to REF_S, which advances the time base by 0 to 8 ns and never backwards and records REF_SWITCH; the revert waits for 1 s of REF_P, counted in ticks; a lost source enters HOLDOVER with its count and its ledger event once its missed edges or periods have passed, and TSYNC_OUT rises for WIDTH_US. -/
def Obligations.TimeReferences : Prop :=
  ∀ (s : State) (adv : Nat), s.time < 2 ^ 63 →
    (s.tm.ref = false → s.boot.inReset = false → s.lane[(0 : Lane)].clockOk = true → s.lane[(0 : Lane)].state < 2 →
      ∃ t, exec (.refSwitch adv) s = .next t ∧ t.tm = { s.tm with ref := true, refpOk := false } ∧
      t.time = s.time + min adv 8 / 4 * 4 ∧ t.led.bits[0].getLsbD 5 = true ∧
      t.lane[(0 : Lane)] = { s.lane[(0 : Lane)] with
        run := .halted, lineReq := none, clockOk := false
        pendCause := if memberOf s 0 ∧ s.lane[(0 : Lane)].pendCause = 0 then 8 else s.lane[(0 : Lane)].pendCause } ∧
      (∀ l : Lane, l ≠ 0 → t.lane[l] = s.lane[l]) ∧
      t = { s with time := t.time, tm := t.tm, lane := t.lane, wd := t.wd, led := t.led, irqStat := t.irqStat }) ∧
    (s.tm.refpOk = false → exec .refpOkRestored s = .next { s with
      tm := { s.tm with refpOk := true, refpSince := s.mono }
      lane := s.lane.set 0 { s.lane[(0 : Lane)] with clockOk := true } }) ∧
    (s.tm.ref = true → s.tm.refpOk = true → cfgBit s 3 8 2 = true →
      ∃ t, exec (.refPRevert adv) s = .next t ∧ t.tm.ref = false ∧ s.tm.refpSince + 1000000000 ≤ t.mono ∧
        t.led.bits[0].getLsbD 5 = true ∧ t = { s with time := t.time, mono := t.mono, tm := t.tm, led := t.led, irqStat := t.irqStat } ∧
        (s.tm.refpSince + 1000000000 ≤ s.mono → t.tm = { s.tm with ref := false } ∧ t.time = s.time + min adv 8 / 4 * 4 ∧ t.mono = s.mono)) ∧
    (timeSrc s = 1 → (s.tm.sync = .acquiring ∨ s.tm.sync = .locked) → ∃ t, exec .tsyncLost s = .next t ∧ t.tm.sync = .holdover ∧
      t.tm.tsLost = min 255 (s.tm.tsLost + 1) ∧ t.led.bits[0].getLsbD 8 = true ∧
      (tsyncLostAt s ≤ s.time → t.time = s.time) ∧ (tsyncLostAt s ≤ 2 ^ 64 - 8 → tsyncLostAt s ≤ t.time) ∧
      t = { s with time := t.time, mono := t.mono, tm := t.tm, led := t.led, irqStat := t.irqStat }) ∧
    (timeSrc s = 2 → (s.tm.sync = .acquiring ∨ s.tm.sync = .locked) → ∃ t, exec .wsLost s = .next t ∧ t.tm.sync = .holdover ∧
      t.tm.wsLost = min 255 (s.tm.wsLost + 1) ∧ t.led.bits[0].getLsbD 9 = true ∧
      s.ws.since + wsLostMax s * wsPeriod s ≤ t.mono ∧ (s.ws.since + wsLostMax s * wsPeriod s ≤ s.mono → t.time = s.time) ∧
      t = { s with time := t.time, mono := t.mono, tm := t.tm, led := t.led, irqStat := t.irqStat }) ∧
    (cfgBit s 3 0x0D 0 = true → cfgBit s 3 0x0D 1 = true → s.cyc.running = true → s.time = s.cyc.t0 →
      exec .tsyncOutPulse s = .next { s with tm := { s.tm with tsyncOut := true, tsyncOutEnd := s.mono + cfgField s 3 0x0D 16 16 * 1000 } }) ∧
    (cfgBit s 3 0x0D 0 = true → cfgBit s 3 0x0D 1 = false → s.time % (cfgField s 3 0x0D 4 12 * 1000000) = 0 →
      exec .tsyncOutPulse s = .next { s with tm := { s.tm with tsyncOut := true, tsyncOutEnd := s.mono + cfgField s 3 0x0D 16 16 * 1000 } })

/-- TSYNC_IN_EDGE (R192, Table 7.2): outside the window an edge is rejected and counted and corrects nothing; the first edge of a window inside it is accepted and counted, TOFFSET takes its distance from the nearest expected instant, and in a running mode the time base does not step. -/
def Obligations.TsyncInEdge : Prop :=
  ∀ (s : State) (t0 per ph : Nat) (e : Int), timeSrc s = 1 → t0 ≤ s.time → per = cfgField s 3 0x0B 0 12 * 1000000 → 0 < per →
    ph = (cfgWord s 3 0x0C).toNat → e = (ph : Int) + (((t0 : Int) - ph + per / 2) / per) * per →
    ((if s.tm.sync = .locked then 10000 else per / 4) < ((t0 : Int) - e).natAbs →
      exec (.tsyncInEdge t0) s = .next { s with tm := { s.tm with tsRej := min 255 (s.tm.tsRej + 1) } }) ∧
    (((t0 : Int) - e).natAbs ≤ (if s.tm.sync = .locked then 10000 else per / 4) → s.tm.haveLast = false →
      stepAllowed s.md.mode = false → 0 ≤ e → per ≤ 2 ^ 30 →
      ∃ t, exec (.tsyncInEdge t0) s = .next t ∧ t.tm.tsOk = (s.tm.tsOk + 1) % 65536 ∧ t.tm.toffset = (t0 : Int) - e ∧
        t.tm.residual = (t0 : Int) - e ∧ t.time = s.time ∧ t.cyc = s.cyc ∧ t = { s with tm := t.tm, irqStat := t.irqStat })

/-- WS_SYNC_DUE, WS_OWN_SYNC_STAMP, WS_SYNC_ABANDON, WS_SYNC_RX and WS_FOLLOW_RX (R195, R196): a source readies SYNC with the next sequence number, its own reception stamps it, and SYNC sent and stamped readies FOLLOW with that stamp; an unsent SYNC is abandoned and counted without FOLLOW. A receiver keeps a SYNC of its domain that its controller passed to it, a source that hears one records WS_CONFLICT; a FOLLOW within 10 ms of the one SYNC before it, with the next sequence number, is an accepted pair whose offset is the receiver's stamp less the source's and DELAY_NS, and any other is rejected and counted. -/
def Obligations.Waystation : Prop :=
  ∀ (s : State) (dom seq q : Byte) (t0 m j ts : Nat) (y : WsSync) (rest : List WsFrame) (o : Int), t0 ≤ s.time → t0 < 2 ^ 64 →
    (wsRole s = 2 → s.time % wsPeriod s = 0 → s.can[wsCtrl s].state < 4 → exec .wsSyncDue s = .next { s with
      ws := { s.ws with
        syncReady := some (s.ws.nextSeq, s.mono), nextSeq := s.ws.nextSeq + 1, followReady := none, awaiting := false, stamped := none } }) ∧
    (wsRole s = 2 → s.time % wsPeriod s = 0 → (s.can[wsCtrl s].state = 4 ∨ s.can[wsCtrl s].state = 5) → exec .wsSyncDue s = .next { s with
      ws := { s.ws with syncReady := none, nextSeq := s.ws.nextSeq + 1, followReady := none, awaiting := false, stamped := none }
      tm := { s.tm with wsRej := min 255 (s.tm.wsRej + 1) } }) ∧
    (s.ws.awaiting = true → exec (.wsOwnSyncStamp t0) s = .next { s with
      ws := { s.ws with syncReady := none, awaiting := false, stamped := none, followReady := some (t0 / 4 * 4) } }) ∧
    (s.ws.awaiting = false → s.ws.syncReady.isSome = true → exec (.wsOwnSyncStamp t0) s =
      .next { s with ws := { s.ws with stamped := some (t0 / 4 * 4) } }) ∧
    (s.ws.syncReady = some (seq, m) → m + wsPeriod s / 2 ≤ s.mono → exec .wsSyncAbandon s = .next { s with
      ws := { s.ws with syncReady := none, stamped := none }, tm := { s.tm with wsRej := min 255 (s.tm.wsRej + 1) } }) ∧
    (wsRole s = 1 → s.ws.given = .sync seq t0 m :: rest → dom.toNat = wsDomain s → exec (.wsSyncRx dom seq t0) s = .next { s with
      ws := { s.ws with given := rest, sync := some { seq := seq, stamp := t0, at_ := m, twice := s.ws.sync.isSome } } }) ∧
    (wsRole s = 2 → s.ws.given = .sync seq t0 m :: rest → dom.toNat = wsDomain s → ∃ t, exec (.wsSyncRx dom seq t0) s = .next t ∧ t.led.bits[0].getLsbD 10 = true ∧
      t.ws = { s.ws with given := rest } ∧ t = { s with ws := t.ws, led := t.led, irqStat := t.irqStat }) ∧
    (wsRole s = 1 → s.ws.given = .follow ts m :: rest → s.ws.sync = some y → m ≤ y.at_ + 10000000 → y.twice = false →
      (s.ws.lastSeq = none ∨ s.ws.lastSeq = some (y.seq - 1, j)) →
      (timeSrc s ≠ 2 → exec (.wsFollowRx ts m) s = .next { s with
        ws := { s.ws with given := rest, sync := none, lastSeq := some (y.seq, s.mono), since := s.mono }
        tm := { s.tm with wsOk := (s.tm.wsOk + 1) % 65536 } }) ∧
      (timeSrc s = 2 → stepAllowed s.md.mode = false → o = (y.stamp : Int) - ts - cfgField s 3 0x12 0 16 → o.natAbs < 2 ^ 31 →
        ∃ t, exec (.wsFollowRx ts m) s = .next t ∧ t.ws = { s.ws with given := rest, sync := none, lastSeq := some (y.seq, s.mono), since := s.mono } ∧
          t.tm.wsOk = (s.tm.wsOk + 1) % 65536 ∧ t.tm.toffset = o ∧ t.tm.residual = o ∧
          t = { s with ws := t.ws, tm := t.tm, irqStat := t.irqStat })) ∧
    (wsRole s = 1 → s.ws.given = .follow ts m :: rest → s.ws.sync = some y →
      (y.at_ + 10000000 < m ∨ y.twice = true ∨
        (s.ws.lastSeq = some (q, j) ∧ y.seq ≠ q + 1 ∧ s.mono < j + wsLostMax s * wsPeriod s)) →
      exec (.wsFollowRx ts m) s = .next { s with
        ws := { s.ws with given := rest, sync := none }, tm := { s.tm with wsRej := min 255 (s.tm.wsRej + 1) } })

/-! ### The cycle, the vote and reintegration (05) -/

/-- The majority rule of Table 5.12 (R126, R130): among at least two members, the value that two present lanes hold is the outcome, it is the only such value, and without two equal values, or with fewer than two members, there is none. -/
def Obligations.VoteMajority : Prop :=
  ∀ (m : Nat) (l : List (Lane × Nat)) (v : Nat), l.length ≤ 3 →
    (2 ≤ m → 2 ≤ (l.filter fun e => decide (e.2 = v)).length → voted m l = some v) ∧
    (voted m l = some v → 2 ≤ m ∧ 2 ≤ (l.filter fun e => decide (e.2 = v)).length) ∧
    (m < 2 → voted m l = none)

/-- COMMIT (R28, R85, R101, R111, R191): outside the entry into QUIET, the commit takes the planned instant as T0, counts the cycle on by one from the last (or takes the first number of the boot), plans the next one on the grid one period later, opens the new cycle with nothing staged, and acts exactly when the mode that results is RUN or DEGRADED, the permit couplers being off when it does not. The store, the pads, the queue and the boot's state keep their values. PRIME_TIMEOUT (R100, rows 8 and 9): the commit at which PRIME has lasted PRIME_TMO cycles without agreement leaves PRIME, for DEGRADED or for SAFE. -/
def Obligations.CommitCycle : Prop :=
  (∀ (s : State) (rb : BitVec 64), s.cyc.running = true → s.md.mode ≠ .hold → s.md.mode ≠ .quiet →
    ∃ t, exec (.commit rb) s = .next t ∧ t.cyc.t0 = s.cyc.nextT0 ∧
      t.cyc.n = (if s.cyc.everRan then s.cyc.n + 1 else s.boot.firstCycle) ∧ t.cyc.period = cfgPeriod t ∧
      t.cyc.nextT0 = gridNext (gridOrg t) (cfgPeriod t * 1000) (s.cyc.nextT0 + cfgPeriod t * 1000) ∧
      t.cyc.closed = false ∧ t.cyc.staged = 0 ∧ t.cyc.acting = (decide (t.md.mode = .run) || decide (t.md.mode = .degraded)) ∧
      (t.cyc.acting = false → t.permits = 0) ∧ t.store = s.store ∧ t.vddio = s.vddio ∧ t.tap = s.tap ∧ t.pending = s.pending ∧ t.boot = s.boot) ∧
  (∀ (s : State) (rb : BitVec 64), s.cyc.running = true → s.md.mode = .prime → primeTmo s ≠ 0 → primeTmo s ≤ s.md.primeLasted + 1 →
    s.md.cmd = none → s.md.safePending = false →
    ∃ t, exec (.primeTimeout rb) s = .next t ∧ (t.md.mode = .safe ∨ t.md.mode = .degraded ∨ t.md.mode = .run) ∧
      (cfgBit s 0 0x22 3 = false → s.md.primeCnt + 1 < primeN s → t.md.mode = .safe ∧ t.md.lastCause = 9) ∧
      t.cyc.t0 = s.cyc.nextT0 ∧ t.store = s.store)

/-- IMAGE_DELIVERED (R28, R112, R121, R124, R137): a whole image whose digest agrees starts the lane with registers, flags and the manifest area zero, PC at ENTRY, CRC_VAL all ones and the image in IMAGE_IN, its other memory as before; a digest that differs from both others' makes the image invalid, and with three members is cause 3. -/
def Obligations.ImageDelivered : Prop :=
  ∀ (s : State) (l : Lane) (dig : List Word), s.cyc.running = true → lanesRun s.md.mode = true → s.lane[l].run = .waiting →
    s.lane[l].delivered = false → s.cyc.finalPass = none → s.cyc.closed = false →
    (imageWhole s l = true → digestOk s l dig = true → amWf 0 s.lane[l].mem = true → amWf 0 s.cyc.image = true →
      ∃ t, exec (.imageDelivered l dig) s = .next t ∧ t.lane[l].run = .computing ∧ t.lane[l].x = Vector.replicate 16 0 ∧
        t.lane[l].flN = false ∧ t.lane[l].flZ = false ∧ t.lane[l].flC = false ∧ t.lane[l].flV = false ∧ t.lane[l].pc = s.boot.entry ∧
        t.lane[l].crcVal = 0xFFFFFFFF#32 ∧ t.lane[l].imgValid = true ∧
        (∀ a, a < 0x20000 → memGet 0 t.lane[l].mem (0x30000000 + a) = memGet 0 s.cyc.image a) ∧
        (∀ a, 0x32000000 ≤ a → a < 0x32001004 → memGet 0 t.lane[l].mem a = 0) ∧
        (∀ a, a < 0x30000000 → memGet 0 t.lane[l].mem a = memGet 0 s.lane[l].mem a) ∧
        (∀ a, 0x31000000 ≤ a → a < 0x31000FF8 → memGet 0 t.lane[l].mem a = memGet 0 s.lane[l].mem a) ∧
        (∀ k : Lane, k ≠ l → t.lane[k] = s.lane[k]) ∧ t = { s with lane := t.lane }) ∧
    (s.cyc.member = 7 → s.md.mode ≠ .limp → (∀ k : Lane, k ≠ l → dig.getD k.val 0 ≠ dig.getD l.val 0) → s.lane[l].pendCause = 0 →
      ∃ t, exec (.imageDelivered l dig) s = .next t ∧ t.lane[l].delivered = true ∧ t.lane[l].imgValid = false ∧
        t.lane[l].run = .waiting ∧ t.lane[l].pendCause = 3 ∧ (∀ k : Lane, k ≠ l → t.lane[k] = s.lane[k]) ∧ t = { s with lane := t.lane })

/-- VOTE_CLOSE (R112, R117, R126, R127): time stands at vote close at least; a member lane that still computes is halted and learns cause 2, and sends nothing; with three members a lane whose image never came learns cause 3; a lane that is done with a valid image and no trap sends its permit word and report words as its output image holds them. The dies, the outputs, the registers and the store keep their values. -/
def Obligations.VoteClose : Prop :=
  ∀ (s : State) (l : Lane), s.cyc.running = true → lanesRun s.md.mode = true → s.cyc.closed = false →
    ∃ t, exec .voteClose s = .next t ∧ t.cyc.closed = true ∧ (voteCloseAt s ≤ 2 ^ 64 - 8 → voteCloseAt s ≤ t.time) ∧ s.time ≤ t.time ∧ t.cyc.n = s.cyc.n ∧
      (s.lane[l].run = .computing → memberOf s l = true → s.lane[l].pendCause = 0 →
        t.lane[l].run = .halted ∧ t.lane[l].pendCause = 2 ∧ t.lane[l].close.present = false) ∧
      (s.lane[l].run = .waiting → s.lane[l].delivered = false → s.cyc.member = 7 → s.lane[l].pendCause = 0 →
        t.lane[l].pendCause = 3 ∧ t.lane[l].close.present = false) ∧
      (s.lane[l].run = .done → s.lane[l].trapped = false → s.lane[l].imgValid = true →
        t.lane[l].close.present = true ∧ t.lane[l].close.permit = BitVec.ofNat 64 (leAt s.lane[l].mem 0x31000400 8) ∧
        (∀ i, i < 64 → t.lane[l].close.reports.getD i 0 = BitVec.ofNat 32 (leAt s.lane[l].mem (0x31000800 + 4 * i) 4)) ∧
        (s.lane[l].state ≠ 5 → t.lane[l].mem = s.lane[l].mem) ∧ t.lane[l].x = s.lane[l].x) ∧
      t.store = s.store ∧ t.regs = s.regs ∧ t.field = s.field ∧ t.die = s.die

/-- REINT_RESET_DONE, REINT_CODE_DONE, REINT_BULK_DONE and FINAL_PASS_DONE (R139 to R141, Table 5.14): RESET leaves every register, flag and byte of the lane zero; CODE and BULK copy the donor's ranges when donor and checker agree, and fail the attempt with CODE_MISMATCH or DATA_MISMATCH when they do not; the final pass copies the blocks that are not clean and the persistent special registers and hands over to the shadow cycle. The members keep every register and byte. -/
def Obligations.ReintegrationStages : Prop :=
  (∀ (s : State) (l : Lane), s.lane[l].state = 2 → exec (.reintResetDone l) s = .next (laneAt s l { s.lane[l] with
    x := Vector.replicate 16 0, flN := false, flZ := false, flC := false, flV := false, pc := 0, mem := [], closedCopy := [], pf := []
    lineReq := none, trapped := false, close := closeReset, serve := [], state := 3, stageAt := s.mono })) ∧
  (∀ (s : State) (l a c : Lane), donorChecker s = some (a, c) → l ≠ a → l ≠ c →
    (s.lane[l].state = 3 → memRange s.lane[a].mem 0 0x80000 = memRange s.lane[c].mem 0 0x80000 → amWf 0 s.lane[l].mem = true →
      amWf 0 s.lane[a].mem = true → ∃ t, exec (.reintCodeDone l) s = .next t ∧ t.lane[l].state = 4 ∧ t.lane[l].dirty = [] ∧
      (∀ b, b < 0x80000 → memGet 0 t.lane[l].mem b = memGet 0 s.lane[a].mem b) ∧
      (∀ b, 0x80000 ≤ b → memGet 0 t.lane[l].mem b = memGet 0 s.lane[l].mem b) ∧
      (∀ k : Lane, k ≠ l → t.lane[k] = s.lane[k]) ∧ t = { s with lane := t.lane }) ∧
    (s.lane[l].state = 3 → memRange s.lane[a].mem 0 0x80000 ≠ memRange s.lane[c].mem 0 0x80000 → reintAllowed s = true →
      s.lane[l].triesLeft = 0 → ∃ t, exec (.reintCodeDone l) s = .next t ∧ t.lane[l].state = 1 ∧ t.lane[l].rfail = 1 ∧
      (∀ k : Lane, k ≠ l → t.lane[k] = s.lane[k])) ∧
    (s.lane[l].state = 4 → (∀ r ∈ bulkRanges, cleanPart s.lane[l].dirty s.lane[a].mem r = cleanPart s.lane[l].dirty s.lane[c].mem r) →
      amWf 0 s.lane[l].mem = true → amWf 0 s.lane[a].mem = true → ∃ t, exec (.reintBulkDone l) s = .next t ∧ t.lane[l].state = 5 ∧
      t.lane[l].convCnt = 0 ∧
      (∀ b, ((0x20000000 ≤ b ∧ b < 0x20040000) ∨ (0x20100000 ≤ b ∧ b < 0x20110000) ∨ (0x30000000 ≤ b ∧ b < 0x30020000) ∨
        (0x31000000 ≤ b ∧ b < 0x31008000)) → memGet 0 t.lane[l].mem b = memGet 0 s.lane[a].mem b) ∧
      (∀ k : Lane, k ≠ l → t.lane[k] = s.lane[k]) ∧ t = { s with lane := t.lane }) ∧
    (s.lane[l].state = 4 → (∃ r ∈ bulkRanges, cleanPart s.lane[l].dirty s.lane[a].mem r ≠ cleanPart s.lane[l].dirty s.lane[c].mem r) →
      reintAllowed s = true → s.lane[l].triesLeft = 0 → ∃ t, exec (.reintBulkDone l) s = .next t ∧ t.lane[l].state = 1 ∧
      t.lane[l].rfail = 2 ∧ (∀ k : Lane, k ≠ l → t.lane[k] = s.lane[k])) ∧
    (s.cyc.finalPass = some l → (∀ b ∈ s.lane[l].dirty, blockEq s.lane[a].mem s.lane[c].mem b = true) →
      amWf 0 s.lane[l].mem = true → amWf 0 s.lane[a].mem = true →
      ∃ t, exec .finalPassDone s = .next t ∧ t.cyc.finalPass = none ∧ t.lane[l].state = 6 ∧ t.lane[l].dirty = [] ∧
      (∀ i, i / 256 ∈ s.lane[l].dirty → memGet 0 t.lane[l].mem i = memGet 0 s.lane[a].mem i) ∧
      (∀ i, i / 256 ∉ s.lane[l].dirty → memGet 0 t.lane[l].mem i = memGet 0 s.lane[l].mem i) ∧
      t.lane[l].xipBase = s.lane[a].xipBase ∧ t.lane[l].xipSpan = s.lane[a].xipSpan ∧ t.lane[l].run = .waiting ∧
      (∀ k : Lane, k ≠ l → t.lane[k] = s.lane[k]) ∧ t = { s with lane := t.lane, cyc := { s.cyc with finalPass := none } }))

/-- REINT_STAGE_TIME and REINT_NOCONVERGE (R138, R139, R140): the attempt of a lane at its stage's maximum (in BULK only compute-window time counts for the copy of IMAGE_IN, and outside the window nothing ends it), or after CONVMAX vote closes without a final pass, fails with STAGE_TIME (7) or NOCONVERGE (3); with attempts left the lane is in RESET again with one fewer, without any it is OUT. -/
def Obligations.ReintegrationFailures : Prop :=
  ∀ (s : State) (l : Lane) (n e : Nat), s.lane[l].clockOk = true → s.lane[l].triesLeft = n → reintAllowed s = true →
    ((s.lane[l].state = 2 ∧ e = s.lane[l].stageAt + 200000 ∨ s.lane[l].state = 3 ∧ e = s.lane[l].stageAt + 524288 ∨
        s.lane[l].state = 4 ∧ s.cyc.running = true ∧ s.cyc.closed = false ∧ e ≤ (windowOf s).2 ∧
          e = max (windowOf s).1 (s.lane[l].stageAt + 360448) + (131072 - s.lane[l].winUsed)) →
      ∃ t, exec (.reintStageTime l) s = .next t ∧ e ≤ t.mono ∧ t.lane[l].rfail = 7 ∧ t.lane[l].triesLeft = n - 1 ∧
        t.lane[l].state = (if n = 0 then 1 else 2) ∧ (∀ k : Lane, k ≠ l → t.lane[k] = s.lane[k])) ∧
    (s.lane[l].state = 4 → s.cyc.closed = true → exec (.reintStageTime l) s = .next s) ∧
    (s.lane[l].state = 5 → s.cyc.finalPass = none → convMax s ≤ s.lane[l].convCnt →
      ∃ t, exec (.reintNoconverge l) s = .next t ∧ t.lane[l].rfail = 3 ∧ t.lane[l].triesLeft = n - 1 ∧
        t.lane[l].state = (if n = 0 then 1 else 2) ∧ (∀ k : Lane, k ≠ l → t.lane[k] = s.lane[k]))

/-! ### Reset, boot and modes (03, 04) -/

/-- LANE_START (R104, R110, R153): for row 4 after a wake, with every lane clock enabled and every powered die ready, or for a pending cold MODECMD PRIME, each lane keeps its code, takes zero for all other memory and the XIP values of the code image header, and its prefetch buffer is empty; a warm one takes the newest retain record that fits into the retain range. The conditions not holding, the pending command is dropped. -/
def Obligations.LaneStart : Prop :=
  ∀ (s : State) (l : Lane) (r : RetainRec), s.md.mode = .hold → s.md.laneStarted = false →
    ((s.md.row4 = some true ∨ (s.md.row4 = none ∧ s.md.cmd = some (.prime false))) → primeReady s = true → amWf 0 s.lane[l].mem = true →
      ∃ t, exec .laneStart s = .next t ∧ t.md.laneStarted = true ∧ t.md.start = true ∧
      t.md.startWarm = false ∧ t.md.mode = .hold ∧
      (∀ a, a < 0x80000 → memGet 0 t.lane[l].mem a = memGet 0 s.lane[l].mem a) ∧ (∀ a, 0x80000 ≤ a → memGet 0 t.lane[l].mem a = 0) ∧
      t.lane[l].xipBase = s.boot.xipBase ∧ t.lane[l].xipSpan = s.boot.xipSpan ∧ t.lane[l].pf = [] ∧ t.lane[l].closedCopy = [] ∧
      t.lane[l].x = s.lane[l].x ∧ t = { s with lane := t.lane, cyc := { s.cyc with image := [] }, md := t.md }) ∧
    (s.md.row4 = none → s.md.cmd = some (.prime true) → primeReady s = true → retainNewest s = some r → retainFits s r = true →
      amWf 0 s.lane[l].mem = true → ∃ t, exec .laneStart s = .next t ∧ t.md.laneStarted = true ∧ t.md.startWarm = true ∧
      (∀ a, a < 0x80000 → memGet 0 t.lane[l].mem a = memGet 0 s.lane[l].mem a) ∧
      (∀ i (h : i < r.data.length), memGet 0 t.lane[l].mem (0x20100000 + i) = r.data[i]) ∧
      (∀ a, 0x80000 ≤ a → (a < 0x20100000 ∨ 0x20100000 + r.data.length ≤ a) → memGet 0 t.lane[l].mem a = 0) ∧
      t = { s with lane := t.lane, cyc := { s.cyc with image := [] }, md := t.md }) ∧
    (s.md.row4 = none → s.md.cmd = some (.prime true) → (retainNewest s).filter (retainFits s) = none → ∃ t, exec .laneStart s = .next t ∧
      t.md.drop = true ∧ t.md.cmd = none ∧ t = { s with md := t.md }) ∧
    (s.md.row4 = none → s.md.cmd = some (.prime false) → primeReady s = false → ∃ t, exec .laneStart s = .next t ∧
      t.md.drop = true ∧ t.md.cmd = none ∧ t = { s with md := t.md })

/-- POR, PIN_RESET, FATAL_RESET, RSTCTL_COLD and RSTCTL_WARM (R66, R68, R71, R85, R421): the control die is in reset with the source recorded in RSTCAUSE, in mode BOOT with no owner, no lane in the vote, outputs off and the port records as after reset; the store, the rails and a running die's channels are outside its reach, barrier power and the ledger's ring stay but for POR, and RSTCTL needs the key 0x5A. -/
def Obligations.ResetEntries : Prop :=
  ∀ (s : State) (p : Port),
    (∃ t, exec .por s = .next t ∧ InReset s t 0 ∧ t.boot.cause = 1 ∧ t.boot.bootCnt = 0 ∧ t.led = ledReset ∧ t.pwr.bpwr = 0) ∧
    (∃ t, exec .pinReset s = .next t ∧ InReset s t 1 ∧ t.pwr.bpwr = s.pwr.bpwr ∧ t.led.ring = s.led.ring ∧ t.led.bits = s.led.bits ∧
      t.boot.bootCnt = s.boot.bootCnt) ∧
    (∃ t, exec .fatalReset s = .next t ∧ InReset s t 5 ∧ t.pwr.bpwr = s.pwr.bpwr ∧ t.led.ring = s.led.ring) ∧
    (Accepted s p (writeOf 0 0x11 [0x5A000001#32]) → ∃ t, exec (.rstctlCold p 0x5A#8) s = .next t ∧ InReset s t 2 ∧
      t.pwr.bpwr = s.pwr.bpwr ∧ t.led.ring = s.led.ring) ∧
    (Accepted s p (writeOf 0 0x11 [0x5A000002#32]) → ∃ t, exec (.rstctlWarm p 0x5A#8) s = .next t ∧ InReset s t 3 ∧
      t.pwr.bpwr = s.pwr.bpwr ∧ t.led.ring = s.led.ring)

/-- POR_RELEASE, RESET_RELEASE, RSTOUT_RELEASE and BOOT_COMPLETE (R51, R55, R68, R70, R73, R75, R79, R453): with TEST_EN low the die leaves reset and counts the boot; after a POR only with VDDIO_SYS present and RESET_N high. BOOT_SEL 3, a store without its rail and one without a valid directory lead to the recovery state in BOOT; with TEST_EN high the die stays in reset, until a new reset. The end of phase 8 is row 1 of Table 4.2, to HOLD with the cycle running unless MODECFG.INIT names QUIET. -/
def Obligations.ResetReleaseAndBoot : Prop :=
  ∀ (s : State) (sel : BitVec 2) (te rn : Bool),
    (s.boot.inReset = true → s.boot.testHold = true → exec (.porRelease sel te rn) s = .next s ∧ exec (.resetRelease sel te) s = .next s) ∧
    (s.boot.inReset = true → s.boot.testHold = false → s.boot.sources.getLsbD 0 = true → s.vddio.getLsbD 0 = true →
      exec (.porRelease sel te false) s = .next s ∧
      exec (.porRelease sel true true) s = .next { s with boot := { s.boot with testHold := true } } ∧
      (sel = 3 → ∃ t, exec (.porRelease sel false true) s = .next t ∧ t.boot.inReset = false ∧ t.boot.recovery = true ∧ t.boot.err = 0 ∧
        t.boot.mpRstLow = false ∧ t.boot.bootCnt = min 65535 (s.boot.bootCnt + 1) ∧ t.md = s.md ∧ t.store = s.store ∧ t.lane = s.lane) ∧
      (sel ≠ 3 → s.vddio.getLsbD 4 = false → ∃ t, exec (.porRelease sel false true) s = .next t ∧
        t.boot.inReset = false ∧ t.boot.recovery = true ∧ t.boot.err = 5 ∧ t.md = s.md ∧ t.store = s.store) ∧
      (sel ≠ 3 → s.vddio.getLsbD 4 = true → dirPick s.store = none → ∃ t, exec (.porRelease sel false true) s = .next t ∧
        t.boot.inReset = false ∧ t.boot.recovery = true ∧ (t.boot.err = 1 ∨ storeBlank s = true ∧ t.boot.err = 5) ∧ t.md = s.md ∧
        t.store = s.store)) ∧
    (s.vddio.getLsbD 0 = false → exec (.porRelease sel te rn) s = .next s) ∧
    (s.boot.inReset = true → s.boot.testHold = false → s.boot.sources.getLsbD 0 = false →
      (sel = 3 → ∃ t, exec (.resetRelease sel false) s = .next t ∧ t.boot.inReset = false ∧ t.boot.recovery = true ∧ t.boot.err = 0 ∧
        t.boot.cause = s.boot.cause ∧ t.md = s.md ∧ t.store = s.store) ∧
      exec (.resetRelease sel true) s = .next { s with boot := { s.boot with testHold := true } }) ∧
    (s.boot.inReset = false → exec .rstoutRelease s = .next { s with boot := { s.boot with rstoutLow := false } }) ∧
    (booting s = true → s.boot.phase = 8 → cfgField s 0 0x22 0 2 ≠ 2 → ∃ t, exec .bootComplete s = .next t ∧ t.boot.phase = 9 ∧
      t.md.mode = .hold ∧ t.md.lastCause = 1 ∧ t.cyc.running = true ∧ t.store = s.store ∧ t.regs = s.regs) ∧
    (booting s = true → s.boot.phase = 8 → cfgField s 0 0x22 0 2 = 2 → s.pwr.wakeHigh = false → s.pwr.alarmArmed = false →
      ∃ t, exec .bootComplete s = .next t ∧ t.boot.phase = 9 ∧ t.md.mode = .quiet ∧ t.md.lastCause = 1 ∧ t.cyc.running = false ∧
      t.store = s.store ∧ t.regs = s.regs)

/-- MODECMD_QUIET, MODECMD_HOLD, MODECMD_PRIME and MODECMD_SAFE (R102, R110): an accepted command for another mode waits for the next T0 in place of an earlier one, changing no mode; HOLD in QUIET is entered at once by row 3 and the cycle runs, its first T0 at the first grid instant after. -/
def Obligations.ModeCommands : Prop :=
  ∀ (s : State) (p : Port) (warm : Bool) (md : ModeSt),
    md = { s.md with laneStarted := s.md.laneStarted && s.md.row4.isSome } →
    (Accepted s p (writeOf 0 0x21 [0xA5000001#32]) → s.md.mode = .hold → ∃ t, exec (.modecmdQuiet p 0xA5#8) s = .next t ∧ Answered s t p ∧
      t.md = { md with cmd := some .quiet } ∧ t = { s with md := t.md, port := t.port, own := { s.own with timerAt := s.mono } }) ∧
    (Accepted s p (writeOf 0 0x21 [0xA5000002#32]) → s.md.mode ≠ .quiet → s.md.mode ≠ .hold → ∃ t, exec (.modecmdHold p 0xA5#8) s = .next t ∧
      Answered s t p ∧ t.md = { md with cmd := some .hold } ∧
      t = { s with md := t.md, port := t.port, own := { s.own with timerAt := s.mono } }) ∧
    (Accepted s p (writeOf 0 0x21 [0xA5000002#32]) → s.md.mode = .quiet → ∃ t, exec (.modecmdHold p 0xA5#8) s = .next t ∧ Answered s t p ∧
      t.md.mode = .hold ∧ t.md.lastCause = 3 ∧ t.cyc.running = true ∧ t.cyc.period = cfgPeriod s ∧
      t.cyc.nextT0 = gridNext (gridOrg s) (cfgPeriod s * 1000) (s.time + 1) ∧ t.regs = s.regs ∧ t.store = s.store) ∧
    (Accepted s p (writeOf 0 0x21 [if warm then 0xA500000B#32 else 0xA5000003#32]) → s.md.mode = .hold →
      ∃ t, exec (.modecmdPrime p 0xA5#8 warm) s = .next t ∧ Answered s t p ∧ t.md = { md with cmd := some (.prime warm) } ∧
        t = { s with md := t.md, port := t.port, own := { s.own with timerAt := s.mono } }) ∧
    (Accepted s p (writeOf 0 0x21 [0xA5000007#32]) → lanesRun s.md.mode = true → ∃ t, exec (.modecmdSafe p 0xA5#8) s = .next t ∧
      Answered s t p ∧ t.md = { md with cmd := some .safe } ∧
      t = { s with md := t.md, port := t.port, own := { s.own with timerAt := s.mono } })

/-- BPWR_ON, BPWR_OFF, LCLK_SET, LOOPMOD_SET and PWRHART_SET (R22, R106, R107): a die switched on is in its reset state and loads its microcode, a die switched off is in its reset state with its bit clear, other dies keep theirs; the lane clocks, modulators and modems take the written bits, and outside QUIET the loop bits in effect wait for the next T0. -/
def Obligations.PowerCommands : Prop :=
  ∀ (s : State) (p : Port) (d : FDie) (viso : Nat) (lc : BitVec 3) (m : BitVec 16), s.md.mode ≠ .quiet →
    (Accepted { s with pwr := { s.pwr with viso := viso } } p (writeOf 0 0x23 [pwrctlWord s ||| place d.val 1]) →
      powered s (toDie d) = false → ∃ t, exec (.bpwrOn p (toDie d) viso) s = .next t ∧ Answered s t p ∧
        t.pwr.bpwr = s.pwr.bpwr ||| bit5 (toDie d) ∧ t.die[toDie d].loading = true ∧ t.die[toDie d].ready = false ∧
        (∀ e : Die, e ≠ toDie d → t.die[e] = s.die[e]) ∧ (∀ e : FDie, e ≠ d → t.field[e] = s.field[e]) ∧ SameLanes s t) ∧
    (Accepted s p (writeOf 0 0x23 [pwrctlWord s &&& ~~~(place d.val 1)]) → powered s (toDie d) = true →
      ∃ t, exec (.bpwrOff p (toDie d)) s = .next t ∧ Answered s t p ∧ t.pwr.bpwr = s.pwr.bpwr &&& ~~~(bit5 (toDie d)) ∧
        t.die[toDie d].loading = false ∧ t.die[toDie d].ready = false ∧ (∀ k : Chan, t.field[d].ch[k].st = .off) ∧
        (∀ e : Die, e ≠ toDie d → t.die[e] = s.die[e]) ∧ (∀ e : FDie, e ≠ d → t.field[e] = s.field[e]) ∧ SameLanes s t) ∧
    (Accepted s p (writeOf 0 0x23 [(pwrctlWord s &&& ~~~0xE0#32) ||| place 5 lc.toNat]) → ∃ t, exec (.lclkSet p lc) s = .next t ∧
      Answered s t p ∧ t = { s with pwr := { s.pwr with lclk := lc }, port := t.port, own := { s.own with timerAt := s.mono } }) ∧
    (Accepted s p (writeOf 0 0x23 [(pwrctlWord s &&& 0xFFFF#32) ||| place 16 m.toNat]) → ∃ t, exec (.loopmodSet p m) s = .next t ∧
      Answered s t p ∧ t = { s with pwr := { s.pwr with loopmod := m }, port := t.port, own := { s.own with timerAt := s.mono } }) ∧
    (Accepted s p (writeOf 0 0x24 [place 0 m.toNat]) → ∃ t, exec (.pwrhartSet p m) s = .next t ∧
      Answered s t p ∧ t = { s with pwr := { s.pwr with modem := m }, port := t.port, own := { s.own with timerAt := s.mono } })

/-- DIE_UCODE_CHECK, VISO_LOW, VISO_COLLAPSE, VBB_LOW, VBB_RESTORED and VBB_HIGH (R57, R58, R107): a digest that matches makes the die ready with its links up, one that differs switches it off with DIE_FAIL and DIE_UCODE; the fall of VISO below 4.60 V is recorded once, a collapse clears every BPWR bit; a die without its field supply has every switch off, and after its return it waits for the next commit. -/
def Obligations.SupplyEvents : Prop :=
  ∀ (s : State) (d : FDie) (e : Die) (dig : List Word) (mv : Nat), s.boot.inReset = false →
    (powered s e = true → s.die[e].loading = true → dig = ucodeOf s e → ∃ t, exec (.dieUcodeCheck e dig) s = .next t ∧
      t.die[e].ready = true ∧ t.die[e].loading = false ∧ t.die[e].ucode = dig ∧ t.die[e].time.up = true ∧
      (∀ l : Lane, t.die[e].down[l].up = true ∧ t.die[e].up[l].up = true) ∧ (∀ f : Die, f ≠ e → t.die[f] = s.die[f]) ∧ t.pwr = s.pwr) ∧
    (powered s e = true → s.die[e].loading = true → dig ≠ ucodeOf s e → ∃ t, exec (.dieUcodeCheck e dig) s = .next t ∧
      t.die[e].ready = false ∧ t.die[e].loading = false ∧ t.pwr.bpwr = s.pwr.bpwr &&& ~~~(bit5 e) ∧
      t.pwr.dieFail = s.pwr.dieFail ||| bit5 e ∧ t.led.bits[0].getLsbD 13 = true) ∧
    (mv < 4600 → 4600 ≤ s.pwr.viso → ∃ t, exec (.visoLow mv) s = .next t ∧ t.pwr = { s.pwr with viso := mv } ∧ t.led.bits[0].getLsbD 12 = true ∧
      t = { s with pwr := t.pwr, led := t.led, irqStat := t.irqStat }) ∧
    (mv < 4600 → s.pwr.viso < 4600 → exec (.visoLow mv) s = .next { s with pwr := { s.pwr with viso := mv } }) ∧
    (mv < 4200 → ∃ t, exec (.visoCollapse mv) s = .next t ∧ t.pwr.bpwr = 0 ∧ t.pwr.viso = mv ∧
      (4600 ≤ s.pwr.viso → t.led.bits[0].getLsbD 12 = true) ∧ SameLanes s t ∧ t.regs = s.regs ∧ t.store = s.store) ∧
    (∃ t, exec (.vbbLow d mv) s = .next t ∧ t.field[d].vbbLow = true ∧ t.field[d].vbbOff = true ∧ t.field[d].vbb = mv ∧
      (∀ k : Chan, t.field[d].ch[k].st = .off ∨ t.field[d].ch[k].st = .rwait ∨ t.field[d].ch[k].st = .latched) ∧
      (∀ f : FDie, f ≠ d → t.field[f] = s.field[f]) ∧ t.lane = s.lane ∧ t.regs = s.regs) ∧
    (s.field[d].vbbLow = true → exec (.vbbRestored d) s =
      .next { s with field := s.field.set d { s.field[d] with vbbLow := false } }) ∧
    (powered s (toDie d) = true → uplinksDown s (toDie d) = false → ∃ t, exec (.vbbHigh d mv) s = .next t ∧ t.field[d] = { s.field[d] with vbb := mv } ∧
      t.led.bits[1].getLsbD 17 = true ∧ t = { s with field := t.field, led := t.led, irqStat := t.irqStat })

/-- WAKE_PAD, WAKE_CAN and WAKE_ALARM (R109, R110): in QUIET an enabled source wakes the device to HOLD by row 3 with its bit of WAKESTAT set and the cycle running, its first T0 at the first grid instant after; a controller wakes with a data frame that it receives as a listener and its filter pair 0 accepts. Outside QUIET, or not enabled, a source changes nothing but the pad's level. -/
def Obligations.WakeSources : Prop :=
  ∀ (s : State) (c : Ctrl) (f : CanFrame) (high : Bool) (viso : Nat),
    (wakeOn s 0 = true → ∃ t, exec (.wakePad viso true) s = .next t ∧ Woken s t 0 ∧
      t.cyc.nextT0 = gridNext (gridOrg s) (cfgPeriod s * 1000) (s.time + 1)) ∧
    ((high = false ∨ wakeOn s 0 = false) → exec (.wakePad viso high) s = .next { s with pwr := { s.pwr with wakeHigh := high } }) ∧
    (wakeOn s (1 + c.val) = true → canHears s c = true → (f.fdf = true → canFd s c = true) → f.rtr = false →
      filterHit s c (frameIdw f.ide f.fdf f.brs f.id.toNat) 0 = true → ∃ t, exec (.wakeCan c f viso) s = .next t ∧ Woken s t (1 + c.val)) ∧
    ((wakeOn s (1 + c.val) = false ∨ canHears s c = false ∨ f.rtr = true ∨ (f.fdf = true ∧ canFd s c = false)) →
      exec (.wakeCan c f viso) s = .next s) ∧
    (wakeOn s 3 = true → s.pwr.alarmArmed = true → ∃ t, exec (.wakeAlarm viso) s = .next t ∧ Woken s t 3 ∧
      (wakeTime s ≤ 2 ^ 64 - 8 → wakeTime s ≤ t.time)) ∧
    ((wakeOn s 3 = false ∨ s.pwr.alarmArmed = false) → exec (.wakeAlarm viso) s = .next s) ∧
    (s.md.mode ≠ .quiet → wakeOn s 0 = false ∧ wakeOn s (1 + c.val) = false ∧ wakeOn s 3 = false)

/-! ### Frames, the peer port, the memory port (12) -/

/-- PORT_SELECT, READ, WRITE, READ_SNAP, STATUS, BAD_CMD and FRAME_TIMEOUT (R335, R338 to R347, R394, R403, R406): a select with RDY high begins a frame, one with RDY low is ignored; during the header of a frame the port echoes the code and number of the latest frame and the state of the device; an accepted READ of one plain register returns the word the host sees and changes nothing; an accepted WRITE of a mailbox word sets that word alone and counts the mailbox, and one of an SR register sets its shadow and no active value; a rejected or timed-out WRITE leaves registers and blocks as they are, with its code and count in the port's record; READ-SNAP reads the held or latest generation, and STATUS changes no record, and cut inside a word does not restart the owner timer. -/
def Obligations.HostFrames : Prop :=
  ∀ (s : State) (p : Port) (page off n : Nat) (w : Word) (ws : List Word) (part : Bool) (echo : List Byte), portInert s p = false →
      page < 22 → off < 65536 → amWf 0 s.regs = true → amWf 0 s.shadow = true →
      echo = [s.port[p].last, BitVec.ofNat 8 s.port[p].seq, echoByte s p] →
    (exec (.portSelect p true) s = .next { s with port := s.port.set p { s.port[p] with selected := true } }) ∧
    (exec (.portSelect p false) s = .next s) ∧
    (page ≠ 15 → page ≠ 16 → off ≤ pageLast page → hiOf page off = none → (∀ e ∈ s.port[p].latch, e.1 ≠ regKey page off) →
      Accepted s p (readOf 0 page off 1) → ∃ t, exec (.read p page off 1 false) s = .next t ∧ Answered s t p ∧
        t.port[p].so = [hostWord s page off] ∧ t.port[p].count = 1 ∧ t.port[p].echo = echo ∧
        t = { s with port := t.port, own := { s.own with timerAt := if s.own.owner = some p then s.mono else s.own.timerAt } }) ∧
    (n < 128 → Accepted s p (writeOf 1 (0x100 + n) [w]) → ∃ t,
      exec (.write p 1 (0x100 + n) [w, checkWord 1 1 (0x100 + n) [w]] false) s = .next t ∧ Answered s t p ∧
        cfgWord t 1 (0x100 + n) = w ∧ t.mbox.seq = (s.mbox.seq + 1) % 2 ^ 32 ∧
        (∀ k, k ≠ regKey 1 (0x100 + n) → rmGet t.regs k = rmGet s.regs k) ∧
        t = { s with regs := t.regs, mbox := t.mbox, port := t.port, own := { s.own with timerAt := if s.own.owner = some p then s.mono else s.own.timerAt } }) ∧
    (Accepted s p (writeOf 4 0 [w]) → ∃ t, exec (.write p 4 0 [w, checkWord 1 4 0 [w]] false) s = .next t ∧ Took s t p ∧
      rmGet t.shadow (regKey 4 0) = w &&& 0xFFFFF#32 ∧ (∀ k, k ≠ regKey 4 0 → rmGet t.shadow k = rmGet s.shadow k) ∧
      t = { s with shadow := t.shadow, port := t.port, own := t.own }) ∧
    (frameCode s p { cmd := 1, page := page, off := off, words := ws, part := part } ≠ 0 → ∃ t,
      exec (.write p page off ws part) s = .next t ∧
        t.port[p].last = BitVec.ofNat 8 (frameCode s p { cmd := 1, page := page, off := off, words := ws, part := part }) ∧
        t.port[p].rejCnt = min 255 (s.port[p].rejCnt + 1) ∧ t.port[p].okCnt = s.port[p].okCnt ∧ t.port[p].seq = nextSeq s.port[p].seq ∧
        t.port[p].echo = echo ∧ (∀ q : Port, q ≠ p → t.port[q] = s.port[q]) ∧ t.own.owner = s.own.owner ∧
        t = { s with port := t.port, mnt := t.mnt, own := { s.own with timerAt := t.own.timerAt } }) ∧
    (off ≤ pageLast 7 → Accepted s p (readOf 2 7 off 1) →
      (∃ t, exec (.readSnap p 7 off 1 false true) s = .next t ∧ Answered s t p ∧
        t.port[p].so = [page7Word s (s.port[p].hold.getD s.snap.latest) off] ∧ t.port[p].hold = none ∧ t.snap = s.snap ∧ t.regs = s.regs) ∧
      (exec (.readSnap p 7 off 1 false false) s = .next { s with port := s.port.set p { s.port[p] with
        hold := some (s.port[p].hold.getD s.snap.latest), selected := true, echo := echo } })) ∧
    (∃ t, exec (.status p n part) s = .next t ∧
      t.port = s.port.set p { s.port[p] with so := statusWords s p n, hold := none, selected := false, echo := echo } ∧
      t = { s with port := t.port, own := { s.own with timerAt := if s.own.owner = some p ∧ part = false then s.mono else s.own.timerAt } }) ∧
    (∃ t, exec (.badCmd p page off ws part) s = .next t ∧ t.port[p].last = (if part then 0x01#8 else 0x02#8) ∧
      t.port[p].rejCnt = min 255 (s.port[p].rejCnt + 1) ∧
      (∀ q : Port, q ≠ p → t.port[q] = s.port[q]) ∧ t = { s with port := t.port, own := { s.own with timerAt := t.own.timerAt } }) ∧
    (cfgField s 17 p.val 8 8 ≠ 0 → frameCode s p { cmd := 1, page := page, off := off, words := ws, part := false } = 0 →
      ∃ t, exec (.frameTimeout p 1 page off ws) s = .next t ∧ t.port[p].last = 0x11#8 ∧ t.port[p].tmoCnt = min 255 (s.port[p].tmoCnt + 1) ∧
        t.port[p].rejCnt = s.port[p].rejCnt ∧ t.port[p].okCnt = s.port[p].okCnt ∧ (∀ q : Port, q ≠ p → t.port[q] = s.port[q]) ∧
        t = { s with port := t.port })

/-- PEER_PUSH, PP_STALL, MP_TIMEOUT, MP_SUSPEND, the MPX commands and MPX_DONE (R50, R350, R351, R356, R357, R359, R360): a push sends its WRITE and a STATUS frame and ends with the partner's status, or with a fault counted and PP_COLLISION or PP_STALL recorded; without the rail there is none. A store operation past its limit ends with MP_TIMEOUT, a suspended one does not; a program or erase of a NOR select is suspended while a lane waits for a line of that select, and not otherwise. A raw operation waits for the port with what its command names, begins at once on an idle one, and ends with its result or its error. -/
def Obligations.PeerAndMemoryPort : Prop :=
  ∀ (s : State) (p : Port) (sel : Fin 2) (coll i : Nat) (reply n : Byte) (id : Word) (o : MpOp) (ws : List Word) (k : Lane) (ra x : Nat),
    amWf 0 s.regs = true → Memory.wf 0xFF s.store = true → x = selOf (mpxAddr s) →
    (s.peer.busy = some ws → s.vddio.getLsbD 3 = true → coll ≤ cfgField s 17 0x10 4 3 → exec (.peerPush coll reply) s = .next { s with
      peer := { s.peer with busy := none, lastStat := reply, sent :=
        [{ cmd := 1, page := cfgField s 17 0x11 0 5, off := cfgField s 17 0x11 16 16, dummy := cfgField s 17 0x11 5 3, words := ws },
         { cmd := 3, page := 0, off := 0, dummy := cfgField s 17 0x11 5 3, words := [0] }] } }) ∧
    (s.peer.busy.isSome = true → s.vddio.getLsbD 3 = true → cfgField s 17 0x10 4 3 < coll → ∃ t, exec (.peerPush coll reply) s = .next t ∧
      t.peer = { s.peer with busy := none, faults := min 255 (s.peer.faults + 1) } ∧ t.led.bits[3].getLsbD 0 = true ∧
      t = { s with peer := t.peer, led := t.led, irqStat := t.irqStat }) ∧
    (s.vddio.getLsbD 3 = false → exec (.peerPush coll reply) s = .next s ∧ exec .ppStall s = .next s) ∧
    (s.peer.busy.isSome = true → s.vddio.getLsbD 3 = true → ∃ t, exec .ppStall s = .next t ∧
      t.peer = { s.peer with busy := none, faults := min 255 (s.peer.faults + 1) } ∧ t.led.bits[3].getLsbD 1 = true ∧
      t = { s with peer := t.peer, led := t.led, irqStat := t.irqStat }) ∧
    (s.mp.op[sel] = some o → o.suspended = false → ∃ t, exec (.mpTimeout sel) s = .next t ∧
      t.mp.timeouts = min 255 (s.mp.timeouts + 1) ∧ t.led.bits[3].getLsbD 2 = true ∧
      (o.owner = 5 → t.mp.xstate = 3 ∧ t.mp.xerr = 4) ∧
      (o.owner = 4 → s.boot.confirming = false → t.pl.state = 6 ∧ t.pl.err = (if s.pl.state = 1 then 7 else if s.pl.state = 3 then 8 else 11)) ∧
      t.store = s.store ∧ t.regs = s.regs ∧ t.lane = s.lane) ∧
    (s.mp.op[sel] = some o → o.suspended = true → exec (.mpTimeout sel) s = .next s) ∧
    (s.mp.op[sel] = some o → mpIsNor s sel.val = true → o.kind ≠ .read → s.lane[k].lineReq = some ra → selOf ra = sel.val →
      exec (.mpSuspend sel) s = .next { s with mp := { s.mp with op := s.mp.op.set sel (some { o with suspended := true }) } }) ∧
    ((∀ j : Lane, s.lane[j].lineReq = none) → exec (.mpSuspend sel) s = .next s) ∧
    (Accepted s p (writeOf 21 0x11 [keyed 0xC3#8 (place 0 1 ||| place 8 n.toNat)]) → ∃ t, exec (.mpxRead p 0xC3#8 n) s = .next t ∧
      Took s t p ∧ t.mp.xstate = 1 ∧ t.mp.xerr = 0 ∧ t.mp.xop = 1 ∧ t.mp.xaddr = mpxAddr s ∧ t.mp.xn = n.toNat ∧
      (MpIdle s x → vget t.mp.op x none = some { owner := 5, kind := .read, suspended := false }) ∧
      t = { s with mp := t.mp, port := t.port, own := t.own }) ∧
    (Accepted s p (writeOf 21 0x11 [keyed 0xC3#8 (place 0 2 ||| place 8 n.toNat)]) → ∃ t, exec (.mpxProgram p 0xC3#8 n) s = .next t ∧
      Took s t p ∧ t.mp.xstate = 1 ∧ t.mp.xop = 2 ∧ t.mp.xaddr = mpxAddr s ∧ t.mp.xn = n.toNat ∧
      (MpIdle s x → vget t.mp.op x none = some { owner := 5, kind := .program, suspended := false }) ∧
      t = { s with mp := t.mp, mnt := t.mnt, port := t.port, own := t.own }) ∧
    (Accepted s p (writeOf 21 0x11 [keyed 0xC3#8 (place 0 3)]) → ∃ t, exec (.mpxErase p 0xC3#8) s = .next t ∧
      Took s t p ∧ t.mp.xstate = 1 ∧ t.mp.xop = 3 ∧ t.mp.xaddr = mpxAddr s ∧
      (MpIdle s x → vget t.mp.op x none = some { owner := 5, kind := .erase, suspended := false }) ∧
      t = { s with mp := t.mp, mnt := t.mnt, port := t.port, own := t.own }) ∧
    (Accepted s p (writeOf 21 0x11 [keyed 0xC3#8 (place 0 4)]) → ∃ t, exec (.mpxReadid p 0xC3#8) s = .next t ∧
      Took s t p ∧ t.mp.xstate = 1 ∧ t.mp.xerr = 0 ∧ t.mp.xop = 4 ∧ t.mp.xaddr = mpxAddr s ∧ t.mp.xn = 0 ∧
      (MpIdle s x → vget t.mp.op x none = some { owner := 5, kind := .read, suspended := false }) ∧
      t = { s with mp := t.mp, port := t.port, own := t.own }) ∧
    (s.mp.xstate = 1 → MpBusy s (selOf s.mp.xaddr) 5 → mpType s (selOf s.mp.xaddr) ≠ 0 →
      (s.mp.xop = 4 → ∃ t, exec (.mpxDone 0 id) s = .next t ∧ cfgWord t 21 0x100 = id ∧ t.mp.xstate = 2 ∧ t.mp.xerr = 0 ∧
        (∀ k, k ≠ regKey 21 0x100 → rmGet t.regs k = rmGet s.regs k) ∧ t = { s with regs := t.regs, mp := t.mp }) ∧
      (s.mp.xop = 1 → s.mp.xn ≤ 64 → ∃ t, exec (.mpxDone 0 id) s = .next t ∧ t.mp.xstate = 2 ∧ t.mp.xerr = 0 ∧
        (i < s.mp.xn → cfgWord t 21 (0x100 + i) = BitVec.ofNat 32 (beAt s.store (s.mp.xaddr + 4 * i) 4)) ∧
        t = { s with regs := t.regs, mp := t.mp }) ∧
      (s.mp.xop = 1 → ∃ t, exec (.mpxDone 3 id) s = .next t ∧ t.mp.readErr = min 255 (s.mp.readErr + 1) ∧ t.mp.xstate = 3 ∧ t.mp.xerr = 3 ∧
        t.led.bits[3].getLsbD 3 = true ∧ t = { s with mp := t.mp, led := t.led, irqStat := t.irqStat }) ∧
      (s.mp.xop = 3 → ∃ t, exec (.mpxDone 0 id) s = .next t ∧ t.mp.xstate = 2 ∧
        (s.mp.xaddr ≤ i → i < s.mp.xaddr + eraseUnit s (selOf s.mp.xaddr) → memGet 0xFF t.store i = 0xFF) ∧
        ((i < s.mp.xaddr ∨ s.mp.xaddr + eraseUnit s (selOf s.mp.xaddr) ≤ i) → memGet 0xFF t.store i = memGet 0xFF s.store i) ∧
        t = { s with store := t.store, mp := t.mp, mnt := t.mnt, led := t.led, irqStat := t.irqStat })) ∧
    (s.mp.xstate = 1 → MpBusy s (selOf s.mp.xaddr) 5 → mpType s (selOf s.mp.xaddr) = 0 → s.mp.xop = 1 → ∃ t,
      exec (.mpxDone 0 id) s = .next t ∧ t.mp.xstate = 3 ∧ t.mp.xerr = 5 ∧ t = { s with mp := t.mp }) ∧
    (¬MpBusy s (selOf s.mp.xaddr) 5 → (vget s.mp.op (selOf s.mp.xaddr) none).isSome = true → exec (.mpxDone 0 id) s = .next s)

/-! ### Program loads (06, R182, R183) -/

/-- PL_START, PL_CHUNK, PL_FINISH, PL_ABORT, PL_TRIAL and their ends PL_ERASE_DONE, PL_CHUNK_DONE, PL_FINISH_DONE, PL_TRIAL_DONE (R182, R183, Table 6.13): START takes the type and begins the erase of the range that PLBASE and PLLEN name, or ends FAILED with its code; each op in the wrong state ends FAILED 4, TRIAL during a load too; the erase leaves the whole range 0xFF, a chunk's bytes stand at the position it had, and no other store byte moves; a range that has become a lane's window is not written; FINISH and TRIAL write the directory copies at 0 to 0x1FFF only. The registers are those that stand when an op uses them (log entry 71). -/
def Obligations.StoreLoads : Prop :=
  ∀ (s : State) (p : Port) (ty n : BitVec 8) (base len sel : Nat) (q : PlSt), Memory.wf 0xFF s.store = true →
    base = (cfgWord s 5 0x11).toNat → len = (cfgWord s 5 0x12).toNat → q = { s.pl with base := base, len := len, crc := cfgWord s 5 0x13 } →
    sel = selOf s.pl.base →
    (Accepted s p (writeOf 5 0x10 [keyed 0x96#8 (place 0 1 ||| place 16 ty.toNat)]) → ∃ t, exec (.plStart p 0x96#8 ty) s = .next t ∧
      Took s t p ∧ t.pl.type = ty.toNat ∧ t.pl.base = base ∧ t.pl.len = len ∧
      t.pl.crc = cfgWord s 5 0x13 ∧ t.pl.pos = 0 ∧ t.store = s.store ∧ t.regs = s.regs ∧
      (plStartErr s ty.toNat base len = 0 → len ≠ 0 → t.pl.state = 1 ∧ t.pl.loading = true ∧
        (MpIdle s (selOf base) → vget t.mp.op (selOf base) none = some { owner := 4, kind := .erase, suspended := false })) ∧
      (plStartErr s ty.toNat base len ≠ 0 → t.pl.state = 6 ∧ t.pl.err = plStartErr s ty.toNat base len ∧ t.pl.loading = false)) ∧
    (Accepted s p (writeOf 5 0x10 [keyed 0x96#8 (place 0 2 ||| place 8 n.toNat)]) → ∃ t, exec (.plChunk p 0x96#8 n) s = .next t ∧
      Took s t p ∧ t.store = s.store ∧ t.regs = s.regs ∧
      (s.pl.state = 2 → len ≠ 0 → s.pl.pos + 4 * n.toNat ≤ len →
        meetsAny (plBarred s s.pl.type) (base + s.pl.pos) (base + s.pl.pos + 4 * n.toNat) = false →
        t.pl = { q with state := 3, chunk := bufBytes s 5 0x100 n.toNat }) ∧
      (s.pl.state = 2 → len ≠ 0 → s.pl.pos + 4 * n.toNat ≤ len →
        meetsAny (plBarred s s.pl.type) (base + s.pl.pos) (base + s.pl.pos + 4 * n.toNat) = true → t.pl.state = 6 ∧ t.pl.err = 3) ∧
      (s.pl.state = 2 → len < s.pl.pos + 4 * n.toNat → len ≠ 0 → t.pl.state = 6 ∧ t.pl.err = 5) ∧
      ((s.pl.state ≠ 2 ∨ len = 0) → t.pl.state = 6 ∧ t.pl.err = 4)) ∧
    (Accepted s p (writeOf 5 0x10 [keyed 0x96#8 (place 0 3)]) → ∃ t, exec (.plFinish p 0x96#8) s = .next t ∧
      Took s t p ∧ t.store = s.store ∧ t.regs = s.regs ∧
      (s.pl.state = 2 → s.pl.pos = len → t.pl = { q with state := 4 }) ∧
      (s.pl.state = 2 → s.pl.pos ≠ len → t.pl.state = 6 ∧ t.pl.err = 6) ∧ (s.pl.state ≠ 2 → t.pl.state = 6 ∧ t.pl.err = 4)) ∧
    (Accepted s p (writeOf 5 0x10 [keyed 0x96#8 (place 0 4)]) → ∃ t, exec (.plAbort p 0x96#8) s = .next t ∧
      Took s t p ∧ t.pl = { s.pl with state := 6, err := 12, loading := false } ∧ t.store = s.store ∧ t.regs = s.regs) ∧
    (Accepted s p (writeOf 5 0x10 [keyed 0x96#8 (place 0 5 ||| place 8 n.toNat)]) → ∃ t, exec (.plTrial p 0x96#8 n) s = .next t ∧
      Took s t p ∧ t.store = s.store ∧
      (s.boot.trial = false → s.pl.loading = false → t.pl = { s.pl with state := 7, trialN := n.toNat }) ∧
      ((s.boot.trial = true ∨ s.pl.loading = true) → t.pl.state = 6 ∧ t.pl.err = 4)) ∧
    (s.pl.state = 1 → MpBusy s sel 4 → meetsAny (plBarred s s.pl.type) s.pl.base (s.pl.base + s.pl.len) = false →
      (∃ t, exec (.plEraseDone true) s = .next t ∧ t.pl = { s.pl with state := 2 } ∧
        (∀ a, s.pl.base ≤ a → a < s.pl.base + s.pl.len → memGet 0xFF t.store a = 0xFF) ∧
        (∀ a, a < s.pl.base ∨ s.pl.base + s.pl.len + eraseUnit s sel ≤ a → memGet 0xFF t.store a = memGet 0xFF s.store a) ∧
        t = { s with pl := t.pl, mp := t.mp, store := t.store }) ∧
      (∃ t, exec (.plEraseDone false) s = .next t ∧ t.pl.state = 6 ∧ t.pl.err = 7 ∧ t.store = s.store ∧
        t.mp.eraseFail = min 255 (s.mp.eraseFail + 1))) ∧
    (s.pl.state = 1 → MpBusy s sel 4 → meetsAny (plBarred s s.pl.type) s.pl.base (s.pl.base + s.pl.len) = true →
      ∃ t, exec (.plEraseDone true) s = .next t ∧ t.pl.state = 6 ∧ t.pl.err = 3 ∧ t.store = s.store) ∧
    (s.pl.state = 3 → MpBusy s sel 4 →
      meetsAny (plBarred s s.pl.type) (s.pl.base + s.pl.pos) (s.pl.base + s.pl.pos + s.pl.chunk.length) = false →
      (∃ t, exec (.plChunkDone true) s = .next t ∧
        t.pl = { s.pl with state := 2, pos := s.pl.pos + s.pl.chunk.length, chunk := [] } ∧
        (∀ i (h : i < s.pl.chunk.length), memGet 0xFF t.store (s.pl.base + s.pl.pos + i) = s.pl.chunk[i]) ∧
        (∀ a, a < s.pl.base + s.pl.pos ∨ s.pl.base + s.pl.pos + s.pl.chunk.length ≤ a → memGet 0xFF t.store a = memGet 0xFF s.store a) ∧
        t = { s with pl := t.pl, mp := t.mp, store := t.store }) ∧
      (∃ t, exec (.plChunkDone false) s = .next t ∧ t.pl.state = 6 ∧ t.pl.err = 8 ∧ t.store = s.store ∧
        t.mp.progFail = min 255 (s.mp.progFail + 1))) ∧
    (s.pl.state = 4 → MpBusy s 0 4 → plFinishErr s = 0 →
      (∃ t, exec (.plFinishDone true) s = .next t ∧ t.pl.state = 5 ∧ t.pl.loading = false ∧
        (∀ a, 0x2000 ≤ a → memGet 0xFF t.store a = memGet 0xFF s.store a) ∧ t.regs = s.regs ∧ t.lane = s.lane) ∧
      (∃ t, exec (.plFinishDone false) s = .next t ∧ t.pl.state = 6 ∧ t.pl.err = 11 ∧ t.store = s.store)) ∧
    (s.pl.state = 4 → MpBusy s 0 4 → plFinishErr s ≠ 0 → ∃ t, exec (.plFinishDone true) s = .next t ∧ t.pl.state = 6 ∧
      t.pl.err = plFinishErr s ∧ t.store = s.store) ∧
    (s.pl.state = 7 → MpBusy s 0 4 → ∃ t, exec (.plTrialDone true) s = .next t ∧ t.pl.state = 5 ∧ t.pl.loading = false ∧
      (∀ a, 0x2000 ≤ a → memGet 0xFF t.store a = memGet 0xFF s.store a) ∧ t.regs = s.regs ∧ t.lane = s.lane)

/-! ### Ownership and APPLY (14) -/

/-- CLAIM_TAKE, CLAIM_RELEASE, CLAIM_HANDOVER, GRANT_EXPIRE, OWN_LAPSE, APPLY, DISCARD, APPLY_CHECK_DONE and APPLY_QUIET_EFFECT (R336, R388 to R397): a TAKE makes its port the owner with every shadow equal to its active value and no grant left; a RELEASE leaves no owner, a HANDOVER a grant for 1,000 ms; a lapse ends the ownership and is recorded; APPLY copies the shadows and changes no active value until its effect; the check ends PENDING or REJECTED with the first failing rule; in QUIET the effect gives every register the value of the copy. A frame of these that fails a check changes no ownership and no register. -/
def Obligations.OwnershipAndApply : Prop :=
  ∀ (s : State) (p q : Port) (tgt : BitVec 2) (how : HowSent) (r : ApplyRule),
    (Accepted s p (sentFrame 4 how 0xE1000001#32) → s.own.owner ≠ some p → ∃ t, exec (.claimTake p 0xE1#8 how) s = .next t ∧ Answered s t p ∧
      t.own = { s.own with owner := some p, grant := none, timerAt := s.mono, lapsed := false, changes := (s.own.changes + 1) % 256 } ∧
      t.shadow = srPart s.regs ∧ t = { s with own := t.own, shadow := t.shadow, port := t.port, irqStat := t.irqStat }) ∧
    (Accepted s p (sentFrame 4 how 0xE1000002#32) → ∃ t, exec (.claimRelease p 0xE1#8 how) s = .next t ∧ Answered s t p ∧
      t.own = { s.own with owner := none, grant := none, timerAt := s.mono, changes := (s.own.changes + 1) % 256 } ∧
      t.shadow = srPart s.regs ∧ t = { s with own := t.own, shadow := t.shadow, port := t.port, irqStat := t.irqStat }) ∧
    (Accepted s p (sentFrame 4 how (keyed 0xE1#8 (place 0 3 ||| place 4 tgt.toNat))) → tgt.toNat = q.val →
      ∃ t, exec (.claimHandover p tgt 0xE1#8 how) s = .next t ∧ Answered s t p ∧
        t.own = { s.own with grant := some q, grantAt := s.mono, timerAt := s.mono } ∧ t = { s with own := t.own, port := t.port }) ∧
    (portInert s p = false → frameCode s p (sentFrame 4 how 0xE1000001#32) ≠ 0 → ∃ t, exec (.claimTake p 0xE1#8 how) s = .next t ∧
      t.port[p].last = BitVec.ofNat 8 (frameCode s p (sentFrame 4 how 0xE1000001#32)) ∧
      t = { s with port := t.port, own := { s.own with timerAt := t.own.timerAt } }) ∧
    (s.own.grant.isSome = true → ∃ t, exec .grantExpire s = .next t ∧ t.own = { s.own with grant := none } ∧
      s.own.grantAt + 1000000000 ≤ t.mono ∧ t = { s with own := t.own, mono := t.mono, time := t.time, tm := t.tm }) ∧
    (s.own.owner = some q → ownTmo s ≠ 0 → ∃ t, exec .ownLapse s = .next t ∧ t.own.owner = none ∧ t.own.grant = none ∧ t.own.lapsed = true ∧
      t.own.lapses = min 255 (s.own.lapses + 1) ∧ s.own.timerAt + ownTmo s ≤ t.mono ∧ t.led.bits[0].getLsbD 17 = true ∧
      t.shadow = srPart s.regs ∧
      t = { s with own := t.own, shadow := t.shadow, led := t.led, irqStat := t.irqStat, mono := t.mono, time := t.time, tm := t.tm }) ∧
    (Accepted s p (sentFrame 5 how 0xA9000001#32) → ∃ t, exec (.apply p 0xA9#8 how) s = .next t ∧ Took s t p ∧
      t.app = { s.app with seq := (s.app.seq + 1) % 65536, state := 1, copy := s.shadow } ∧
      t = { s with app := t.app, port := t.port, own := t.own }) ∧
    (Accepted s p (sentFrame 5 how 0xA9000002#32) → ∃ t, exec (.discard p 0xA9#8 how) s = .next t ∧ Took s t p ∧
      t.app = { s.app with seq := (s.app.seq + 1) % 65536 } ∧ t.shadow = srPart s.regs ∧
      t = { s with app := t.app, shadow := t.shadow, port := t.port, own := t.own }) ∧
    (s.app.state = 1 → applyCheck s.regs (takeSr s.regs s.app.copy) s.md.mode (lhEnOf s) = none →
      exec .applyCheckDone s = .next { s with app := { s.app with state := 2, endedAt := s.mono } }) ∧
    (s.app.state = 1 → applyCheck s.regs (takeSr s.regs s.app.copy) s.md.mode (lhEnOf s) = some r → ∃ t, exec .applyCheckDone s = .next t ∧
      t.app = { s.app with state := 4, reason := r.reason, infoPage := r.page, infoOff := r.off } ∧
      t = { s with app := t.app, irqStat := t.irqStat }) ∧
    (s.md.mode = .quiet → s.app.state = 2 → ((modeRules s.regs s.app.copy s.md.mode).find? fun r => r.bad) = none →
      ∃ t, exec .applyQuietEffect s = .next t ∧ t.app.state = 3 ∧ t.regs = takeSr s.regs s.app.copy ∧ t.shadow = srPart t.regs ∧
        s.app.endedAt + 200000 ≤ t.mono ∧ t.md.mode = .quiet ∧ t.store = s.store)

/-! ### Quotes, the retain journal, CONFIRM, TSET (03, 07) -/

/-- QUOTE, QUOTE_COMPLETE, CONFIRM, CONFIRM_WRITE_DONE, JRNCTL_NOW, JOURNAL_CAPTURE_DONE, JOURNAL_WRITE_DONE and TSET (R76, R83, R84, R87 to R89, R188): an accepted nonce makes its port busy and is quoted at once by a free engine, behind the others by a busy one; a completed quote stands in its port's buffer with the ECDSA signature of its SHA-256 under the part's key, a failed one is recorded; CONFIRM during a trial writes the directory and ends the trial; a journal cycle writes a copy that another lane shares and otherwise records JRN_DISAGREE, into the older slot alone; TSET steps the time base to its pair. -/
def Obligations.QuotesJournalsTimeSet : Prop :=
  ∀ (s : State) (p : Port) (nonce : List Word) (body c bs : List Byte) (slot : Bool) (e : DirEntry) (lo hi : Word),
    Memory.wf 0xFF s.store = true → amWf 0 s.regs = true →
    (Accepted s p { cmd := 6, page := 20, off := 0, words := nonce, part := false } → s.attest.waiting = [] →
      ∃ t, exec (.quote p 20 0 nonce false) s = .next t ∧ Answered s t p ∧
        (s.attest.active = none → t.attest = { s.attest with
          qstate := s.attest.qstate.set p 1, qbuf := s.attest.qbuf.set p [], active := some (p, quoteBody s nonce) }) ∧
        (s.attest.active.isSome = true → t.attest = { s.attest with
          qstate := s.attest.qstate.set p 1, qbuf := s.attest.qbuf.set p [], waiting := [(p, nonce)] }) ∧
        t = { s with attest := t.attest, port := t.port, own := { s.own with timerAt := t.own.timerAt } }) ∧
    (portInert s p = false → ∃ t, exec (.quote p 20 0 nonce true) s = .next t ∧ t.port[p].last = 0x01#8 ∧ t.attest = s.attest) ∧
    (s.attest.active = some (p, body) → s.attest.waiting = [] → (∃ t k, exec (.quoteComplete true) s = .next t ∧ 0 < k ∧ k < curveN ∧
        t.attest = { s.attest with
          active := none, qstate := s.attest.qstate.set p 2
          qbuf := s.attest.qbuf.set p (wordsBe (body ++
            (natBe 32 (ecdsaSign privKey k (beNat (sha256 body))).1 ++ natBe 32 (ecdsaSign privKey k (beNat (sha256 body))).2))) } ∧
        t = { s with attest := t.attest, irqStat := t.irqStat, freeCtr := t.freeCtr }) ∧
      (∃ t, exec (.quoteComplete false) s = .next t ∧ t.attest = { s.attest with active := none, qstate := s.attest.qstate.set p 3 } ∧
        t.led.bits[0].getLsbD 18 = true ∧
        t = { s with attest := t.attest, led := t.led, irqStat := t.irqStat, freeCtr := t.freeCtr })) ∧
    (Accepted s p (writeOf 0 0x13 [1#32]) → ∃ t, exec (.confirm p) s = .next t ∧ Took s t p ∧
      t.boot = { s.boot with confirming := s.boot.confirming || s.boot.trial } ∧
      t = { s with boot := t.boot, mnt := t.mnt, mp := t.mp, port := t.port, own := t.own }) ∧
    (s.boot.confirming = true → MpBusy s 0 4 → (∃ t, exec (.confirmWriteDone true) s = .next t ∧
        t.boot = { s.boot with confirming := false, trial := false } ∧
        (∀ a, 0x2000 ≤ a → memGet 0xFF t.store a = memGet 0xFF s.store a) ∧
        t = { s with boot := t.boot, store := t.store, mnt := t.mnt, mp := t.mp, led := t.led, irqStat := t.irqStat }) ∧
      (∃ t, exec (.confirmWriteDone false) s = .next t ∧ t.boot = { s.boot with confirming := false } ∧ t.store = s.store ∧
        t.mp.progFail = min 255 (s.mp.progFail + 1))) ∧
    (Accepted s p (writeOf 0 0x16 [1#32]) → ∃ t, exec (.jrnctlNow p) s = .next t ∧ Took s t p ∧ t.jrn = { s.jrn with now := true } ∧
      t = { s with jrn := t.jrn, port := t.port, own := t.own }) ∧
    (s.jrn.active = true → s.cyc.running = false → goodCapture s = none → ∃ t, exec .journalCaptureDone s = .next t ∧
      t.jrn.active = false ∧ t.jrn.disagree = true ∧ t.led.bits[0].getLsbD 14 = true ∧
      t = { s with jrn := t.jrn, led := t.led, irqStat := t.irqStat }) ∧
    (s.jrn.active = true → s.cyc.running = false → goodCapture s = some c → slotRegion s (freeSlot s) c.length = some e →
      ∃ t, exec .journalCaptureDone s = .next t ∧ t.jrn.active = false ∧ t.jrn.writing = some (freeSlot s, retainRecord s c) ∧
        t.jrn.disagree = s.jrn.disagree ∧ t = { s with jrn := t.jrn, mp := t.mp }) ∧
    (s.jrn.writing = some (slot, bs) → dirEntryOf s (if slot then 0x31 else 0x30) = some e → bs.length ≤ e.len → MpBusy s (selOf e.base) 2 →
      (∃ t, exec (.journalWriteDone true) s = .next t ∧ t.jrn.writing = none ∧
        (∀ i (h : i < bs.length), memGet 0xFF t.store (e.base + i) = bs[i]) ∧
        (∀ a, a < e.base ∨ e.base + e.len ≤ a → memGet 0xFF t.store a = memGet 0xFF s.store a) ∧
        t = { s with jrn := t.jrn, mp := t.mp, store := t.store }) ∧
      (∃ t, exec (.journalWriteDone false) s = .next t ∧ t.jrn = { s.jrn with writing := none } ∧
        (∀ a, e.base ≤ a → a < e.base + e.len → memGet 0xFF t.store a = 0xFF) ∧
        (∀ a, a < e.base ∨ e.base + e.len ≤ a → memGet 0xFF t.store a = memGet 0xFF s.store a))) ∧
    (Accepted s p (writeOf 3 6 [lo, hi]) → ∃ t, exec (.tset p lo hi) s = .next t ∧ Took s t p ∧
      t.time = (hi.toNat * 2 ^ 32 + lo.toNat) / 4 * 4 ∧ t.mono = s.mono ∧ t.tm.residual = 0 ∧ t.led.bits[0].getLsbD 6 = true ∧
      t.cyc.n = s.cyc.n ∧ t.cyc.t0 = s.cyc.t0 ∧ t.lane = s.lane ∧ t.store = s.store)

/-! ### Ledger and watchdogs (15) -/

/-- LEDGER_CLEAR, JREADY, LEDGER_JOURNAL_WRITE, WDOG_CHECKIN, WDHOST, WDOG_EXP and WDOG_CLOCK (R408 to R412, R417, R420, R421): a write of 1 clears set bits of its own word alone; JREADY numbers a BOOT record; a pending record, its write in progress on the region's select, is written at the next journal position and leaves the queue, a failed write leaves it there; an accepted check-in sets its task's bit or restarts a whole period, a bad one counts; an expiry and a stopped clock are counted and recorded, and with action 3 do nothing else. -/
def Obligations.LedgerAndWatchdogs : Prop :=
  ∀ (s : State) (p : Port) (r : Fin 4) (w : Word) (l : Lane) (i : Fin 4) (x : LedRec) (rest : List LedRec) (ws : List Word) (b n : Nat),
    Memory.wf 0xFF s.store = true →
    (Accepted s p (writeOf 2 r.val [w]) → ∃ t, exec (.ledgerClear p r w) s = .next t ∧ Took s t p ∧
      t.led.bits = s.led.bits.set r (s.led.bits[r] &&& ~~~w) ∧ t.led.cnt = s.led.cnt ∧ (s.led.bits[r] &&& w = 0 → t.led = s.led) ∧
      t = { s with led := t.led, port := t.port, own := t.own }) ∧
    (s.led.jready = false → s.boot.phase = 9 → s.led.queue = [] → ∃ t, exec .jready s = .next t ∧ t.led.jready = true ∧
      t.led.cnt = s.led.cnt ∧ (∃ q, t.led.ring.head? = some q ∧ q.type = 3 ∧ q.arg = (place 0 s.boot.cause.toNat ||| place 16 s.boot.bootCnt).toNat ∧ q.seq = t.led.seq) ∧
      (s.boot.sources.getLsbD 0 = false → t.led.bits = s.led.bits) ∧ t = { s with led := t.led }) ∧
    (s.led.pend = x :: rest → journalRegion s = some (b, n) → MpBusy s (selOf b) 3 → 0 < n → ∃ t, exec (.ledgerJournalWrite true) s = .next t ∧
      t.led = { s.led with pend := rest, jseq := x.seq, pos := s.led.pos % n + 32 } ∧
      (∀ k (h : k < (ledBytes x).length), memGet 0xFF t.store (b + s.led.pos % n + k) = (ledBytes x)[k]) ∧
      (∀ a, a < b + s.led.pos % n ∨ b + s.led.pos % n + eraseUnit s (selOf b) ≤ a → memGet 0xFF t.store a = memGet 0xFF s.store a) ∧
      t = { s with led := t.led, store := t.store, mp := t.mp }) ∧
    (s.led.pend = x :: rest → journalRegion s = some (b, n) → MpBusy s (selOf b) 3 → ∃ t, exec (.ledgerJournalWrite false) s = .next t ∧
      t.led = s.led ∧ t.mp.progFail = min 255 (s.mp.progFail + 1) ∧ t.regs = s.regs) ∧
    (s.lane[l].serve = w :: ws → s.wd[laneWd l].state = 1 → s.mono < s.wd[laneWd l].start + wdTmo s l.val → wdWordOk s l.val w = true →
      ∃ t, exec (.wdogCheckin l) s = .next t ∧ t.lane = s.lane.set l { s.lane[l] with serve := ws } ∧
        (wdMask s l.val &&& ~~~(s.wd[laneWd l].seen ||| BitVec.ofNat 16 (2 ^ fieldOf w 0 4)) ≠ 0 →
          t.wd = s.wd.set (laneWd l) { s.wd[laneWd l] with seen := s.wd[laneWd l].seen ||| BitVec.ofNat 16 (2 ^ fieldOf w 0 4) }) ∧
        (wdMask s l.val &&& ~~~(s.wd[laneWd l].seen ||| BitVec.ofNat 16 (2 ^ fieldOf w 0 4)) = 0 →
          t.wd = s.wd.set (laneWd l) { s.wd[laneWd l] with seen := 0, start := s.mono, held := 0 }) ∧
        t = { s with lane := t.lane, wd := t.wd }) ∧
    (Accepted s p (writeOf 18 0x20 [w]) → s.wd[(3 : Fin 4)].state = 1 → s.mono < s.wd[(3 : Fin 4)].start + wdTmo s 3 →
      ∃ t, exec (.wdhost p w) s = .next t ∧ Took s t p ∧
        (wdWordOk s 3 w = true → wdMask s 3 &&& ~~~(s.wd[(3 : Fin 4)].seen ||| BitVec.ofNat 16 (2 ^ fieldOf w 0 4)) = 0 →
          t.wd = s.wd.set 3 { s.wd[(3 : Fin 4)] with seen := 0, start := s.mono, held := 0 } ∧
          t = { s with wd := t.wd, port := t.port, own := t.own }) ∧
        (wdWordOk s 3 w = false → wdCfg s 3 4 1 = 0 →
          t.wd = s.wd.set 3 { s.wd[(3 : Fin 4)] with bad := (s.wd[(3 : Fin 4)].bad + 1) % 65536, badTask := fieldOf w 0 4 } ∧
          t.led.bits[0].getLsbD 21 = true ∧ t = { s with wd := t.wd, led := t.led, irqStat := t.irqStat, port := t.port, own := t.own })) ∧
    (s.wd[i].state = 1 → s.wd[i].clkFail = false → wdAction s i.val = 3 → (i = 3 → wdHeldNow s = false) → ∃ t, exec (.wdogExp i) s = .next t ∧
      t.wd = s.wd.set i { s.wd[i] with exp := min 255 (s.wd[i].exp + 1), state := 1, seen := 0, start := t.mono, held := 0 } ∧
      s.wd[i].start + wdTmo s i.val ≤ t.mono ∧ t.led.bits[0].getLsbD 19 = true ∧
      t = { s with wd := t.wd, led := t.led, irqStat := t.irqStat, mono := t.mono, time := t.time, tm := t.tm }) ∧
    (s.wd[laneWd l].state = 1 → wdAction s l.val = 0 → memberOf s l = true → s.lane[l].pendCause = 0 → s.lane[l].state = 0 →
      ∃ t, exec (.wdogExp (laneWd l)) s = .next t ∧ t.wd[laneWd l].state = 3 ∧ t.lane = s.lane.set l { s.lane[l] with pendCause := 7 } ∧
        t.led.bits[0].getLsbD 19 = true) ∧
    (s.wd[i].state ≠ 0 → s.wd[i].clkFail = false → wdAction s i.val = 3 → ∃ t, exec (.wdogClock i) s = .next t ∧
      t.wd = s.wd.set i { s.wd[i] with clkFail := true, clkSince := s.mono, state := 3 } ∧ t.led.bits[0].getLsbD 20 = true ∧
      t = { s with wd := t.wd, led := t.led, irqStat := t.irqStat })

/-! ### Maintenance (05, 15) -/

/-- LANECMD's three commands, the MNTCMD tests and MAINT_END (R144, R422 to R426): an exclusion is cause 9 of the named lane at the next commit, a reintegration starts at RESET, a slack reset sets every LSLACK; a test takes a slot of the arbiter and reports running, with what it has to do: 64 conversions, two runs of the largest FILT sample instants with the sinks of its channels off, or 10 ms; ABORT ends it with no result, and MAINT_END, once it has done that, with the FAIL and SKIP bits found, each with MAINT_END in the ledger. -/
def Obligations.Maintenance : Prop :=
  ∀ (s : State) (p : Port) (l : Lane) (lb : BitVec 2) (d : Die) (f : FDie) (m : BitVec 16) (j : Fin 32) (a : ActSt) (mV : List Nat) (cd cl : BitVec 16),
    (lb.toNat = l.val → Accepted s p (writeOf 4 0x20 [keyed 0x3C#8 (place 0 1 ||| place 4 lb.toNat)]) → s.lane[l].pendCause = 0 →
      ∃ t, exec (.lanecmdExclude p 0x3C#8 lb) s = .next t ∧ Took s t p ∧ t.lane = s.lane.set l { s.lane[l] with pendCause := 9 } ∧
        laneAct p (keyed 0x3C#8 (place 0 1 ||| place 4 lb.toNat)) ∈ t.mnt.slot.toList.filterMap id ∧
        t = { s with lane := t.lane, mnt := t.mnt, port := t.port, own := t.own }) ∧
    (lb.toNat = l.val → Accepted s p (writeOf 4 0x20 [keyed 0x3C#8 (place 0 2 ||| place 4 lb.toNat)]) → s.lane[l].clockOk = true →
      ∃ t, exec (.lanecmdReint p 0x3C#8 lb) s = .next t ∧ Took s t p ∧ t.lane[l].state = 2 ∧
        t.lane[l].attempts = min 65535 (s.lane[l].attempts + 1) ∧ t.lane[l].triesLeft + 1 = max 1 (cfgField s 4 2 0 4) ∧
        t.lane[l].mem = s.lane[l].mem ∧ (∀ k : Lane, k ≠ l → t.lane[k] = s.lane[k]) ∧
        t = { s with lane := t.lane, mnt := t.mnt, port := t.port, own := t.own }) ∧
    (Accepted s p (writeOf 4 0x20 [keyed 0x3C#8 (place 0 3)]) → ∃ t, exec (.lanecmdSlackReset p 0x3C#8) s = .next t ∧ Took s t p ∧
      (∀ k : Lane, t.lane[k] = { s.lane[k] with slack := 0xFFFFFFFF }) ∧ t = { s with lane := t.lane, port := t.port, own := t.own }) ∧
    (Accepted s p (writeOf 19 0 [keyed 0xD2#8 (place 0 1 ||| place 3 d.val)]) → ∃ t, exec (.mntSvTest p 0xD2#8 (BitVec.ofNat 3 d.val)) s = .next t ∧
      Took s t p ∧ t.mnt.res = s.mnt.res.set d { state := 1, kind := 9, fail := 0, skip := 0 } ∧
      { kind := 9, port := p.val, index := d.val, mask := 0, lo := 0, hi := 0, dir := false, start := s.mono, total := 64 : ActSt } ∈
        t.mnt.slot.toList.filterMap id ∧
      t.survey[d].queue.length = s.survey[d].queue.length + 64 ∧ (∀ c : Die, c ≠ d → t.survey[c] = s.survey[c]) ∧
      t = { s with mnt := t.mnt, survey := t.survey, port := t.port, own := t.own }) ∧
    (Accepted s p (writeOf 19 0 [keyed 0xD2#8 (place 0 2 ||| place 3 f.val ||| place 8 m.toNat)]) →
      ∃ t, exec (.mntInTest p 0xD2#8 (BitVec.ofNat 3 f.val) m) s = .next t ∧ Took s t p ∧
      t.mnt.res = s.mnt.res.set (toDie f) { state := 1, kind := 10, fail := 0, skip := 0 } ∧
      { kind := 10, port := p.val, index := f.val, mask := m, lo := 0, hi := 0, dir := false, start := s.mono,
        total := 2 * maxFilt s f m : ActSt } ∈ t.mnt.slot.toList.filterMap id ∧
      (∀ k : Chan, m.getLsbD k.val = true → chField s f k.val 0x0C 8 8 ≤ maxFilt s f m) ∧
      (∀ k : Chan, t.field[f].ch[k] = if m.getLsbD k.val then { s.field[f].ch[k] with sink := false } else s.field[f].ch[k]) ∧
      (∀ g : FDie, g ≠ f → t.field[g] = s.field[g]) ∧ t = { s with mnt := t.mnt, field := t.field, port := t.port, own := t.own }) ∧
    (Accepted s p (writeOf 19 0 [keyed 0xD2#8 (place 0 3 ||| place 3 f.val ||| place 8 m.toNat)]) →
      ∃ t, exec (.mntOlProbe p 0xD2#8 (BitVec.ofNat 3 f.val) m) s = .next t ∧ Took s t p ∧
      t.mnt.res = s.mnt.res.set (toDie f) { state := 1, kind := 11, fail := 0, skip := 0 } ∧
      (∃ sk, { kind := 11, port := p.val, index := f.val, mask := m, lo := 0, hi := 0, dir := false, start := s.mono, skip := sk : ActSt } ∈
        t.mnt.slot.toList.filterMap id ∧ ∀ k : Chan, stageOn s f k = true → sk.getLsbD k.val = m.getLsbD k.val) ∧
      t = { s with mnt := t.mnt, port := t.port, own := t.own }) ∧
    (Accepted s p (writeOf 19 0 [keyed 0xD2#8 (place 0 4 ||| place 3 d.val)]) → unitTests s d.val = [(j.val, a)] →
      ∃ t, exec (.mntAbort p 0xD2#8 (BitVec.ofNat 3 d.val)) s = .next t ∧ Took s t p ∧ t.mnt.slot = s.mnt.slot.set j none ∧
        t.mnt.res = s.mnt.res.set d { s.mnt.res[d] with state := 4 } ∧ t.led.bits[0].getLsbD 22 = true ∧
        (a.kind ≠ 9 → t.survey = s.survey) ∧ ((a.kind ≠ 10 ∨ a.total ≤ a.count) → t.field = s.field) ∧
        t = { s with mnt := t.mnt, led := t.led, irqStat := t.irqStat, survey := t.survey, field := t.field, port := t.port, own := t.own }) ∧
    (s.mnt.slot[j] = some a → a.index = d.val → (a.kind = 9 ∨ a.kind = 10) → a.count < a.total → exec (.maintEnd j mV cd cl) s = .next s) ∧
    (s.mnt.slot[j] = some a → a.index = d.val → a.kind = 10 → a.total ≤ a.count → ∃ t, exec (.maintEnd j mV cd cl) s = .next t ∧
      t.mnt.slot = s.mnt.slot.set j none ∧
      t.mnt.res = s.mnt.res.set d { state := if a.fail &&& a.mask = 0 then 2 else 3, kind := 10, fail := a.fail &&& a.mask, skip := 0 } ∧
      t.led.bits[0].getLsbD 22 = true ∧ t = { s with mnt := t.mnt, led := t.led, irqStat := t.irqStat }) ∧
    (s.mnt.slot[j] = some a → a.index = d.val → a.kind = 9 → a.total ≤ a.count → ∃ t, exec (.maintEnd j mV cd cl) s = .next t ∧
      t.mnt.slot = s.mnt.slot.set j none ∧
      t.mnt.res = s.mnt.res.set d { state := if a.fail &&& 3 = 0 then 2 else 3, kind := 9, fail := a.fail &&& 3, skip := 0 } ∧
      t.led.bits[0].getLsbD 22 = true ∧ t = { s with mnt := t.mnt, led := t.led, irqStat := t.irqStat }) ∧
    (s.mnt.slot[j] = some a → a.index = f.val → a.kind = 11 → ∃ t, exec (.maintEnd j mV cd cl) s = .next t ∧
      t.mnt.slot = s.mnt.slot.set j none ∧ a.start + 10000000 ≤ t.mono ∧ t.mnt.res[toDie f].kind = 11 ∧
      (t.mnt.res[toDie f].state = if t.mnt.res[toDie f].fail = 0 then 2 else 3) ∧
      (∀ k : Chan, t.mnt.res[toDie f].fail.getLsbD k.val =
        (a.mask.getLsbD k.val && !t.mnt.res[toDie f].skip.getLsbD k.val && decide (4000 < mV.getD k.val 0))) ∧
      (∀ k : Chan, stageOn s f k = true → t.mnt.res[toDie f].skip.getLsbD k.val = a.mask.getLsbD k.val) ∧
      t.led.bits[0].getLsbD 22 = true ∧
      t = { s with mnt := t.mnt, led := t.led, irqStat := t.irqStat, mono := t.mono, time := t.time, tm := t.tm })

/-- CAN_FRAME_RX, PROTOCOL_EXCEPTION, RXQ_POP, RXQ_LOCK_LAPSE, CAN_TX_END, CAN_RECOVER, CAN_INTEGRATED, CANCMD_RECOVER, CANCMD_FLUSH and BUS_ERROR (R362 to R385): a frame that no entry and no filter wants is only counted, one that a filter sends to queue 0 joins it with the queue's own count, a frame of the waystation's identifiers goes to the time master too, a remote frame is discarded and counted; a whole read of a window returns its head frame and removes it; a sent frame leaves the FIFO, a lost or failed one stays at its head, and errors raise the counters (the model takes their steps from ISO 11898-1, log entry 20, and LEC 7 after a protocol exception, log entry 23). -/
def Obligations.CanBus : Prop :=
  ∀ (s : State) (c : Ctrl) (p : Port) (q : Fin 2) (f : CanFrame) (x : TxFrame) (xs : List TxFrame) (r : RxRec) (rs : List RxRec)
    (j v n t0 : Nat) (lec : BitVec 3) (exc : Bool),
    (canHears s c = true → (f.fdf = true → canFd s c = true) → (f.rtr = true → f.fdf = true) → s.can[c].state = 2 → s.can[c].rxErr = 0 →
      s.can[c].txErr < 128 → objFind s c (fieldOf (rxRecord s c f).idw 0 30) = none →
      ¬(wsRole s ≠ 0 ∧ wsCtrl s = c ∧ f.ide = wsIde s ∧ (f.id.toNat = wsId s ∨ f.id.toNat = wsId s + 1)) →
      (filterOf s c (rxRecord s c f).idw = none → exec (.canFrameRx c f) s =
        .next { s with can := s.can.set c { s.can[c] with rxOk := (s.can[c].rxOk + 1) % 65536 } }) ∧
      (filterOf s c (rxRecord s c f).idw = some j → canBit s c (0x102 + 4 * j) 0 = true → canBit s c (0x102 + 4 * j) 1 = false →
        canBit s c (0x102 + 4 * j) 2 = false → s.can[c].rxq[(0 : Fin 2)].frames.length < 64 → ∃ t y, exec (.canFrameRx c f) s = .next t ∧
          t.can[c].rxq[(0 : Fin 2)].frames = s.can[c].rxq[(0 : Fin 2)].frames ++ [y] ∧
          t.can[c].rxq[(0 : Fin 2)].count = (s.can[c].rxq[(0 : Fin 2)].count + 1) % 65536 ∧ y.idw = (rxRecord s c f).idw ∧
          y.data = (rxRecord s c f).data ∧ y.stamp = s.time % 2 ^ 64 / 4 * 4 ∧ fieldOf y.info 16 16 = t.can[c].rxq[(0 : Fin 2)].count ∧
          t.can[c].rxq[(1 : Fin 2)] = s.can[c].rxq[(1 : Fin 2)] ∧ t = { s with can := t.can, irqStat := t.irqStat })) ∧
    (canHears s c = true → f.fdf = false → f.rtr = false → s.can[c].state = 2 → s.can[c].rxErr = 0 → s.can[c].txErr < 128 →
      wsRole s ≠ 0 → wsCtrl s = c → f.ide = wsIde s → ∃ t, exec (.canFrameRx c f) s = .next t ∧
        (f.id.toNat = wsId s → f.dlc = 2 → (f.data.getD 1 0).toNat = wsDomain s →
          t.ws.given = s.ws.given ++ [.sync (f.data.getD 0 0) s.time s.mono]) ∧
        (f.id.toNat = wsId s + 1 → f.dlc = 8 → t.ws.given = s.ws.given ++ [.follow (beNat (f.data.take 8)) s.mono])) ∧
    (canHears s c = true → f.fdf = false → f.rtr = true → canMute s c = true → exec (.canFrameRx c f) s =
      .next { s with can := s.can.set c { s.can[c] with remote := min 255 (s.can[c].remote + 1) } }) ∧
    (canHears s c = true → exec (.protocolException c) s =
      .next { s with can := s.can.set c { s.can[c] with pexc := min 255 (s.can[c].pexc + 1), lec := 7, state := 1 } }) ∧
    (s.can[c].rxq[q].frames = r :: rs → (∀ e ∈ s.port[p].latch, e.1 / 65536 ≠ canPage c) →
      Accepted s p (readOf 0 (canPage c) (if q = 0 then 0x20 else 0x40) 20) → ∃ t, exec (.rxqPop p c q) s = .next t ∧ Answered s t p ∧
        t.port[p].so = (List.range 20).map (rxqWord s c q) ∧ t.can[c].rxq[q].frames = rs ∧ t.can[c].rxq[q].lock = none ∧
        (∀ e : Fin 2, e ≠ q → t.can[c].rxq[e] = s.can[c].rxq[e]) ∧ (∀ e : Ctrl, e ≠ c → t.can[e] = s.can[e]) ∧
        t = { s with can := t.can, port := t.port, own := { s.own with timerAt := t.own.timerAt } }) ∧
    (s.can[c].rxq[q].lock = some (p, t0) → ∃ t, exec (.rxqLockLapse c q) s = .next t ∧
      t.can = s.can.set c { s.can[c] with rxq := s.can[c].rxq.set q { s.can[c].rxq[q] with lock := none } } ∧ t0 + 10000000 ≤ t.mono ∧
      t = { s with can := t.can, mono := t.mono, time := t.time, tm := t.tm }) ∧
    (s.can[c].state = 2 → s.md.mode ≠ .quiet → s.can[c].tail = none → s.can[c].fifo = x :: xs → s.can[c].onWs = false → canEn s c = true → x.fdf = false →
      s.can[c].txErr < 120 → s.can[c].rxErr < 128 → canField s c 0 8 8 = 0 →
      (canBit s c 0 4 = false → ∃ t, exec (.canTxEnd c .sent lec v exc) s = .next t ∧ t.can[c].fifo = xs ∧
        t.can[c].sent = (s.can[c].sent + 1) % 65536 ∧ t.can[c].txErr = s.can[c].txErr - 1 ∧ t.can[c].state = 2 ∧ t = { s with can := t.can }) ∧
      (∃ t, exec (.canTxEnd c .lost lec v exc) s = .next t ∧ t.can[c].fifo = x :: xs ∧ t.can[c].txErr = s.can[c].txErr ∧
        t.can[c].sent = s.can[c].sent ∧ t = { s with can := t.can }) ∧
      (∃ t, exec (.canTxEnd c .error lec v exc) s = .next t ∧ t.can[c].fifo = x :: xs ∧
        t.can[c].txErr = (if exc = true ∧ lec = 1 then s.can[c].txErr else s.can[c].txErr + 8) ∧
        t.can[c].lec = lec.toNat ∧ t.can[c].state = 2 ∧ t = { s with can := t.can })) ∧
    (canState s c = 5 → ∃ t, exec (.canRecover c) s = .next t ∧ t.can = s.can.set c { s.can[c] with state := 2, txErr := 0, rxErr := 0 } ∧
      t.led.bits[3].getLsbD 8 = true ∧ t = { s with can := t.can, led := t.led, irqStat := t.irqStat }) ∧
    (s.can[c].state = 1 → canStb s c = false → ∃ t, exec (.canIntegrated c) s = .next t ∧
      t.can[c].state = (if canListen s c then 6 else if 127 < s.can[c].txErr ∨ 127 < s.can[c].rxErr then 3 else 2) ∧
      t.can[c].rxq = s.can[c].rxq ∧ t = { s with can := t.can }) ∧
    (Accepted s p (writeOf (canPage c) 6 [keyed 0xC5#8 (place 0 1)]) → ∃ t, exec (.cancmdRecover p c 0xC5#8) s = .next t ∧ Took s t p ∧
      t.can = s.can.set c { s.can[c] with state := 5 } ∧ t = { s with can := t.can, port := t.port, own := t.own }) ∧
    (Accepted s p (writeOf (canPage c) 6 [keyed 0xC5#8 (place 0 2)]) → ∃ t, exec (.cancmdFlush p c 0xC5#8) s = .next t ∧ Took s t p ∧
      t.can[c].fifo = [] ∧ (headOnBus s.can[c] = true → t.can[c].tail = s.can[c].fifo.head?) ∧
      t.can[c].dMode = min 255 (s.can[c].dMode + (s.can[c].fifo.length - if headOnBus s.can[c] then 1 else 0)) ∧
      (∀ e : Ctrl, e ≠ c → t.can[e] = s.can[e]) ∧ t = { s with can := t.can, port := t.port, own := t.own }) ∧
    (canHears s c = true → canMute s c = false → s.can[c].state = 2 → s.can[c].txErr < 128 → s.can[c].rxErr + n < 128 →
      exec (.busError c n lec) s = .next { s with can := s.can.set c { s.can[c] with lec := lec.toNat, rxErr := s.can[c].rxErr + n } })

/-! ### Manifest entries and edges of the output functions (07, 08) -/

/-- MANIFEST_ENTRY_DUE, PULSE_END, PG_EDGE and DUTY_EDGE (R202, R203, R206, R217, R219, R378): an entry that falls due leaves its store and acts: an ON reaches a channel that is an output with its permit and no safe state, a PGSYNC restarts its generator at the entry's instant, a held request joins its FIFO; a pulse returns its channel to OFF; at the next edge of a generator or of the carrier every channel that Table 8.4 examines takes the demand of that instant. -/
def Obligations.ManifestsAndEdges : Prop :=
  ∀ (s : State) (d : FDie) (k : Chan) (j : Fin 4) (c : Ctrl) (e : Entry) (h : HubEntry) (tt : Nat),
    (powered s (toDie d) = true → s.field[d].pend = [e] →
      (e.action = 1 → e.mask.getLsbD k.val = true → switchReach s d k = true → ∃ t, exec (.manifestEntryDue (toDie d)) s = .next t ∧
        t.field[d].pend = [] ∧ t.field[d].ch[k].repl = some { effCmd s.field[d].ch[k] with act := 1 } ∧ t.field[d].ch[k].pulseEnd = none) ∧
      (e.action = 6 → curOffset s (toDie d) = 0 → s.time ≤ dueAt e → dueAt e ≤ 2 ^ 64 - 8 → ∃ t, exec (.manifestEntryDue (toDie d)) s = .next t ∧
        t.field[d].pend = [] ∧ dueAt e ≤ t.time ∧ t.field[d].pgOrg = vset s.field[d].pgOrg (e.arg % 4) (dieTime t (toDie d)) ∧
        (s.time % 4 = 0 → corrWait (clockOf s) = none → t.time = dueAt e))) ∧
    (s.hub.pend = [h] → h.ctrl = c.val → canEn s c = true → canListen s c = false → canFd s c = true → s.md.mode ≠ .quiet → s.can[c].state = 2 →
      canBit s c 0 5 = false → s.can[c].fifo.length < 32 → dueAt h.e ≤ 2 ^ 64 - 8 → ∃ t, exec (.manifestEntryDue 4) s = .next t ∧ t.hub.pend = [] ∧
        t.can[c].fifo = s.can[c].fifo ++ [reqFrame h.req] ∧ dueAt h.e ≤ t.time ∧
        t = { s with hub := t.hub, can := t.can, mono := t.mono, time := t.time, tm := t.tm }) ∧
    (s.field[d].ch[k].pulseEnd = some tt → ∃ t, exec (.pulseEnd d k) s = .next t ∧ t.field[d].ch[k].pulseEnd = none ∧
      t.field[d].ch[k].repl = some { effCmd s.field[d].ch[k] with act := 0 } ∧ tt ≤ t.mono) ∧
    (dieOn s d = true → minOpt (chans16.map (pgNext s d j.val)) = some tt → ∃ t, exec (.pgEdge d j) s = .next t ∧
      (curOffset s (toDie d) = 0 → tt ≤ 2 ^ 64 - 8 → tt ≤ dieTime t (toDie d)) ∧
      (Governed s d k → s.field[d].stopped.getLsbD k.val = false → t.field[d].ch[k].demand = demandOf t d k) ∧ t.field[d].pgOrg = s.field[d].pgOrg ∧ ChansOnly s t d) ∧
    (dieOn s d = true → minOpt (chans16.map (dutyNext s d)) = some tt → ∃ t, exec (.dutyEdge d) s = .next t ∧
      (curOffset s (toDie d) = 0 → tt ≤ 2 ^ 64 - 8 → tt ≤ dieTime t (toDie d)) ∧
      (Governed s d k → s.field[d].stopped.getLsbD k.val = false → t.field[d].ch[k].demand = demandOf t d k) ∧ t.field[d].dutyOrg = s.field[d].dutyOrg ∧ ChansOnly s t d)

/-! ### Output channels (08) -/

/-- TURN_ON, TURN_OFF, BLANKING_END, INRUSH_WINDOW_END, RETRY_CONDITIONS_MET and RLEFT_RELOAD (Table 8.4 rows 2, 4, 5, 7 and 8; R221, R231, R241): a request that passes every check of R221 turns on, into INRUSH unless its profile has no blanking time, the other channels standing as they are; a switch whose demand is off opens with CHILAST; blanking and window end at B and W; a cooled channel asks again, or is OFF without demand. -/
def Obligations.ChannelTable : Prop :=
  ∀ (s : State) (d : FDie) (k : Chan) (i : Nat) (cl : Bool),
    (s.field[d].ch[k].st = .wait → inLimp s d k = false → s.field[d].ch[k].queued = false → s.field[d].ch[k].stage = 0 →
      s.field[d].ch[k].toll = false → (∀ j : Chan, j ≠ k → s.field[d].ch[j].st ≠ .wait) → s.field[d].queue = [] → s.field[d].bqueue = [] →
      hotOf s d k ≤ trel s d k.val → tollPass s d k = true →
      s.field[d].reserved + addition s d k ≤ allowance s d * 1000000000000 → slotsUsed s.field[d] < 4 →
      ∃ t, exec (.turnOn d k) s = .next t ∧ t.field[d].ch[k].onAt = s.mono ∧ t.field[d].ch[k].condAt = s.mono ∧ t.field[d].ch[k].resv = 0 ∧
        t.field[d].ch[k].st = (if profB (chField s d k.val 0 4 3) = 0 then .on else .inrush) ∧
        t.field[d].ch[k].slot = decide (0 < profW (chField s d k.val 0 4 3)) ∧
        (∀ j : Chan, j ≠ k → t.field[d].ch[j] = s.field[d].ch[j]) ∧ ChansOnly s t d ∧ t.time = s.time) ∧
    (stOn s.field[d].ch[k].st = true → inLimp s d k = false → demandOf s d k = false → s.field[d].queue = [] →
      s.field[d].stopped.getLsbD k.val = false → exec (.turnOff d k i cl) s = .next (chanAt s d k { s.field[d].ch[k] with
        st := .off, slot := false, limit := false, ilast := i % 2 ^ 32, clamp := cl,
        condAcc := s.field[d].ch[k].condAcc + (s.mono - s.field[d].ch[k].condAt)
        olAcc := if s.field[d].ch[k].st = .on then s.field[d].ch[k].olAcc + (s.mono - s.field[d].ch[k].olFrom) else s.field[d].ch[k].olAcc })) ∧
    (s.field[d].ch[k].st = .inrush → ∃ t, exec (.blankingEnd d k) s = .next t ∧
      t.field = (chanAt s d k { s.field[d].ch[k] with st := .on, olFrom := t.mono }).field ∧
      s.field[d].ch[k].onAt + profB s.field[d].ch[k].load ≤ t.mono ∧ ChansOnly s t d) ∧
    (s.field[d].ch[k].slot = true → s.field[d].queue = [] → ∃ t, exec (.inrushWindowEnd d k) s = .next t ∧
      t.field = (chanAt s d k { s.field[d].ch[k] with slot := false }).field ∧
      s.field[d].ch[k].onAt + profW s.field[d].ch[k].load ≤ t.mono ∧ ChansOnly s t d) ∧
    (s.field[d].ch[k].st = .rwait → hotOf s d k ≤ trel s d k.val → inLimp s d k = false → ∃ t, exec (.retryConditionsMet d k) s = .next t ∧
      t.field[d].ch[k].st = (if demandOf t d k then .wait else .off) ∧
      s.field[d].ch[k].tripAt + chField s d k.val 2 16 8 * 10000000 ≤ t.mono ∧
      (∀ j : Chan, j ≠ k → t.field[d].ch[j] = s.field[d].ch[j]) ∧ ChansOnly s t d) ∧
    (stOn s.field[d].ch[k].st = true → chField s d k.val 2 24 8 ≠ 0 → ∃ t, exec (.rleftReload d k) s = .next t ∧
      t.field = (chanAt s d k { s.field[d].ch[k] with rleft := chField s d k.val 2 1 4 }).field ∧ ChansOnly s t d ∧
      s.field[d].ch[k].condAt + (chField s d k.val 2 24 8 * 100000000 - s.field[d].ch[k].condAcc) ≤ t.mono)

/-- OT_TRIP, DT_TRIP, SC_TRIP, SC_FAST_TRIP, LIMTIME_TRIP, SENSOR_TRIP, CURRENT_LIMIT and LH_TRIP (R222, R225, R229, R230, Tables 8.6 and 8.7): a conducting channel trips with its cause from that cause's threshold on, 175 °C, 90 K, a terminal below VBB/4, 12 A, and not below it; SC, LIMTIME and SENSOR not before their times; LIMIT follows the current asked for against the stage's limit; under limp-home the stage's own protection opens the channel, its last current and clamp event free values, and neither latch nor counts move. -/
def Obligations.Trips : Prop :=
  ∀ (s : State) (d : FDie) (k : Chan) (i t0 ua : Nat) (mv : Int) (cl : Bool) (cause : BitVec 4), Governed s d k →
    (stOn s.field[d].ch[k].st = true →
      (175000000 ≤ hotOf s d k → ∃ t, exec (.otTrip d k i cl) s = .next t ∧ Tripped s t d k 1 s.mono) ∧
      (hotOf s d k < 175000000 → exec (.otTrip d k i cl) s = .next s) ∧
      (90 * 16 ≤ (pairMax s d k fun c => c.tj) - s.field[d].tsub → ∃ t, exec (.dtTrip d k i cl) s = .next t ∧ Tripped s t d k 2 s.mono) ∧
      ((pairMax s d k fun c => c.tj) - s.field[d].tsub < 90 * 16 → exec (.dtTrip d k i cl) s = .next s) ∧
      (12000000 ≤ ua → Config.part 4 (16 * d.val + k.val) ≤ ua → ∃ t, exec (.scFastTrip d k ua i cl) s = .next t ∧ Tripped s t d k 4 s.mono) ∧
      (ua < 12000000 → exec (.scFastTrip d k ua i cl) s = .next s) ∧
      (s.field[d].ch[k].diffAt = some t0 → ∃ t, exec (.sensorTrip d k i cl) s = .next t ∧ Tripped s t d k 6 t.mono ∧ t0 + 1000000 ≤ t.mono) ∧
      (s.field[d].ch[k].diffAt = none → exec (.sensorTrip d k i cl) s = .next s)) ∧
    (limitPastB s d k = some t0 →
      (4 * mv < s.field[d].vbb → ∃ t, exec (.scTrip d k mv i cl) s = .next t ∧ Tripped s t d k 3 t.mono ∧ t0 + 200000 ≤ t.mono) ∧
      (s.field[d].vbb ≤ 4 * mv → exec (.scTrip d k mv i cl) s = .next s) ∧
      (chField s d k.val 1 8 8 ≠ 0 → ∃ t, exec (.limtimeTrip d k i cl) s = .next t ∧ Tripped s t d k 5 t.mono ∧
        t0 + chField s d k.val 1 8 8 * 1000000 ≤ t.mono)) ∧
    (conducts s d k = true → s.field[d].ch[k].limit ≠ decide (stageLimit s d k * 62500 < ua) → exec (.currentLimit d k ua) s =
      .next (chanAt s d k { s.field[d].ch[k] with
        limit := decide (stageLimit s d k * 62500 < ua)
        limitAt := if stageLimit s d k * 62500 < ua then s.mono else s.field[d].ch[k].limitAt })) ∧
    (conducts s d k = false → s.field[d].ch[k].limit = true → exec (.currentLimit d k ua) s =
      .next (chanAt s d k { s.field[d].ch[k] with limit := false })) ∧
    (∀ l : FDie, ∀ m : Chan, inLimp s l m = true → s.field[l].ch[m].lhOn = true →
      ((cause = 1 ∧ 175 * 16 ≤ pairMax s l m fun c => c.tj) ∨ cause = 4) → ∃ t, exec (.lhTrip l m cause) s = .next t ∧
      t.field = (chanAt s l m { s.field[l].ch[m] with
        lhOn := false, lhShut := true, limit := false, ilast := freeCurrent s, clamp := freeClamp s }).field ∧
      DieOnly { s with freeCtr := t.freeCtr } t l)

/-- THERMAL_SAMPLE, CLAMP_EVENT_END, TOLL_REFILL, OL_ON_DETECT, OL_ON_CLEAR, OL_OFF_TEST, STB_DETECT, STB_CLEAR, GOV_ALLOWANCE, DIE_SUM_OVER, SSEL_STEP and CH_STUCK (R211, R226, R234 to R239, R246, R271): sensors and models take their step (in the rounding of log entry 12), E leaves the bucket, every bucket refills up to CAP, the diagnostic flags follow their thresholds with their ledger events, OL after OLT below its threshold and back after 1 ms at 110 %, EST is the static share, the reported dissipations and the inputs' and each field die takes a quarter of what is left, the sense pointer moves to a masked channel, and an open switch that has carried 50 mA for 1 ms is STUCK, the cause of its pair's safe state. -/
def Obligations.DieMonitors : Prop :=
  ∀ (s : State) (d : FDie) (k : Chan) (l : Lane) (ts mi : Int) (tj : List Int) (pw uas diss : List Nat) (e mv ua ma t0 : Nat) (long : Bool),
    (dieOn s d = true → ∃ t, exec (.thermalSample d ts tj pw uas) s = .next t ∧ s.field[d].thermAt + 10000 ≤ t.mono ∧
      t.field[d].tsub = satInt 16 ts ∧ t.field[d].ch[k].tj = satInt 16 (tj.getD k.val s.field[d].ch[k].tj) ∧
      t.field[d].ch[k].tm = modelStep s.field[d].ch[k].tm (satInt 16 ts * 62500) (pw.getD k.val 0)) ∧
    (s.field[d].ch[k].clamp = true → exec (.clampEventEnd d k e) s = .next (chanAt s d k { s.field[d].ch[k] with
      clamp := false, clampEnd := s.mono, elast := e % 2 ^ 32,
      level := if chField s d k.val 3 0 10 = 0 then s.field[d].ch[k].level else satInt 32 (s.field[d].ch[k].level - (e : Int)) })) ∧
    (dieOn s d = true → ∃ t, exec (.tollRefill d) s = .next t ∧ t.field[d].tollAt % 1000000 = 0 ∧ t.field[d].tollAt ≠ s.field[d].tollAt ∧
      (curOffset s (toDie d) = 0 → t.field[d].tollAt ≤ 2 ^ 64 - 8 → t.field[d].tollAt ≤ dieTime t (toDie d)) ∧
      t.field[d].ch[k].level = satInt 32 (min ((chField s d k.val 3 0 10 * 1000 : Nat) : Int)
        (s.field[d].ch[k].level + (chField s d k.val 3 16 9 : Nat)))) ∧
    (olOnActive s d k = true →
      (ua < olThreshold s d k.val - olTolerance s d k.val → s.field[d].ch[k].ol = false → uplinksDown s (toDie d) = false →
        ∃ t, exec (.olOnDetect d k ua) s = .next t ∧ t.field = (chanAt s d k { s.field[d].ch[k] with ol := true }).field ∧
          s.field[d].ch[k].olFrom + (chField s d k.val 4 8 8 * 1000000 - s.field[d].ch[k].olAcc) ≤ t.mono ∧
          t.led.bits[1].getLsbD 10 = true ∧ DieOnly s t d) ∧
      (olThreshold s d k.val + olTolerance s d k.val ≤ ua → exec (.olOnDetect d k ua) s =
        .next (chanAt s d k { s.field[d].ch[k] with olAcc := 0, olFrom := s.mono })) ∧
      ((olThreshold s d k.val + olTolerance s d k.val) * 110 / 100 ≤ ua → ∃ t, exec (.olOnClear d k ua) s = .next t ∧
        t.field = (chanAt s d k { s.field[d].ch[k] with ol := false, olAcc := 0, olFrom := t.mono }).field ∧
        s.field[d].ch[k].olFrom + 1000000 ≤ t.mono ∧ ChansOnly s t d) ∧
      (ua < (olThreshold s d k.val - olTolerance s d k.val) * 110 / 100 → exec (.olOnClear d k ua) s = .next s)) ∧
    (olOffActive s d k = true →
      (4000 < mv → ∃ t, exec (.olOffTest d k mv) s = .next t ∧ t.field = (chanAt s d k { s.field[d].ch[k] with ol := true }).field ∧ DieOnly s t d) ∧
      (mv < 2500 → exec (.olOffTest d k mv) s = .next (chanAt s d k { s.field[d].ch[k] with ol := false })) ∧
      (2500 ≤ mv → mv ≤ 4000 → exec (.olOffTest d k mv) s = .next s)) ∧
    (isGov s d k.val = true → conducts s d k = false → dieOn s d = true → s.field[d].ch[k].stb = false →
      (s.field[d].vbb - 2000 < mi → ∃ t, exec (.stbDetect d k mi) s = .next t ∧
        t.field = (chanAt s d k { s.field[d].ch[k] with stb := true }).field ∧ DieOnly s t d) ∧
      (mi ≤ s.field[d].vbb - 2000 → exec (.stbDetect d k mi) s = .next s)) ∧
    (conducts s d k = false →
      (mi < s.field[d].vbb - 3000 → exec (.stbClear d k mi) s = .next (chanAt s d k { s.field[d].ch[k] with stb := false })) ∧
      (s.field[d].vbb - 3000 ≤ mi → exec (.stbClear d k mi) s = .next s)) ∧
    (∃ t, exec (.govAllowance l diss) s = .next t ∧ t.gov.est[l] = cfgField s 8 9 0 16 + diss.foldl (· + ·) 0 +
        (inputMw s 0 + inputMw s 1 + inputMw s 2 + inputMw s 3) ∧
      (s.die[toDie d].down[l].up = true → dieOn s d = true →
        vget t.field[d].allow l.val (0, none) = ((cfgField s 8 8 0 16 - t.gov.est[l]) / 4, some t.mono)) ∧
      (∀ m : Lane, m ≠ l → t.gov.est[m] = s.gov.est[m]) ∧ s.time ≤ t.time) ∧
    (dieOn s d = true → ∃ t, exec (.dieSumOver d ma) s = .next t ∧
      t.field = s.field.set d { s.field[d] with sumOver := decide (16000 < ma) } ∧ DieOnly s t d) ∧
    (fdBit s d 4 1 = true → fdField s d 4 16 16 ≠ 0 → dieOn s d = true → ∃ t, exec (.sselStep d long) s = .next t ∧
      (fdField s d 4 16 16).testBit t.field[d].snsCur = true ∧
      (long = true → ∀ j, j < t.field[d].snsCur → (fdField s d 4 16 16).testBit j = false) ∧
      t.field = s.field.set d { s.field[d] with snsCur := t.field[d].snsCur } ∧ t = { s with field := t.field }) ∧
    (powered s (toDie d) = true → stageOn s d k = false → s.field[d].ch[k].stuck = false →
      (s.field[d].ch[k].highSince = some t0 → ∃ t, exec (.chStuck d k ua) s = .next t ∧ t.field[d].ch[k].stuck = true ∧ t0 + 1000000 ≤ t.mono ∧
        (isGov s d (govOf s d k).val = true → t.field[d].ch[govOf s d k].causes.getLsbD 4 = true) ∧
        (uplinksDown s (toDie d) = false → t.led.bits[1].getLsbD 12 = true) ∧ DieOnly s t d) ∧
      (s.field[d].ch[k].highSince = none → exec (.chStuck d k ua) s = .next s))

/-- INPUT_SAMPLE and SINK_WINDOW_START, PERMIT_EDGE, PERMIT_STOP, PFAULT_CLEAR, PERMIT_WAIT_END and COAST_END (R252, R256, R260 to R263, R267): an INPUT channel without line monitoring reads 1 at the highest and 0 below the lowest threshold limit, and LEVEL follows after FILT equal samples, a change of it an input event stamped at the sample instant; the sinks of the earliest window close; valid half-periods make a permit present after three, invalid ones absent after two, a stopped edge at once, and a loss is a cause of the channel's safe state; a coast window ends. -/
def Obligations.InputsAndPermits : Prop :=
  ∀ (s : State) (d : FDie) (k : Chan) (mvs : List Nat) (dead : BitVec 16) (half tt : Nat), powered s (toDie d) = true →
    (s.die[toDie d].fresh = false → chMode s d k.val = 2 → inTested s d k.val = false → chBit s d k.val 0x0C 2 = false →
      chBit s d k.val 0x0C 3 = false → ∃ t, exec (.inputSample d mvs dead) s = .next t ∧ t.field[d].sampleAt = some (nextSample s d) ∧
        (curOffset s (toDie d) = 0 → nextSample s d ≤ 2 ^ 64 - 8 → nextSample s d ≤ dieTime t (toDie d)) ∧
        (s.field[d].ch[k].valid = true → t.field[d].ch[k].level1 ≠ s.field[d].ch[k].level1 →
          t.die[toDie d].evSeq = s.die[toDie d].evSeq + 1 ∧ t.die[toDie d].evAt = nextSample s d % 2 ^ 64 / 4 * 4) ∧
        ((riseLim (chField s d k.val 0x0C 0 2)).2 ≤ mvs.getD k.val 0 → t.field[d].ch[k].raw = true) ∧
        (mvs.getD k.val 0 < (fallLim (chField s d k.val 0x0C 0 2)).1 → t.field[d].ch[k].raw = false) ∧
        (chField s d k.val 0x0C 8 8 ≤ t.field[d].ch[k].rawCnt → t.field[d].ch[k].level1 = t.field[d].ch[k].raw ∧ t.field[d].ch[k].valid = true) ∧
        (t.field[d].ch[k].rawCnt < chField s d k.val 0x0C 8 8 → t.field[d].ch[k].level1 = s.field[d].ch[k].level1)) ∧
    (s.die[toDie d].fresh = false → windowStart s d k = some tt → (∀ (j : Chan) u, windowStart s d j = some u → tt ≤ u) →
      ∃ t, exec (.sinkWindowStart d) s = .next t ∧ t.field[d].ch[k].sink = true ∧
        (curOffset s (toDie d) = 0 → tt ≤ 2 ^ 64 - 8 → tt ≤ dieTime t (toDie d)) ∧
        (∀ j : Chan, windowStart s d j = none → t.field[d].ch[j] = s.field[d].ch[j]) ∧ ChansOnly s t d) ∧
    (∃ t, exec (.permitEdge d k half) s = .next t ∧ s.field[d].ch[k].perm.edgeAt + half ≤ t.mono ∧ t.field[d].ch[k].perm.edgeAt = t.mono ∧
      (25000 < half → t.field[d].ch[k].perm.present = false ∧ t.field[d].ch[k].perm.good = 0) ∧
      (7500 ≤ half → half ≤ 12500 → t.field[d].ch[k].perm.present =
        (s.field[d].ch[k].perm.present || decide (3 ≤ s.field[d].ch[k].perm.good + 1)) ∧ t.field[d].ch[k].perm.bad = 0) ∧
      ((half < 7500 ∨ (12500 < half ∧ half ≤ 25000)) → t.field[d].ch[k].perm.present =
        (s.field[d].ch[k].perm.present && decide (s.field[d].ch[k].perm.bad + 1 < 2)) ∧ t.field[d].ch[k].perm.good = 0) ∧ DieOnly s t d) ∧
    (∃ t, exec (.permitStop d k) s = .next t ∧ t.field[d].ch[k].perm = { s.field[d].ch[k].perm with good := 0, bad := 0, present := false } ∧
      s.field[d].ch[k].perm.edgeAt + 25000 ≤ t.mono ∧
      (isOutput s d k.val = true → isUpper s d k.val = false → permOf s d k = true → t.field[d].ch[k].causes.getLsbD 3 = true) ∧ DieOnly s t d) ∧
    (s.field[d].ch[k].perm.fault = true → ∃ t, exec (.pfaultClear d k) s = .next t ∧
      t.field[d].ch[k].perm = { s.field[d].ch[k].perm with fault := false, badAt := [] } ∧
      s.field[d].ch[k].perm.badAt.headD 0 + 1000000 ≤ t.mono ∧ DieOnly s t d) ∧
    (s.field[d].ch[k].permWait = some tt → ∃ t, exec (.permitWaitEnd d k) s = .next t ∧ t.field[d].ch[k].permWait = none ∧
      t.field[d].ch[k].causes = s.field[d].ch[k].causes ∧ tt ≤ t.mono ∧ ChansOnly s t d) ∧
    (s.field[d].ch[k].coast = some tt → s.field[d].ch[k].permWait = none → ∃ t, exec (.coastEnd d k) s = .next t ∧
      t.field[d].ch[k].coast = none ∧ tt ≤ t.mono ∧ ChansOnly s t d ∧
      (Governed s d k → s.field[d].stopped.getLsbD k.val = false → decidingCause s.field[d].ch[k].causes ≠ 0 →
        safeCode s d k.val (decidingCause s.field[d].ch[k].causes) = 2 → t.field[d].ch[k].demand = false))

/-- LIMP_HOME, LH_EN_RELEASE and LH_IN_CHANGE (R273 to R278): LH_EN asserted makes every mapped channel follow its pad, inverted where the mapping says so; a pad's change reaches the channels mapped to it and no other; the release returns them to the rows of Table 9.4. A stage that opens here has a free value for its last current and for a clamp event (log entry 76). -/
def Obligations.LimpHome : Prop :=
  ∀ (s : State) (d : FDie) (k : Chan) (j : Fin 4) (lv : Bool), s.field[d].vbbLow = false →
    (s.field[d].lhEn = false → ∃ t, exec (.limpHome d) s = .next t ∧ t.field[d].lhEn = true ∧
      DieOnly { s with freeCtr := t.freeCtr } t d ∧
      (s.field[d].ch[k].map.en = true → t.field[d].ch[k].lhShut = false ∧
        t.field[d].ch[k].lhOn = (s.field[d].lhIn.getLsbD s.field[d].ch[k].map.src != s.field[d].ch[k].map.inv))) ∧
    (s.field[d].lhEn = true → ∃ t, exec (.lhEnRelease d) s = .next t ∧ t.field[d].lhEn = false ∧ ChansOnly s t d ∧
      (s.field[d].ch[k].map.en = true → t.field[d].ch[k].lhOn = false ∧ t.field[d].ch[k].lhShut = false)) ∧
    (∃ t, exec (.lhInChange d j lv) s = .next t ∧ t.field[d].lhIn.getLsbD j.val = lv ∧
      (∀ i : Fin 4, i ≠ j → t.field[d].lhIn.getLsbD i.val = s.field[d].lhIn.getLsbD i.val) ∧
      ChansOnly { s with freeCtr := t.freeCtr } t d ∧
      (s.field[d].lhEn = true → s.field[d].ch[k].map.en = true → s.field[d].ch[k].map.src = j.val → s.field[d].ch[k].lhShut = false →
        t.field[d].ch[k].lhOn = (lv != s.field[d].ch[k].map.inv)) ∧
      (s.field[d].ch[k].map.src ≠ j.val ∨ s.field[d].lhEn = false → t.field[d].ch[k] = s.field[d].ch[k]))

/-! ### Loops (10) -/

/-- LOOP_FOLD, FOLDBACK_RELEASE_TRY, LOOP_MISWIRE, MISWIRE_RECONNECT, MISWIRE_RAMP_END, VLB_LOW, LOOP_HEADROOM, HEADROOM_CLEAR, OW_FIELD_SET, OW_FIELD_CLEAR, OW_PATH_SET and OW_PATH_CLEAR (R284 to R291): a limiting supply shows LIMIT and folds back below 6.0 V, with its release from 6.0 V on; disconnection at once by a miswiring and reconnection after the hold time, by a ramp when there is a supply; the flags of supply, headroom after 10 ms and back after its own hold, and open wire, with their counts and ledger events; a path failed by the test stays open. -/
def Obligations.LoopProtection : Prop :=
  ∀ (s : State) (k : Chan) (mv t0 : Nat) (lim : Bool) (sup : Int) (cond : BitVec 3), ldOn s = true → uplinksDown s ldDie = false →
    (s.loop[k].supon = true → s.loop[k].foldback = false →
      (lim = true → sup < 6000 → ∃ t, exec (.loopFold k lim sup) s = .next t ∧ t.loop[k].limit = true ∧
        t.loop[k].foldback = true ∧ t.loop[k].foldAt = s.mono ∧ t.loop[k].evFold = min 255 (s.loop[k].evFold + 1) ∧
        t.led.bits[2].getLsbD 1 = true ∧ LoopOnly s t k) ∧
      ((lim = false ∨ 6000 ≤ sup) → exec (.loopFold k lim sup) s = .next (loopAt s k { s.loop[k] with limit := lim }))) ∧
    (s.loop[k].foldback = true → ∃ t, exec (.foldbackReleaseTry k lim sup) s = .next t ∧ s.loop[k].foldAt + 1005000000 ≤ t.mono ∧
      t.loop = (loopAt s k (if 6000 ≤ sup then { s.loop[k] with foldback := false, limit := lim }
        else { s.loop[k] with foldAt := s.loop[k].foldAt + 1000000000 })).loop ∧ t = { s with loop := t.loop, mono := t.mono, time := t.time, tm := t.tm }) ∧
    ((s.loop[k].miswire = false ∨ s.loop[k].ramp = true) → 1 ≤ cond.toNat → cond.toNat ≤ 4 → ∃ t, exec (.loopMiswire k cond) s = .next t ∧
      t.loop[k].connected = false ∧ t.loop[k].supon = false ∧ t.loop[k].miswire = true ∧ t.loop[k].ramp = false ∧ t.loop[k].limit = false ∧ t.loop[k].foldback = false ∧
      t.loop[k].tripAt = s.mono ∧ t.loop[k].evMis = min 255 (s.loop[k].evMis + 1) ∧ t.loop[k].hart.job = 0 ∧
      t.led.bits[2].getLsbD 2 = true ∧ LoopOnly s t k) ∧
    (s.loop[k].miswire = true → s.loop[k].ramp = false → ∃ t, exec (.miswireReconnect k) s = .next t ∧
      t.loop[k].connected = decide (lpMode s k.val ≠ 0) ∧ t.loop[k].supon = decide (lpMode s k.val = 1) ∧
      t.loop[k].ramp = decide (lpMode s k.val = 1) ∧ t.loop[k].miswire = decide (lpMode s k.val = 1) ∧
      s.loop[k].tripAt + 1000000000 ≤ t.mono ∧ (3 ≤ s.loop[k].trips.length → s.loop[k].tripAt + 60000000000 ≤ t.mono) ∧
      (∀ j : Chan, j ≠ k → t.loop[j] = s.loop[j]) ∧ t = { s with loop := t.loop, mono := t.mono, time := t.time, tm := t.tm }) ∧
    (s.loop[k].ramp = true → ∃ t, exec (.miswireRampEnd k) s = .next t ∧
      t.loop = (loopAt s k { s.loop[k] with ramp := false, miswire := false }).loop ∧ s.loop[k].rampAt + 5000000 ≤ t.mono ∧
      t = { s with loop := t.loop, mono := t.mono, time := t.time, tm := t.tm }) ∧
    (s.ld.vlbLow = false → ∃ t, exec (.vlbLow mv) s = .next t ∧ t.ld = { s.ld with vlbLow := true } ∧ t.led.bits[2].getLsbD 0 = true ∧
      t = { s with ld := t.ld, led := t.led, irqStat := t.irqStat }) ∧
    (s.loop[k].headAt = some t0 → headOn s k = true → s.loop[k].headroom = false → ∃ t, exec (.loopHeadroom k) s = .next t ∧
      t.loop = (loopAt s k { s.loop[k] with
        headroom := true, evHead := min 255 (s.loop[k].evHead + 1)
        headAt := if (hminMv s k.val + 500 : Nat) * 1000000 ≤ vtxNv s k then some t.mono else none }).loop ∧
      t0 + 10000000 ≤ t.mono ∧ t.led.bits[2].getLsbD 3 = true ∧
      t = { s with loop := t.loop, led := t.led, irqStat := t.irqStat, mono := t.mono, time := t.time, tm := t.tm }) ∧
    (s.loop[k].headAt = some t0 → s.loop[k].headroom = true → ∃ t, exec (.headroomClear k) s = .next t ∧
      t.loop = (loopAt s k { s.loop[k] with
        headroom := false
        headAt := if headOn s k = true ∧ vtxNv s k < (hminMv s k.val : Nat) * 1000000 then some t.mono else none }).loop ∧
      t0 + max 10000000 (lpField s k.val 1 24 8 * 100000000) ≤ t.mono ∧ t = { s with loop := t.loop, mono := t.mono, time := t.time, tm := t.tm }) ∧
    (s.loop[k].headAt = none → exec (.loopHeadroom k) s = .next s ∧ exec (.headroomClear k) s = .next s) ∧
    (owFieldCond s k = true → s.loop[k].owField = false → ∃ t, exec (.owFieldSet k) s = .next t ∧ t.loop[k].owField = true ∧
      t.loop[k].evOw = (if openWire s.loop[k] then s.loop[k].evOw else min 255 (s.loop[k].evOw + 1)) ∧
      (openWire s.loop[k] = false → t.led.bits[2].getLsbD 4 = true) ∧ LoopOnly s t k) ∧
    (1500000 ≤ s.loop[k].i → exec (.owFieldClear k) s = .next (loopAt s k { s.loop[k] with owField := false })) ∧
    (s.loop[k].owPath = false → ∃ t, exec (.owPathSet k) s = .next t ∧ t.loop[k].owPath = true ∧
      t.loop[k].evOw = (if openWire s.loop[k] then s.loop[k].evOw else min 255 (s.loop[k].evOw + 1)) ∧ LoopOnly s t k) ∧
    (s.loop[k].owFailed = false → exec (.owPathClear k) s = .next (loopAt s k { s.loop[k] with owPath := false })) ∧
    (s.loop[k].owFailed = true → exec (.owPathClear k) s = .next s)

/-- OW_TEST_START, OW_TEST_ABORT, OW_TEST_DONE, the TRIM commands, TRIM_POINT_DONE and TRIM_TIMEOUT (R292, R296 to R298): a test claims its loop and begins with the current of step 2 unless a HART transaction must end first; an abort ends it ABORTED; its three means R0, R1 and R2 decide it (OWDELTA's rounding to whole nA is a free value, log entry 75), and a terminal that stays above 0.5 V fails it at step 2; a point averages into its reading, COMPUTE after both points gives gain and offset or the error, an op out of order fails the trim, and 600 s without an op end it. -/
def Obligations.OpenWireAndTrim : Prop :=
  ∀ (s : State) (p : Port) (k : Chan) (f e : Nat) (g o : Int) (r0 r1 r2 : ℚ),
    (Accepted s p (writeOf 12 2 [keyed 0x4F#8 (place 0 k.val ||| place 4 1)]) → ∃ t, exec (.owTestStart p 0x4F#8 k) s = .next t ∧ Took s t p ∧
      t.ld.owLoop = k.val ∧ t.loop[k].ow.state = 1 ∧ t.loop[k].ow.step = (if hartInProgress s.loop[k].hart then 1 else 2) ∧
      owAct p k.val ∈ t.mnt.slot.toList.filterMap id ∧ (∀ j : Chan, j ≠ k → t.loop[j] = s.loop[j]) ∧
      t = { s with loop := t.loop, ld := t.ld, mnt := t.mnt, port := t.port, own := t.own }) ∧
    (Accepted s p (writeOf 12 2 [keyed 0x4F#8 (place 0 k.val ||| place 4 2)]) → ∃ t, exec (.owTestAbort p 0x4F#8 k) s = .next t ∧ Took s t p ∧
      (s.loop[k].ow.state = 1 → t.loop[k].ow.state = 4 ∧ t.loop[k].ow.step = 0 ∧ (∀ j : Chan, j ≠ k → t.loop[j] = s.loop[j])) ∧
      (s.loop[k].ow.state ≠ 1 → t = { s with port := t.port, own := t.own })) ∧
    (s.loop[k].ow.state = 1 → s.loop[k].ow.step = 2 → s.loop[k].ow.sn = true → ∃ t, exec (.owTestDone k) s = .next t ∧
      t.loop[k].ow.state = 3 ∧ t.loop[k].owFailed = true ∧ t.loop[k].owPath = true ∧ t.ld = s.ld ∧ LoopOnly s t k) ∧
    (s.loop[k].ow.state = 1 → s.loop[k].ow.step = 6 → 0 < s.loop[k].ow.r0.2 → 0 < s.loop[k].ow.r1.2 → 0 < s.loop[k].ow.r2.2 →
      r0 = (s.loop[k].ow.r0.1 : ℚ) / s.loop[k].ow.r0.2 → r1 = (s.loop[k].ow.r1.1 : ℚ) / s.loop[k].ow.r1.2 →
      r2 = (s.loop[k].ow.r2.1 : ℚ) / s.loop[k].ow.r2.2 → ∃ t, exec (.owTestDone k) s = .next t ∧
      |(t.ld.owDelta : ℚ) - (r1 - (r0 + r2) / 2)| < 1 ∧ t.loop[k].ow.step = 0 ∧
      (20000 < |r2 - r0| → t.loop[k].ow.state = 5) ∧
      (|r2 - r0| ≤ 20000 → |r1 - (r0 + r2) / 2 - 1000000| ≤ 20000 → t.loop[k].ow.state = 2 ∧ t.loop[k].owFailed = false) ∧
      (|r2 - r0| ≤ 20000 → 20000 < |r1 - (r0 + r2) / 2 - 1000000| →
        t.loop[k].ow.state = 3 ∧ t.loop[k].owFailed = true ∧ t.loop[k].owPath = true) ∧
      LoopOnly { s with freeCtr := t.freeCtr } t k) ∧
    (Accepted s p (writeOf 12 3 [keyed 0x7B#8 (place 0 k.val ||| place 4 1)]) → ∃ t, exec (.trimPoint1 p 0x7B#8 k) s = .next t ∧ Took s t p ∧
      t.loop = (loopAt s k { s.loop[k] with trim := { s.loop[k].trim with
        state := 1, err := 0, point := 1, wfrom := none, i1 := trimRef s k.val, opAt := s.mono } }).loop ∧
      trimAct p k.val ∈ t.mnt.slot.toList.filterMap id ∧ t = { s with loop := t.loop, mnt := t.mnt, port := t.port, own := t.own }) ∧
    (Accepted s p (writeOf 12 3 [keyed 0x7B#8 (place 0 k.val ||| place 4 2)]) → ∃ t, exec (.trimPoint2 p 0x7B#8 k) s = .next t ∧ Took s t p ∧
      (s.loop[k].trim.state = 2 → t = { (loopAt s k { s.loop[k] with trim := { s.loop[k].trim with
        state := 1, err := 0, point := 2, wfrom := none, i2 := trimRef s k.val, opAt := s.mono } }) with port := t.port, own := t.own }) ∧
      (s.loop[k].trim.state = 0 → t.loop[k].trim.state = 5 ∧ t.loop[k].trim.err = 3)) ∧
    (Accepted s p (writeOf 12 3 [keyed 0x7B#8 (place 0 k.val ||| place 4 3)]) → ∃ t, exec (.trimCompute p 0x7B#8 k) s = .next t ∧ Took s t p ∧
      (s.loop[k].trim.state = 3 → trimResult s.loop[k].trim.i1 s.loop[k].trim.i2 s.loop[k].trim.raw1 s.loop[k].trim.raw2 = .ok (g, o) →
        t.loop[k].trim.state = 4 ∧ t.loop[k].trim.gain = g ∧ t.loop[k].trim.ofs = o) ∧
      (s.loop[k].trim.state = 3 → trimResult s.loop[k].trim.i1 s.loop[k].trim.i2 s.loop[k].trim.raw1 s.loop[k].trim.raw2 = .error e →
        t.loop[k].trim.state = 5 ∧ t.loop[k].trim.err = e) ∧
      (s.loop[k].trim.state ≠ 3 → t.loop[k].trim.state = 5 ∧ t.loop[k].trim.err = 3) ∧ t.regs = s.regs) ∧
    (Accepted s p (writeOf 12 3 [keyed 0x7B#8 (place 0 k.val ||| place 4 4)]) → ∃ t, exec (.trimAbort p 0x7B#8 k) s = .next t ∧ Took s t p ∧
      ((mntFind s 7 k.val).isSome = true → t.loop[k].trim.state = 5 ∧ t.loop[k].trim.err = 4) ∧
      ((mntFind s 7 k.val).isSome = false → t = { s with port := t.port, own := t.own })) ∧
    (s.loop[k].trim.state = 1 → s.loop[k].trim.wfrom = some f → ∃ t, exec (.trimPointDone k) s = .next t ∧ f + 1000000000 ≤ t.mono ∧
      (s.loop[k].trim.point = 1 → t.loop[k].trim = { s.loop[k].trim with
        state := 2, raw1 := s.loop[k].trim.sum / (s.loop[k].trim.cnt : Nat), wfrom := none }) ∧
      (s.loop[k].trim.point = 2 → t.loop[k].trim = { s.loop[k].trim with
        state := 3, raw2 := s.loop[k].trim.sum / (s.loop[k].trim.cnt : Nat), wfrom := none }) ∧ LoopOnly s t k) ∧
    ((mntFind s 7 k.val).isSome = true → ∃ t, exec (.trimTimeout k) s = .next t ∧ t.loop[k].trim.state = 5 ∧ t.loop[k].trim.err = 5 ∧
      s.loop[k].trim.opAt + 600000000000 ≤ t.mono ∧ t.led.bits[0].getLsbD 22 = true ∧ LoopOnly s t k)

/-- HART_GO, HART_CANCEL, HSCAN, HART_REQUEST_TX, HART_RESPONSE, HART_RESPONSE_TIMEOUT, HART_BURST, CARRIER_DETECT and HDIR_STORE_WRITE (R299 to R305, Table 10.3): a GO queues its request, a request goes out once the loop has been silent long enough, an accepted response ends the transaction DONE with its data, a missing, late or bad one leaves the try failed and the last try ends it FAILED, a burst frame is counted and kept, and the directory reaches its own store region alone. -/
def Obligations.Hart : Prop :=
  ∀ (s : State) (p : Port) (k : Chan) (ctl : Word) (fi la : BitVec 6) (fr : List Byte) (up : Bool) (e : DirEntry), Memory.wf 0xFF s.store = true →
    (Accepted s p (writeOf 13 (0x43 + 8 * k.val) [(ctl &&& 0xFF000000#32) ||| 1#32]) → ∃ t, exec (.hartGo p k ctl) s = .next t ∧ Took s t p ∧
      t = { (loopAt s k { s.loop[k] with hart := { s.loop[k].hart with
        job := 1, att := 0, waiting := false, state := 1, err := 0, nresp := 0, tries := 0, req := hartReq s k.val } }) with port := t.port, own := t.own }) ∧
    (Accepted s p (writeOf 13 (0x43 + 8 * k.val) [keyed 0x69#8 (place 0 2)]) → ∃ t, exec (.hartCancel p k) s = .next t ∧ Took s t p ∧
      (s.loop[k].hart.job = 1 → t.loop[k].hart.state = 4 ∧ t.loop[k].hart.err = 3 ∧ t.loop[k].hart.job = 0 ∧ t.loop[k].hart.waiting = false) ∧
      (s.loop[k].hart.job ≠ 1 → t = { s with port := t.port, own := t.own })) ∧
    (Accepted s p (writeOf 13 2 [keyed 0x5C#8 (place 0 k.val ||| place 4 fi.toNat ||| place 10 la.toNat)]) →
      ∃ t, exec (.hscan p 0x5C#8 k fi la) s = .next t ∧ Took s t p ∧
      t = { (loopAt s k { s.loop[k] with hart := { s.loop[k].hart with
        job := 2, att := 0, waiting := false, scan := some (fi.toNat, la.toNat), req := scanReq fi.toNat } }) with port := t.port, own := t.own }) ∧
    (s.loop[k].hart.job ≠ 0 → s.loop[k].hart.waiting = false → s.loop[k].hart.cd = false → hartRuns s k = true → hartHeld s k = false →
      ∃ t, exec (.hartRequestTx k) s = .next t ∧ t.loop[k].hart.waiting = true ∧ t.loop[k].hart.att = s.loop[k].hart.att + 1 ∧
        t.loop[k].hart.sentAt = t.mono + charTime (cfgField s 13 0 0 5 + s.loop[k].hart.req.length) ∧
        (0 < s.loop[k].hart.att → s.loop[k].hart.quietFrom + charTime 33 ≤ t.mono) ∧ (s.loop[k].hart.job = 1 → t.loop[k].hart.state = 2) ∧
        (∀ j : Chan, j ≠ k → t.loop[j] = s.loop[j]) ∧ t = { s with loop := t.loop, mono := t.mono, time := t.time, tm := t.tm }) ∧
    (s.loop[k].hart.waiting = true → hartRuns s k = true → s.loop[k].hart.job = 1 →
      (hartAccept s.loop[k].hart true fr = true → (hartData fr).getD 0 0 ≠ 32#8 → s.mono ≤ s.loop[k].hart.sentAt + charTime (28 + fr.length) → ∃ t, exec (.hartResponse k true fr) s = .next t ∧
        t.loop[k].hart.state = 3 ∧ t.loop[k].hart.err = 0 ∧ t.loop[k].hart.nresp = hartCount fr - 2 ∧
        t.loop[k].hart.rc = ((hartData fr).getD 0 0).toNat ∧ t.loop[k].hart.fds = ((hartData fr).getD 1 0).toNat ∧
        t.loop[k].hart.cmd = hartCmd fr ∧ t.loop[k].hart.job = 0) ∧
      (s.loop[k].hart.att < 1 + fieldOf (cfgWord s 13 0) 5 3 →
        exec (.hartResponse k false fr) s = .next (loopAt s k { s.loop[k] with hart := { s.loop[k].hart with
          waiting := false, quietFrom := s.mono
          failErr := if s.mono ≤ s.loop[k].hart.sentAt + charTime (28 + fr.length) then 2 else 1 } })) ∧
      (1 + fieldOf (cfgWord s 13 0) 5 3 ≤ s.loop[k].hart.att → ∃ t, exec (.hartResponseTimeout k) s = .next t ∧ t.loop[k].hart.state = 4 ∧
        t.loop[k].hart.err = 1 ∧ t.loop[k].hart.job = 0 ∧ s.loop[k].hart.sentAt + charTime 28 ≤ t.mono)) ∧
    (hartRuns s k = true → hartWhole fr = true → fr.getD 0 0 = 0x01#8 → ∃ t, exec (.hartBurst k true fr) s = .next t ∧
      t.loop[k].hart.bCount = (s.loop[k].hart.bCount + 1) % 65536 ∧ t.loop[k].hart.bLen = hartCount fr ∧ t.loop[k].hart.bCmd = hartCmd fr ∧
      t.loop[k].hart.burst.take 2 = [loWord s.time, hiWord s.time] ∧ t.loop[k].hart.burst.length = 68 ∧
      (∀ j : Chan, j ≠ k → t.loop[j] = s.loop[j]) ∧ t = { s with loop := t.loop }) ∧
    (hartRuns s k = true → ∃ t, exec (.carrierDetect k up) s = .next t ∧ t.loop[k].hart.cd = up ∧ (∀ j : Chan, j ≠ k → t.loop[j] = s.loop[j]) ∧
      t = { s with loop := t.loop }) ∧
    (dirEntryOf s 0x50 = some e → MpBusy s (selOf e.base) 6 → (∃ t, exec (.hdirStoreWrite true) s = .next t ∧ t.ld = { s.ld with hdirDirty := false } ∧
      (∀ a, a < e.base ∨ e.base + e.len ≤ a → memGet 0xFF t.store a = memGet 0xFF s.store a) ∧ t = { s with ld := t.ld, store := t.store, mp := t.mp }) ∧
      (∃ t, exec (.hdirStoreWrite false) s = .next t ∧ t.mp.progFail = min 255 (s.mp.progFail + 1) ∧ t = { s with mp := t.mp }))

/-- CHURN_OUTPUT, REPHASE, MODULATOR_OVERLOAD, SURVEY_CONVERSION_DONE, URGENT_REQUEST, CHAIN_TEST_START and CHAIN_TEST_STOP (R309, R311, R321, R326 to R332): between the edges of the grid a bit enters the three integrators, modulo 2^50, and nothing else moves; any number of bits moves its chain that many edges and no other loop; an accepted re-phase empties the chain at its t_p; an overload starts the chain again and is recorded; a conversion's result, the mean of its samples rounded towards minus infinity and kept to its item's range, stands in its channel or its flag, and urgent ones leave their queue in order; a chain test runs the fixed ratio of 4096. -/
def Obligations.ChurnAndSurvey : Prop :=
  ∀ (s : State) (p : Port) (k : Chan) (d : FDie) (x : Die) (bits : List Bool) (b : Bool) (tO tE n : Nat) (r : List (Nat × Nat)) (smp : List Int) (m lsb : Int)
    (u : UrgItem × Nat × Nat) (us : List (UrgItem × Nat × Nat)) (pat : BitVec 4),
    (s.loop[k].churn.running = true →
      (s.loop[k].churn.target = none → s.loop[k].churn.waiting = [] → s.loop[k].churn.test = none → onGrid s.loop[k].churn s.loop[k].churn.edge 1 = false →
        ∃ t, exec (.churnOutput k [b]) s = .next t ∧
          t.loop[k].churn.a1 = s.loop[k].churn.a1 + (if b then 1 else BitVec.ofInt 50 (-1)) ∧
          t.loop[k].churn.a2 = s.loop[k].churn.a2 + t.loop[k].churn.a1 ∧ t.loop[k].churn.a3 = s.loop[k].churn.a3 + t.loop[k].churn.a2 ∧
          t.loop[k].churn.z1 = s.loop[k].churn.z1 ∧ t.loop[k].churn.y1 = s.loop[k].churn.y1 ∧ t.loop[k].churn.bits = s.loop[k].churn.bits + 1 ∧
          t.loop[k].out = s.loop[k].out ∧ t = { s with loop := t.loop }) ∧
      (∃ t, exec (.churnOutput k bits) s = .next t ∧ t.loop[k].churn.edge = s.loop[k].churn.edge + bits.length ∧
        (∀ j : Chan, j ≠ k → t.loop[j] = s.loop[j]) ∧ t = { s with loop := t.loop, ld := t.ld, mono := t.mono, time := t.time, tm := t.tm })) ∧
    (s.loop[k].churn.target = none → s.loop[k].churn.waiting = (tO, tE) :: r → s.loop[k].churn.edge ≤ tO - (79 * s.loop[k].churn.n - 3) →
      ∃ t, exec (.rephase k) s = .next t ∧ t.loop[k].churn.target = some tO ∧ t.loop[k].churn.waiting = r ∧ t.loop[k].churn.grid = tO ∧
        t.loop[k].churn.edge = tO - (79 * s.loop[k].churn.n - 3) ∧ t.loop[k].churn.bits = 0 ∧ t.loop[k].churn.lateTarget = false ∧
        t.loop[k].churn.h2 = [] ∧ t.loop[k].churn.h3 = [] ∧ t.loop[k].churn.rpLate = s.loop[k].churn.rpLate ∧ LoopOnly s t k) ∧
    (modulatorOn s k = true → uplinksDown s ldDie = false → ∃ t, exec (.modulatorOverload k) s = .next t ∧
      t.loop[k].churn.ovl = min 255 (s.loop[k].churn.ovl + 1) ∧ t.loop[k].churn.starts = min 255 (s.loop[k].churn.starts + 1) ∧
      t.loop[k].churn.clean = false ∧ t.loop[k].churn.seq = 0 ∧ t.loop[k].churn.running = true ∧ t.led.bits[2].getLsbD 5 = true ∧ LoopOnly s t k) ∧
    (svRuns s (toDie d) = true → s.survey[toDie d].urgent = false → s.survey[toDie d].queue = [] →
      n = 2 ^ (min 4 (svField s (toDie d) 5 3)) → m = (smp.take n).foldl (· + ·) 0 / (n : Nat) →
      (s.survey[toDie d].item = .chI k.val → ∃ t, exec (.surveyConversionDone (toDie d) smp lsb) s = .next t ∧
        t.field[d].ch[k].routineI = max (-1500000) (min 14500000 m) ∧ t.survey[toDie d].item = .chV k.val) ∧
      (s.survey[toDie d].item = .chV k.val → ∃ t, exec (.surveyConversionDone (toDie d) smp lsb) s = .next t ∧
        t.field[d].ch[k].vMv = max (-80000) (min 80000 m) ∧ t.field[d].ch[k].iUa = s.field[d].ch[k].routineI ∧
        s.survey[toDie d].startAt + convTime s (toDie d) ≤ t.mono ∧ t.survey[toDie d].startAt = t.mono) ∧
      (s.survey[toDie d].item = .aux → ∃ t, exec (.surveyConversionDone (toDie d) smp lsb) s = .next t ∧
        ((m < 4750 ∨ 5250 < m) → t.survey[toDie d].supErr = true) ∧
        (4750 ≤ m → m ≤ 5250 → s.survey[toDie d].okSup = 1 → t.survey[toDie d].supErr = false))) ∧
    (svRuns s x = true → s.survey[x].urgent = true → s.survey[x].queue = u :: us → ∃ t, exec (.surveyConversionDone x smp lsb) s = .next t ∧
      t.survey[x].queue = us ∧ t.survey[x].urgCount = (s.survey[x].urgCount + 1) % 65536 ∧ s.survey[x].startAt + convTime s x ≤ t.mono) ∧
    (svRuns s (toDie d) = true → s.survey[toDie d].queue = u :: us → s.survey[toDie d].urgent = false →
      (s.survey[toDie d].guard = false → ∃ t, exec (.urgentRequest (toDie d)) s = .next t ∧ t.survey[toDie d].urgent = true ∧
        t.survey[toDie d].aborts = s.survey[toDie d].aborts + 1 ∧ t.survey[toDie d].startAt = s.mono ∧ t.survey[toDie d].queue = u :: us ∧
        (∀ y : Die, y ≠ toDie d → t.survey[y] = s.survey[y]) ∧ t = { s with survey := t.survey }) ∧
      (s.survey[toDie d].guard = true → exec (.urgentRequest (toDie d)) s = .next s)) ∧
    (Accepted s p (writeOf 14 0x30 [keyed 0x3E#8 (place 0 k.val ||| place 4 1 ||| place 6 (pat.toNat % 4))]) →
      ∃ t, exec (.chainTestStart p 0x3E#8 k pat) s = .next t ∧ Took s t p ∧ t.loop[k].churn.test = some (BitVec.ofNat 2 (pat.toNat % 4)) ∧
        t.loop[k].churn.n = 4096 ∧ t.loop[k].churn.set = 0 ∧ t.loop[k].churn.running = true ∧ t.loop[k].churn.bits = 0 ∧
        t.ld = { s.ld with cvState := 1, cvLoop := k.val, cvOuts := 0 } ∧ (∀ j : Chan, j ≠ k → t.loop[j] = s.loop[j]) ∧
        t = { s with loop := t.loop, ld := t.ld, mnt := t.mnt, port := t.port, own := t.own }) ∧
    (Accepted s p (writeOf 14 0x30 [keyed 0x3E#8 (place 0 k.val ||| place 4 2)]) → ∃ t, exec (.chainTestStop p 0x3E#8 k) s = .next t ∧ Took s t p ∧
      (s.loop[k].churn.test.isSome = true → t.loop[k].churn.test = none ∧ t.ld = { s.ld with cvState := 2 }) ∧
      (s.loop[k].churn.test = none → t = { s with port := t.port, own := t.own }))

/-! ### The block as a whole -/

/-- The model's step (log entries 5 and 7): the command at the front of the queue runs on the state with the queue's rest, and its outcome is the step's. -/
def Obligations.StepRunsCommand : Prop :=
  ∀ (s : State) (c : Instr) (r : List Instr), s.pending = c :: r → step s = exec c { s with pending := r }

/-- State.reset (R6, R48, R49, R68, R96, R169, R215, R386; the values that the spec's reset columns give): control die in reset with RSTCAUSE POR, mode BOOT with LASTCAUSE 2, no owner, the ports' LAST 0x7F, every lane HALTED in state 7 with LSLACK all ones, both time-master sections in service, every switch off and NOACT 1 at every field die, no permit, no barrier power, no die ready; and FAULT_N, RSTOUT_N and MP_RST_N low. -/
def Obligations.ResetValues : Prop :=
  State.reset.boot.inReset = true ∧ readSys State.reset 0x10 = 1 ∧ readSys State.reset 0x20 &&& 0xFFF#32 = 0x200#32 ∧
    readOwn State.reset 0 &&& 0x3#32 = 3 ∧ (∀ p : Port, State.reset.port[p].last = 0x7F#8) ∧
    (∀ l : Lane, readLane State.reset (0x10 + l.val) = 7 ∧ readLane State.reset (0x1C + l.val) = 0xFFFFFFFF#32 ∧ State.reset.lane[l].run = .halted) ∧
    State.reset.tm.sect = 3 ∧ (∀ (d : FDie) (k : Chan), State.reset.field[d].ch[k].st = .off ∧ State.reset.field[d].noact = true) ∧
    State.reset.permits = 0 ∧ State.reset.pwr.bpwr = 0 ∧ (∀ d : Die, ready State.reset d = false) ∧
    faultNLow State.reset = true ∧ State.reset.boot.rstoutLow = true ∧ State.reset.boot.mpRstLow = true ∧ State.reset.pending = []

/-- The invariant of every step holds after reset. -/
def Obligations.ResetInvariant : Prop := Inv State.reset

/-- Every step keeps the canonical forms of store, lane memories, image and register maps, and every PC a multiple of 4 (R4, R145), from any state that has them: whatever command stands in front, and for the idle tick. -/
def Obligations.StepInvariant : Prop := ∀ s t : State, Inv s → step s = .next t → Inv t

/-- No command puts a command into the queue, takes one out or changes the pads that belong to the test access port and the I/O supplies (R50, R52): only TAP_INSTRUCTION changes the TAP instruction, and only VDDIO_ABSENT the rails; and every command answers a next state (no fault and no refusal exists in this model: log entry 6). -/
def Obligations.QueueAndPads : Prop :=
  ∀ (c : Instr) (s : State), ∃ t, exec c s = .next t ∧ t.pending = s.pending ∧
    ((∀ i cs xs, c ≠ .tapInstruction i cs xs) → t.tap = s.tap) ∧ ((∀ r b, c ≠ .vddioAbsent r b) → t.vddio = s.vddio)
end

