-- ==== Sys2Proof/Laws/Memory.lean ====
section
/-!
SUPPORT. Laws of the canonical association lists: every operation keeps the form; a read after a write to the same address gives the value written, and every other address reads as before.
-/

namespace Sys2Proof.Machine

section
variable {α : Type} [DecidableEq α] {d : α}

/-- The form from a higher start is the form from a lower one. -/
theorem amWfFrom_mono {lo lo' : Nat} (h : lo' ≤ lo) {m : List (Nat × α)} (hm : amWfFrom d lo m = true) : amWfFrom d lo' m = true := by
  cases m with
  | nil => rfl
  | cons e r =>
    obtain ⟨a, v⟩ := e
    simp only [amWfFrom, Bool.and_eq_true, decide_eq_true_eq] at hm ⊢
    exact ⟨⟨by omega, hm.1.2⟩, hm.2⟩

/-- Below the first address nothing is listed. -/
theorem amGet_below {lo k : Nat} (h : k < lo) {m : List (Nat × α)} (hm : amWfFrom d lo m = true) : amGet d m k = d := by
  cases m with
  | nil => rfl
  | cons e r =>
    obtain ⟨a, v⟩ := e
    simp only [amWfFrom, Bool.and_eq_true, decide_eq_true_eq] at hm
    have : ¬ a = k := by omega
    simp [amGet, this, show k < a by omega]

theorem amWfFrom_amSet {lo k : Nat} (hk : lo ≤ k) (v : α) {m : List (Nat × α)} (hm : amWfFrom d lo m = true) :
    amWfFrom d lo (amSet d m k v) = true := by
  induction m generalizing lo with
  | nil => simp only [amSet]; split <;> simp_all [amWfFrom]
  | cons e r ih =>
    obtain ⟨a, w⟩ := e
    simp only [amWfFrom, Bool.and_eq_true, decide_eq_true_eq] at hm
    obtain ⟨⟨h1, h2⟩, h3⟩ := hm
    simp only [amSet]
    split
    · split
      · simp [amWfFrom, h1, h2, h3]
      · rename_i h4 h5
        simp [amWfFrom, hk, h5, h2, h3, show k + 1 ≤ a by omega]
    · split
      · split
        · exact amWfFrom_mono (by omega) h3
        · rename_i h4 h5 h6
          subst h5
          simp [amWfFrom, h1, h6, h3]
      · simp only [amWfFrom, Bool.and_eq_true, decide_eq_true_eq]
        exact ⟨⟨h1, h2⟩, ih (by omega) h3⟩

/-- A write keeps the canonical form. -/
theorem amWf_amSet (k : Nat) (v : α) {m : List (Nat × α)} (hm : amWf d m = true) : amWf d (amSet d m k v) = true :=
  amWfFrom_amSet (Nat.zero_le k) v hm

theorem amGet_amSet_same_from {lo : Nat} (k : Nat) (v : α) {m : List (Nat × α)} (hm : amWfFrom d lo m = true) :
    amGet d (amSet d m k v) k = v := by
  induction m generalizing lo with
  | nil => simp only [amSet]; split <;> simp_all [amGet]
  | cons e r ih =>
    obtain ⟨a, w⟩ := e
    simp only [amWfFrom, Bool.and_eq_true, decide_eq_true_eq] at hm
    obtain ⟨⟨h1, h2⟩, h3⟩ := hm
    simp only [amSet]
    split
    · split
      · rename_i h4 h5
        simp [amGet, show ¬ a = k by omega, h4, h5]
      · simp [amGet]
    · split
      · rename_i h4 h5
        split
        · rename_i h6
          rw [h6]; exact amGet_below (by omega) h3
        · simp [amGet]
      · rename_i h4 h5
        simp only [amGet, h5, h4, if_false]
        exact ih h3

/-- A read after a write to the same address gives the value written. -/
theorem amGet_amSet_same (k : Nat) (v : α) {m : List (Nat × α)} (hm : amWf d m = true) : amGet d (amSet d m k v) k = v :=
  amGet_amSet_same_from k v hm

theorem amGet_amSet_other_from {lo k j : Nat} (h : j ≠ k) (v : α) {m : List (Nat × α)} (hm : amWfFrom d lo m = true) :
    amGet d (amSet d m k v) j = amGet d m j := by
  induction m generalizing lo with
  | nil =>
    simp only [amSet]
    split
    · rfl
    · simp [amGet, Ne.symm h]
  | cons e r ih =>
    obtain ⟨a, w⟩ := e
    simp only [amWfFrom, Bool.and_eq_true, decide_eq_true_eq] at hm
    obtain ⟨⟨h1, h2⟩, h3⟩ := hm
    simp only [amSet]
    split
    · rename_i h4
      split
      · rfl
      · simp only [amGet, Ne.symm h, if_false]
        split
        · rename_i h5
          simp [show ¬ a = j by omega, show j < a by omega]
        · rfl
    · split
      · rename_i h4 h5
        subst h5
        split
        · simp only [amGet, Ne.symm h, if_false]
          split
          · exact amGet_below (by omega) h3
          · rfl
        · simp [amGet, Ne.symm h]
      · simp only [amGet]
        split
        · rfl
        · split
          · rfl
          · exact ih h3

/-- Every other address reads as before. -/
theorem amGet_amSet_other {k j : Nat} (h : j ≠ k) (v : α) {m : List (Nat × α)} (hm : amWf d m = true) :
    amGet d (amSet d m k v) j = amGet d m j :=
  amGet_amSet_other_from h v hm

/-- Taking entries out keeps the form. -/
theorem amWfFrom_filter (p : Nat × α → Bool) {lo : Nat} {m : List (Nat × α)} (hm : amWfFrom d lo m = true) :
    amWfFrom d lo (m.filter p) = true := by
  induction m generalizing lo with
  | nil => rfl
  | cons e r ih =>
    obtain ⟨a, w⟩ := e
    simp only [amWfFrom, Bool.and_eq_true, decide_eq_true_eq] at hm
    obtain ⟨⟨h1, h2⟩, h3⟩ := hm
    simp only [List.filter_cons]
    split
    · simp only [amWfFrom, Bool.and_eq_true, decide_eq_true_eq]
      exact ⟨⟨h1, h2⟩, ih h3⟩
    · exact amWfFrom_mono (by omega) (ih h3)

theorem amWf_amErase (lo hi : Nat) {m : List (Nat × α)} (hm : amWf d m = true) : amWf d (amErase m lo hi) = true :=
  amWfFrom_filter _ hm

/-- Two canonical lists, every address of the first below `b` and the second canonical from `b`, join to one. -/
theorem amWfFrom_append {lo b : Nat} {m n : List (Nat × α)} (hm : amWfFrom d lo m = true) (hb : ∀ e ∈ m, e.1 < b)
    (hl : lo ≤ b) (hn : amWfFrom d b n = true) : amWfFrom d lo (m ++ n) = true := by
  induction m generalizing lo with
  | nil => exact amWfFrom_mono hl hn
  | cons e r ih =>
    obtain ⟨a, w⟩ := e
    simp only [amWfFrom, Bool.and_eq_true, decide_eq_true_eq, List.cons_append] at hm ⊢
    have := hb (a, w) (by simp)
    exact ⟨hm.1, ih hm.2 (fun e he => hb e (by simp [he])) (by simpa using this)⟩

/-- Entries at or above `b` of a canonical list are canonical from `b`. -/
theorem amWfFrom_above (p : Nat × α → Bool) {lo b : Nat} (hp : ∀ e, p e = true → b ≤ e.1) {m : List (Nat × α)}
    (hm : amWfFrom d lo m = true) : amWfFrom d b (m.filter p) = true := by
  induction m generalizing lo with
  | nil => rfl
  | cons e r ih =>
    obtain ⟨a, w⟩ := e
    simp only [amWfFrom, Bool.and_eq_true, decide_eq_true_eq] at hm
    obtain ⟨⟨h1, h2⟩, h3⟩ := hm
    simp only [List.filter_cons]
    split
    · rename_i h4
      simp only [amWfFrom, Bool.and_eq_true, decide_eq_true_eq]
      exact ⟨⟨hp _ h4, h2⟩, amWfFrom_filter _ h3⟩
    · exact ih h3

/-- A copied range keeps the form. -/
theorem amWf_amCopy {lo hi : Nat} (h : lo ≤ hi) {m n : List (Nat × α)} (hm : amWf d m = true) (hn : amWf d n = true) :
    amWf d (amCopy m n lo hi) = true := by
  simp only [amCopy, List.append_assoc]
  refine amWfFrom_append (b := lo) (amWfFrom_filter _ hm) (by simp) (Nat.zero_le lo) ?_
  refine amWfFrom_append (b := hi) (amWfFrom_above _ (by simp; omega) hn) (by simp) h ?_
  exact amWfFrom_above _ (by simp) hm

end

/-- Bytes put into a canonical memory leave it canonical. -/
theorem memPut_wf (d : Byte) (bs : List Byte) {m : Memory} (a : Nat) (hm : Memory.wf d m = true) : Memory.wf d (memPut d m a bs) = true := by
  induction bs generalizing m a with
  | nil => exact hm
  | cons b bs ih => exact ih (a + 1) (amWf_amSet a b hm)

/-- Addresses outside the bytes put read as before. -/
theorem memGet_memPut_outside (d : Byte) (bs : List Byte) {m : Memory} (a j : Nat) (hm : Memory.wf d m = true)
    (h : j < a ∨ a + bs.length ≤ j) : memGet d (memPut d m a bs) j = memGet d m j := by
  induction bs generalizing m a with
  | nil => rfl
  | cons b bs ih =>
    simp only [List.length_cons] at h
    have h1 := ih (a + 1) (amWf_amSet (d := d) a b hm) (by omega)
    have h2 : amGet d (amSet d m a b) j = amGet d m j := amGet_amSet_other (by omega) b hm
    exact h1.trans h2

/-- The bytes put are read back. -/
theorem memGet_memPut_inside (d : Byte) (bs : List Byte) {m : Memory} (a i : Nat) (hm : Memory.wf d m = true)
    (h : i < bs.length) : memGet d (memPut d m a bs) (a + i) = bs[i] := by
  induction bs generalizing m a i with
  | nil => simp at h
  | cons b bs ih =>
    have hw := amWf_amSet (d := d) a b hm
    cases i with
    | zero =>
      refine (memGet_memPut_outside d bs (a + 1) a hw (by omega)).trans ?_
      exact amGet_amSet_same a b hm
    | succ i =>
      have := ih (a + 1) i hw (by simpa using h)
      simpa [memPut, memSet, Nat.add_assoc, Nat.add_comm 1 i] using this

end Sys2Proof.Machine
end

