-- ==== Sys2Proof/Laws/Kept.lean ====
section
/-!
SUPPORT. What every shared operation keeps: the invariant of every step, the queue, the test access port and the rails.
-/

namespace Sys2Proof.Machine

/-- From `s` to `t` the queue, the test access port and the rails stand, and the invariant goes over. -/
structure Kept (s t : State) : Prop where
  pending : t.pending = s.pending
  tap : t.tap = s.tap
  vddio : t.vddio = s.vddio
  inv : Inv s → Inv t

/-- The part of the invariant that is about one lane. -/
abbrev LaneOk (x : LaneSt) : Prop := Memory.wf 0 x.mem = true ∧ x.pc.toNat % 4 = 0

theorem Kept.refl (s : State) : Kept s s := ⟨rfl, rfl, rfl, id⟩

variable {s0 s : State}

/-- A state written out as a record. -/
theorem Kept.record {pending : List Instr} {freeCtr : Nat} {time : Nat} {mono : Nat} {regs : RegMap} {shadow : RegMap} {vddio : BitVec 5} {tap : TapSt} {irqStat : Vector (BitVec 13) 2} {boot : BootSt} {attest : AttestSt} {jrn : JrnSt} {md : ModeSt} {pwr : PwrSt} {tm : TmSt} {ws : WsSt} {cyc : CycSt} {lane : Vector LaneSt 3} {port : Vector PortSt 3} {peer : PeerSt} {store : Memory} {mp : MpSt} {pl : PlSt} {own : OwnSt} {app : ApplySt} {wd : Vector WdSt 4} {led : LedSt} {mnt : MntSt} {snap : SnapSt} {mbox : MboxSt} {hub : HubSt} {nomaj : Vector Nat 5} {die : Vector DieSt 5} {field : Vector FieldSt 4} {gov : GovSt} {survey : Vector SurveySt 5} {loop : Vector LoopSt 16} {ld : LdSt} {can : Vector CanSt 2} {rxStage : List StageRec} {permits : BitVec 64} {coreDown : Bool}
    (p : pending = s.pending) (ta : tap = s.tap) (vd : vddio = s.vddio)
    (st : Memory.wf 0xFF s.store = true → Memory.wf 0xFF store = true)
    (ln : (∀ k : Lane, LaneOk s.lane[k]) → ∀ k : Lane, LaneOk lane[k])
    (im : Memory.wf 0 s.cyc.image = true → Memory.wf 0 cyc.image = true)
    (rg : amWf 0 s.regs = true → amWf 0 regs = true) (sh : amWf 0 s.shadow = true → amWf 0 shadow = true)
    (en : s.boot.entry.toNat % 4 = 0 → boot.entry.toNat % 4 = 0) (h : Kept s0 s) :
    Kept s0 (State.mk pending freeCtr time mono regs shadow vddio tap irqStat boot attest jrn md pwr tm ws cyc lane port peer store mp pl own app wd led mnt snap mbox hub nomaj die field gov survey loop ld can rxStage permits coreDown) where
  pending := p.trans h.pending
  tap := ta.trans h.tap
  vddio := vd.trans h.vddio
  inv hi :=
    have hs := h.inv hi
    have hl := ln fun k => ⟨hs.mem k, hs.pc k⟩
    { store := st hs.store, mem := fun k => (hl k).1, image := im hs.image, regs := rg hs.regs, shadow := sh hs.shadow,
      pc := fun k => (hl k).2, entry := en hs.entry }

theorem Kept.step {a t : State} (ha : Kept s0 a) (h : Kept s0 a → Kept s0 t) : Kept s0 t := h ha

theorem Kept.ite {c : Prop} [Decidable c] {a b : State} (ha : c → Kept s0 a) (hb : ¬c → Kept s0 b) : Kept s0 (if c then a else b) := by
  split
  · exact ha ‹_›
  · exact hb ‹_›

theorem Kept.foldl {α : Type} {f : State → α → State} (hf : ∀ t a, Kept s0 t → Kept s0 (f t a)) (l : List α) (h : Kept s0 s) :
    Kept s0 (l.foldl f s) := by
  induction l generalizing s with
  | nil => exact h
  | cons a l ih => exact ih (hf s a h)

theorem laneOk_vmod {v : Vector LaneSt 3} {l : Lane} {f : LaneSt → LaneSt} (hf : ∀ x, LaneOk x → LaneOk (f x))
    (h : ∀ k : Lane, LaneOk v[k]) : ∀ k : Lane, LaneOk (vmod v l f)[k] := by
  intro k
  simp only [vmod, Fin.getElem_fin, Vector.getElem_set]
  split
  · exact hf _ (h l)
  · exact h k

theorem laneOk_map {v : Vector LaneSt 3} {f : LaneSt → LaneSt} (hf : ∀ x, LaneOk x → LaneOk (f x)) (h : ∀ k : Lane, LaneOk v[k]) :
    ∀ k : Lane, LaneOk (v.map f)[k] := by
  intro k
  simp only [Fin.getElem_fin, Vector.getElem_map]
  exact hf _ (h k)

theorem laneOk_set {v : Vector LaneSt 3} {l : Lane} {x : LaneSt} (hx : LaneOk x) (h : ∀ k : Lane, LaneOk v[k]) :
    ∀ k : Lane, LaneOk (v.set l x)[k] := by
  intro k
  simp only [Fin.getElem_fin, Vector.getElem_set]
  split
  · exact hx
  · exact h k

theorem Kept.lane1 {l : Lane} {x : LaneSt} (hx : LaneOk s.lane[l] → LaneOk x) (h : Kept s0 s) : Kept s0 { s with lane := s.lane.set l x } :=
  Kept.record rfl rfl rfl id (fun hs => laneOk_set (hx (hs l)) hs) id id id id h

/-- Values written one after another at rising keys, the default ones left out. -/
theorem amWfFrom_zip (d : Byte) (bs : List Byte) (a n : Nat) :
    amWfFrom d (a + n) (((bs.zipIdx n).map fun e => (a + e.2, e.1)).filter fun e => decide (e.2 ≠ d)) = true := by
  induction bs generalizing n with
  | nil => rfl
  | cons b bs ih =>
    have hh := ih (n + 1)
    simp only [List.zipIdx_cons, List.map_cons, List.filter_cons]
    split
    · rename_i hb
      simp only [amWfFrom, Bool.and_eq_true, decide_eq_true_eq, Nat.le_refl, true_and]
      exact ⟨by simpa using hb, hh⟩
    · exact amWfFrom_mono (by omega) hh

/-- A block written leaves a canonical memory canonical. -/
theorem memBlock_wf (d : Byte) {m : Memory} (a : Nat) (bs : List Byte) (hm : Memory.wf d m = true) :
    Memory.wf d (memBlock d m a bs) = true := by
  have hlt : ∀ e ∈ ((bs.zipIdx.map fun e => (a + e.2, e.1)).filter fun e => decide (e.2 ≠ d)), e.1 < a + bs.length := by
    intro e he
    simp only [List.mem_filter, List.mem_map] at he
    obtain ⟨⟨x, hx, rfl⟩, -⟩ := he
    have := List.snd_lt_of_mem_zipIdx hx
    simp only at this ⊢; omega
  simp only [memBlock, List.append_assoc]
  refine amWfFrom_append (b := a) (amWfFrom_filter _ hm) (by simp) (Nat.zero_le a) ?_
  refine amWfFrom_append (b := a + bs.length) (by simpa using amWfFrom_zip d bs a 0) hlt (by omega) ?_
  exact amWfFrom_above _ (fun e he => by simpa using he) hm

section
variable {α : Type} [DecidableEq α] {d : α}

/-- Values changed in place, the default ones left out. -/
theorem amWfFrom_filterMap (g : Nat × α → α) {lo : Nat} {m : List (Nat × α)} (hm : amWfFrom d lo m = true) :
    amWfFrom d lo (m.filterMap fun e => if g e = d then none else some (e.1, g e)) = true := by
  induction m generalizing lo with
  | nil => rfl
  | cons e r ih =>
    simp only [amWfFrom, Bool.and_eq_true, decide_eq_true_eq] at hm
    obtain ⟨⟨h1, h2⟩, h3⟩ := hm
    have := ih h3
    by_cases hg : g e = d
    · simp only [List.filterMap_cons, hg, if_true]
      exact amWfFrom_mono (by omega) this
    · simp only [List.filterMap_cons, hg, if_false, amWfFrom, Bool.and_eq_true, decide_eq_true_eq]
      exact ⟨⟨h1, by simp⟩, this⟩

theorem amWf_foldl {β : Type} (k : β → Nat) (v : List (Nat × α) → β → α) (l : List β) {m : List (Nat × α)} (hm : amWf d m = true) :
    amWf d (l.foldl (fun m e => amSet d m (k e) (v m e)) m) = true := by
  induction l generalizing m with
  | nil => exact hm
  | cons e l ih => exact ih (amWf_amSet _ _ hm)

end

theorem srPart_wf {m : RegMap} (hm : amWf 0 m = true) : amWf 0 (srPart m) = true :=
  amWfFrom_filterMap (fun e => e.2 &&& srMask e.1) hm

theorem takeSr_wf {m : RegMap} (c : RegMap) (hm : amWf 0 m = true) : amWf 0 (takeSr m c) = true :=
  amWf_foldl (fun e : Nat × Word => e.1) (fun _ e => e.2) c (amWfFrom_filter (fun e => decide (srMask e.1 = 0)) hm)

theorem csLoad_wf {m : RegMap} (rs : List (Nat × Word × Bool)) (hm : amWf 0 m = true) : amWf 0 (csLoad m rs) = true :=
  amWf_foldl (fun e => e.1) (fun m e => rmGet m e.1 ||| e.2.1) rs (amWfFrom_filterMap (fun e => e.2 &&& ~~~(csMask e.1)) hm)

theorem regsPut_wf {m : RegMap} (key : Nat) (ws : List Word) (hm : amWf 0 m = true) : amWf 0 (regsPut m key ws) = true := by
  induction ws generalizing m key with
  | nil => exact hm
  | cons w ws ih => exact ih _ (amWf_amSet key w hm)

theorem putWords_wf {m : RegMap} (key : Nat) (ws : List Word) (hm : amWf 0 m = true) : amWf 0 (putWords m key ws) = true := by
  induction ws generalizing m key with
  | nil => exact hm
  | cons w ws ih => exact ih _ (amWf_amSet key w hm)

theorem putSlots_wf {m : Memory} (l : List StageRec) (hm : Memory.wf 0 m = true) : Memory.wf 0 (putSlots m l) = true := by
  unfold putSlots
  induction l generalizing m with
  | nil => exact hm
  | cons x l ih =>
    refine ih ?_
    dsimp only
    split
    · exact memBlock_wf 0 _ _ hm
    · exact hm

theorem Kept.of_shadow (h : Kept s0 s) : Kept s0 (discardShadows s) where
  pending := h.pending
  tap := h.tap
  vddio := h.vddio
  inv hi := have hs := h.inv hi
    { store := hs.store, mem := hs.mem, image := hs.image, regs := hs.regs, shadow := srPart_wf hs.regs, pc := hs.pc, entry := hs.entry }

theorem startMem_wf {m : Memory} (r : Option (List Byte)) (hm : Memory.wf 0 m = true) : Memory.wf 0 (startMem m r) = true := by
  unfold startMem
  cases r with
  | none => exact amWfFrom_filter _ hm
  | some bs => exact memBlock_wf 0 _ _ (amWfFrom_filter _ hm)

theorem regsReset_wf : amWf 0 regsReset = true := by decide +kernel

theorem copyBlocks_wf {m n : Memory} (bs : List Nat) (hm : Memory.wf 0 m = true) (hn : Memory.wf 0 n = true) :
    Memory.wf 0 (copyBlocks m n bs) = true := by
  unfold copyBlocks
  induction bs generalizing m with
  | nil => exact hm
  | cons b bs ih => exact ih (amWf_amCopy (by omega) hm hn)

theorem withClock_kept {a1 : Clock} (h : Kept s0 s) : Kept s0 (withClock s a1) := by
  unfold withClock
  repeat' (first | assumption | with_reducible exact Kept.record rfl rfl rfl id id id id id id (by assumption))

theorem timeTo_kept {a1 : Nat} (h : Kept s0 s) : Kept s0 (timeTo s a1) := by
  unfold timeTo
  repeat' (first | assumption | with_reducible apply Kept.ite | intro _ | refine Kept.record rfl rfl rfl id id id id id id ?_)

theorem monoTo_kept {a1 : Nat} (h : Kept s0 s) : Kept s0 (monoTo s a1) := by
  unfold monoTo
  repeat' (first | assumption | with_reducible apply Kept.ite | intro _ | refine Kept.record rfl rfl rfl id id id id id id ?_)

theorem useFree_kept  (h : Kept s0 s) : Kept s0 (useFree s) := by
  unfold useFree
  repeat' (first | assumption | refine Kept.record rfl rfl rfl id id id id id id ?_)

theorem putReg_kept {a1 : Nat} {a2 : Nat} {a3 : Word} (h : Kept s0 s) : Kept s0 (putReg s a1 a2 a3) := Kept.record rfl rfl rfl id id id (amWf_amSet _ _) id id h

theorem irq_kept {a1 : Nat} (h : Kept s0 s) : Kept s0 (irq s a1) := by
  unfold irq
  repeat' (first | assumption | refine Kept.record rfl rfl rfl id id id id id id ?_)

theorem irqQuote_kept {a1 : Port} (h : Kept s0 s) : Kept s0 (irqQuote s a1) := by
  unfold irqQuote
  repeat' (first | assumption | refine Kept.record rfl rfl rfl id id id id id id ?_)

theorem ledgerOf_kept {a1 : Nat} {a2 : Nat} {a3 : Nat} {a4 : Nat} {a5 : Nat} (h : Kept s0 s) : Kept s0 (ledgerOf s a1 a2 a3 a4 a5) := by
  unfold ledgerOf
  repeat' (first | assumption | with_reducible apply irq_kept | with_reducible apply Kept.ite | with_reducible exact Kept.record rfl rfl rfl id id id id id id (by assumption) | intro _)

theorem ledgerAt_kept {a1 : Nat} {a2 : Nat} {a3 : Nat} {a4 : Nat} (h : Kept s0 s) : Kept s0 (ledgerAt s a1 a2 a3 a4) := by
  unfold ledgerAt
  repeat' (first | assumption | with_reducible apply ledgerOf_kept)

theorem ledger_kept {a1 : Nat} {a2 : Nat} {a3 : Nat} {a4 : Nat} (h : Kept s0 s) : Kept s0 (ledger s a1 a2 a3 a4) := by
  unfold ledger
  repeat' (first | assumption | with_reducible apply ledgerAt_kept)

theorem dieLedger_kept {a1 : Die} {a2 : Nat} {a3 : Nat} {a4 : Nat} (h : Kept s0 s) : Kept s0 (dieLedger s a1 a2 a3 a4) := by
  unfold dieLedger
  repeat' (first | assumption | with_reducible apply ledgerAt_kept | with_reducible apply Kept.ite | intro _ | refine Kept.record rfl rfl rfl id id id id id id ?_)

theorem sendKept_kept {a1 : Die} (h : Kept s0 s) : Kept s0 (sendKept s a1) := by
  unfold sendKept
  repeat' (first | assumption | with_reducible apply ledgerOf_kept | with_reducible apply Kept.foldl | with_reducible exact Kept.record rfl rfl rfl id id id id id id (by assumption) | intro _)

theorem mntRefuse_kept {a1 : Nat} {a2 : MntRef} (h : Kept s0 s) : Kept s0 (mntRefuse s a1 a2) := by
  unfold mntRefuse
  repeat' (first | assumption | refine Kept.record rfl rfl rfl id id id id id id ?_)

theorem mntStart_kept {a1 : ActSt} (h : Kept s0 s) : Kept s0 (mntStart s a1) := by
  unfold mntStart
  repeat' (first | assumption | split | refine Kept.record rfl rfl rfl id id id id id id ?_)

theorem updTest_kept {a1 : Nat} {a2 : Nat} {a3 : ActSt → ActSt} (h : Kept s0 s) : Kept s0 (updTest s a1 a2 a3) := by
  unfold updTest
  repeat' (first | assumption | with_reducible exact Kept.record rfl rfl rfl id id id id id id (by assumption))

theorem mntEnd_kept {a1 : Nat} {a2 : Nat} (h : Kept s0 s) : Kept s0 (mntEnd s a1 a2) := by
  unfold mntEnd
  repeat' (first | assumption | with_reducible apply ledger_kept | split | refine Kept.record rfl rfl rfl id id id id id id ?_)

theorem mntEndOf_kept {a1 : Nat} {a2 : Nat} {a3 : Nat} (h : Kept s0 s) : Kept s0 (mntEndOf s a1 a2 a3) := by
  unfold mntEndOf
  repeat' (first | assumption | with_reducible apply mntEnd_kept | split)

theorem updLane_kept {a1 : Lane} {a2 : LaneSt → LaneSt} (hf : ∀ x, LaneOk x → LaneOk (a2 x)) (h : Kept s0 s) : Kept s0 (updLane s a1 a2) := Kept.record rfl rfl rfl id (laneOk_vmod hf) id id id id h

theorem updDie_kept {a1 : Die} {a2 : DieSt → DieSt} (h : Kept s0 s) : Kept s0 (updDie s a1 a2) := by
  unfold updDie
  repeat' (first | assumption | refine Kept.record rfl rfl rfl id id id id id id ?_)

theorem updPort_kept {a1 : Port} {a2 : PortSt → PortSt} (h : Kept s0 s) : Kept s0 (updPort s a1 a2) := by
  unfold updPort
  repeat' (first | assumption | refine Kept.record rfl rfl rfl id id id id id id ?_)

theorem learnCause_kept {a1 : Lane} {a2 : Nat} (h : Kept s0 s) : Kept s0 (learnCause s a1 a2) := by
  unfold learnCause
  repeat' (first | assumption | with_reducible apply updLane_kept | with_reducible apply Kept.ite | intro _)

theorem wdOff_kept {a1 : Fin 4} (h : Kept s0 s) : Kept s0 (wdOff s a1) := by
  unfold wdOff
  repeat' (first | assumption | refine Kept.record rfl rfl rfl id id id id id id ?_)

theorem laneTrap_kept {a1 : Lane} {a2 : Nat} {a3 : Nat} {a4 : Word} {a5 : Word} (h : Kept s0 s) : Kept s0 (laneTrap s a1 a2 a3 a4 a5) := by
  unfold laneTrap
  repeat' (first | assumption | with_reducible apply updLane_kept | with_reducible apply learnCause_kept | with_reducible apply wdOff_kept | exact fun _ hx => hx)

theorem addDirty_ok {n : Nat} {l : List Nat} {x : LaneSt} (hx : LaneOk x) : LaneOk (l.foldl (addDirty n) x) := by
  induction l generalizing x with
  | nil => exact hx
  | cons b l ih => exact ih (by unfold addDirty; split <;> first | exact hx | (split <;> exact hx))

theorem markDirty_kept {a1 : Lane} {a2 : List Nat} (h : Kept s0 s) : Kept s0 (markDirty s a1 a2) := Kept.ite (fun _ => h) fun _ => Kept.record rfl rfl rfl id
    (laneOk_map fun x hx => addDirty_ok hx) id id id id h

theorem askLine_kept {a1 : Lane} {a2 : Nat} {a3 : Word} (h : Kept s0 s) : Kept s0 (askLine s a1 a2 a3) := by
  unfold askLine
  repeat' (first | assumption | with_reducible apply updLane_kept | with_reducible apply Kept.ite | intro _)

theorem lynDone_kept {a1 : Lane} {a2 : LynRes} (hf : ∀ x w, a2 = .next x w → LaneOk s.lane[a1] → LaneOk x) (h : Kept s0 s) : Kept s0 (lynDone s a1 a2) := by
  unfold lynDone
  split
  · exact markDirty_kept (Kept.lane1 (hf _ _ rfl) h)
  · exact laneTrap_kept h
  · exact askLine_kept h

theorem lynStep_kept {a1 : Lane} {a2 : Word → Bool} {a3 : LaneSt → LynRes} (hf : ∀ x x2 w, LaneOk x → a3 x = .next x2 w → LaneOk x2) (h : Kept s0 s) : Kept s0 (lynStep s a1 a2 a3) := by
  unfold lynStep
  dsimp only
  split
  · exact h
  · split
    · exact laneTrap_kept h
    · exact askLine_kept h
    · split
      · exact lynDone_kept (fun x w hx hl => hf _ x w hl hx) h
      · exact h

theorem lyn_kept {a1 : Lane} {a2 : Word} {a3 : LaneSt → LynRes} (hf : ∀ x x2 w, LaneOk x → a3 x = .next x2 w → LaneOk x2) (h : Kept s0 s) : Kept s0 (lyn s a1 a2 a3) := lynStep_kept hf h

theorem storePut_kept {a1 : Nat} {a2 : List Byte} (h : Kept s0 s) : Kept s0 (storePut s a1 a2) := Kept.record rfl rfl rfl (memBlock_wf 0xFF _ _) id id id id id h

theorem storeErase_kept {a1 : Nat} {a2 : Nat} (h : Kept s0 s) : Kept s0 (storeErase s a1 a2) := Kept.record rfl rfl rfl (amWf_amErase _ _) id id id id id h

theorem dirWrite_kept {a1 : Nat} {a2 : Nat} {a3 : List DirEntry} (h : Kept s0 s) : Kept s0 (dirWrite s a1 a2 a3) := by
  unfold dirWrite
  repeat' (first | assumption | with_reducible apply storePut_kept)

theorem mpStart_kept {a1 : MpReq} (h : Kept s0 s) : Kept s0 (mpStart s a1) := by
  unfold mpStart
  repeat' (first | assumption | with_reducible exact Kept.record rfl rfl rfl id id id id id id (by assumption))

theorem mpServe_kept {a1 : Nat} (h : Kept s0 s) : Kept s0 (mpServe s a1) := by
  unfold mpServe
  repeat' (first | assumption | with_reducible apply mpStart_kept | intro _ | split)

theorem mpAsk_kept {a1 : Nat} {a2 : Nat} {a3 : MpKind} (h : Kept s0 s) : Kept s0 (mpAsk s a1 a2 a3) := by
  unfold mpAsk
  repeat' (first | assumption | with_reducible apply mpServe_kept | with_reducible exact Kept.record rfl rfl rfl id id id id id id (by assumption))

theorem mpFinish_kept {a1 : Nat} (h : Kept s0 s) : Kept s0 (mpFinish s a1) := by
  unfold mpFinish
  repeat' (first | assumption | with_reducible apply mpServe_kept | with_reducible exact Kept.record rfl rfl rfl id id id id id id (by assumption))

theorem mpDrop_kept {a1 : Nat} (h : Kept s0 s) : Kept s0 (mpDrop s a1) := by
  unfold mpDrop
  repeat' (first | assumption | with_reducible apply mpServe_kept | with_reducible exact Kept.record rfl rfl rfl id id id id id id (by assumption))

theorem endCycle_kept {a1 : Lane} (h : Kept s0 s) : Kept s0 (endCycle s a1) := by
  unfold endCycle
  repeat' (first | assumption | with_reducible apply learnCause_kept | with_reducible apply updLane_kept | with_reducible apply Kept.ite | intro _ | refine Kept.record rfl rfl rfl id id id id id id ?_)

theorem lineArrives_kept {a1 : Nat} {a2 : Nat} {a3 : Bool} (h : Kept s0 s) : Kept s0 (lineArrives s a1 a2 a3) := by
  unfold lineArrives
  split
  · exact Kept.record rfl rfl rfl id (laneOk_map fun _ hx => hx) id id id id h
  · exact Kept.foldl (fun _ _ => laneTrap_kept) _ (ledger_kept (Kept.record rfl rfl rfl id id id id id id h))

theorem fillEnds_kept {a1 : Nat} (h : Kept s0 s) : Kept s0 (fillEnds s a1) := by
  unfold fillEnds
  repeat' (first | assumption | with_reducible apply mpServe_kept | with_reducible exact Kept.record rfl rfl rfl id id id id id id (by assumption))

theorem setSync_kept {a1 : SyncSt} (h : Kept s0 s) : Kept s0 (setSync s a1) := by
  unfold setSync
  repeat' (first | assumption | with_reducible apply Kept.ite | intro _ | refine Kept.record rfl rfl rfl id id id id id id ?_)

theorem timeStep_kept {a1 : Nat} (h : Kept s0 s) : Kept s0 (timeStep s a1) := by
  unfold timeStep
  repeat' (first | assumption | with_reducible apply ledger_kept | with_reducible apply Kept.ite | intro _ | refine Kept.record rfl rfl rfl id id id id id id ?_)

theorem accept_kept {a1 : ℤ} {a2 : Nat} {a3 : Nat} {a4 : Nat} (h : Kept s0 s) : Kept s0 (accept s a1 a2 a3 a4) := by
  unfold accept
  extract_lets thr big rate good _ s1 s2 _ s3 s4
  have h1 : Kept s0 s1 := Kept.record rfl rfl rfl id id id id id id h
  clear_value s1
  have h2 : Kept s0 s2 := Kept.ite (fun _ => setSync_kept h1) fun _ => h1
  clear_value s2
  have h3 : Kept s0 s3 := Kept.record rfl rfl rfl id id id id id id h2
  clear_value s3
  have h4 : Kept s0 s4 := Kept.ite (fun _ => setSync_kept h3) fun _ => h3
  clear_value s4
  exact Kept.ite (fun _ => timeStep_kept h4) fun _ => h4

theorem syncRestart_kept  (h : Kept s0 s) : Kept s0 (syncRestart s) := by
  unfold syncRestart
  repeat' (first | assumption | with_reducible apply setSync_kept | with_reducible exact Kept.record rfl rfl rfl id id id id id id (by assumption))

theorem tsyncOff_kept  (h : Kept s0 s) : Kept s0 (tsyncOff s) := by
  unfold tsyncOff
  repeat' (first | assumption | with_reducible apply Kept.ite | with_reducible exact Kept.record rfl rfl rfl id id id id id id (by assumption) | intro _)

theorem wsPass_kept {a1 : Ctrl} {a2 : CanFrame} (h : Kept s0 s) : Kept s0 (wsPass s a1 a2) := by
  unfold wsPass
  repeat' (first | assumption | with_reducible exact Kept.record rfl rfl rfl id id id id id id (by assumption) | intro _ | split)

theorem abandonSync_kept  (h : Kept s0 s) : Kept s0 (abandonSync s) := by
  unfold abandonSync
  repeat' (first | assumption | with_reducible apply Kept.ite | with_reducible exact Kept.record rfl rfl rfl id id id id id id (by assumption) | intro _)

theorem wsFrameSent_kept  (h : Kept s0 s) : Kept s0 (wsFrameSent s) := by
  unfold wsFrameSent
  repeat' (first | assumption | with_reducible apply Kept.ite | with_reducible exact Kept.record rfl rfl rfl id id id id id id (by assumption) | intro _)

theorem mpCount_kept {a1 : Bool} (h : Kept s0 s) : Kept s0 (mpCount s a1) := by
  unfold mpCount
  repeat' (first | assumption | with_reducible apply Kept.ite | intro _ | refine Kept.record rfl rfl rfl id id id id id id ?_)

theorem plEnd_kept {a1 : Nat} {a2 : Nat} {a3 : Nat} (h : Kept s0 s) : Kept s0 (plEnd s a1 a2 a3) := by
  unfold plEnd
  repeat' (first | assumption | with_reducible apply mntEndOf_kept | with_reducible apply irq_kept | with_reducible apply mpDrop_kept | with_reducible apply Kept.ite | with_reducible exact Kept.record rfl rfl rfl id id id id id id (by assumption) | intro _)

theorem plFail_kept {a1 : Nat} (h : Kept s0 s) : Kept s0 (plFail s a1) := by
  unfold plFail
  repeat' (first | assumption | with_reducible apply plEnd_kept)

theorem plTake_kept  (h : Kept s0 s) : Kept s0 (plTake s) := by
  unfold plTake
  repeat' (first | assumption | with_reducible exact Kept.record rfl rfl rfl id id id id id id (by assumption))

theorem plStart_kept {a1 : Port} {a2 : Nat} (h : Kept s0 s) : Kept s0 (plStart s a1 a2) := by
  unfold plStart
  repeat' (first | assumption | with_reducible apply plTake_kept | with_reducible apply mntStart_kept | with_reducible apply plFail_kept | with_reducible apply mpAsk_kept | with_reducible apply Kept.ite | intro _ | with_reducible refine Kept.record rfl rfl rfl id id id id id id ?_)

theorem plChunk_kept {a1 : Nat} (h : Kept s0 s) : Kept s0 (plChunk s a1) := by
  unfold plChunk
  repeat' (first | assumption | with_reducible apply plTake_kept | with_reducible apply plFail_kept | with_reducible apply mpAsk_kept | with_reducible apply Kept.ite | intro _ | with_reducible refine Kept.record rfl rfl rfl id id id id id id ?_)

theorem plFinish_kept  (h : Kept s0 s) : Kept s0 (plFinish s) := by
  unfold plFinish
  repeat' (first | assumption | with_reducible apply plTake_kept | with_reducible apply plFail_kept | with_reducible apply mpAsk_kept | with_reducible apply Kept.ite | intro _ | with_reducible refine Kept.record rfl rfl rfl id id id id id id ?_)

theorem plAbort_kept  (h : Kept s0 s) : Kept s0 (plAbort s) := by
  unfold plAbort
  repeat' (first | assumption | with_reducible apply plEnd_kept)

theorem plTrial_kept {a1 : Port} {a2 : Nat} (h : Kept s0 s) : Kept s0 (plTrial s a1 a2) := by
  unfold plTrial
  repeat' (first | assumption | with_reducible apply plFail_kept | with_reducible apply mntStart_kept | with_reducible apply mpAsk_kept | with_reducible apply Kept.ite | intro _ | with_reducible refine Kept.record rfl rfl rfl id id id id id id ?_)

theorem plctlWrite_kept {a1 : Port} {a2 : Word} (h : Kept s0 s) : Kept s0 (plctlWrite s a1 a2) := by
  unfold plctlWrite
  repeat' (first | assumption | with_reducible apply plStart_kept | with_reducible apply plChunk_kept | with_reducible apply plFinish_kept | with_reducible apply plAbort_kept | with_reducible apply plTrial_kept | split)

theorem mpxWrite_kept {a1 : Port} {a2 : Word} (h : Kept s0 s) : Kept s0 (mpxWrite s a1 a2) := by
  unfold mpxWrite
  repeat' (first | assumption | with_reducible apply mntStart_kept | with_reducible apply mpAsk_kept | with_reducible apply Kept.ite | intro _ | with_reducible refine Kept.record rfl rfl rfl id id id id id id ?_)

theorem mpxApply_kept {a1 : Word} (h : Kept s0 s) : Kept s0 (mpxApply s a1) := by
  unfold mpxApply
  split
  · exact Kept.record rfl rfl rfl id id id (putWords_wf _ _) id id h
  · exact storePut_kept h
  · exact storeErase_kept h
  · exact putReg_kept h

theorem mpTimedOut_kept {a1 : Nat} (h : Kept s0 s) : Kept s0 (mpTimedOut s a1) := by
  unfold mpTimedOut
  repeat' (first | assumption | with_reducible apply ledger_kept | with_reducible exact Kept.record rfl rfl rfl id id id id id id (by assumption))

theorem mpReadError_kept {a1 : Nat} {a2 : Nat} (h : Kept s0 s) : Kept s0 (mpReadError s a1 a2) := by
  unfold mpReadError
  repeat' (first | assumption | with_reducible apply ledger_kept | with_reducible exact Kept.record rfl rfl rfl id id id id id id (by assumption))

theorem mpxCount_kept {a1 : Nat} {a2 : Nat} (h : Kept s0 s) : Kept s0 (mpxCount s a1 a2) := by
  unfold mpxCount
  repeat' (first | assumption | with_reducible apply mpCount_kept | with_reducible apply mpReadError_kept | with_reducible apply mpTimedOut_kept | split)

theorem ledOther_kept {a1 : Nat} {a2 : Nat} {a3 : Nat} (h : Kept s0 s) : Kept s0 (ledOther s a1 a2 a3) := by
  unfold ledOther
  repeat' (first | assumption | refine Kept.record rfl rfl rfl id id id id id id ?_)

theorem ledClear_kept {a1 : Port} {a2 : Nat} {a3 : Word} (h : Kept s0 s) : Kept s0 (ledClear s a1 a2 a3) := by
  unfold ledClear
  repeat' (first | assumption | with_reducible apply ledOther_kept | with_reducible apply Kept.ite | with_reducible exact Kept.record rfl rfl rfl id id id id id id (by assumption) | intro _)

theorem quoteNext_kept  (h : Kept s0 s) : Kept s0 (quoteNext s) := by
  unfold quoteNext
  repeat' (first | assumption | split | refine Kept.record rfl rfl rfl id id id id id id ?_)

theorem quoteStart_kept {a1 : Port} {a2 : List Word} (h : Kept s0 s) : Kept s0 (quoteStart s a1 a2) := by
  unfold quoteStart
  repeat' (first | assumption | with_reducible apply quoteNext_kept | refine Kept.record rfl rfl rfl id id id id id id ?_)

theorem updField_kept {a1 : FDie} {a2 : FieldSt → FieldSt} (h : Kept s0 s) : Kept s0 (updField s a1 a2) := by
  unfold updField
  repeat' (first | assumption | refine Kept.record rfl rfl rfl id id id id id id ?_)

theorem updChan_kept {a1 : FDie} {a2 : Chan} {a3 : ChanSt → ChanSt} (h : Kept s0 s) : Kept s0 (updChan s a1 a2 a3) := by
  unfold updChan
  repeat' (first | assumption | with_reducible apply updField_kept)

theorem dieApproach_kept {a1 : Nat} {a2 : Die} {a3 : Nat} (h : Kept s0 s) : Kept s0 (dieApproach a1 s a2 a3) := by
  induction a1 generalizing s with
  | zero => exact h
  | succ n ih => exact Kept.ite (fun _ => h) fun _ => ih (timeTo_kept h)

theorem dieTimeTo_kept {a1 : Die} {a2 : Nat} (h : Kept s0 s) : Kept s0 (dieTimeTo s a1 a2) := Kept.ite (fun _ => timeTo_kept h) fun _ => dieApproach_kept h

theorem withdraw_kept {a1 : FDie} {a2 : Chan} (h : Kept s0 s) : Kept s0 (withdraw s a1 a2) := by
  unfold withdraw
  repeat' (first | assumption | with_reducible apply updField_kept | with_reducible apply updChan_kept)

theorem turnOnNow_kept {a1 : FDie} {a2 : Chan} (h : Kept s0 s) : Kept s0 (turnOnNow s a1 a2) := by
  unfold turnOnNow
  repeat' (first | assumption | with_reducible apply updField_kept | with_reducible apply updChan_kept | with_reducible apply Kept.ite | intro _)

theorem serveQueue_kept {d : FDie} {l : List Nat} (h : Kept s0 s) : Kept s0 (serveQueue d l s) := by
  induction l generalizing s with
  | nil => exact h
  | cons j l ih =>
    unfold serveQueue
    split
    · exact ih (turnOnNow_kept h)
    · exact h

theorem serveSlots_kept {a1 : FDie} (h : Kept s0 s) : Kept s0 (serveSlots s a1) := by
  unfold serveSlots
  repeat' (first | assumption | with_reducible apply serveQueue_kept)

theorem passChecks_kept {a1 : Bool} {a2 : FDie} {a3 : Chan} (h : Kept s0 s) : Kept s0 (passChecks a1 s a2 a3) := by
  unfold passChecks
  extract_lets thermal tollCheck budget
  have h1 : ∀ t, Kept s0 t → Kept s0 (thermal t) := fun t ht =>
    Kept.ite (fun _ => ht) fun _ => Kept.ite (fun _ => updChan_kept ht) fun _ => updChan_kept ht
  have h2 : ∀ t, Kept s0 t → Kept s0 (tollCheck t) := fun t ht =>
    Kept.ite (fun _ => ht) fun _ => Kept.ite (fun _ => updChan_kept ht) fun _ => Kept.ite (fun _ => ht) fun _ =>
      dieLedger_kept (updChan_kept ht)
  have h3 : ∀ t, Kept s0 t → Kept s0 (budget t) := fun t ht =>
    Kept.ite (fun _ => ht) fun _ => Kept.ite (fun _ => updChan_kept (updField_kept ht)) fun _ => Kept.ite (fun _ => ht) fun _ =>
      Kept.record rfl rfl rfl id id id id id id (updChan_kept (updField_kept ht))
  exact h3 _ (h2 _ (h1 _ h))

theorem slotRequest_kept {a1 : FDie} {a2 : Chan} (h : Kept s0 s) : Kept s0 (slotRequest a1 s a2) := by
  unfold slotRequest
  repeat' (first | assumption | with_reducible apply turnOnNow_kept | with_reducible apply updChan_kept | with_reducible apply updField_kept | with_reducible apply Kept.ite | intro _)

theorem waitPass_kept {a1 : Bool} {a2 : FDie} (h : Kept s0 s) : Kept s0 (waitPass a1 s a2) := by
  unfold waitPass
  repeat' (first | assumption | with_reducible apply passChecks_kept | with_reducible apply turnOnNow_kept | with_reducible apply serveSlots_kept | with_reducible apply slotRequest_kept | with_reducible apply updField_kept | with_reducible apply Kept.ite | with_reducible apply Kept.foldl | intro _)

theorem settleChan_kept {a1 : FDie} {a2 : Chan} (h : Kept s0 s) : Kept s0 (settleChan a1 s a2) := by
  unfold settleChan
  repeat' (first | assumption | with_reducible apply updChan_kept | with_reducible apply withdraw_kept | with_reducible apply Kept.ite | intro _)

theorem settle_kept {a1 : FDie} (h : Kept s0 s) : Kept s0 (settle s a1) := Kept.foldl (fun _ _ => settleChan_kept) _ h

theorem endConduction_kept {a1 : FDie} {a2 : Chan} (h : Kept s0 s) : Kept s0 (endConduction s a1 a2) := by
  unfold endConduction
  repeat' (first | assumption | with_reducible apply serveSlots_kept | with_reducible apply updChan_kept)

theorem openSwitch_kept {a1 : FDie} {a2 : Chan} {a3 : Nat} {a4 : Bool} (h : Kept s0 s) : Kept s0 (openSwitch s a1 a2 a3 a4) := by
  unfold openSwitch
  repeat' (first | assumption | with_reducible apply endConduction_kept | with_reducible apply updChan_kept)

theorem openFree_kept {a1 : FDie} {a2 : Chan} (h : Kept s0 s) : Kept s0 (openFree s a1 a2) := by
  unfold openFree
  repeat' (first | assumption | with_reducible apply openSwitch_kept | with_reducible apply useFree_kept)

theorem trip_kept {a1 : FDie} {a2 : Chan} {a3 : Nat} {a4 : Nat} {a5 : Bool} (h : Kept s0 s) : Kept s0 (trip s a1 a2 a3 a4 a5) := by
  unfold trip
  exact settle_kept (Kept.ite (fun _ => (dieLedger_kept (dieLedger_kept (updChan_kept (openSwitch_kept h))))) fun _ => (dieLedger_kept (updChan_kept (openSwitch_kept h))))

theorem rowTen_kept {a1 : FDie} {a2 : Chan} (h : Kept s0 s) : Kept s0 (rowTen s a1 a2) := by
  unfold rowTen
  repeat' (first | assumption | with_reducible apply openFree_kept | with_reducible apply withdraw_kept | with_reducible apply updChan_kept | with_reducible apply Kept.ite | intro _)

theorem clrEdge_kept {a1 : FDie} {a2 : Chan} (h : Kept s0 s) : Kept s0 (clrEdge s a1 a2) := by
  unfold clrEdge
  repeat' (first | assumption | with_reducible apply updChan_kept | with_reducible apply Kept.foldl | intro _)

theorem sweepStore_kept {a1 : FDie} (h : Kept s0 s) : Kept s0 (sweepStore s a1) := by
  unfold sweepStore
  repeat' (first | assumption | with_reducible apply updField_kept)

theorem dropBits_kept {a1 : FDie} {a2 : Nat} (h : Kept s0 s) : Kept s0 (dropBits s a1 a2) := by
  unfold dropBits
  repeat' (first | assumption | with_reducible apply sweepStore_kept | with_reducible apply updField_kept)

theorem causeChanged_kept {a1 : FDie} {a2 : Chan} {a3 : Nat} (h : Kept s0 s) : Kept s0 (causeChanged s a1 a2 a3) := by
  unfold causeChanged
  repeat' (first | assumption | with_reducible apply dropBits_kept | with_reducible apply updChan_kept | with_reducible apply Kept.ite | intro _)

theorem setCauses_kept {a1 : FDie} {a2 : Chan} {a3 : BitVec 8} {a4 : BitVec 8} (h : Kept s0 s) : Kept s0 (setCauses s a1 a2 a3 a4) := by
  unfold setCauses
  repeat' (first | assumption | with_reducible apply causeChanged_kept | with_reducible apply updChan_kept)

theorem endPermWait_kept {a1 : FDie} {a2 : Chan} (h : Kept s0 s) : Kept s0 (endPermWait s a1 a2) := by
  unfold endPermWait
  repeat' (first | assumption | with_reducible apply updChan_kept | split)

theorem permChanged_kept {a1 : FDie} {a2 : Chan} {a3 : Bool} {a4 : Bool} (h : Kept s0 s) : Kept s0 (permChanged s a1 a2 a3 a4) := by
  unfold permChanged
  extract_lets g now s1
  have h1 : Kept s0 s1 := Kept.ite (fun _ => dieLedger_kept h) fun _ => h
  clear_value s1
  exact Kept.ite (fun _ => h1) fun _ => Kept.ite (fun _ => settle_kept (setCauses_kept h1)) fun _ =>
    Kept.ite (fun _ => settle_kept (setCauses_kept (endPermWait_kept h1))) fun _ => h1

theorem tripCmd_kept {a1 : FDie} {a2 : Chan} {a3 : Nat} {a4 : Nat} {a5 : Bool} {a6 : Bool} (h : Kept s0 s) : Kept s0 (tripCmd s a1 a2 a3 a4 a5 a6) := by
  unfold tripCmd
  exact (Kept.ite (fun _ => (trip_kept h)) fun _ => h)

theorem lhCool_kept {a1 : List ℤ} {a2 : FDie} {a3 : Chan} (h : Kept s0 s) : Kept s0 (lhCool a1 a2 s a3) := by
  unfold lhCool
  repeat' (first | assumption | with_reducible apply updChan_kept | with_reducible apply Kept.ite | intro _)

theorem thermalChan_kept {a1 : ℤ} {a2 : List ℤ} {a3 : List Nat} {a4 : List Nat} {a5 : FDie} {a6 : Chan} (h : Kept s0 s) : Kept s0 (thermalChan a1 a2 a3 a4 a5 s a6) := by
  unfold thermalChan
  repeat' (first | assumption | with_reducible apply updChan_kept | with_reducible apply lhCool_kept)

theorem olRestart_kept {a1 : FDie} {a2 : Chan} (h : Kept s0 s) : Kept s0 (olRestart s a1 a2) := by
  unfold olRestart
  repeat' (first | assumption | with_reducible apply updChan_kept)

theorem testSample_kept {a1 : ActSt} {a2 : Bool} {a3 : FDie} {a4 : Chan} (h : Kept s0 s) : Kept s0 (testSample a1 a2 a3 s a4) := by
  unfold testSample
  repeat' (first | assumption | with_reducible apply updChan_kept | with_reducible apply updTest_kept | with_reducible apply Kept.ite | intro _)

theorem liveSample_kept {a1 : Nat} {a2 : FDie} {a3 : Chan} (h : Kept s0 s) : Kept s0 (liveSample a1 a2 s a3) := by
  unfold liveSample
  repeat' (first | assumption | with_reducible apply updChan_kept | with_reducible apply dieLedger_kept | with_reducible apply Kept.ite | (lift_lets; intro x))

theorem sampleChan_kept {a1 : List Nat} {a2 : BitVec 16} {a3 : FDie} {a4 : Chan} (h : Kept s0 s) : Kept s0 (sampleChan a1 a2 a3 s a4) := by
  unfold sampleChan
  repeat' (first | assumption | with_reducible apply testSample_kept | with_reducible apply liveSample_kept | intro _ | split)

theorem inRestore_kept {a1 : BitVec 16} {a2 : FDie} {a3 : Chan} (h : Kept s0 s) : Kept s0 (inRestore a1 a2 s a3) := by
  unfold inRestore
  repeat' (first | assumption | with_reducible apply updChan_kept | with_reducible apply Kept.ite | intro _)

theorem testInstant_kept {a1 : FDie} (h : Kept s0 s) : Kept s0 (testInstant s a1) := by
  unfold testInstant
  repeat' (first | assumption | with_reducible apply updTest_kept | with_reducible apply inRestore_kept | with_reducible apply Kept.foldl | intro _ | split)

theorem takeSample_kept {a1 : FDie} {a2 : List Nat} {a3 : BitVec 16} (h : Kept s0 s) : Kept s0 (takeSample a1 a2 a3 s) := by
  unfold takeSample
  refine testInstant_kept (Kept.foldl (fun _ _ h => ?_) _ (updField_kept (dieTimeTo_kept h)))
  exact sampleChan_kept h

theorem enterLimp_kept {a1 : FDie} {a2 : Chan} (h : Kept s0 s) : Kept s0 (enterLimp a1 s a2) := by
  unfold enterLimp
  repeat' (first | assumption | with_reducible apply endConduction_kept | with_reducible apply openFree_kept | with_reducible apply dropBits_kept | with_reducible apply withdraw_kept | with_reducible apply updChan_kept | with_reducible apply Kept.ite | intro _)

theorem leaveLimp_kept {a1 : FDie} {a2 : Chan} (h : Kept s0 s) : Kept s0 (leaveLimp a1 s a2) := by
  unfold leaveLimp
  repeat' (first | assumption | with_reducible apply updChan_kept | with_reducible apply Kept.ite | intro _)

theorem lhOpens_kept {a1 : FDie} {a2 : Chan} (h : Kept s0 s) : Kept s0 (lhOpens a1 s a2) := by
  unfold lhOpens
  repeat' (first | assumption | with_reducible apply updChan_kept | with_reducible apply useFree_kept)

theorem svUpd_kept {a1 : Die} {a2 : SurveySt → SurveySt} (h : Kept s0 s) : Kept s0 (svUpd s a1 a2) := by
  unfold svUpd
  repeat' (first | assumption | refine Kept.record rfl rfl rfl id id id id id id ?_)

theorem headTrack_kept {a1 : Chan} (h : Kept s0 s) : Kept s0 (headTrack s a1) := by
  unfold headTrack
  repeat' (first | assumption | with_reducible exact Kept.record rfl rfl rfl id id id id id id (by assumption))

theorem scanDone_kept {a1 : Die} (h : Kept s0 s) : Kept s0 (scanDone s a1) := by
  unfold scanDone
  repeat' (first | assumption | with_reducible apply svUpd_kept)

theorem skipPairs_kept {d : Die} {n : Nat} {i : SvItem} (h : Kept s0 s) : Kept s0 (skipPairs d n s i).1 := by
  induction n generalizing s i with
  | zero => exact h
  | succ n ih =>
    unfold skipPairs
    split
    · split
      · dsimp only
        split
        · exact ih (svUpd_kept h)
        · exact scanDone_kept (svUpd_kept h)
      · exact h
    · exact h

theorem putOff_kept {a1 : Die} (h : Kept s0 s) : Kept s0 (putOff s a1) := by
  unfold putOff
  repeat' (first | assumption | with_reducible apply skipPairs_kept | with_reducible apply svUpd_kept | with_reducible apply Kept.ite | (lift_lets; intro x) | split)

theorem startRoutine_kept {a1 : Die} (h : Kept s0 s) : Kept s0 (startRoutine s a1) := by
  unfold startRoutine
  repeat' (first | assumption | with_reducible apply putOff_kept | with_reducible apply svUpd_kept | with_reducible apply updChan_kept | intro _ | (lift_lets; intro x) | split)

theorem nextRoutine_kept {a1 : Die} (h : Kept s0 s) : Kept s0 (nextRoutine s a1) := by
  unfold nextRoutine
  dsimp only
  split <;> split <;> (try split) <;> first | exact svUpd_kept h | exact svUpd_kept (scanDone_kept h) | exact svUpd_kept (skipPairs_kept h) | exact svUpd_kept (skipPairs_kept (scanDone_kept h))

theorem routineResult_kept {a1 : Die} {a2 : ℤ} {a3 : ℤ} (h : Kept s0 s) : Kept s0 (routineResult s a1 a2 a3) := by
  unfold routineResult
  repeat' (first | assumption | with_reducible apply dieLedger_kept | with_reducible apply updChan_kept | with_reducible apply headTrack_kept | with_reducible apply updField_kept | with_reducible apply svUpd_kept | with_reducible apply Kept.ite | with_reducible exact Kept.record rfl rfl rfl id id id id id id (by assumption) | (lift_lets; intro x) | split)

theorem startUrgent_kept {a1 : Die} (h : Kept s0 s) : Kept s0 (startUrgent s a1) := by
  unfold startUrgent
  repeat' (first | assumption | with_reducible apply svUpd_kept | split)

theorem urgPut_kept {a1 : Die} {a2 : UrgItem} {a3 : Nat} (h : Kept s0 s) : Kept s0 (urgPut s a1 a2 a3) := by
  unfold urgPut
  repeat' (first | assumption | with_reducible apply svUpd_kept)

theorem testResult_kept {a1 : Die} {a2 : BitVec 16} {a3 : Bool} (h : Kept s0 s) : Kept s0 (testResult s a1 a2 a3) := by
  unfold testResult
  repeat' (first | assumption | with_reducible apply updTest_kept)

theorem testRequests_kept {a1 : Die} (h : Kept s0 s) : Kept s0 (testRequests s a1) := Kept.foldl (fun _ _ h => urgPut_kept h) _ h

theorem testWithdraw_kept {a1 : Die} (h : Kept s0 s) : Kept s0 (testWithdraw s a1) := by
  unfold testWithdraw
  repeat' (first | assumption | with_reducible apply svUpd_kept)

theorem urgentResult_kept {a1 : Die} {a2 : ℤ} {a3 : ℤ} (h : Kept s0 s) : Kept s0 (urgentResult s a1 a2 a3) := by
  unfold urgentResult
  repeat' (first | assumption | with_reducible apply svUpd_kept | with_reducible apply updChan_kept | with_reducible apply testResult_kept | split | with_reducible refine Kept.record rfl rfl rfl id id id id id id ?_)

theorem snRequests_kept  (h : Kept s0 s) : Kept s0 (snRequests s) := by
  unfold snRequests
  repeat' (first | assumption | with_reducible apply urgPut_kept | with_reducible apply dieTimeTo_kept | with_reducible apply Kept.foldl | with_reducible exact Kept.record rfl rfl rfl id id id id id id (by assumption) | intro _ | split)

theorem closeSample_kept {a1 : FDie} {a2 : Nat} {a3 : Chan} (h : Kept s0 s) : Kept s0 (closeSample a1 a2 s a3) := by
  unfold closeSample
  repeat' (first | assumption | with_reducible apply svUpd_kept | with_reducible apply urgPut_kept | with_reducible apply updChan_kept | with_reducible apply Kept.ite | intro _)

theorem startSurvey_kept {a1 : Die} (h : Kept s0 s) : Kept s0 (startSurvey s a1) := by
  unfold startSurvey
  repeat' (first | assumption | with_reducible apply startRoutine_kept | with_reducible apply svUpd_kept)

theorem canUpd_kept {a1 : Ctrl} {a2 : CanSt → CanSt} (h : Kept s0 s) : Kept s0 (canUpd s a1 a2) := by
  unfold canUpd
  repeat' (first | assumption | refine Kept.record rfl rfl rfl id id id id id id ?_)

theorem queuePut_kept {a1 : Ctrl} {a2 : Fin 2} {a3 : RxRec} (h : Kept s0 s) : Kept s0 (queuePut s a1 a2 a3) := by
  unfold queuePut
  repeat' (first | assumption | with_reducible apply irq_kept | with_reducible apply canUpd_kept | with_reducible apply ledger_kept | with_reducible apply Kept.ite | intro _)

theorem canReceive_kept {a1 : Ctrl} {a2 : RxRec} (h : Kept s0 s) : Kept s0 (canReceive s a1 a2) := by
  unfold canReceive
  extract_lets key ent rx lst n s1 flt dest listed slot cnt s2 s3 s4
  have h1 : Kept s0 s1 := by
    rcases ent with _ | i
    · exact h
    · exact canUpd_kept h
  clear_value s1
  have h2 : Kept s0 s2 := Kept.ite (fun _ => useFree_kept h1) fun _ => h1
  clear_value s2
  have h3 : Kept s0 s3 := Kept.ite (fun _ => Kept.record rfl rfl rfl id id id id id id h2) fun _ => h2
  clear_value s3
  have h4 : Kept s0 s4 := Kept.ite (fun _ => queuePut_kept h3) fun _ => h3
  clear_value s4
  exact Kept.ite (fun _ => queuePut_kept h4) fun _ => h4

theorem canFlush_kept {a1 : Ctrl} {a2 : Bool} (h : Kept s0 s) : Kept s0 (canFlush s a1 a2) := by
  unfold canFlush
  repeat' (first | assumption | with_reducible apply canUpd_kept)

theorem dropHeld_kept {a1 : Ctrl} (h : Kept s0 s) : Kept s0 (dropHeld s a1) := by
  unfold dropHeld
  repeat' (first | assumption | refine Kept.record rfl rfl rfl id id id id id id ?_)

theorem confine_kept {a1 : Ctrl} (h : Kept s0 s) : Kept s0 (confine s a1) := by
  unfold confine
  repeat' (first | assumption | with_reducible apply canUpd_kept | with_reducible apply dropHeld_kept | with_reducible apply canFlush_kept | with_reducible apply abandonSync_kept | with_reducible apply ledger_kept | with_reducible apply Kept.ite | intro _)

theorem fifoPut_kept {a1 : Ctrl} {a2 : TxFrame} (h : Kept s0 s) : Kept s0 (fifoPut s a1 a2).1 := by
  unfold fifoPut
  dsimp only
  split
  · exact canUpd_kept h
  · split
    · exact canUpd_kept h
    · split
      · exact canUpd_kept h
      · split <;> exact canUpd_kept h

theorem fifoPutAll_kept {a1 : Ctrl} {a2 : List TxFrame} (h : Kept s0 s) : Kept s0 (fifoPutAll s a1 a2) := by
  have key : ∀ (l : List TxFrame) (x : State × Nat), Kept s0 x.1 →
      Kept s0 (l.foldl (fun (x : State × Nat) f => let y := fifoPut x.1 a1 f; (y.1, x.2 + (if y.2 then 1 else 0))) x).1 := by
    intro l
    induction l with
    | nil => exact fun _ h => h
    | cons f l ih => exact fun x h => ih _ (fifoPut_kept h)
  unfold fifoPutAll
  exact Kept.ite (fun _ => key a2 (s, 0) h) fun _ => ledger_kept (key a2 (s, 0) h)

theorem offerHead_kept {a1 : Ctrl} (h : Kept s0 s) : Kept s0 (offerHead s a1) := by
  unfold offerHead
  repeat' (first | assumption | with_reducible apply canUpd_kept)

theorem canStart_kept {a1 : Ctrl} (h : Kept s0 s) : Kept s0 (canStart s a1) := by
  unfold canStart
  repeat' (first | assumption | with_reducible apply dropHeld_kept | with_reducible apply canFlush_kept | with_reducible apply canUpd_kept)

theorem ageFrames_kept  (h : Kept s0 s) : Kept s0 (ageFrames s) := by
  unfold ageFrames
  repeat' (first | assumption | refine Kept.record rfl rfl rfl id id id id id id ?_)

theorem rxqLock_kept {a1 : Port} {a2 : Ctrl} {a3 : Fin 2} (h : Kept s0 s) : Kept s0 (rxqLock s a1 a2 a3) := by
  unfold rxqLock
  repeat' (first | assumption | with_reducible apply canUpd_kept | with_reducible apply Kept.ite | intro _)

theorem rxqDrop_kept {a1 : Ctrl} {a2 : Fin 2} (h : Kept s0 s) : Kept s0 (rxqDrop s a1 a2) := by
  unfold rxqDrop
  repeat' (first | assumption | with_reducible apply canUpd_kept)

theorem rxqUnlock_kept {a1 : Ctrl} {a2 : Fin 2} (h : Kept s0 s) : Kept s0 (rxqUnlock s a1 a2) := by
  unfold rxqUnlock
  repeat' (first | assumption | with_reducible apply canUpd_kept)

theorem cancmdWrite_kept {a1 : Ctrl} {a2 : Word} (h : Kept s0 s) : Kept s0 (cancmdWrite s a1 a2) := by
  unfold cancmdWrite
  repeat' (first | assumption | with_reducible apply canUpd_kept | with_reducible apply canFlush_kept | with_reducible apply Kept.ite | intro _)

theorem cntclrWrite_kept {a1 : Ctrl} {a2 : Word} (h : Kept s0 s) : Kept s0 (cntclrWrite s a1 a2) := by
  unfold cntclrWrite
  repeat' (first | assumption | with_reducible apply canUpd_kept)

theorem countGood_kept {a1 : Ctrl} (h : Kept s0 s) : Kept s0 (countGood s a1) := by
  unfold countGood
  repeat' (first | assumption | with_reducible apply useFree_kept | with_reducible apply confine_kept | with_reducible apply canUpd_kept | with_reducible apply Kept.ite | intro _)

theorem protExc_kept {a1 : Ctrl} (h : Kept s0 s) : Kept s0 (protExc s a1) := by
  unfold protExc
  repeat' (first | assumption | with_reducible apply canUpd_kept)

theorem keepTdcv_kept {a1 : Ctrl} {a2 : Nat} (h : Kept s0 s) : Kept s0 (keepTdcv s a1 a2) := by
  unfold keepTdcv
  repeat' (first | assumption | with_reducible apply canUpd_kept | with_reducible apply Kept.ite | intro _)

theorem txSent_kept {a1 : Ctrl} {a2 : Option TxFrame} (h : Kept s0 s) : Kept s0 (txSent s a1 a2) := by
  unfold txSent
  repeat' (first | assumption | with_reducible apply confine_kept | with_reducible apply canUpd_kept | with_reducible apply canReceive_kept | split)

theorem txError_kept {a1 : Ctrl} {a2 : BitVec 3} {a3 : Bool} (h : Kept s0 s) : Kept s0 (txError s a1 a2 a3) := by
  unfold txError
  repeat' (first | assumption | with_reducible apply confine_kept | with_reducible apply canUpd_kept)

theorem txEnd_kept {a1 : Ctrl} {a2 : Option TxFrame} {a3 : CanTxResult} {a4 : BitVec 3} {a5 : Nat} {a6 : Bool} {a7 : State → State}
    (hf : ∀ t, Kept s0 t → Kept s0 (a7 t)) (h : Kept s0 s) : Kept s0 (txEnd s a1 a2 a3 a4 a5 a6 a7) := by
  unfold txEnd
  dsimp only
  refine Kept.ite (fun _ => txError_kept h) fun _ => ?_
  have h1 : ∀ m : Bool, Kept s0 (if m = true then keepTdcv s a1 a5 else s) := fun m => Kept.ite (fun _ => keepTdcv_kept h) fun _ => h
  cases a3
  · exact txSent_kept (hf _ (h1 _))
  · exact h1 _
  · exact txError_kept (h1 _)

theorem nextOffer_kept {a1 : Ctrl} (h : Kept s0 s) : Kept s0 (nextOffer s a1) := by
  unfold nextOffer
  repeat' (first | assumption | with_reducible apply offerHead_kept | with_reducible apply canUpd_kept | with_reducible apply Kept.ite | intro _)

theorem sampleHere_kept {a1 : List Entry} {a2 : Nat} {a3 : FDie} {a4 : Chan} (h : Kept s0 s) : Kept s0 (sampleHere a1 a2 a3 s a4) := by
  unfold sampleHere
  repeat' (first | assumption | with_reducible apply closeSample_kept | with_reducible apply Kept.foldl | intro _)

theorem onMask_kept {a1 : FDie} {a2 : BitVec 16} {a3 : ChanSt → ChanSt} (h : Kept s0 s) : Kept s0 (onMask a1 a2 a3 s) := by
  unfold onMask
  repeat' (first | assumption | with_reducible apply updChan_kept | with_reducible apply Kept.ite | with_reducible apply Kept.foldl | intro _)

theorem switchChan_kept {a1 : FDie} {a2 : Entry} {a3 : Chan} (h : Kept s0 s) : Kept s0 (switchChan a1 a2 s a3) := by
  unfold switchChan
  repeat' (first | assumption | with_reducible apply updChan_kept)

theorem pgSync_kept {a1 : FDie} {a2 : Entry} (h : Kept s0 s) : Kept s0 (pgSync a1 s a2) := by
  unfold pgSync
  repeat' (first | assumption | with_reducible apply updField_kept | with_reducible apply Kept.ite | intro _)

theorem actGroup_kept {a1 : FDie} {a2 : List Entry} (h : Kept s0 s) : Kept s0 (actGroup s a1 a2) := by
  unfold actGroup
  repeat' (first | assumption | with_reducible apply sampleHere_kept | with_reducible apply sweepStore_kept | with_reducible apply onMask_kept | with_reducible apply updField_kept | with_reducible apply pgSync_kept | with_reducible apply switchChan_kept | with_reducible apply Kept.foldl | intro _ | split)

theorem hubPlace_kept {a1 : List HubEntry} (h : Kept s0 s) : Kept s0 (hubPlace s a1) := by
  unfold hubPlace
  repeat' (first | assumption | with_reducible apply fifoPutAll_kept | with_reducible apply Kept.foldl | intro _)

theorem dieDue_kept {a1 : FDie} (h : Kept s0 s) : Kept s0 (dieDue s a1) := by
  unfold dieDue
  split
  · exact h
  · exact settle_kept (actGroup_kept (updField_kept (dieTimeTo_kept h)))

theorem hubDue_kept  (h : Kept s0 s) : Kept s0 (hubDue s) := by
  unfold hubDue
  repeat' (first | assumption | with_reducible apply timeTo_kept | with_reducible apply hubPlace_kept | split | refine Kept.record rfl rfl rfl id id id id id id ?_)

theorem updLoop_kept {a1 : Chan} {a2 : LoopSt → LoopSt} (h : Kept s0 s) : Kept s0 (updLoop s a1 a2) := by
  unfold updLoop
  repeat' (first | assumption | refine Kept.record rfl rfl rfl id id id id id id ?_)

theorem updChurn_kept {a1 : Chan} {a2 : ChurnSt → ChurnSt} (h : Kept s0 s) : Kept s0 (updChurn s a1 a2) := by
  unfold updChurn
  repeat' (first | assumption | with_reducible apply updLoop_kept)

theorem updTrim_kept {a1 : Chan} {a2 : TrimSt → TrimSt} (h : Kept s0 s) : Kept s0 (updTrim s a1 a2) := by
  unfold updTrim
  repeat' (first | assumption | with_reducible apply updLoop_kept)

theorem updHart_kept {a1 : Chan} {a2 : HartSt → HartSt} (h : Kept s0 s) : Kept s0 (updHart s a1 a2) := by
  unfold updHart
  repeat' (first | assumption | with_reducible apply updLoop_kept)

theorem classify_kept {a1 : Chan} {a2 : Nat} (h : Kept s0 s) : Kept s0 (classify s a1 a2) := by
  unfold classify
  repeat' (first | assumption | with_reducible apply updLoop_kept | with_reducible apply Kept.ite | intro _ | split)

theorem startChurn_kept {a1 : Chan} (h : Kept s0 s) : Kept s0 (startChurn s a1) := by
  unfold startChurn
  repeat' (first | assumption | with_reducible apply updChurn_kept)

theorem stopChurn_kept {a1 : Chan} (h : Kept s0 s) : Kept s0 (stopChurn s a1) := by
  unfold stopChurn
  repeat' (first | assumption | with_reducible apply updChurn_kept)

theorem churnSync_kept {a1 : Chan} (h : Kept s0 s) : Kept s0 (churnSync s a1) := by
  unfold churnSync
  repeat' (first | assumption | with_reducible apply startChurn_kept | with_reducible apply stopChurn_kept | with_reducible apply Kept.ite | intro _)

theorem ldDiscard_kept  (h : Kept s0 s) : Kept s0 (ldDiscard s) := Kept.foldl (fun _ _ h => updChurn_kept h) _ (Kept.record rfl rfl rfl id id id id id id h)

theorem trimFail_kept {a1 : Chan} {a2 : Nat} {a3 : Nat} (h : Kept s0 s) : Kept s0 (trimFail s a1 a2 a3) := by
  unfold trimFail
  repeat' (first | assumption | with_reducible apply mntEndOf_kept | with_reducible apply updTrim_kept)

theorem trimLoopFault_kept {a1 : Chan} (h : Kept s0 s) : Kept s0 (trimLoopFault s a1) := by
  unfold trimLoopFault
  repeat' (first | assumption | with_reducible apply trimFail_kept | with_reducible apply Kept.ite | intro _)

theorem owRise_kept {a1 : Chan} {a2 : Bool} {a3 : Nat} (h : Kept s0 s) : Kept s0 (owRise s a1 a2 a3) := by
  unfold owRise
  repeat' (first | assumption | with_reducible apply dieLedger_kept | with_reducible apply updLoop_kept | with_reducible apply Kept.ite | intro _)

theorem updOw_kept {a1 : Chan} {a2 : OwSt → OwSt} (h : Kept s0 s) : Kept s0 (updOw s a1 a2) := by
  unfold updOw
  repeat' (first | assumption | with_reducible apply updLoop_kept)

theorem owSwitch_kept {a1 : Chan} {a2 : Nat} (h : Kept s0 s) : Kept s0 (owSwitch s a1 a2) := by
  unfold owSwitch
  repeat' (first | assumption | with_reducible apply updChurn_kept)

theorem owEnd_kept {a1 : Chan} {a2 : Nat} {a3 : Nat} (h : Kept s0 s) : Kept s0 (owEnd s a1 a2 a3) := by
  unfold owEnd
  repeat' (first | assumption | with_reducible apply owSwitch_kept | with_reducible apply mntEndOf_kept | with_reducible apply updOw_kept | with_reducible apply Kept.ite | intro _)

theorem owStep2_kept {a1 : Chan} (h : Kept s0 s) : Kept s0 (owStep2 s a1) := by
  unfold owStep2
  repeat' (first | assumption | with_reducible apply owSwitch_kept | with_reducible apply updOw_kept)

theorem owGoOn_kept {a1 : Chan} (h : Kept s0 s) : Kept s0 (owGoOn s a1) := by
  unfold owGoOn
  repeat' (first | assumption | with_reducible apply owStep2_kept | with_reducible apply Kept.ite | intro _)

theorem hartIdle_kept {a1 : Chan} (h : Kept s0 s) : Kept s0 (hartIdle s a1) := by
  unfold hartIdle
  repeat' (first | assumption | with_reducible apply irq_kept | with_reducible apply owGoOn_kept | with_reducible apply updHart_kept | with_reducible apply Kept.ite | intro _)

theorem hartAbort_kept {a1 : Chan} (h : Kept s0 s) : Kept s0 (hartAbort s a1) := by
  unfold hartAbort
  repeat' (first | assumption | with_reducible apply hartIdle_kept | with_reducible apply updHart_kept | with_reducible apply Kept.ite | intro _)

theorem hartSync_kept {a1 : Chan} (h : Kept s0 s) : Kept s0 (hartSync s a1) := by
  unfold hartSync
  repeat' (first | assumption | with_reducible apply hartAbort_kept | with_reducible apply updHart_kept | with_reducible apply Kept.ite | intro _)

theorem hdirPut_kept {a1 : Nat} {a2 : Nat} {a3 : Nat} {a4 : Word} (h : Kept s0 s) : Kept s0 (hdirPut s a1 a2 a3 a4) := by
  unfold hdirPut
  repeat' (first | assumption | refine Kept.record rfl rfl rfl id id id id id id ?_)

theorem hdirFail_kept {a1 : Nat} {a2 : Nat} {a3 : Bool} (h : Kept s0 s) : Kept s0 (hdirFail s a1 a2 a3) := by
  unfold hdirFail
  repeat' (first | assumption | with_reducible apply hdirPut_kept | with_reducible apply Kept.ite | intro _)

theorem hdirReply_kept {a1 : Chan} {a2 : Nat} {a3 : Nat} {a4 : List Byte} (h : Kept s0 s) : Kept s0 (hdirReply s a1 a2 a3 a4) := hdirPut_kept (hdirPut_kept (hdirPut_kept (hdirPut_kept (hdirPut_kept (hdirPut_kept h)))))

theorem hartFail_kept {a1 : Chan} {a2 : Nat} (h : Kept s0 s) : Kept s0 (hartFail s a1 a2) := by
  unfold hartFail
  extract_lets hh s1
  have h1 : Kept s0 s1 := updHart_kept h
  clear_value s1
  refine Kept.ite (fun _ => h1) fun _ => Kept.ite (fun _ => ?_) fun _ => ?_
  · exact hartIdle_kept (Kept.ite (fun _ => hdirFail_kept (updHart_kept h1)) fun _ => updHart_kept h1)
  · rcases hh.scan with _ | ⟨a, last⟩
    · exact hartIdle_kept h1
    · exact Kept.ite (fun _ => hartIdle_kept (hdirFail_kept h1)) fun _ => owGoOn_kept (updHart_kept (hdirFail_kept h1))

theorem loopMode_kept {a1 : Chan} (h : Kept s0 s) : Kept s0 (loopMode s a1) := by
  unfold loopMode
  repeat' (first | assumption | with_reducible apply updLoop_kept | with_reducible apply hartSync_kept | with_reducible apply headTrack_kept)

theorem loopReset_kept {a1 : Chan} (h : Kept s0 s) : Kept s0 (loopReset s a1) := by
  unfold loopReset
  repeat' (first | assumption | with_reducible apply hartAbort_kept | with_reducible apply stopChurn_kept | with_reducible apply updLoop_kept)

theorem owTick_kept {a1 : Chan} {a2 : Nat} (h : Kept s0 s) : Kept s0 (owTick s a1 a2) := by
  unfold owTick
  repeat' (first | assumption | split | refine Kept.record rfl rfl rfl id id id id id id ?_)

theorem owTake_kept {a1 : Chan} {a2 : Nat} {a3 : ℤ} (h : Kept s0 s) : Kept s0 (owTake s a1 a2 a3) := by
  unfold owTake
  repeat' (first | assumption | refine Kept.record rfl rfl rfl id id id id id id ?_)

theorem trimTake_kept {a1 : Chan} {a2 : ℤ} (h : Kept s0 s) : Kept s0 (trimTake s a1 a2) := by
  unfold trimTake
  repeat' (first | assumption | with_reducible apply updTrim_kept)

theorem churnOut_kept {a1 : Chan} {a2 : Nat} {a3 : ℤ} (h : Kept s0 s) : Kept s0 (churnOut s a1 a2 a3) := by
  unfold churnOut
  extract_lets s1 c good mid sup r i q o s2 _ s3 s4
  have h2 : Kept s0 s2 := updLoop_kept (owTick_kept (dieTimeTo_kept h))
  clear_value s2
  have h3 : Kept s0 s3 := Kept.ite (fun _ => Kept.record rfl rfl rfl id id id id id id h2) fun _ => h2
  clear_value s3
  have h4 : Kept s0 s4 := classify_kept (headTrack_kept h3)
  clear_value s4
  exact Kept.ite (fun _ => owTake_kept (trimTake_kept h4)) fun _ => h4

theorem testStages_kept {a1 : ChurnSt} (h : Kept s0 s) : Kept s0 (testStages s a1) := by
  unfold testStages
  repeat' (first | assumption | with_reducible apply Kept.ite | with_reducible exact Kept.record rfl rfl rfl id id id id id id (by assumption) | intro _)

theorem churnBit_kept {a1 : Chan} {a2 : Bool} (h : Kept s0 s) : Kept s0 (churnBit a1 s a2) := by
  unfold churnBit
  extract_lets c e q s1
  have h1 : Kept s0 s1 := testStages_kept (updChurn_kept h)
  clear_value s1
  split
  · exact churnOut_kept h1
  · exact h1

theorem cvStop_kept {a1 : Chan} {a2 : Nat} (h : Kept s0 s) : Kept s0 (cvStop s a1 a2) := by
  unfold cvStop
  repeat' (first | assumption | with_reducible apply mntEndOf_kept | with_reducible apply Kept.ite | intro _ | refine Kept.record rfl rfl rfl id id id id id id ?_)

theorem cvtestWrite_kept {a1 : Port} {a2 : Word} (h : Kept s0 s) : Kept s0 (cvtestWrite s a1 a2) := by
  unfold cvtestWrite
  repeat' (first | assumption | with_reducible apply mntStart_kept | with_reducible apply cvStop_kept | with_reducible apply Kept.ite | intro _ | refine Kept.record rfl rfl rfl id id id id id id ?_)

theorem cvclrWrite_kept {a1 : Word} (h : Kept s0 s) : Kept s0 (cvclrWrite s a1) := by
  unfold cvclrWrite
  repeat' (first | assumption | with_reducible apply svUpd_kept | with_reducible apply updChurn_kept | with_reducible apply Kept.ite | with_reducible apply Kept.foldl | intro _)

theorem owcmdWrite_kept {a1 : Port} {a2 : Word} (h : Kept s0 s) : Kept s0 (owcmdWrite s a1 a2) := by
  unfold owcmdWrite
  repeat' (first | assumption | with_reducible apply mntStart_kept | with_reducible apply owEnd_kept | with_reducible apply Kept.ite | intro _ | refine Kept.record rfl rfl rfl id id id id id id ?_)

theorem trimPoint1_kept {a1 : Port} {a2 : Chan} (h : Kept s0 s) : Kept s0 (trimPoint1 s a1 a2) := by
  unfold trimPoint1
  repeat' (first | assumption | with_reducible apply updTrim_kept | with_reducible apply mntStart_kept)

theorem trimPoint2_kept {a1 : Chan} (h : Kept s0 s) : Kept s0 (trimPoint2 s a1) := by
  unfold trimPoint2
  repeat' (first | assumption | with_reducible apply updTrim_kept | with_reducible apply trimFail_kept | with_reducible apply Kept.ite | intro _)

theorem trimCompute_kept {a1 : Chan} (h : Kept s0 s) : Kept s0 (trimCompute s a1) := by
  unfold trimCompute
  repeat' (first | assumption | with_reducible apply trimFail_kept | with_reducible apply mntEndOf_kept | with_reducible apply updTrim_kept | with_reducible apply Kept.ite | intro _ | split)

theorem trimcmdWrite_kept {a1 : Port} {a2 : Word} (h : Kept s0 s) : Kept s0 (trimcmdWrite s a1 a2) := by
  unfold trimcmdWrite
  repeat' (first | assumption | with_reducible apply trimPoint1_kept | with_reducible apply trimPoint2_kept | with_reducible apply trimCompute_kept | with_reducible apply trimFail_kept | with_reducible apply Kept.ite | intro _ | split)

theorem lpcntclrWrite_kept {a1 : Word} (h : Kept s0 s) : Kept s0 (lpcntclrWrite s a1) := by
  unfold lpcntclrWrite
  repeat' (first | assumption | with_reducible apply updLoop_kept | with_reducible apply Kept.ite | with_reducible apply Kept.foldl | intro _)

theorem hctlWrite_kept {a1 : Chan} {a2 : Word} (h : Kept s0 s) : Kept s0 (hctlWrite s a1 a2) := by
  unfold hctlWrite
  repeat' (first | assumption | with_reducible apply updHart_kept | with_reducible apply hartAbort_kept | with_reducible apply Kept.ite | intro _)

theorem hscanWrite_kept {a1 : Word} (h : Kept s0 s) : Kept s0 (hscanWrite s a1) := by
  unfold hscanWrite
  repeat' (first | assumption | with_reducible apply updHart_kept)

theorem hartDone_kept {a1 : Chan} {a2 : List Byte} (h : Kept s0 s) : Kept s0 (hartDone s a1 a2) := by
  unfold hartDone
  refine hartIdle_kept (Kept.ite (fun _ => hdirReply_kept ?_) fun _ => ?_) <;>
    exact updHart_kept (Kept.record rfl rfl rfl id id id (regsPut_wf _ _) id id h)

theorem scanDone2_kept {a1 : Chan} {a2 : List Byte} (h : Kept s0 s) : Kept s0 (scanDone2 s a1 a2) := by
  unfold scanDone2
  dsimp only
  split
  · exact hartIdle_kept h
  · exact Kept.ite (fun _ => hartIdle_kept (hdirReply_kept h)) fun _ => owGoOn_kept (updHart_kept (hdirReply_kept h))

theorem discardShadows_kept  (h : Kept s0 s) : Kept s0 (discardShadows s) := Kept.of_shadow h

theorem setRes_kept {a1 : Nat} {a2 : MntRes → MntRes} (h : Kept s0 s) : Kept s0 (setRes s a1 a2) := by
  unfold setRes
  repeat' (first | assumption | split | refine Kept.record rfl rfl rfl id id id id id id ?_)

theorem testOver_kept {a1 : ActSt} (h : Kept s0 s) : Kept s0 (testOver s a1) := by
  unfold testOver
  repeat' (first | assumption | with_reducible apply testWithdraw_kept | with_reducible apply inRestore_kept | with_reducible apply Kept.foldl | intro _ | split)

theorem abortAct_kept {a1 : Nat} {a2 : ActSt} (h : Kept s0 s) : Kept s0 (abortAct s a1 a2) := by
  unfold abortAct
  repeat' (first | assumption | with_reducible apply owEnd_kept | with_reducible apply trimFail_kept | with_reducible apply cvStop_kept | with_reducible apply mntEnd_kept | with_reducible apply setRes_kept | with_reducible apply testOver_kept | split)

theorem lostAct_kept {a1 : Nat} {a2 : ActSt} (h : Kept s0 s) : Kept s0 (lostAct s a1 a2) := by
  unfold lostAct
  repeat' (first | assumption | with_reducible apply trimFail_kept | with_reducible apply abortAct_kept | with_reducible apply Kept.ite | intro _)

theorem abortOnDie_kept {a1 : Die} (h : Kept s0 s) : Kept s0 (abortOnDie s a1) := by
  unfold abortOnDie
  repeat' (first | assumption | with_reducible apply lostAct_kept | with_reducible apply Kept.foldl | intro _)

theorem eventsMet_kept {a1 : Die} (h : Kept s0 s) : Kept s0 (eventsMet s a1) := by
  unfold eventsMet
  repeat' (first | assumption | with_reducible exact Kept.record rfl rfl rfl id (laneOk_map fun _ hx => hx) id id id id (by assumption))

theorem dieClear_kept {a1 : Die} {a2 : Bool} (h : Kept s0 s) : Kept s0 (dieClear s a1 a2) := by
  have h1 : Kept s0 (eventsMet { s with
      die := s.die.set a1 { dieReset with loading := a2, pt := s.die[a1].pt, linkErr := s.die[a1].linkErr }
      survey := s.survey.set a1 surveyReset } a1) := eventsMet_kept (Kept.record rfl rfl rfl id id id id id id h)
  unfold dieClear
  dsimp only
  revert h1
  generalize (eventsMet _ a1) = u
  intro h1
  split
  · exact updField_kept h1
  · have h2 : Kept s0 (chans16.foldl loopReset u) := Kept.foldl (fun _ _ => loopReset_kept) _ h1
    revert h2
    generalize (chans16.foldl loopReset u) = w
    intro h2
    exact Kept.record rfl rfl rfl id id id id id id h2

theorem diePowerOff_kept {a1 : Die} (h : Kept s0 s) : Kept s0 (diePowerOff s a1) := by
  unfold diePowerOff
  repeat' (first | assumption | with_reducible apply abortOnDie_kept | with_reducible apply dieClear_kept | refine Kept.record rfl rfl rfl id id id id id id ?_)

theorem diePowerOn_kept {a1 : Die} (h : Kept s0 s) : Kept s0 (diePowerOn s a1) := by
  unfold diePowerOn
  repeat' (first | assumption | with_reducible apply dieClear_kept | refine Kept.record rfl rfl rfl id id id id id id ?_)

theorem dieReady_kept {a1 : Die} {a2 : List Word} (h : Kept s0 s) : Kept s0 (dieReady s a1 a2) := by
  unfold dieReady
  repeat' (first | assumption | with_reducible apply eventsMet_kept | with_reducible apply sendKept_kept | with_reducible apply updDie_kept)

theorem dieFails_kept {a1 : Die} (h : Kept s0 s) : Kept s0 (dieFails s a1) := by
  unfold dieFails
  repeat' (first | assumption | with_reducible apply diePowerOff_kept | with_reducible apply ledger_kept | refine Kept.record rfl rfl rfl id id id id id id ?_)

theorem bpwrBit_kept {a1 : Word} {a2 : Die} (h : Kept s0 s) : Kept s0 (bpwrBit a1 s a2) := by
  unfold bpwrBit
  repeat' (first | assumption | with_reducible apply diePowerOn_kept | with_reducible apply diePowerOff_kept | with_reducible apply Kept.ite | intro _)

theorem loopPower_kept  (h : Kept s0 s) : Kept s0 (loopPower s) := by
  unfold loopPower
  repeat' (first | assumption | with_reducible apply hartSync_kept | with_reducible apply churnSync_kept | with_reducible apply Kept.foldl | intro _ | refine Kept.record rfl rfl rfl id id id id id id ?_)

theorem loopPowerQuiet_kept  (h : Kept s0 s) : Kept s0 (loopPowerQuiet s) := by
  unfold loopPowerQuiet
  repeat' (first | assumption | with_reducible apply loopPower_kept | with_reducible apply Kept.ite | intro _)

theorem pwrctlWrite_kept {a1 : Word} (h : Kept s0 s) : Kept s0 (pwrctlWrite s a1) := by
  unfold pwrctlWrite
  repeat' (first | assumption | with_reducible apply bpwrBit_kept | with_reducible apply loopPowerQuiet_kept | with_reducible apply Kept.foldl | intro _ | refine Kept.record rfl rfl rfl id id id id id id ?_)

theorem pwrhartWrite_kept {a1 : Word} (h : Kept s0 s) : Kept s0 (pwrhartWrite s a1) := by
  unfold pwrhartWrite
  repeat' (first | assumption | with_reducible apply loopPowerQuiet_kept | refine Kept.record rfl rfl rfl id id id id id id ?_)

theorem visoFalls_kept {a1 : Nat} (h : Kept s0 s) : Kept s0 (visoFalls s a1) := by
  unfold visoFalls
  repeat' (first | assumption | with_reducible apply ledger_kept | with_reducible apply Kept.ite | with_reducible exact Kept.record rfl rfl rfl id id id id id id (by assumption) | intro _)

theorem chanVbbOff_kept {a1 : FDie} {a2 : Chan} (h : Kept s0 s) : Kept s0 (chanVbbOff a1 s a2) := by
  unfold chanVbbOff
  repeat' (first | assumption | with_reducible apply openFree_kept | with_reducible apply updChan_kept | with_reducible apply useFree_kept | with_reducible apply withdraw_kept | with_reducible apply Kept.ite | intro _)

theorem endChainTest_kept {a1 : Chan} (h : Kept s0 s) : Kept s0 (endChainTest s a1) := by
  unfold endChainTest
  repeat' (first | assumption | with_reducible apply updChurn_kept | with_reducible apply startChurn_kept | with_reducible apply stopChurn_kept | with_reducible apply Kept.ite | intro _)

theorem ldKept_kept  (h : Kept s0 s) : Kept s0 (ldKept s) := by
  unfold ldKept
  extract_lets s1 s2
  have h1 : Kept s0 s1 := Kept.foldl (fun _ _ h => Kept.ite (fun _ => owSwitch_kept h) fun _ => h) _ h
  clear_value s1
  have h2 : Kept s0 s2 := Kept.foldl (fun _ _ h => endChainTest_kept h) _ h1
  clear_value s2
  exact Kept.record rfl rfl rfl id id id id id id h2

theorem controlReset_kept {a1 : Nat} (h : Kept s0 s) : Kept s0 (controlReset s a1) := 
  { pending := h.pending
    tap := h.tap
    vddio := h.vddio
    inv := fun hi =>
    { store := (h.inv hi).store, mem := fun k => by fin_cases k <;> rfl, image := rfl, regs := regsReset_wf, shadow := srPart_wf regsReset_wf
      pc := fun k => by fin_cases k <;> rfl, entry := rfl } }

theorem enterReset_kept {a1 : Nat} (h : Kept s0 s) : Kept s0 (enterReset s a1) := by
  unfold enterReset
  exact ldKept_kept (controlReset_kept (Kept.ite (fun _ => Kept.foldl (fun _ _ => diePowerOff_kept) _ h) fun _ => h))

theorem rstctlWrite_kept {a1 : Word} (h : Kept s0 s) : Kept s0 (rstctlWrite s a1) := enterReset_kept h

theorem updWd_kept {a1 : Fin 4} {a2 : WdSt → WdSt} (h : Kept s0 s) : Kept s0 (updWd s a1 a2) := by
  unfold updWd
  repeat' (first | assumption | refine Kept.record rfl rfl rfl id id id id id id ?_)

theorem wdArm_kept {a1 : Fin 4} (h : Kept s0 s) : Kept s0 (wdArm s a1) := by
  unfold wdArm
  repeat' (first | assumption | with_reducible apply updWd_kept)

theorem wdSync_kept  (h : Kept s0 s) : Kept s0 (wdSync s) := by
  unfold wdSync
  repeat' (first | assumption | with_reducible apply updWd_kept | with_reducible apply Kept.ite | intro _)

theorem wdArmHost_kept  (h : Kept s0 s) : Kept s0 (wdArmHost s) := by
  unfold wdArmHost
  repeat' (first | assumption | with_reducible apply wdSync_kept | with_reducible apply wdArm_kept)

theorem wdAct_kept {a1 : Fin 4} {a2 : Bool} (h : Kept s0 s) : Kept s0 (wdAct s a1 a2) := by
  unfold wdAct
  extract_lets rearm
  have hr : ∀ t, Kept s0 t → Kept s0 (rearm t) := fun t ht =>
    Kept.ite (fun _ => updWd_kept ht) fun _ => Kept.ite (fun _ => wdArmHost_kept ht) fun _ => wdArm_kept ht
  clear_value rearm
  split
  · dsimp only
    split
    · exact learnCause_kept (updLane_kept (fun _ hx => hx) (updWd_kept h))
    · exact updWd_kept h
  · exact hr _ (Kept.ite (fun _ => Kept.record rfl rfl rfl id id id id id id h) fun _ => h)
  · exact enterReset_kept h
  · exact hr _ h

theorem wdExpire_kept {a1 : Fin 4} (h : Kept s0 s) : Kept s0 (wdExpire s a1) := by
  unfold wdExpire
  repeat' (first | assumption | with_reducible apply updWd_kept | with_reducible apply wdAct_kept | with_reducible apply ledger_kept)

theorem wdSeen_kept {a1 : Fin 4} {a2 : Nat} (h : Kept s0 s) : Kept s0 (wdSeen s a1 a2) := by
  unfold wdSeen
  repeat' (first | assumption | with_reducible apply updWd_kept | with_reducible apply Kept.ite | intro _)

theorem wdBad_kept {a1 : Fin 4} {a2 : Word} (h : Kept s0 s) : Kept s0 (wdBad s a1 a2) := by
  unfold wdBad
  repeat' (first | assumption | with_reducible apply ledger_kept | with_reducible apply updWd_kept | with_reducible apply wdExpire_kept | with_reducible apply Kept.ite | intro _)

theorem wdCheckin_kept {a1 : Fin 4} {a2 : Word} (h : Kept s0 s) : Kept s0 (wdCheckin s a1 a2) := by
  unfold wdCheckin
  repeat' (first | assumption | with_reducible apply wdSeen_kept | with_reducible apply wdBad_kept | with_reducible apply Kept.ite | intro _)

theorem wdClear_kept {a1 : Word} {a2 : Fin 4} (h : Kept s0 s) : Kept s0 (wdClear a1 s a2) := by
  unfold wdClear
  repeat' (first | assumption | with_reducible apply updWd_kept | with_reducible apply wdArmHost_kept | with_reducible apply Kept.ite | intro _)

theorem wdclrWrite_kept {a1 : Word} (h : Kept s0 s) : Kept s0 (wdclrWrite s a1) := by
  unfold wdclrWrite
  repeat' (first | assumption | with_reducible apply wdClear_kept | with_reducible apply Kept.foldl | intro _)

theorem wdLaneT0_kept {a1 : Lane} (h : Kept s0 s) : Kept s0 (wdLaneT0 s a1) := by
  unfold wdLaneT0
  repeat' (first | assumption | with_reducible apply wdArm_kept | with_reducible apply Kept.ite | intro _)

theorem wdApplied_kept {a1 : RegMap} (h : Kept s0 s) : Kept s0 (wdApplied a1 s) := by
  unfold wdApplied
  repeat' (first | assumption | with_reducible apply updWd_kept | with_reducible apply wdArm_kept | with_reducible apply wdArmHost_kept | with_reducible apply wdSync_kept | with_reducible apply Kept.ite | with_reducible apply Kept.foldl | intro _)

theorem haltLane_kept {a1 : Lane} (h : Kept s0 s) : Kept s0 (haltLane s a1) := by
  unfold haltLane
  repeat' (first | assumption | with_reducible apply wdOff_kept | with_reducible apply updLane_kept | exact fun _ hx => hx)

theorem reintStop_kept {a1 : Lane} (h : Kept s0 s) : Kept s0 (reintStop s a1) := by
  unfold reintStop
  repeat' (first | assumption | with_reducible apply mntEndOf_kept | with_reducible apply updLane_kept | with_reducible apply Kept.ite | intro _)

theorem stopLanes_kept  (h : Kept s0 s) : Kept s0 (stopLanes s) := by
  have h2 : Kept s0 (lanes3.foldl (fun s l => mntEndOf s 1 l.val endAborted) (lanes3.foldl (fun s l => haltLane (reintStop s l) l) s)) :=
    Kept.foldl (fun _ _ => mntEndOf_kept) _ (Kept.foldl (fun _ _ h => haltLane_kept (reintStop_kept h)) _ h)
  unfold stopLanes
  dsimp only
  revert h2
  generalize lanes3.foldl (fun s l => mntEndOf s 1 l.val endAborted) (lanes3.foldl (fun s l => haltLane (reintStop s l) l) s) = u
  intro h2
  exact Kept.record rfl rfl rfl id (laneOk_map fun _ hx => hx) id id id id h2

theorem flushAll_kept  (h : Kept s0 s) : Kept s0 (flushAll s) := Kept.foldl (fun _ _ h => dropHeld_kept (canFlush_kept h)) _ h

theorem canLeaveQuiet_kept {a1 : Ctrl} (h : Kept s0 s) : Kept s0 (canLeaveQuiet s a1) := by
  unfold canLeaveQuiet
  repeat' (first | assumption | with_reducible apply canUpd_kept | with_reducible apply Kept.ite | intro _)

theorem setMode_kept {a1 : Mode} {a2 : Nat} (h : Kept s0 s) : Kept s0 (setMode s a1 a2) := by
  unfold setMode
  extract_lets _ s1 s2 s3 _ s4 s5
  have h1 : Kept s0 s1 := irq_kept (Kept.record rfl rfl rfl id id id id id id h)
  clear_value s1
  have h2 : Kept s0 s2 := Kept.ite (fun _ => h1) fun _ => stopLanes_kept h1
  clear_value s2
  have h3 : Kept s0 s3 := Kept.ite (fun _ => Kept.foldl (fun _ _ => reintStop_kept) _ h2) fun _ => h2
  clear_value s3
  have h4 : Kept s0 s4 := Kept.ite (fun _ => flushAll_kept (Kept.record rfl rfl rfl id id id id id id h3)) fun _ => h3
  clear_value s4
  have h5 : Kept s0 s5 := Kept.ite (fun _ => Kept.foldl (fun _ _ => canLeaveQuiet_kept) _ h4) fun _ => h4
  clear_value s5
  exact wdSync_kept (Kept.ite (fun _ => ledger_kept h5) fun _ => Kept.ite (fun _ => ledger_kept h5) fun _ => h5)

theorem setDrop_kept  (h : Kept s0 s) : Kept s0 (setDrop s) := by
  unfold setDrop
  repeat' (first | assumption | refine Kept.record rfl rfl rfl id id id id id id ?_)

theorem startCycleAt_kept {a1 : Nat} (h : Kept s0 s) : Kept s0 (startCycleAt s a1) := by
  unfold startCycleAt
  repeat' (first | assumption | with_reducible exact Kept.record rfl rfl rfl id id id id id id (by assumption))

theorem startCycle_kept  (h : Kept s0 s) : Kept s0 (startCycle s) := by
  unfold startCycle
  repeat' (first | assumption | refine Kept.record rfl rfl rfl id id id id id id ?_)

theorem resumeCycle_kept  (h : Kept s0 s) : Kept s0 (resumeCycle s) := by
  unfold resumeCycle
  repeat' (first | assumption | with_reducible apply startCycleAt_kept)

theorem laneStarted_kept {a1 : Option (List Byte)} (h : Kept s0 s) : Kept s0 (laneStarted s a1) := by
  unfold laneStarted
  exact Kept.record rfl rfl rfl id (laneOk_map fun x hx => ⟨startMem_wf _ hx.1, hx.2⟩) (fun _ => rfl) id id id h

theorem dropCmd_kept  (h : Kept s0 s) : Kept s0 (dropCmd s) := by
  unfold dropCmd
  repeat' (first | assumption | refine Kept.record rfl rfl rfl id id id id id id ?_)

theorem laneStart_kept  (h : Kept s0 s) : Kept s0 (laneStart s) := by
  unfold laneStart
  repeat' (first | assumption | with_reducible apply laneStarted_kept | with_reducible apply dropCmd_kept | split)

theorem modecmdWrite_kept {a1 : Word} (h : Kept s0 s) : Kept s0 (modecmdWrite s a1) := by
  unfold modecmdWrite
  extract_lets t c _ s1 _
  have h1 : Kept s0 s1 := Kept.record rfl rfl rfl id id id id id id h
  clear_value s1
  exact Kept.ite (fun _ => h1) fun _ => Kept.ite (fun _ => resumeCycle_kept (setMode_kept h1)) fun _ => Kept.record rfl rfl rfl id id id id id id h1

theorem wake_kept {a1 : BitVec 4} {a2 : Nat} (h : Kept s0 s) : Kept s0 (wake s a1 a2) := by
  unfold wake
  repeat' (first | assumption | with_reducible apply resumeCycle_kept | with_reducible apply setMode_kept | with_reducible apply irq_kept | with_reducible apply setDrop_kept | with_reducible apply diePowerOn_kept | with_reducible apply Kept.ite | with_reducible apply Kept.foldl | intro _ | with_reducible refine Kept.record rfl rfl rfl id id id id id id ?_)

theorem wakeAtEntry_kept  (h : Kept s0 s) : Kept s0 (wakeAtEntry s) := by
  unfold wakeAtEntry
  repeat' (first | assumption | with_reducible apply wake_kept | with_reducible apply Kept.ite | intro _)

theorem enterRecovery_kept {a1 : Nat} (h : Kept s0 s) : Kept s0 (enterRecovery s a1) := Kept.record rfl rfl rfl id id id id id (fun _ => rfl) h

theorem selectBank_kept  (h : Kept s0 s) : Kept s0 (selectBank s) := by
  unfold selectBank
  extract_lets d active wanted trial _ _ s1 cand
  have h1 : Kept s0 s1 := Kept.ite (fun _ => useFree_kept (dirWrite_kept h)) fun _ =>
    Kept.ite (fun _ => Kept.record rfl rfl rfl id id id id id id (useFree_kept h)) fun _ => h
  clear_value s1
  exact Kept.ite (fun _ => Kept.record rfl rfl rfl id id id id id id h1) fun _ =>
    Kept.ite (fun _ => Kept.record rfl rfl rfl id id id id id id h1) fun _ => enterRecovery_kept h1

theorem bootClock_kept (h : Kept s0 s) : Kept s0 (bootClock s) := by
  unfold bootClock
  exact putReg_kept (Kept.record rfl rfl rfl id id id id id id (useFree_kept h))

theorem bootPhase2_kept  (h : Kept s0 s) : Kept s0 (bootPhase2 s) := by
  unfold bootPhase2
  repeat' (first | assumption | with_reducible apply bootClock_kept | with_reducible apply enterRecovery_kept | with_reducible apply useFree_kept | with_reducible apply selectBank_kept | with_reducible apply Kept.ite | intro _ | split)

theorem setMeas_kept {a1 : Nat} {a2 : List Word} (h : Kept s0 s) : Kept s0 (setMeas s a1 a2) := by
  unfold setMeas
  repeat' (first | assumption | refine Kept.record rfl rfl rfl id id id id id id ?_)

theorem bootPhase3_kept  (h : Kept s0 s) : Kept s0 (bootPhase3 s) := by
  unfold bootPhase3
  repeat' (first | assumption | with_reducible apply enterRecovery_kept | split | refine Kept.record rfl rfl rfl id id id id id id ?_)

theorem bootDie_kept {a1 : Die} (h : Kept s0 s) : Kept s0 (bootDie s a1) := by
  unfold bootDie
  repeat' (first | assumption | with_reducible apply dieReady_kept | with_reducible apply dieClear_kept | with_reducible apply Kept.ite | intro _)

theorem bootPhase4_kept  (h : Kept s0 s) : Kept s0 (bootPhase4 s) := by
  unfold bootPhase4
  repeat' (first | assumption | with_reducible apply bootDie_kept | with_reducible apply enterRecovery_kept | with_reducible apply Kept.foldl | split | refine Kept.record rfl rfl rfl id id id id id id ?_)

theorem bootPhase5_kept  (h : Kept s0 s) : Kept s0 (bootPhase5 s) := by
  unfold bootPhase5
  split
  · exact enterRecovery_kept h
  · rename_i e _
    by_cases hk : headerOk s.store e.base e.len = true
    · rw [if_neg (by simp [hk])]
      have he : beAt s.store (e.base + 0xC) 4 % 4 = 0 := by
        simp only [headerOk, Bool.and_eq_true, decide_eq_true_eq] at hk
        exact hk.1.1.1.2
      refine setMeas_kept (Kept.record rfl rfl rfl id (laneOk_map fun x hx => ⟨memBlock_wf 0 _ _ rfl, hx.2⟩) id id id (fun _ => ?_) h)
      simp only [BitVec.toNat_ofNat]
      omega
    · rw [if_pos (by simp [hk])]
      exact enterRecovery_kept h

theorem csReject_kept {a1 : Nat} {a2 : Nat} (h : Kept s0 s) : Kept s0 (csReject s a1 a2) := by
  unfold csReject
  repeat' (first | assumption | with_reducible apply enterRecovery_kept | refine Kept.record rfl rfl rfl id id id id id id ?_)

theorem powerPlan_kept {a1 : Nat} {a2 : Die} (h : Kept s0 s) : Kept s0 (powerPlan a1 s a2) := by
  unfold powerPlan
  repeat' (first | assumption | with_reducible apply diePowerOn_kept | with_reducible apply Kept.ite | intro _)

theorem canTables_kept  (h : Kept s0 s) : Kept s0 (canTables s) := by
  unfold canTables
  repeat' (first | assumption | split | refine Kept.record rfl rfl rfl id id id id id id ?_)

theorem csTake_kept {a1 : RegMap} {a2 : List Byte} (hr : amWf 0 s.regs = true → amWf 0 a1 = true) (h : Kept s0 s) : Kept s0 (csTake s a1 a2) := by
  unfold csTake
  have h1 : Kept s0 { s with regs := rmSet (rmSet a1 (regKey 0 0x23) 0) (regKey 0 0x24) 0 } :=
    Kept.record rfl rfl rfl id id id (fun hs => amWf_amSet _ _ (amWf_amSet _ _ (hr hs))) id id h
  exact setMeas_kept (syncRestart_kept (canTables_kept (Kept.foldl (fun _ _ => powerPlan_kept) _ (Kept.of_shadow (Kept.record rfl rfl rfl id id id id id id h1)))))

theorem bootPhase6_kept  (h : Kept s0 s) : Kept s0 (bootPhase6 s) := by
  unfold bootPhase6
  split
  · exact enterRecovery_kept h
  · dsimp only
    refine Kept.ite (fun _ => csReject_kept h) fun _ => ?_
    split
    · exact csReject_kept h
    · split
      · exact csReject_kept h
      · exact csTake_kept (csLoad_wf _) h

theorem journalRead_kept  (h : Kept s0 s) : Kept s0 (journalRead s).1 := by
  unfold journalRead
  repeat' (first | assumption | with_reducible apply useFree_kept | with_reducible apply mpReadError_kept | split)

theorem bootPhase7_kept  (h : Kept s0 s) : Kept s0 (bootPhase7 s) := by
  have h1 : Kept s0 (journalRead s).1 := journalRead_kept h
  unfold bootPhase7
  dsimp only
  generalize journalRead s = q at h1 ⊢
  exact Kept.record rfl rfl rfl id (laneOk_map fun x hx => ⟨startMem_wf _ hx.1, hx.2⟩) id id id id h1

theorem adoptTime_kept  (h : Kept s0 s) : Kept s0 (adoptTime s) := by
  unfold adoptTime
  repeat' (first | assumption | refine Kept.record rfl rfl rfl id id id id id id ?_)

theorem finishBoot_kept  (h : Kept s0 s) : Kept s0 (finishBoot s) := by
  unfold finishBoot
  extract_lets s1 _ s2 init s3 _ s4 s5
  have h2 : Kept s0 s2 := Kept.record rfl rfl rfl id id id id id id (adoptTime_kept h)
  clear_value s2
  have h3 : Kept s0 s3 := Kept.ite (fun _ => setMode_kept h2) fun _ => startCycle_kept (setMode_kept h2)
  clear_value s3
  have h4 : Kept s0 s4 := Kept.ite (fun _ => Kept.ite (fun _ => Kept.record rfl rfl rfl id id id id id id h3) fun _ => setDrop_kept h3) fun _ => h3
  clear_value s4
  have h5 : Kept s0 s5 := Kept.foldl (fun _ _ h => Kept.ite (fun _ => canStart_kept h) fun _ => h) _ h4
  clear_value s5
  exact wakeAtEntry_kept (Kept.ite (fun _ => wdArmHost_kept h5) fun _ => h5)

theorem bootStep_kept  (h : Kept s0 s) : Kept s0 (bootStep s) := by
  unfold bootStep
  split
  · exact bootPhase3_kept h
  · exact bootPhase4_kept h
  · exact bootPhase5_kept h
  · exact bootPhase6_kept h
  · exact bootPhase7_kept h
  · exact finishBoot_kept h
  · exact h

theorem release_kept {a1 : BitVec 2} {a2 : Bool} (h : Kept s0 s) : Kept s0 (release s a1 a2) := by
  unfold release
  repeat' (first | assumption | with_reducible apply enterRecovery_kept | with_reducible apply bootPhase2_kept | split | refine Kept.record rfl rfl rfl id id id id id id ?_)

theorem chcntclrWrite_kept {a1 : FDie} {a2 : Word} (h : Kept s0 s) : Kept s0 (chcntclrWrite s a1 a2) := by
  unfold chcntclrWrite
  repeat' (first | assumption | with_reducible apply updChan_kept | with_reducible apply Kept.ite | with_reducible apply Kept.foldl | intro _)

theorem makeImage_kept {a1 : BitVec 64} (h : Kept s0 s) : Kept s0 (makeImage s a1) := by
  unfold makeImage
  exact Kept.record rfl rfl rfl id id
    (fun hi => memBlock_wf 0 _ _ (memBlock_wf 0 _ _ (memBlock_wf 0 _ _ (memBlock_wf 0 _ _ (memBlock_wf 0 _ _ (putSlots_wf _ (amWfFrom_filter _ hi)))))))
    id id id (Kept.record rfl rfl rfl id id id id id id h)

theorem freezeTaken_kept  (h : Kept s0 s) : Kept s0 (freezeTaken s) := by
  unfold freezeTaken
  exact (Kept.foldl (fun _ _ h => updLoop_kept h) _ (Kept.foldl (fun _ _ h => updChan_kept h) _ h))

theorem publish_kept  (h : Kept s0 s) : Kept s0 (publish s) := by
  unfold publish
  repeat' (first | assumption | split | refine Kept.record rfl rfl rfl id id id id id id ?_)

theorem stampEvent_kept {a1 : Die} {a2 : Nat} (h : Kept s0 s) : Kept s0 (stampEvent s a1 a2) := by
  unfold stampEvent
  repeat' (first | assumption | with_reducible apply updDie_kept)

theorem reintOut_kept {a1 : Lane} (h : Kept s0 s) : Kept s0 (reintOut s a1) := by
  unfold reintOut
  repeat' (first | assumption | with_reducible apply mntEndOf_kept | with_reducible apply updLane_kept | exact fun _ hx => hx)

theorem reintAttempts_kept {n : Nat} {l : Lane} (h : Kept s0 s) : Kept s0 (reintAttempts n s l) := by
  induction n generalizing s with
  | zero => exact reintOut_kept h
  | succ n ih =>
    unfold reintAttempts
    have h1 := updLane_kept (a1 := l) (a2 := fun x =>
      { x with
        state := 2, triesLeft := n, attempts := satAdd 65535 x.attempts 1, dirty := [], convCnt := 0, stageAt := s.mono
        shadowDiff := false, run := .halted, copyAt := 0, winUsed := 0 }) (fun _ hx => hx) h
    exact Kept.ite (fun _ => h1) fun _ => ih (updLane_kept (fun _ hx => hx) h1)

theorem reintFail_kept {a1 : Lane} {a2 : Nat} (h : Kept s0 s) : Kept s0 (reintFail s a1 a2) := by
  unfold reintFail
  repeat' (first | assumption | with_reducible apply updLane_kept | with_reducible apply reintAttempts_kept | exact fun _ hx => hx | refine Kept.record rfl rfl rfl id id id id id id ?_)

theorem reintStart_kept {a1 : Lane} {a2 : Nat} {a3 : Nat} (h : Kept s0 s) : Kept s0 (reintStart s a1 a2 a3) := by
  unfold reintStart
  repeat' (first | assumption | with_reducible apply reintAttempts_kept | with_reducible apply mntStart_kept)

theorem recopy_kept {a1 : Lane} (h : Kept s0 s) : Kept s0 (recopy s a1) := by
  unfold recopy
  split
  · exact h
  · rename_i a c _
    unfold updLane
    exact Kept.record rfl rfl rfl id (fun hs => laneOk_vmod (fun x hx => ⟨copyBlocks_wf _ hx.1 (hs a).1, hx.2⟩) hs) id id id id h

theorem catchup_kept {a1 : Lane} (h : Kept s0 s) : Kept s0 (catchup s a1) := by
  unfold catchup
  repeat' (first | assumption | with_reducible apply updLane_kept | with_reducible apply recopy_kept | with_reducible apply Kept.ite | intro _ | refine Kept.record rfl rfl rfl id id id id id id ?_)

theorem laneClose_kept {a1 : Lane} (h : Kept s0 s) : Kept s0 (laneClose s a1) := by
  unfold laneClose
  repeat' (first | assumption | with_reducible apply learnCause_kept | with_reducible apply wdOff_kept | with_reducible apply updLane_kept | with_reducible apply Kept.ite | intro _ | split)

theorem voteClose_kept  (h : Kept s0 s) : Kept s0 (voteClose s) := by
  unfold voteClose
  split
  · exact h
  · refine Kept.foldl (fun _ _ => catchup_kept) _ ?_
    have h2 : Kept s0 (lanes3.foldl laneClose (timeTo s (voteCloseAt s))) := Kept.foldl (fun _ _ => laneClose_kept) _ (timeTo_kept h)
    dsimp only
    generalize timeTo s (voteCloseAt s) = u at h2 ⊢
    generalize lanes3.foldl laneClose u = w at h2 ⊢
    exact Kept.record rfl rfl rfl id (laneOk_map fun _ hx => hx) id id id id h2

theorem takeMap_kept {a1 : RegMap} {a2 : FDie} {a3 : Chan} (h : Kept s0 s) : Kept s0 (takeMap a1 a2 s a3) := by
  unfold takeMap
  repeat' (first | assumption | with_reducible apply enterLimp_kept | with_reducible apply updChan_kept | with_reducible apply leaveLimp_kept | with_reducible apply Kept.ite | intro _)

theorem newMode_kept {a1 : FDie} {a2 : Chan} (h : Kept s0 s) : Kept s0 (newMode s a1 a2) := by
  unfold newMode
  repeat' (first | assumption | with_reducible apply updChan_kept | with_reducible apply rowTen_kept | with_reducible apply setCauses_kept | with_reducible apply Kept.ite | intro _)

theorem newSafe_kept {a1 : RegMap} {a2 : RegMap} {a3 : FDie} {a4 : Chan} (h : Kept s0 s) : Kept s0 (newSafe a1 a2 a3 s a4) := by
  unfold newSafe
  repeat' (first | assumption | with_reducible apply updChan_kept | with_reducible apply Kept.ite | intro _)

theorem chanSettings_kept {a1 : RegMap} {a2 : RegMap} {a3 : Bool} {a4 : Bool} {a5 : FDie} {a6 : Chan} (h : Kept s0 s) : Kept s0 (chanSettings a1 a2 a3 a4 a5 s a6) := by
  unfold chanSettings
  repeat' (first | assumption | with_reducible apply newMode_kept | with_reducible apply newSafe_kept | with_reducible apply updChan_kept | with_reducible apply takeMap_kept | with_reducible apply Kept.ite | intro _)

theorem fieldSettings_kept {a1 : FDie} {a2 : RegMap} {a3 : RegMap} {a4 : Bool} {a5 : Bool} (h : Kept s0 s) : Kept s0 (fieldSettings s a1 a2 a3 a4 a5) := by
  unfold fieldSettings
  repeat' (first | assumption | with_reducible apply updField_kept | with_reducible apply sweepStore_kept | with_reducible apply chanSettings_kept | with_reducible apply Kept.foldl | intro _)

theorem loopSettings_kept {a1 : RegMap} {a2 : RegMap} {a3 : Chan} (h : Kept s0 s) : Kept s0 (loopSettings a1 a2 s a3) := by
  unfold loopSettings
  repeat' (first | assumption | with_reducible apply loopMode_kept | with_reducible apply trimLoopFault_kept | with_reducible apply startChurn_kept | with_reducible apply churnSync_kept | with_reducible apply Kept.ite | intro _)

theorem takeSettings_kept {a1 : Die} (h : Kept s0 s) : Kept s0 (takeSettings s a1) := by
  unfold takeSettings
  repeat' (first | assumption | with_reducible apply updDie_kept | with_reducible apply fieldSettings_kept | with_reducible apply loopSettings_kept | with_reducible apply startSurvey_kept | with_reducible apply Kept.ite | with_reducible apply Kept.foldl | intro _ | split)

theorem dieReports_kept {a1 : Option Lane} {a2 : Die} (h : Kept s0 s) : Kept s0 (dieReports s a1 a2) := by
  unfold dieReports
  repeat' (first | assumption | split | refine Kept.record rfl rfl rfl id id id id id id ?_)

theorem takeClr_kept {a1 : RecVote} {a2 : FDie} {a3 : Chan} (h : Kept s0 s) : Kept s0 (takeClr a1 a2 s a3) := by
  unfold takeClr
  repeat' (first | assumption | with_reducible apply clrEdge_kept | with_reducible apply updChan_kept | split)

theorem noteNoMaj_kept {a1 : RecVote} {a2 : Bool} {a3 : FDie} {a4 : Chan} (h : Kept s0 s) : Kept s0 (noteNoMaj a1 a2 a3 s a4) := by
  unfold noteNoMaj
  repeat' (first | assumption | with_reducible apply dieLedger_kept | with_reducible apply Kept.ite | intro _)

theorem chanAct_kept {a1 : Chan → RecVote} {a2 : FDie} {a3 : Chan} (h : Kept s0 s) : Kept s0 (chanAct a1 a2 s a3) := by
  unfold chanAct
  repeat' (first | assumption | with_reducible apply updChan_kept | with_reducible apply takeClr_kept | with_reducible apply noteNoMaj_kept | with_reducible apply dropBits_kept | with_reducible apply setCauses_kept | with_reducible apply endPermWait_kept | with_reducible apply Kept.ite | intro _)

theorem noteMan_kept {a1 : Die} {a2 : Nat} {a3 : Nat} (h : Kept s0 s) : Kept s0 (noteMan s a1 a2 a3) := by
  unfold noteMan
  repeat' (first | assumption | with_reducible apply dieLedger_kept | with_reducible apply Kept.ite | intro _)

theorem manAct_kept {a1 : FDie} {a2 : List (List Byte)} (h : Kept s0 s) : Kept s0 (manAct s a1 a2) := by
  unfold manAct
  repeat' (first | assumption | with_reducible apply updField_kept | with_reducible apply actGroup_kept | with_reducible apply noteMan_kept)

theorem fieldAct_kept {a1 : FDie} (h : Kept s0 s) : Kept s0 (fieldAct s a1) := by
  unfold fieldAct
  exact waitPass_kept (settle_kept (manAct_kept (Kept.foldl (fun _ _ h => chanAct_kept h) _ (updField_kept h))))

theorem chanRest_kept {a1 : VoteKind} {a2 : Chan → RecVote} {a3 : FDie} {a4 : Chan} (h : Kept s0 s) : Kept s0 (chanRest a1 a2 a3 s a4) := by
  unfold chanRest
  repeat' (first | assumption | with_reducible apply updChan_kept | with_reducible apply noteNoMaj_kept | with_reducible apply setCauses_kept | with_reducible apply Kept.ite | intro _)

theorem fieldRest_kept {a1 : FDie} {a2 : VoteKind} (h : Kept s0 s) : Kept s0 (fieldRest s a1 a2) := by
  unfold fieldRest
  refine waitPass_kept (settle_kept (Kept.foldl (fun _ _ h => ?_) _ (updField_kept h)))
  exact chanRest_kept h

theorem ldAct_kept  (h : Kept s0 s) : Kept s0 (ldAct s) := by
  unfold ldAct
  repeat' (first | assumption | with_reducible apply noteMan_kept | with_reducible apply updChurn_kept | with_reducible apply Kept.ite | with_reducible apply Kept.foldl | with_reducible exact Kept.record rfl rfl rfl id id id id id id (by assumption) | intro _)

theorem endReplaced_kept {a1 : FDie} (h : Kept s0 s) : Kept s0 (endReplaced s a1) := by
  unfold endReplaced
  repeat' (first | assumption | with_reducible apply updField_kept)

theorem clearReports_kept {a1 : Die} (h : Kept s0 s) : Kept s0 (clearReports s a1) := by
  unfold clearReports
  repeat' (first | assumption | with_reducible apply updDie_kept)

theorem dieCommit_kept {a1 : Bool} {a2 : VoteKind} {a3 : Option Lane} {a4 : Die} (h : Kept s0 s) : Kept s0 (dieCommit a1 a2 a3 s a4) := by
  unfold dieCommit
  split
  · exact clearReports_kept h
  · have h2 : Kept s0 (if a2 = .voted then dieReports (takeSettings s a4) a3 a4 else clearReports (takeSettings s a4) a4) :=
      Kept.ite (fun _ => dieReports_kept (takeSettings_kept h)) fun _ => clearReports_kept (takeSettings_kept h)
    refine updDie_kept ?_
    dsimp only
    generalize (if a2 = .voted then dieReports (takeSettings s a4) a3 a4 else clearReports (takeSettings s a4) a4) = u at h2 ⊢
    split
    · have h3 : Kept s0 (if a1 = true then fieldAct u ‹_› else fieldRest u ‹_› a2) := Kept.ite (fun _ => fieldAct_kept h2) fun _ => fieldRest_kept h2
      exact Kept.ite (fun _ => endReplaced_kept h3) fun _ => h3
    · exact Kept.ite (fun _ => ldAct_kept h2) fun _ => ldDiscard_kept h2

theorem adoptCopy_kept {a1 : Lane} {a2 : Lane} {a3 : Die} (h : Kept s0 s) : Kept s0 (adoptCopy a1 a2 s a3) := by
  unfold adoptCopy
  repeat' (first | assumption | with_reducible apply updDie_kept)

theorem dieAfter_kept {a1 : Die} (h : Kept s0 s) : Kept s0 (dieAfter s a1) := by
  unfold dieAfter
  repeat' (first | assumption | with_reducible apply updDie_kept | with_reducible apply useFree_kept)

theorem zeroCopies_kept {a1 : Die} (h : Kept s0 s) : Kept s0 (zeroCopies s a1) := by
  unfold zeroCopies
  repeat' (first | assumption | with_reducible apply updDie_kept)

theorem cdVote_kept {a1 : Option Lane} (h : Kept s0 s) : Kept s0 (cdVote s a1) := by
  have h1 : Kept s0 { s with
      snap := { s.snap with out := page7Of s }
      nomaj := if cdNoMaj s then s.nomaj.set 4 (satAdd (2 ^ 32 - 1) s.nomaj[4] 1) else s.nomaj } :=
    Kept.record rfl rfl rfl id id id id id id h
  unfold cdVote
  refine Kept.foldl (fun _ _ h => Kept.ite (fun _ => learnCause_kept h) fun _ => h) _ ?_
  split
  · exact Kept.ite (fun _ => updLane_kept (fun _ hx => hx) h1) fun _ => h1
  · exact h1

theorem noteHub_kept {a1 : Nat} {a2 : Nat} (h : Kept s0 s) : Kept s0 (noteHub s a1 a2) := by
  unfold noteHub
  repeat' (first | assumption | with_reducible apply ledger_kept | with_reducible apply Kept.ite | intro _)

theorem hubAct_kept  (h : Kept s0 s) : Kept s0 (hubAct s) := by
  unfold hubAct
  exact hubPlace_kept (Kept.foldl (fun _ _ => fifoPutAll_kept) _ (noteHub_kept (Kept.record rfl rfl rfl id id id id id id h)))

theorem hubLimp_kept  (h : Kept s0 s) : Kept s0 (hubLimp s) := by
  unfold hubLimp
  split
  · exact Kept.ite (fun _ => h) fun _ => Kept.foldl (fun _ _ h => fifoPutAll_kept (canUpd_kept h)) _ h
  · exact h

theorem hubCommit_kept {a1 : Bool} {a2 : Bool} (h : Kept s0 s) : Kept s0 (hubCommit s a1 a2) := by
  unfold hubCommit
  extract_lets s1 s2
  have h2 : Kept s0 s2 := Kept.ite (fun _ => Kept.foldl (fun _ _ h => dropHeld_kept (canFlush_kept h)) _ (ageFrames_kept h)) fun _ => ageFrames_kept h
  clear_value s2
  exact Kept.ite (fun _ => hubAct_kept h2) fun _ => Kept.ite (fun _ => hubLimp_kept h2) fun _ => h2

theorem newCycle_kept  (h : Kept s0 s) : Kept s0 (newCycle s) := by
  unfold newCycle
  repeat' (first | assumption | with_reducible apply timeTo_kept | refine Kept.record rfl rfl rfl id id id id id id ?_)

theorem excludeLane_kept {a1 : Lane} (h : Kept s0 s) : Kept s0 (excludeLane s a1) := by
  unfold excludeLane
  exact irq_kept (ledger_kept (Kept.record rfl rfl rfl id id id id id id (updLane_kept (fun _ hx => hx) (haltLane_kept h))))

theorem exclusions_kept {a1 : List Lane} (h : Kept s0 s) : Kept s0 (exclusions s a1) := by
  have h1 : Kept s0 { a1.foldl excludeLane s with lane := (a1.foldl excludeLane s).lane.map fun x => { x with pendCause := 0 } } :=
    Kept.record rfl rfl rfl id (laneOk_map fun _ hx => hx) id id id id (Kept.foldl (fun _ _ => excludeLane_kept) _ h)
  unfold exclusions
  exact Kept.ite (fun _ => h1) fun _ => Kept.foldl (fun _ _ => mntEndOf_kept) _ h1

theorem learnLinks_kept {a1 : Lane} (h : Kept s0 s) : Kept s0 (learnLinks s a1) := by
  unfold learnLinks
  repeat' (first | assumption | with_reducible apply learnCause_kept | with_reducible apply Kept.ite | intro _)

theorem rejoin_kept {a1 : Lane} (h : Kept s0 s) : Kept s0 (rejoin s a1) := by
  unfold rejoin
  repeat' (first | assumption | with_reducible apply updLane_kept | with_reducible apply learnLinks_kept | with_reducible apply irq_kept | with_reducible apply ledger_kept | with_reducible apply mntEndOf_kept | exact fun _ hx => hx | with_reducible refine Kept.record rfl rfl rfl id id id id id id ?_)

theorem shadowEnd_kept {a1 : Lane} (h : Kept s0 s) : Kept s0 (shadowEnd s a1) := by
  unfold shadowEnd
  repeat' (first | assumption | with_reducible apply reintFail_kept | with_reducible apply rejoin_kept | with_reducible apply Kept.ite | intro _)

theorem primeStep_kept {a1 : BitVec 3} {a2 : Bool} (h : Kept s0 s) : Kept s0 (primeStep s a1 a2) := by
  unfold primeStep
  extract_lets ls agree _ s1
  have h1 : Kept s0 s1 := Kept.record rfl rfl rfl id id id id id id h
  exact Kept.ite (fun _ => setMode_kept h1) fun _ =>
    Kept.ite (fun _ => Kept.ite (fun _ => setMode_kept h1) fun _ => setMode_kept h1) fun _ => h1

theorem memberRows_kept  (h : Kept s0 s) : Kept s0 (memberRows s) := by
  unfold memberRows
  dsimp only
  have hs : ∀ m r, Kept s0 (setMode s m r) := fun m r => setMode_kept h
  split
  · exact Kept.ite (fun _ => Kept.ite (fun _ => hs _ _) fun _ => hs _ _) fun _ => Kept.ite (fun _ => hs _ _) fun _ =>
      Kept.ite (fun _ => hs _ _) fun _ => h
  · exact Kept.ite (fun _ => Kept.ite (fun _ => hs _ _) fun _ => hs _ _) fun _ => Kept.ite (fun _ => hs _ _) fun _ =>
      Kept.ite (fun _ => hs _ _) fun _ => h
  · exact Kept.ite (fun _ => hs _ _) fun _ => h
  · exact h

theorem beginPrime_kept {a1 : Nat} (h : Kept s0 s) : Kept s0 (beginPrime s a1) := by
  unfold beginPrime
  exact Kept.foldl (fun _ _ => learnLinks_kept) _
    (Kept.record rfl rfl rfl id (laneOk_map fun _ hx => hx) id id id id (Kept.foldl (fun _ _ => zeroCopies_kept) _ (setMode_kept h)))

theorem row4Step_kept  (h : Kept s0 s) : Kept s0 (row4Step s) := by
  unfold row4Step
  repeat' (first | assumption | with_reducible apply laneStart_kept | with_reducible apply beginPrime_kept | with_reducible apply Kept.ite | intro _ | split)

theorem safeStep_kept  (h : Kept s0 s) : Kept s0 (safeStep s) := by
  have h1 : Kept s0 { s with md := { s.md with safePending := false } } := Kept.record rfl rfl rfl id id id id id id h
  unfold safeStep
  exact Kept.ite (fun _ => setMode_kept h1) fun _ => h1

theorem cmdPrime_kept  (h : Kept s0 s) : Kept s0 (cmdPrime s) := by
  unfold cmdPrime
  repeat' (first | assumption | with_reducible apply laneStart_kept | with_reducible apply beginPrime_kept | with_reducible apply Kept.ite | intro _ | refine Kept.record rfl rfl rfl id id id id id id ?_)

theorem ownerCmd_kept  (h : Kept s0 s) : Kept s0 (ownerCmd s) := by
  unfold ownerCmd
  repeat' (first | assumption | with_reducible apply setDrop_kept | with_reducible apply cmdPrime_kept | with_reducible apply setMode_kept | split | refine Kept.record rfl rfl rfl id id id id id id ?_)

theorem startFlag_kept {a1 : Mode} (h : Kept s0 s) : Kept s0 (startFlag a1 s) := by
  unfold startFlag
  repeat' (first | assumption | with_reducible apply Kept.ite | with_reducible exact Kept.record rfl rfl rfl id id id id id id (by assumption) | intro _)

theorem modeStep_kept {a1 : BitVec 3} {a2 : Bool} (h : Kept s0 s) : Kept s0 (modeStep s a1 a2) := by
  unfold modeStep
  repeat' (first | assumption | with_reducible apply primeStep_kept | with_reducible apply memberRows_kept | with_reducible apply startFlag_kept | with_reducible apply ownerCmd_kept | with_reducible apply safeStep_kept | with_reducible apply row4Step_kept | with_reducible apply Kept.ite | intro _ | (lift_lets; intro x))

theorem canApplied_kept {a1 : RegMap} {a2 : Ctrl} (h : Kept s0 s) : Kept s0 (canApplied a1 s a2) := by
  unfold canApplied
  repeat' (first | assumption | with_reducible apply canStart_kept | with_reducible apply canUpd_kept | with_reducible apply Kept.ite | intro _)

theorem applyRefuse_kept {a1 : ApplyRule} (h : Kept s0 s) : Kept s0 (applyRefuse s a1) := by
  unfold applyRefuse
  repeat' (first | assumption | refine Kept.record rfl rfl rfl id id id id id id ?_)

theorem extendMeas_kept {a1 : RegMap} {a2 : RegMap} (h : Kept s0 s) : Kept s0 (extendMeas s a1 a2) := by
  unfold extendMeas
  repeat' (first | assumption | refine Kept.record rfl rfl rfl id id id id id id ?_)

theorem applyTake_kept {a1 : Nat} (h : Kept s0 s) : Kept s0 (applyTake s a1) := by
  unfold applyTake
  extract_lets old new s1 _ s2 s3
  have h1 : Kept s0 s1 := extendMeas_kept (Kept.record rfl rfl rfl id id id (takeSr_wf _) id id h)
  clear_value s1
  have h2 : Kept s0 s2 := Kept.of_shadow (Kept.record rfl rfl rfl id id id id id id h1)
  clear_value s2
  have h3 : Kept s0 s3 := tsyncOff_kept (Kept.ite (fun _ => h2) fun _ => syncRestart_kept h2)
  clear_value s3
  exact irq_kept (Kept.foldl (fun _ _ => canApplied_kept) _ (canTables_kept (wdApplied_kept h3)))

theorem applyStep_kept {a1 : Nat} (h : Kept s0 s) : Kept s0 (applyStep s a1) := by
  unfold applyStep
  repeat' (first | assumption | with_reducible apply applyRefuse_kept | with_reducible apply applyTake_kept | split)

theorem laneNew_kept {a1 : Lane} (h : Kept s0 s) : Kept s0 (laneNew s a1) := by
  unfold laneNew
  repeat' (first | assumption | with_reducible apply updLane_kept | with_reducible apply wdLaneT0_kept | with_reducible apply Kept.ite | intro _)

theorem autoReint_kept {a1 : Lane} (h : Kept s0 s) : Kept s0 (autoReint s a1) := by
  unfold autoReint
  repeat' (first | assumption | with_reducible apply reintStart_kept | with_reducible apply Kept.ite | intro _)

theorem journalStep_kept  (h : Kept s0 s) : Kept s0 (journalStep s) := by
  unfold journalStep
  repeat' (first | assumption | with_reducible apply Kept.ite | with_reducible exact Kept.record rfl rfl rfl id id id id id id (by assumption) | intro _)

theorem adoptStep_kept  (h : Kept s0 s) : Kept s0 (adoptStep s) := by
  unfold adoptStep
  split
  · exact (Kept.foldl (fun _ _ h => adoptCopy_kept h) _ h)
  · exact h

theorem setNext_kept  (h : Kept s0 s) : Kept s0 (setNext s) := by
  unfold setNext
  repeat' (first | assumption | refine Kept.record rfl rfl rfl id id id id id id ?_)

theorem commitHead_kept  (h : Kept s0 s) : Kept s0 (commitHead s).1 := by
  unfold commitHead
  extract_lets x s1 _ _ s2 out s3 s4
  have h2 : Kept s0 s2 := Kept.record rfl rfl rfl id id id id id id (newCycle_kept h)
  clear_value s2
  have h3 : Kept s0 s3 := Kept.foldl (fun _ _ => shadowEnd_kept) _ (exclusions_kept h2)
  clear_value s3
  exact setNext_kept (applyStep_kept (modeStep_kept h3))

theorem permitStep_kept  (h : Kept s0 s) : Kept s0 (permitStep s) := by
  unfold permitStep
  repeat' (first | assumption | refine Kept.record rfl rfl rfl id id id id id id ?_)

theorem actCount_kept  (h : Kept s0 s) : Kept s0 (actCount s) := by
  unfold actCount
  repeat' (first | assumption | with_reducible apply irq_kept | with_reducible apply Kept.ite | intro _ | with_reducible refine Kept.record rfl rfl rfl id id id id id id ?_)

theorem commitBody_kept {a1 : Mode} {a2 : Bool} {a3 : List Lane} {a4 : BitVec 64} (h : Kept s0 s) : Kept s0 (commitBody s a1 a2 a3 a4) := by
  unfold commitBody
  repeat' (first | assumption | with_reducible apply freezeTaken_kept | with_reducible apply makeImage_kept | with_reducible apply loopPower_kept | with_reducible apply dieCommit_kept | with_reducible apply cdVote_kept | with_reducible apply publish_kept | with_reducible apply hubCommit_kept | with_reducible apply permitStep_kept | with_reducible apply adoptStep_kept | with_reducible apply laneNew_kept | with_reducible apply dieAfter_kept | with_reducible apply journalStep_kept | with_reducible apply autoReint_kept | with_reducible apply actCount_kept | with_reducible apply Kept.ite | with_reducible apply Kept.foldl | intro _)

theorem quietEntry_kept  (h : Kept s0 s) : Kept s0 (quietEntry s) := by
  unfold quietEntry
  extract_lets s1 _ _ s2 s3 s4
  have h2 : Kept s0 s2 := setMode_kept (Kept.record rfl rfl rfl id id id id id id (timeTo_kept h))
  clear_value s2
  have h3 : Kept s0 s3 := applyStep_kept h2
  clear_value s3
  refine wakeAtEntry_kept (loopPower_kept ?_)
  repeat' (first | assumption | with_reducible apply takeSettings_kept | with_reducible apply Kept.ite | with_reducible apply Kept.foldl | intro _)

theorem commit_kept {a1 : BitVec 64} (h : Kept s0 s) : Kept s0 (commit s a1) := by
  unfold commit
  exact Kept.ite (fun _ => quietEntry_kept (voteClose_kept h)) fun _ => commitBody_kept (commitHead_kept (voteClose_kept h))

theorem updLink_kept {a1 : Link} {a2 : LinkSt → LinkSt} (h : Kept s0 s) : Kept s0 (updLink s a1 a2) := by
  unfold updLink
  repeat' (first | assumption | with_reducible apply updDie_kept | split)

theorem missEvents_kept {a1 : Lane} {a2 : Die} (h : Kept s0 s) : Kept s0 (missEvents s a1 a2) := by
  unfold missEvents
  repeat' (first | assumption | with_reducible apply updLane_kept | exact fun _ hx => hx)

theorem linkRestored_kept {a1 : Link} (h : Kept s0 s) : Kept s0 (linkRestored s a1) := by
  unfold linkRestored
  repeat' (first | assumption | with_reducible apply updDie_kept | with_reducible apply missEvents_kept | with_reducible apply sendKept_kept | split)

theorem takeClose_kept {a1 : Lane} {a2 : Die} (h : Kept s0 s) : Kept s0 (takeClose s a1 a2) := by
  unfold takeClose
  repeat' (first | assumption | with_reducible apply updDie_kept | with_reducible apply Kept.ite | intro _)

theorem takeReports_kept {a1 : Die} (h : Kept s0 s) : Kept s0 (takeReports s a1) := by
  unfold takeReports
  repeat' (first | assumption | with_reducible apply learnCause_kept | with_reducible apply updLane_kept | with_reducible apply Kept.ite | with_reducible apply Kept.foldl | intro _)

theorem takeFreeze_kept {a1 : Lane} {a2 : Die} (h : Kept s0 s) : Kept s0 (takeFreeze s a1 a2) := by
  unfold takeFreeze
  repeat' (first | assumption | with_reducible apply takeReports_kept | with_reducible apply updLane_kept | exact fun _ hx => hx)

theorem takeEvent_kept {a1 : Lane} {a2 : Die} (h : Kept s0 s) : Kept s0 (takeEvent s a1 a2) := by
  unfold takeEvent
  repeat' (first | assumption | with_reducible apply updLane_kept | exact fun _ hx => hx)

theorem spoilEvent_kept {a1 : Lane} {a2 : Die} (h : Kept s0 s) : Kept s0 (spoilEvent s a1 a2) := by
  unfold spoilEvent
  repeat' (first | assumption | with_reducible apply updLane_kept | with_reducible apply Kept.ite | intro _)

theorem takeFrame_kept {a1 : Link} {a2 : FrameKind} (h : Kept s0 s) : Kept s0 (takeFrame s a1 a2) := by
  unfold takeFrame
  repeat' (first | assumption | with_reducible apply takeClose_kept | with_reducible apply takeFreeze_kept | with_reducible apply takeEvent_kept | split)

theorem spoilFrame_kept {a1 : Link} {a2 : FrameKind} (h : Kept s0 s) : Kept s0 (spoilFrame s a1 a2) := by
  unfold spoilFrame
  repeat' (first | assumption | with_reducible apply spoilEvent_kept | intro _ | split)

theorem linkFrame_kept {a1 : Link} {a2 : Bool} {a3 : FrameKind} (h : Kept s0 s) : Kept s0 (linkFrame s a1 a2 a3) := by
  unfold linkFrame
  repeat' (first | assumption | with_reducible apply updDie_kept | with_reducible apply updLink_kept | with_reducible apply spoilFrame_kept | with_reducible apply takeFrame_kept | with_reducible apply linkRestored_kept | with_reducible apply Kept.ite | intro _)

theorem fieldLink_kept {a1 : FDie} (h : Kept s0 s) : Kept s0 (fieldLink s a1) := by
  unfold fieldLink
  exact settle_kept (Kept.foldl (fun _ _ h => (Kept.ite (fun _ => (setCauses_kept h)) fun _ => h)) _ (updField_kept h))

theorem dieLink_kept {a1 : Die} (h : Kept s0 s) : Kept s0 (dieLink s a1) := by
  have h1 := dieLedger_kept (a1 := a1) (a2 := 36) (a3 := 0) (a4 := 0) (updDie_kept (a1 := a1) (a2 := fun x => { x with linkDown := true }) h)
  unfold dieLink
  refine abortOnDie_kept ?_
  split
  · exact fieldLink_kept h1
  · exact ldDiscard_kept h1

theorem loseLink_kept {a1 : Link} (h : Kept s0 s) : Kept s0 (loseLink s a1) := by
  unfold loseLink
  repeat' (first | assumption | with_reducible apply updLink_kept | with_reducible apply learnCause_kept | with_reducible apply dieLink_kept | with_reducible apply dieLedger_kept | with_reducible apply updDie_kept | with_reducible apply Kept.ite | (lift_lets; intro x) | split)

theorem dieLock_kept {a1 : Die} {a2 : ℤ} (h : Kept s0 s) : Kept s0 (dieLock s a1 a2) := by
  unfold dieLock
  repeat' (first | assumption | with_reducible apply updDie_kept | with_reducible apply dieLedger_kept | with_reducible apply Kept.ite | (lift_lets; intro x))

theorem transferStops_kept {a1 : Die} (h : Kept s0 s) : Kept s0 (transferStops s a1) := by
  unfold transferStops
  repeat' (first | assumption | with_reducible apply updField_kept | with_reducible apply useFree_kept | split)

theorem clockLost_kept {a1 : Lane} (h : Kept s0 s) : Kept s0 (clockLost s a1) := by
  unfold clockLost
  repeat' (first | assumption | with_reducible apply learnCause_kept | with_reducible apply haltLane_kept | with_reducible apply updLane_kept | with_reducible apply reintFail_kept | with_reducible apply Kept.ite | intro _)

theorem toRefS_kept {a1 : Nat} (h : Kept s0 s) : Kept s0 (toRefS s a1) := by
  unfold toRefS
  repeat' (first | assumption | with_reducible apply ledger_kept | with_reducible apply Kept.ite | intro _ | with_reducible refine Kept.record rfl rfl rfl id id id id id id ?_)

theorem dropSection_kept {a1 : Nat} {a2 : Nat} (h : Kept s0 s) : Kept s0 (dropSection s a1 a2) := by
  unfold dropSection
  repeat' (first | assumption | with_reducible exact Kept.record rfl rfl rfl id id id id id id (by assumption))

theorem journalBegin_kept {a1 : List Byte} (h : Kept s0 s) : Kept s0 (journalBegin s a1) := by
  unfold journalBegin
  repeat' (first | assumption | with_reducible apply mpAsk_kept | with_reducible exact Kept.record rfl rfl rfl id id id id id id (by assumption) | (lift_lets; intro x) | split)

theorem journalShow_kept  (h : Kept s0 s) : Kept s0 (journalShow s) := by
  unfold journalShow
  repeat' (first | assumption | split | refine Kept.record rfl rfl rfl id id id id id id ?_)

theorem jrnctlWrite_kept {a1 : Word} (h : Kept s0 s) : Kept s0 (jrnctlWrite s a1) := by
  unfold jrnctlWrite
  repeat' (first | assumption | with_reducible apply Kept.ite | with_reducible exact Kept.record rfl rfl rfl id id id id id id (by assumption) | intro _)

theorem jrnstatWrite_kept {a1 : Word} (h : Kept s0 s) : Kept s0 (jrnstatWrite s a1) := by
  unfold jrnstatWrite
  repeat' (first | assumption | with_reducible apply Kept.ite | with_reducible exact Kept.record rfl rfl rfl id id id id id id (by assumption) | intro _)

theorem bootctlWrite_kept {a1 : Port} {a2 : Word} (h : Kept s0 s) : Kept s0 (bootctlWrite s a1 a2) := by
  unfold bootctlWrite
  repeat' (first | assumption | with_reducible apply mpAsk_kept | with_reducible apply mntStart_kept | with_reducible apply Kept.ite | with_reducible exact Kept.record rfl rfl rfl id id id id id id (by assumption) | intro _)

theorem testChan_kept {a1 : BitVec 16} {a2 : FDie} {a3 : Chan} (h : Kept s0 s) : Kept s0 (testChan a1 a2 s a3) := by
  unfold testChan
  repeat' (first | assumption | with_reducible apply updChan_kept | with_reducible apply Kept.ite | intro _)

theorem testStart_kept {a1 : Port} {a2 : Word} (h : Kept s0 s) : Kept s0 (testStart s a1 a2) := by
  unfold testStart
  repeat' (first | assumption | with_reducible apply setRes_kept | with_reducible apply mntStart_kept | with_reducible apply testChan_kept | with_reducible apply testRequests_kept | with_reducible apply Kept.foldl | (lift_lets; intro x) | split)

theorem mntWrite_kept {a1 : Port} {a2 : Word} (h : Kept s0 s) : Kept s0 (mntWrite s a1 a2) := by
  unfold mntWrite
  repeat' (first | assumption | with_reducible apply abortAct_kept | with_reducible apply testStart_kept | with_reducible apply Kept.ite | with_reducible apply Kept.foldl | intro _)

theorem testEnd_kept {a1 : Nat} {a2 : ActSt} {a3 : BitVec 16} {a4 : BitVec 16} (h : Kept s0 s) : Kept s0 (testEnd s a1 a2 a3 a4) := by
  unfold testEnd
  repeat' (first | assumption | with_reducible apply mntEnd_kept | with_reducible apply setRes_kept)

theorem lanecmdWrite_kept {a1 : Port} {a2 : Word} (h : Kept s0 s) : Kept s0 (lanecmdWrite s a1 a2) := by
  unfold lanecmdWrite
  dsimp only
  split
  · exact learnCause_kept (mntStart_kept h)
  · exact reintStart_kept h
  · exact Kept.record rfl rfl rfl id (laneOk_map fun _ hx => hx) id id id id h

theorem ownerSet_kept {a1 : Option Port} (h : Kept s0 s) : Kept s0 (ownerSet s a1) := by
  unfold ownerSet
  repeat' (first | assumption | with_reducible apply discardShadows_kept | refine Kept.record rfl rfl rfl id id id id id id ?_)

theorem ownerRestart_kept {a1 : Port} {a2 : Nat} (h : Kept s0 s) : Kept s0 (ownerRestart s a1 a2) := by
  unfold ownerRestart
  repeat' (first | assumption | with_reducible apply Kept.ite | with_reducible exact Kept.record rfl rfl rfl id id id id id id (by assumption) | intro _)

theorem claimAct_kept {a1 : Port} {a2 : Word} (h : Kept s0 s) : Kept s0 (claimAct s a1 a2) := by
  unfold claimAct
  repeat' (first | assumption | with_reducible apply ownerSet_kept | split | refine Kept.record rfl rfl rfl id id id id id id ?_)

theorem applyBusy_kept  (h : Kept s0 s) : Kept s0 (applyBusy s) := by
  unfold applyBusy
  repeat' (first | assumption | refine Kept.record rfl rfl rfl id id id id id id ?_)

theorem applyAct_kept {a1 : Word} (h : Kept s0 s) : Kept s0 (applyAct s a1) := by
  unfold applyAct
  repeat' (first | assumption | with_reducible apply discardShadows_kept | with_reducible apply Kept.ite | intro _ | with_reducible refine Kept.record rfl rfl rfl id id id id id id ?_)

theorem quietApply_kept  (h : Kept s0 s) : Kept s0 (quietApply s) := by
  unfold quietApply
  repeat' (first | assumption | with_reducible apply monoTo_kept | with_reducible apply applyStep_kept | with_reducible apply takeSettings_kept | with_reducible apply Kept.ite | with_reducible apply Kept.foldl | intro _)

theorem readOne_kept {a1 : Port} {a2 : Nat} {a3 : Nat} (h : Kept s0 s) : Kept s0 (readOne s a1 a2 a3).1 := by
  unfold readOne
  dsimp only
  split
  · exact updPort_kept h
  · split
    · exact updPort_kept h
    · exact h

theorem plainWrite_kept {a1 : Nat} {a2 : Nat} {a3 : Word} (h : Kept s0 s) : Kept s0 (plainWrite s a1 a2 a3) := by
  unfold plainWrite
  split
  · exact h
  · refine Kept.record rfl rfl rfl id id id (fun hr => ?_) (fun hs => ?_) id h
    · split
      · exact hr
      · exact amWf_amSet _ _ hr
    · split
      · exact hs
      · exact amWf_amSet _ _ hs

theorem writeSys_kept {a1 : Port} {a2 : Nat} {a3 : Word} (h : Kept s0 s) : Kept s0 (writeSys s a1 a2 a3) := by
  unfold writeSys
  have hp : ∀ {o w}, Kept s0 (plainWrite s 0 o w) := plainWrite_kept h
  split
  · exact Kept.record rfl rfl rfl id id id id id id h
  · exact bootctlWrite_kept h
  · exact jrnctlWrite_kept h
  · exact jrnstatWrite_kept h
  · exact Kept.ite (fun _ => Kept.record rfl rfl rfl id id id id id id h) fun _ => h
  · exact modecmdWrite_kept h
  · exact pwrctlWrite_kept h
  · exact pwrhartWrite_kept h
  · exact Kept.record rfl rfl rfl id id id id id id h
  · exact Kept.record rfl rfl rfl id id id id id id h
  · have hq : Kept s0 (plainWrite s 0 0x29 a3) := plainWrite_kept h
    generalize plainWrite s 0 0x29 a3 = u at hq ⊢
    exact Kept.record rfl rfl rfl id id id id id id hq
  · exact Kept.record rfl rfl rfl id id id id id id h
  · exact Kept.record rfl rfl rfl id id id id id id h
  · exact hp

theorem manclrWrite_kept {a1 : Word} (h : Kept s0 s) : Kept s0 (manclrWrite s a1) := by
  unfold manclrWrite
  repeat' (first | assumption | with_reducible apply updField_kept | with_reducible apply Kept.ite | with_reducible apply Kept.foldl | intro _ | with_reducible refine Kept.record rfl rfl rfl id id id id id id ?_)

theorem writeTime_kept {a1 : Nat} {a2 : Word} (h : Kept s0 s) : Kept s0 (writeTime s a1 a2) := by
  unfold writeTime
  repeat' (first | assumption | with_reducible apply timeStep_kept | with_reducible apply plainWrite_kept | with_reducible apply manclrWrite_kept | split)

theorem pcntclrWrite_kept {a1 : Word} (h : Kept s0 s) : Kept s0 (pcntclrWrite s a1) := by
  unfold pcntclrWrite
  repeat' (first | assumption | with_reducible apply updPort_kept | with_reducible apply Kept.ite | with_reducible apply Kept.foldl | intro _)

theorem regWrite_kept {a1 : Port} {a2 : Nat} {a3 : Nat} {a4 : Word} (h : Kept s0 s) : Kept s0 (regWrite s a1 a2 a3 a4) := by
  unfold regWrite
  repeat' (first | assumption | with_reducible apply writeSys_kept | with_reducible apply ledClear_kept | with_reducible apply plainWrite_kept | with_reducible apply writeTime_kept | with_reducible apply lanecmdWrite_kept | with_reducible apply plctlWrite_kept | with_reducible apply chcntclrWrite_kept | with_reducible apply owcmdWrite_kept | with_reducible apply trimcmdWrite_kept | with_reducible apply lpcntclrWrite_kept | with_reducible apply hscanWrite_kept | with_reducible apply hctlWrite_kept | with_reducible apply cvclrWrite_kept | with_reducible apply cvtestWrite_kept | with_reducible apply cancmdWrite_kept | with_reducible apply cntclrWrite_kept | with_reducible apply pcntclrWrite_kept | with_reducible apply wdCheckin_kept | with_reducible apply wdclrWrite_kept | with_reducible apply mntWrite_kept | with_reducible apply mpxWrite_kept | with_reducible exact Kept.record rfl rfl rfl id (laneOk_map fun _ hx => hx) id id id id (by assumption) | intro _ | (lift_lets; intro x) | split)

theorem checkNext_kept {a1 : Port} {a2 : Nat} {a3 : Nat} {a4 : Word} (h : Kept s0 s) : Kept s0 (checkNext s a1 a2 a3 a4) := by
  unfold checkNext
  repeat' (first | assumption | with_reducible apply owcmdWrite_kept | with_reducible apply hscanWrite_kept | with_reducible apply plainWrite_kept | with_reducible apply Kept.ite | with_reducible exact Kept.record rfl rfl rfl id (laneOk_map fun _ hx => hx) id id id id (by assumption) | (lift_lets; intro x))

theorem sendEcho_kept {a1 : Port} (h : Kept s0 s) : Kept s0 (sendEcho s a1) := by
  unfold sendEcho
  repeat' (first | assumption | with_reducible apply updPort_kept)

theorem frameEnd_kept {a1 : Port} {a2 : Frame} {a3 : Nat} {a4 : Bool} {a5 : List Word} {a6 : List Word} (h : Kept s0 s) : Kept s0 (frameEnd s a1 a2 a3 a4 a5 a6) := by
  unfold frameEnd
  repeat' (first | assumption | with_reducible apply updPort_kept | with_reducible apply ownerRestart_kept)

theorem readWords_kept {p : Port} {page : Nat} {l : List Nat} (h : Kept s0 s) : Kept s0 (readWords p page l s).1 := by
  induction l generalizing s with
  | nil => exact h
  | cons o l ih =>
    unfold readWords
    dsimp only
    refine ih ?_
    split
    · exact h
    · exact readOne_kept h

theorem queueLocks_kept {a1 : Port} {a2 : Frame} {a3 : Bool} (h : Kept s0 s) : Kept s0 (queueLocks s a1 a2 a3) := by
  unfold queueLocks
  repeat' (first | assumption | with_reducible apply rxqLock_kept | with_reducible apply rxqDrop_kept | with_reducible apply Kept.ite | with_reducible apply Kept.foldl | intro _)

theorem readFrame_kept {a1 : Port} {a2 : Frame} {a3 : Nat} (h : Kept s0 s) : Kept s0 (readFrame s a1 a2 a3) := by
  unfold readFrame
  exact Kept.ite (fun _ => frameEnd_kept h) fun _ => frameEnd_kept (queueLocks_kept (readWords_kept h))

theorem regWrites_kept {a1 : Port} {a2 : Nat} {a3 : List (Nat × Word)} (h : Kept s0 s) : Kept s0 (regWrites a1 a2 s a3) := by
  unfold regWrites
  repeat' (first | assumption | with_reducible apply regWrite_kept | with_reducible apply Kept.foldl | intro _)

theorem mboxCount_kept {a1 : Nat} {a2 : List (Nat × Word)} (h : Kept s0 s) : Kept s0 (mboxCount s a1 a2) := by
  unfold mboxCount
  repeat' (first | assumption | with_reducible apply Kept.ite | with_reducible exact Kept.record rfl rfl rfl id id id id id id (by assumption) | intro _)

theorem noteRefusal_kept {a1 : Port} {a2 : Frame} (h : Kept s0 s) : Kept s0 (noteRefusal s a1 a2) := by
  unfold noteRefusal
  repeat' (first | assumption | with_reducible apply mntRefuse_kept | split)

theorem resetLast_kept {a1 : Nat} {a2 : List (Nat × Word)} (h : Kept s0 s) : Kept s0 (resetLast s a1 a2) := by
  unfold resetLast
  split
  · split
    · exact rstctlWrite_kept h
    · exact h
  · exact h

theorem writeFrame_kept {a1 : Port} {a2 : Frame} {a3 : Nat} (h : Kept s0 s) : Kept s0 (writeFrame s a1 a2 a3) := by
  unfold writeFrame
  repeat' (first | assumption | with_reducible apply mboxCount_kept | with_reducible apply regWrites_kept | with_reducible apply resetLast_kept | with_reducible apply frameEnd_kept | with_reducible apply noteRefusal_kept | with_reducible apply Kept.ite | intro _)

theorem snapFrame_kept {a1 : Port} {a2 : Frame} {a3 : Nat} (h : Kept s0 s) : Kept s0 (snapFrame s a1 a2 a3) := by
  unfold snapFrame
  repeat' (first | assumption | with_reducible apply frameEnd_kept | with_reducible apply Kept.ite | intro _)

theorem claimFrame_kept {a1 : Port} {a2 : Frame} {a3 : Nat} (h : Kept s0 s) : Kept s0 (claimFrame s a1 a2 a3) := by
  unfold claimFrame
  repeat' (first | assumption | with_reducible apply frameEnd_kept | with_reducible apply claimAct_kept | with_reducible apply Kept.ite | intro _)

theorem applyFrame_kept {a1 : Port} {a2 : Frame} {a3 : Nat} (h : Kept s0 s) : Kept s0 (applyFrame s a1 a2 a3) := by
  unfold applyFrame
  repeat' (first | assumption | with_reducible apply frameEnd_kept | with_reducible apply applyAct_kept | with_reducible apply applyBusy_kept | with_reducible apply Kept.ite | intro _)

theorem quoteFrame_kept {a1 : Port} {a2 : Frame} {a3 : Nat} (h : Kept s0 s) : Kept s0 (quoteFrame s a1 a2 a3) := by
  unfold quoteFrame
  repeat' (first | assumption | with_reducible apply frameEnd_kept | with_reducible apply quoteStart_kept | with_reducible apply Kept.ite | intro _)

theorem otherFrame_kept {a1 : Port} {a2 : Frame} {a3 : Nat} (h : Kept s0 s) : Kept s0 (otherFrame s a1 a2 a3) := by
  unfold otherFrame
  repeat' (first | assumption | with_reducible apply frameEnd_kept)

theorem statusFrame_kept {a1 : Port} {a2 : Nat} {a3 : Nat} (h : Kept s0 s) : Kept s0 (statusFrame s a1 a2 a3) := by
  unfold statusFrame
  repeat' (first | assumption | with_reducible apply ownerRestart_kept | with_reducible apply updPort_kept)

theorem frameAct_kept {a1 : Port} {a2 : Frame} {a3 : Nat} (h : Kept s0 s) : Kept s0 (frameAct s a1 a2 a3) := by
  unfold frameAct
  repeat' (first | assumption | with_reducible apply readFrame_kept | with_reducible apply writeFrame_kept | with_reducible apply snapFrame_kept | with_reducible apply statusFrame_kept | with_reducible apply claimFrame_kept | with_reducible apply applyFrame_kept | with_reducible apply quoteFrame_kept | with_reducible apply otherFrame_kept | split)

theorem serveFrame_kept {a1 : Port} {a2 : Frame} {a3 : Nat} (h : Kept s0 s) : Kept s0 (serveFrame s a1 a2 a3) := by
  unfold serveFrame
  repeat' (first | assumption | with_reducible apply frameAct_kept | with_reducible apply sendEcho_kept)

theorem hostFrame_kept {a1 : Port} {a2 : Frame} (h : Kept s0 s) : Kept s0 (hostFrame s a1 a2) := by
  unfold hostFrame
  repeat' (first | assumption | with_reducible apply serveFrame_kept | with_reducible apply Kept.ite | intro _)

theorem hostWrite_kept {a1 : Port} {a2 : Nat} {a3 : Nat} {a4 : List Word} (h : Kept s0 s) : Kept s0 (hostWrite s a1 a2 a3 a4) := by
  unfold hostWrite
  repeat' (first | assumption | with_reducible apply hostFrame_kept)

theorem pushFault_kept {a1 : Nat} {a2 : Nat} (h : Kept s0 s) : Kept s0 (pushFault s a1 a2) := by
  unfold pushFault
  repeat' (first | assumption | with_reducible apply ledger_kept | refine Kept.record rfl rfl rfl id id id id id id ?_)

theorem idleTick_kept  (h : Kept s0 s) : Kept s0 (idleTick s) := by
  unfold idleTick
  repeat' (first | assumption | with_reducible apply withClock_kept | with_reducible apply bootStep_kept | with_reducible apply Kept.ite | intro _)

/-! ## Instructions -/

/-- What an instruction did leaves its lane with a canonical memory and an aligned PC. -/
def ResOk (r : LynRes) : Prop := match r with | .next y _ => LaneOk y | _ => True

/-- An instruction whose result keeps its lane in order keeps the state in order. -/
theorem lynStep_ok {l : Lane} {p : Word → Bool} {f : LaneSt → LynRes} (hf : ∀ x, LaneOk x → ResOk (f x)) (h : Kept s0 s) :
    Kept s0 (lynStep s l p f) :=
  lynStep_kept (fun x x2 w hx he => by have := hf x hx; rw [he] at this; exact this) h

theorem lyn_ok {l : Lane} {w : Word} {f : LaneSt → LynRes} (hf : ∀ x, LaneOk x → ResOk (f x)) (h : Kept s0 s) :
    Kept s0 (lyn s l w f) :=
  lynStep_ok hf h

theorem pcNext_ok {x : LaneSt} (h : LaneOk x) : LaneOk (pcNext x) := by
  refine ⟨h.1, ?_⟩
  have := h.2
  show (x.pc + 4).toNat % 4 = 0
  rw [BitVec.toNat_add]; simp; omega

theorem xset_ok {x : LaneSt} {r : Reg} {v : Word} (h : LaneOk x) : LaneOk (xset x r v) := by
  unfold xset; split <;> exact h

theorem setFlags_ok {x : LaneSt} {a : AluRes} (h : LaneOk x) : LaneOk (setFlags x a) := h

theorem countEcc_ok {x : LaneSt} (h : LaneOk x) : LaneOk (countEcc x) := h

theorem alu_ok {rd : Reg} {a : LaneSt → AluRes} : ∀ x, LaneOk x → ResOk (lynAlu rd a x) := fun _ h => pcNext_ok (xset_ok (setFlags_ok h))

theorem cmp_ok {a : LaneSt → AluRes} : ∀ x, LaneOk x → ResOk (lynCmp a x) := fun _ h => pcNext_ok (setFlags_ok h)

theorem put_ok {x : LaneSt} {a : Nat} {bs : List Byte} (h : LaneOk x) : LaneOk { x with mem := memPut 0 x.mem a bs } := ⟨memPut_wf 0 _ _ h.1, h.2⟩

theorem lynPut_ok {x : LaneSt} {rg a bs} (h : LaneOk x) : ResOk (lynPut s x rg a bs) := by
  unfold lynPut
  split
  · dsimp only; split
    · exact pcNext_ok h
    · split <;> exact pcNext_ok h
  · dsimp only; split
    · trivial
    · exact pcNext_ok (put_ok h)
  · exact pcNext_ok (put_ok h)

theorem lynStoreWord_ok {x : LaneSt} {a v} (h : LaneOk x) : ResOk (lynStoreWord s x a v) := by
  unfold lynStoreWord; dsimp only; split
  · trivial
  · exact lynPut_ok h

theorem lynStorePart_ok {x : LaneSt} {a n v e} (h : LaneOk x) : ResOk (lynStorePart s x a n v e) := by
  unfold lynStorePart; dsimp only; split
  · trivial
  · split
    · rename_i he
      have := lynPut_ok (s := s) (rg := laneRegion s x a) (a := a) (bs := (leBytes v).take n) h
      rw [he] at this
      split
      · exact this
      · exact this
      · trivial
    · rename_i hh; exact lynPut_ok h

theorem lynLoad_ok {x : LaneSt} {a n e k} (hk : ∀ y v, LaneOk y → ResOk (k y v)) (h : LaneOk x) : ResOk (lynLoad s x a n e k) := by
  unfold lynLoad; dsimp only; split
  · trivial
  · split
    · trivial
    · split
      · exact hk _ _ h
      · split
        · exact hk _ _ h
        · exact hk _ _ h
        · trivial

theorem lynLd_ok {x : LaneSt} {rd ra imm n e ext} (h : LaneOk x) : ResOk (lynLd s x rd ra imm n e ext) :=
  lynLoad_ok (fun _ _ hy => pcNext_ok (xset_ok hy)) h

theorem foldl_countEcc_ok {l : List Ecc} {x : LaneSt} (h : LaneOk x) : LaneOk (l.foldl (fun y _ => countEcc y) x) := by
  induction l generalizing x with
  | nil => exact h
  | cons a l ih => exact ih (countEcc_ok h)

theorem lynBlock_ok {x : LaneSt} {a n e k} (hk : ∀ y v, LaneOk y → ResOk (k y v)) (h : LaneOk x) : ResOk (lynBlock s x a n e k) := by
  unfold lynBlock
  split
  · trivial
  · split
    · trivial
    · dsimp only
      split
      · trivial
      · exact hk _ _ (foldl_countEcc_ok h)

theorem lynResult_ok {x : LaneSt} {rd r f w} (h : LaneOk x) : ResOk (lynResult x rd r f w) := pcNext_ok (xset_ok h)

theorem schedOp_ok {x : LaneSt} {rd ra rb e} (h : LaneOk x) : ResOk (schedOp s x rd ra rb e) := by
  unfold schedOp
  refine lynBlock_ok (fun y bs hy => ?_) h
  dsimp only; split
  · exact lynResult_ok hy
  · split
    · exact lynResult_ok hy
    · exact lynResult_ok (put_ok (x := { y with mem := memPut 0 y.mem _ bs }) (put_ok hy))

theorem emitOp_ok {x : LaneSt} {rd ra rb e} (h : LaneOk x) : ResOk (emitOp s x rd ra rb e) := by
  unfold emitOp
  refine lynBlock_ok (fun y bs hy => ?_) h
  dsimp only; split
  · exact lynResult_ok hy
  · split
    · exact lynResult_ok hy
    · split
      · exact lynResult_ok hy
      · exact lynResult_ok (put_ok (x := { y with mem := memPut 0 y.mem _ _ }) (put_ok hy))

theorem permitOp_ok {x : LaneSt} {ra rb f} (h : LaneOk x) : ResOk (permitOp ra rb f x) := pcNext_ok (put_ok h)

theorem branch_ok {x : LaneSt} {i : BitVec 22} (h : LaneOk x) : LaneOk { x with pc := x.pc + simm22 i * 4 } := by
  refine ⟨h.1, ?_⟩
  have := h.2
  show (x.pc + simm22 i * 4).toNat % 4 = 0
  rw [BitVec.toNat_add, BitVec.toNat_mul]; simp; omega

theorem shift_wf_from (o : Nat) {lo : Nat} {m : Memory} (hm : amWfFrom 0 lo m = true) : amWfFrom (0 : Byte) (lo + o) (m.map fun e => (e.1 + o, e.2)) = true := by
  induction m generalizing lo with
  | nil => rfl
  | cons e r ih =>
    obtain ⟨a, v⟩ := e
    simp only [amWfFrom, Bool.and_eq_true, decide_eq_true_eq] at hm
    simp only [List.map_cons, amWfFrom, Bool.and_eq_true, decide_eq_true_eq]
    refine ⟨⟨by omega, hm.1.2⟩, ?_⟩
    have := ih hm.2
    rwa [Nat.add_right_comm] at this

theorem copyRanges_ok {m n : Memory} (hm : Memory.wf 0 m = true) (hn : Memory.wf 0 n = true) (rs : List (Nat × Nat)) (hr : ∀ r ∈ rs, r.1 ≤ r.2) : Memory.wf 0 (copyRanges m n rs) = true := by
  unfold copyRanges
  induction rs generalizing m with
  | nil => exact hm
  | cons r rs ih => exact ih (amWf_amCopy (hr r (by simp)) hm hn) fun q hq => hr q (by simp [hq])

theorem Kept.laneUpd {l : Lane} {f : LaneSt → LaneSt} (hf : ∀ x, LaneOk x → (∀ k : Lane, LaneOk s.lane[k]) → LaneOk (f x)) (h : Kept s0 s) : Kept s0 (updLane s l f) :=
  Kept.record rfl rfl rfl id (fun hl => laneOk_vmod (fun x hx => hf x hx hl) hl) id id id id h

theorem laneBegin_inv {l : Lane} (h : Inv s) : Inv (updLane s l (laneBegin s)) := by
  have hl : ∀ k : Lane, LaneOk (updLane s l (laneBegin s)).lane[k] := by
    refine laneOk_vmod (fun x hx => ⟨?_, h.entry⟩) fun k => ⟨h.mem k, h.pc k⟩
    exact amWf_amCopy (by decide) (amWfFrom_filter _ hx.1) (amWfFrom_mono (Nat.zero_le _) (shift_wf_from _ h.image))
  exact { store := h.store, mem := fun k => (hl k).1, image := h.image, regs := h.regs, shadow := h.shadow, pc := fun k => (hl k).2, entry := h.entry }

end Sys2Proof.Machine
end

