-- ==== Sys2Proof/Laws/Lyn.lean ====
section
/-!
SUPPORT. Laws of the lanes: the encodings that the meanings compare the fetched word with are the formats of Table 6.4, and what one instruction can do to the state.
-/

namespace Sys2Proof.Machine

/-- A field that lies inside a word loses nothing when it is placed. -/
theorem place_inside (n k v : Nat) (h : v < 2 ^ n) (hk : n + k ≤ 32) : v <<< k % 2 ^ 32 = v <<< k := by
  apply Nat.mod_eq_of_lt
  rw [Nat.shiftLeft_eq]
  calc v * 2 ^ k < 2 ^ n * 2 ^ k := Nat.mul_lt_mul_of_pos_right h (Nat.two_pow_pos k)
    _ = 2 ^ (n + k) := (Nat.pow_add 2 n k).symm
    _ ≤ 2 ^ 32 := Nat.pow_le_pow_right (by decide) hk

theorem encR_eq_wordR (op : BitVec 6) (rd ra rb : Reg) (cond : BitVec 4) (func : BitVec 6) :
    encR op.toNat rd ra rb cond.toNat func.toNat = wordR op rd ra rb cond func := by
  apply BitVec.eq_of_toNat_eq
  have h1 := op.isLt; have h2 := rd.isLt; have h3 := ra.isLt; have h4 := rb.isLt; have h5 := cond.isLt; have h6 := func.isLt
  simp only [encR, wordR, reg4, place, BitVec.toNat_or, BitVec.toNat_ofNat, BitVec.toNat_append, Nat.shiftLeft_or_distrib,
    ← Nat.shiftLeft_add, place_inside 6 26 _ h1 (by decide), place_inside 4 22 _ h2 (by decide), place_inside 4 18 _ h3 (by decide),
    place_inside 4 14 _ h4 (by decide), place_inside 4 6 _ h5 (by decide), place_inside 6 0 _ h6 (by decide)]
  simp [Nat.mod_eq_of_lt h2, Nat.mod_eq_of_lt h3, Nat.mod_eq_of_lt h4]

theorem encAlu_eq_wordAlu (func : BitVec 6) (rd ra rb : Reg) : encAlu func.toNat rd ra rb = wordAlu func rd ra rb :=
  encR_eq_wordR 0x01#6 rd ra rb 0#4 func

theorem encI_eq_wordI (op : BitVec 6) (rd ra : Reg) (imm : BitVec 18) : encI op.toNat rd ra imm = wordI op rd ra imm := by
  apply BitVec.eq_of_toNat_eq
  have h1 := op.isLt; have h2 := rd.isLt; have h3 := ra.isLt; have h6 := imm.isLt
  simp only [encI, wordI, reg4, place, BitVec.toNat_or, BitVec.toNat_ofNat, BitVec.toNat_append, Nat.shiftLeft_or_distrib,
    ← Nat.shiftLeft_add, place_inside 6 26 _ h1 (by decide), place_inside 4 22 _ h2 (by decide), place_inside 4 18 _ h3 (by decide),
    place_inside 18 0 _ h6 (by decide)]
  simp [Nat.mod_eq_of_lt h2, Nat.mod_eq_of_lt h3]

theorem encU_eq_wordU (op : BitVec 6) (f : BitVec 4) (imm : BitVec 22) : encU op.toNat f.toNat imm = wordU op f imm := by
  apply BitVec.eq_of_toNat_eq
  have h1 := op.isLt; have h2 := f.isLt; have h6 := imm.isLt
  simp only [encU, wordU, place, BitVec.toNat_or, BitVec.toNat_ofNat, BitVec.toNat_append, Nat.shiftLeft_or_distrib,
    ← Nat.shiftLeft_add, place_inside 6 26 _ h1 (by decide), place_inside 4 22 _ h2 (by decide), place_inside 22 0 _ h6 (by decide)]
  simp

/-- A computing lane that fetches the instruction's word carries it out. -/
theorem lyn_runs {s : State} {l : Lane} {w : Word} (h : Runs s l w) (f : LaneSt → LynRes) :
    lyn s l w f = lynDone s l (f s.lane[l]) := by
  obtain ⟨h1, h2⟩ := h
  simp [-Fin.getElem_fin, lyn, lynStep, h1, h2]

/-- A computing lane whose fetched word passes the test carries the instruction out. -/
theorem lynStep_runs {s : State} {l : Lane} {w : Word} {p : Word → Bool} (h : Runs s l w) (hp : p w = true) (f : LaneSt → LynRes) :
    lynStep s l p f = lynDone s l (f s.lane[l]) := by
  obtain ⟨h1, h2⟩ := h
  simp [-Fin.getElem_fin, lynStep, h1, h2, hp]

/-- An instruction that writes no lane memory changes its own lane only. -/
theorem lynDone_next_nil (s : State) (l : Lane) (x : LaneSt) : lynDone s l (.next x []) = laneAt s l x := by
  simp [lynDone, markDirty, laneAt]

/-- An ALU instruction that writes rd. -/
theorem lynAlu_done (s : State) (l : Lane) (rd : Reg) (a : LaneSt → AluRes) (x : LaneSt) :
    lynDone s l (lynAlu rd a x) = laneAt s l (wrote (flagged x (a x).r ((a x).c.getD x.flC) ((a x).v.getD x.flV)) rd (a x).r) := by
  simp only [lynAlu, lynDone_next_nil, pcNext, xset, setFlags, setNZ, wrote, flagged]
  congr 1
  split <;> rfl

/-- An ALU instruction that only sets flags. -/
theorem lynCmp_done (s : State) (l : Lane) (a : LaneSt → AluRes) (x : LaneSt) :
    lynDone s l (lynCmp a x) =
      laneAt s l { flagged x (a x).r ((a x).c.getD x.flC) ((a x).v.getD x.flV) with pc := x.pc + 4 } := by
  simp [lynCmp, lynDone_next_nil, pcNext, setFlags, setNZ, flagged]

end Sys2Proof.Machine
end

