-- ==== Sys2Proof/Laws/State.lean ====
section
/-!
SUPPORT. What each update of the state leaves in each field, and the frames of the operations that every family shares: time, interrupts and the ledger.
-/

namespace Sys2Proof.Machine

variable {s : State}

/-- The changed entry of a vector, and the others. -/
theorem vmod_same {α : Type} {n : Nat} (v : Vector α n) (i : Fin n) (f : α → α) : (vmod v i f)[i] = f v[i] := by
  simp [vmod]

theorem vmod_other {α : Type} {n : Nat} (v : Vector α n) {i j : Fin n} (f : α → α) (h : j ≠ i) : (vmod v i f)[j] = v[j] := by
  have : i.val ≠ j.val := fun e => h (Fin.ext e.symm)
  simp [vmod, this]

section
variable {l : Lane} {f : LaneSt → LaneSt}
@[simp] theorem updLane_pending : (updLane s l f).pending = s.pending := rfl
@[simp] theorem updLane_freeCtr : (updLane s l f).freeCtr = s.freeCtr := rfl
@[simp] theorem updLane_time : (updLane s l f).time = s.time := rfl
@[simp] theorem updLane_mono : (updLane s l f).mono = s.mono := rfl
@[simp] theorem updLane_regs : (updLane s l f).regs = s.regs := rfl
@[simp] theorem updLane_shadow : (updLane s l f).shadow = s.shadow := rfl
@[simp] theorem updLane_vddio : (updLane s l f).vddio = s.vddio := rfl
@[simp] theorem updLane_tap : (updLane s l f).tap = s.tap := rfl
@[simp] theorem updLane_irqStat : (updLane s l f).irqStat = s.irqStat := rfl
@[simp] theorem updLane_boot : (updLane s l f).boot = s.boot := rfl
@[simp] theorem updLane_attest : (updLane s l f).attest = s.attest := rfl
@[simp] theorem updLane_jrn : (updLane s l f).jrn = s.jrn := rfl
@[simp] theorem updLane_md : (updLane s l f).md = s.md := rfl
@[simp] theorem updLane_pwr : (updLane s l f).pwr = s.pwr := rfl
@[simp] theorem updLane_tm : (updLane s l f).tm = s.tm := rfl
@[simp] theorem updLane_ws : (updLane s l f).ws = s.ws := rfl
@[simp] theorem updLane_cyc : (updLane s l f).cyc = s.cyc := rfl
@[simp] theorem updLane_lane : (updLane s l f).lane = vmod s.lane l f := rfl
@[simp] theorem updLane_port : (updLane s l f).port = s.port := rfl
@[simp] theorem updLane_peer : (updLane s l f).peer = s.peer := rfl
@[simp] theorem updLane_store : (updLane s l f).store = s.store := rfl
@[simp] theorem updLane_mp : (updLane s l f).mp = s.mp := rfl
@[simp] theorem updLane_pl : (updLane s l f).pl = s.pl := rfl
@[simp] theorem updLane_own : (updLane s l f).own = s.own := rfl
@[simp] theorem updLane_app : (updLane s l f).app = s.app := rfl
@[simp] theorem updLane_wd : (updLane s l f).wd = s.wd := rfl
@[simp] theorem updLane_led : (updLane s l f).led = s.led := rfl
@[simp] theorem updLane_mnt : (updLane s l f).mnt = s.mnt := rfl
@[simp] theorem updLane_snap : (updLane s l f).snap = s.snap := rfl
@[simp] theorem updLane_mbox : (updLane s l f).mbox = s.mbox := rfl
@[simp] theorem updLane_hub : (updLane s l f).hub = s.hub := rfl
@[simp] theorem updLane_nomaj : (updLane s l f).nomaj = s.nomaj := rfl
@[simp] theorem updLane_die : (updLane s l f).die = s.die := rfl
@[simp] theorem updLane_field : (updLane s l f).field = s.field := rfl
@[simp] theorem updLane_gov : (updLane s l f).gov = s.gov := rfl
@[simp] theorem updLane_survey : (updLane s l f).survey = s.survey := rfl
@[simp] theorem updLane_loop : (updLane s l f).loop = s.loop := rfl
@[simp] theorem updLane_ld : (updLane s l f).ld = s.ld := rfl
@[simp] theorem updLane_can : (updLane s l f).can = s.can := rfl
@[simp] theorem updLane_rxStage : (updLane s l f).rxStage = s.rxStage := rfl
@[simp] theorem updLane_permits : (updLane s l f).permits = s.permits := rfl
@[simp] theorem updLane_coreDown : (updLane s l f).coreDown = s.coreDown := rfl
end

section
variable {d : Die} {f : DieSt → DieSt}
@[simp] theorem updDie_pending : (updDie s d f).pending = s.pending := rfl
@[simp] theorem updDie_freeCtr : (updDie s d f).freeCtr = s.freeCtr := rfl
@[simp] theorem updDie_time : (updDie s d f).time = s.time := rfl
@[simp] theorem updDie_mono : (updDie s d f).mono = s.mono := rfl
@[simp] theorem updDie_regs : (updDie s d f).regs = s.regs := rfl
@[simp] theorem updDie_shadow : (updDie s d f).shadow = s.shadow := rfl
@[simp] theorem updDie_vddio : (updDie s d f).vddio = s.vddio := rfl
@[simp] theorem updDie_tap : (updDie s d f).tap = s.tap := rfl
@[simp] theorem updDie_irqStat : (updDie s d f).irqStat = s.irqStat := rfl
@[simp] theorem updDie_boot : (updDie s d f).boot = s.boot := rfl
@[simp] theorem updDie_attest : (updDie s d f).attest = s.attest := rfl
@[simp] theorem updDie_jrn : (updDie s d f).jrn = s.jrn := rfl
@[simp] theorem updDie_md : (updDie s d f).md = s.md := rfl
@[simp] theorem updDie_pwr : (updDie s d f).pwr = s.pwr := rfl
@[simp] theorem updDie_tm : (updDie s d f).tm = s.tm := rfl
@[simp] theorem updDie_ws : (updDie s d f).ws = s.ws := rfl
@[simp] theorem updDie_cyc : (updDie s d f).cyc = s.cyc := rfl
@[simp] theorem updDie_lane : (updDie s d f).lane = s.lane := rfl
@[simp] theorem updDie_port : (updDie s d f).port = s.port := rfl
@[simp] theorem updDie_peer : (updDie s d f).peer = s.peer := rfl
@[simp] theorem updDie_store : (updDie s d f).store = s.store := rfl
@[simp] theorem updDie_mp : (updDie s d f).mp = s.mp := rfl
@[simp] theorem updDie_pl : (updDie s d f).pl = s.pl := rfl
@[simp] theorem updDie_own : (updDie s d f).own = s.own := rfl
@[simp] theorem updDie_app : (updDie s d f).app = s.app := rfl
@[simp] theorem updDie_wd : (updDie s d f).wd = s.wd := rfl
@[simp] theorem updDie_led : (updDie s d f).led = s.led := rfl
@[simp] theorem updDie_mnt : (updDie s d f).mnt = s.mnt := rfl
@[simp] theorem updDie_snap : (updDie s d f).snap = s.snap := rfl
@[simp] theorem updDie_mbox : (updDie s d f).mbox = s.mbox := rfl
@[simp] theorem updDie_hub : (updDie s d f).hub = s.hub := rfl
@[simp] theorem updDie_nomaj : (updDie s d f).nomaj = s.nomaj := rfl
@[simp] theorem updDie_die : (updDie s d f).die = vmod s.die d f := rfl
@[simp] theorem updDie_field : (updDie s d f).field = s.field := rfl
@[simp] theorem updDie_gov : (updDie s d f).gov = s.gov := rfl
@[simp] theorem updDie_survey : (updDie s d f).survey = s.survey := rfl
@[simp] theorem updDie_loop : (updDie s d f).loop = s.loop := rfl
@[simp] theorem updDie_ld : (updDie s d f).ld = s.ld := rfl
@[simp] theorem updDie_can : (updDie s d f).can = s.can := rfl
@[simp] theorem updDie_rxStage : (updDie s d f).rxStage = s.rxStage := rfl
@[simp] theorem updDie_permits : (updDie s d f).permits = s.permits := rfl
@[simp] theorem updDie_coreDown : (updDie s d f).coreDown = s.coreDown := rfl
end

section
variable {p : Port} {f : PortSt → PortSt}
@[simp] theorem updPort_pending : (updPort s p f).pending = s.pending := rfl
@[simp] theorem updPort_freeCtr : (updPort s p f).freeCtr = s.freeCtr := rfl
@[simp] theorem updPort_time : (updPort s p f).time = s.time := rfl
@[simp] theorem updPort_mono : (updPort s p f).mono = s.mono := rfl
@[simp] theorem updPort_regs : (updPort s p f).regs = s.regs := rfl
@[simp] theorem updPort_shadow : (updPort s p f).shadow = s.shadow := rfl
@[simp] theorem updPort_vddio : (updPort s p f).vddio = s.vddio := rfl
@[simp] theorem updPort_tap : (updPort s p f).tap = s.tap := rfl
@[simp] theorem updPort_irqStat : (updPort s p f).irqStat = s.irqStat := rfl
@[simp] theorem updPort_boot : (updPort s p f).boot = s.boot := rfl
@[simp] theorem updPort_attest : (updPort s p f).attest = s.attest := rfl
@[simp] theorem updPort_jrn : (updPort s p f).jrn = s.jrn := rfl
@[simp] theorem updPort_md : (updPort s p f).md = s.md := rfl
@[simp] theorem updPort_pwr : (updPort s p f).pwr = s.pwr := rfl
@[simp] theorem updPort_tm : (updPort s p f).tm = s.tm := rfl
@[simp] theorem updPort_ws : (updPort s p f).ws = s.ws := rfl
@[simp] theorem updPort_cyc : (updPort s p f).cyc = s.cyc := rfl
@[simp] theorem updPort_lane : (updPort s p f).lane = s.lane := rfl
@[simp] theorem updPort_port : (updPort s p f).port = vmod s.port p f := rfl
@[simp] theorem updPort_peer : (updPort s p f).peer = s.peer := rfl
@[simp] theorem updPort_store : (updPort s p f).store = s.store := rfl
@[simp] theorem updPort_mp : (updPort s p f).mp = s.mp := rfl
@[simp] theorem updPort_pl : (updPort s p f).pl = s.pl := rfl
@[simp] theorem updPort_own : (updPort s p f).own = s.own := rfl
@[simp] theorem updPort_app : (updPort s p f).app = s.app := rfl
@[simp] theorem updPort_wd : (updPort s p f).wd = s.wd := rfl
@[simp] theorem updPort_led : (updPort s p f).led = s.led := rfl
@[simp] theorem updPort_mnt : (updPort s p f).mnt = s.mnt := rfl
@[simp] theorem updPort_snap : (updPort s p f).snap = s.snap := rfl
@[simp] theorem updPort_mbox : (updPort s p f).mbox = s.mbox := rfl
@[simp] theorem updPort_hub : (updPort s p f).hub = s.hub := rfl
@[simp] theorem updPort_nomaj : (updPort s p f).nomaj = s.nomaj := rfl
@[simp] theorem updPort_die : (updPort s p f).die = s.die := rfl
@[simp] theorem updPort_field : (updPort s p f).field = s.field := rfl
@[simp] theorem updPort_gov : (updPort s p f).gov = s.gov := rfl
@[simp] theorem updPort_survey : (updPort s p f).survey = s.survey := rfl
@[simp] theorem updPort_loop : (updPort s p f).loop = s.loop := rfl
@[simp] theorem updPort_ld : (updPort s p f).ld = s.ld := rfl
@[simp] theorem updPort_can : (updPort s p f).can = s.can := rfl
@[simp] theorem updPort_rxStage : (updPort s p f).rxStage = s.rxStage := rfl
@[simp] theorem updPort_permits : (updPort s p f).permits = s.permits := rfl
@[simp] theorem updPort_coreDown : (updPort s p f).coreDown = s.coreDown := rfl
end

section
variable {d : FDie} {f : FieldSt → FieldSt}
@[simp] theorem updField_pending : (updField s d f).pending = s.pending := rfl
@[simp] theorem updField_freeCtr : (updField s d f).freeCtr = s.freeCtr := rfl
@[simp] theorem updField_time : (updField s d f).time = s.time := rfl
@[simp] theorem updField_mono : (updField s d f).mono = s.mono := rfl
@[simp] theorem updField_regs : (updField s d f).regs = s.regs := rfl
@[simp] theorem updField_shadow : (updField s d f).shadow = s.shadow := rfl
@[simp] theorem updField_vddio : (updField s d f).vddio = s.vddio := rfl
@[simp] theorem updField_tap : (updField s d f).tap = s.tap := rfl
@[simp] theorem updField_irqStat : (updField s d f).irqStat = s.irqStat := rfl
@[simp] theorem updField_boot : (updField s d f).boot = s.boot := rfl
@[simp] theorem updField_attest : (updField s d f).attest = s.attest := rfl
@[simp] theorem updField_jrn : (updField s d f).jrn = s.jrn := rfl
@[simp] theorem updField_md : (updField s d f).md = s.md := rfl
@[simp] theorem updField_pwr : (updField s d f).pwr = s.pwr := rfl
@[simp] theorem updField_tm : (updField s d f).tm = s.tm := rfl
@[simp] theorem updField_ws : (updField s d f).ws = s.ws := rfl
@[simp] theorem updField_cyc : (updField s d f).cyc = s.cyc := rfl
@[simp] theorem updField_lane : (updField s d f).lane = s.lane := rfl
@[simp] theorem updField_port : (updField s d f).port = s.port := rfl
@[simp] theorem updField_peer : (updField s d f).peer = s.peer := rfl
@[simp] theorem updField_store : (updField s d f).store = s.store := rfl
@[simp] theorem updField_mp : (updField s d f).mp = s.mp := rfl
@[simp] theorem updField_pl : (updField s d f).pl = s.pl := rfl
@[simp] theorem updField_own : (updField s d f).own = s.own := rfl
@[simp] theorem updField_app : (updField s d f).app = s.app := rfl
@[simp] theorem updField_wd : (updField s d f).wd = s.wd := rfl
@[simp] theorem updField_led : (updField s d f).led = s.led := rfl
@[simp] theorem updField_mnt : (updField s d f).mnt = s.mnt := rfl
@[simp] theorem updField_snap : (updField s d f).snap = s.snap := rfl
@[simp] theorem updField_mbox : (updField s d f).mbox = s.mbox := rfl
@[simp] theorem updField_hub : (updField s d f).hub = s.hub := rfl
@[simp] theorem updField_nomaj : (updField s d f).nomaj = s.nomaj := rfl
@[simp] theorem updField_die : (updField s d f).die = s.die := rfl
@[simp] theorem updField_field : (updField s d f).field = vmod s.field d f := rfl
@[simp] theorem updField_gov : (updField s d f).gov = s.gov := rfl
@[simp] theorem updField_survey : (updField s d f).survey = s.survey := rfl
@[simp] theorem updField_loop : (updField s d f).loop = s.loop := rfl
@[simp] theorem updField_ld : (updField s d f).ld = s.ld := rfl
@[simp] theorem updField_can : (updField s d f).can = s.can := rfl
@[simp] theorem updField_rxStage : (updField s d f).rxStage = s.rxStage := rfl
@[simp] theorem updField_permits : (updField s d f).permits = s.permits := rfl
@[simp] theorem updField_coreDown : (updField s d f).coreDown = s.coreDown := rfl
end

section
variable {k : Chan} {f : LoopSt → LoopSt}
@[simp] theorem updLoop_pending : (updLoop s k f).pending = s.pending := rfl
@[simp] theorem updLoop_freeCtr : (updLoop s k f).freeCtr = s.freeCtr := rfl
@[simp] theorem updLoop_time : (updLoop s k f).time = s.time := rfl
@[simp] theorem updLoop_mono : (updLoop s k f).mono = s.mono := rfl
@[simp] theorem updLoop_regs : (updLoop s k f).regs = s.regs := rfl
@[simp] theorem updLoop_shadow : (updLoop s k f).shadow = s.shadow := rfl
@[simp] theorem updLoop_vddio : (updLoop s k f).vddio = s.vddio := rfl
@[simp] theorem updLoop_tap : (updLoop s k f).tap = s.tap := rfl
@[simp] theorem updLoop_irqStat : (updLoop s k f).irqStat = s.irqStat := rfl
@[simp] theorem updLoop_boot : (updLoop s k f).boot = s.boot := rfl
@[simp] theorem updLoop_attest : (updLoop s k f).attest = s.attest := rfl
@[simp] theorem updLoop_jrn : (updLoop s k f).jrn = s.jrn := rfl
@[simp] theorem updLoop_md : (updLoop s k f).md = s.md := rfl
@[simp] theorem updLoop_pwr : (updLoop s k f).pwr = s.pwr := rfl
@[simp] theorem updLoop_tm : (updLoop s k f).tm = s.tm := rfl
@[simp] theorem updLoop_ws : (updLoop s k f).ws = s.ws := rfl
@[simp] theorem updLoop_cyc : (updLoop s k f).cyc = s.cyc := rfl
@[simp] theorem updLoop_lane : (updLoop s k f).lane = s.lane := rfl
@[simp] theorem updLoop_port : (updLoop s k f).port = s.port := rfl
@[simp] theorem updLoop_peer : (updLoop s k f).peer = s.peer := rfl
@[simp] theorem updLoop_store : (updLoop s k f).store = s.store := rfl
@[simp] theorem updLoop_mp : (updLoop s k f).mp = s.mp := rfl
@[simp] theorem updLoop_pl : (updLoop s k f).pl = s.pl := rfl
@[simp] theorem updLoop_own : (updLoop s k f).own = s.own := rfl
@[simp] theorem updLoop_app : (updLoop s k f).app = s.app := rfl
@[simp] theorem updLoop_wd : (updLoop s k f).wd = s.wd := rfl
@[simp] theorem updLoop_led : (updLoop s k f).led = s.led := rfl
@[simp] theorem updLoop_mnt : (updLoop s k f).mnt = s.mnt := rfl
@[simp] theorem updLoop_snap : (updLoop s k f).snap = s.snap := rfl
@[simp] theorem updLoop_mbox : (updLoop s k f).mbox = s.mbox := rfl
@[simp] theorem updLoop_hub : (updLoop s k f).hub = s.hub := rfl
@[simp] theorem updLoop_nomaj : (updLoop s k f).nomaj = s.nomaj := rfl
@[simp] theorem updLoop_die : (updLoop s k f).die = s.die := rfl
@[simp] theorem updLoop_field : (updLoop s k f).field = s.field := rfl
@[simp] theorem updLoop_gov : (updLoop s k f).gov = s.gov := rfl
@[simp] theorem updLoop_survey : (updLoop s k f).survey = s.survey := rfl
@[simp] theorem updLoop_loop : (updLoop s k f).loop = vmod s.loop k f := rfl
@[simp] theorem updLoop_ld : (updLoop s k f).ld = s.ld := rfl
@[simp] theorem updLoop_can : (updLoop s k f).can = s.can := rfl
@[simp] theorem updLoop_rxStage : (updLoop s k f).rxStage = s.rxStage := rfl
@[simp] theorem updLoop_permits : (updLoop s k f).permits = s.permits := rfl
@[simp] theorem updLoop_coreDown : (updLoop s k f).coreDown = s.coreDown := rfl
end

section
variable {d : Die} {f : SurveySt → SurveySt}
@[simp] theorem svUpd_pending : (svUpd s d f).pending = s.pending := rfl
@[simp] theorem svUpd_freeCtr : (svUpd s d f).freeCtr = s.freeCtr := rfl
@[simp] theorem svUpd_time : (svUpd s d f).time = s.time := rfl
@[simp] theorem svUpd_mono : (svUpd s d f).mono = s.mono := rfl
@[simp] theorem svUpd_regs : (svUpd s d f).regs = s.regs := rfl
@[simp] theorem svUpd_shadow : (svUpd s d f).shadow = s.shadow := rfl
@[simp] theorem svUpd_vddio : (svUpd s d f).vddio = s.vddio := rfl
@[simp] theorem svUpd_tap : (svUpd s d f).tap = s.tap := rfl
@[simp] theorem svUpd_irqStat : (svUpd s d f).irqStat = s.irqStat := rfl
@[simp] theorem svUpd_boot : (svUpd s d f).boot = s.boot := rfl
@[simp] theorem svUpd_attest : (svUpd s d f).attest = s.attest := rfl
@[simp] theorem svUpd_jrn : (svUpd s d f).jrn = s.jrn := rfl
@[simp] theorem svUpd_md : (svUpd s d f).md = s.md := rfl
@[simp] theorem svUpd_pwr : (svUpd s d f).pwr = s.pwr := rfl
@[simp] theorem svUpd_tm : (svUpd s d f).tm = s.tm := rfl
@[simp] theorem svUpd_ws : (svUpd s d f).ws = s.ws := rfl
@[simp] theorem svUpd_cyc : (svUpd s d f).cyc = s.cyc := rfl
@[simp] theorem svUpd_lane : (svUpd s d f).lane = s.lane := rfl
@[simp] theorem svUpd_port : (svUpd s d f).port = s.port := rfl
@[simp] theorem svUpd_peer : (svUpd s d f).peer = s.peer := rfl
@[simp] theorem svUpd_store : (svUpd s d f).store = s.store := rfl
@[simp] theorem svUpd_mp : (svUpd s d f).mp = s.mp := rfl
@[simp] theorem svUpd_pl : (svUpd s d f).pl = s.pl := rfl
@[simp] theorem svUpd_own : (svUpd s d f).own = s.own := rfl
@[simp] theorem svUpd_app : (svUpd s d f).app = s.app := rfl
@[simp] theorem svUpd_wd : (svUpd s d f).wd = s.wd := rfl
@[simp] theorem svUpd_led : (svUpd s d f).led = s.led := rfl
@[simp] theorem svUpd_mnt : (svUpd s d f).mnt = s.mnt := rfl
@[simp] theorem svUpd_snap : (svUpd s d f).snap = s.snap := rfl
@[simp] theorem svUpd_mbox : (svUpd s d f).mbox = s.mbox := rfl
@[simp] theorem svUpd_hub : (svUpd s d f).hub = s.hub := rfl
@[simp] theorem svUpd_nomaj : (svUpd s d f).nomaj = s.nomaj := rfl
@[simp] theorem svUpd_die : (svUpd s d f).die = s.die := rfl
@[simp] theorem svUpd_field : (svUpd s d f).field = s.field := rfl
@[simp] theorem svUpd_gov : (svUpd s d f).gov = s.gov := rfl
@[simp] theorem svUpd_survey : (svUpd s d f).survey = vmod s.survey d f := rfl
@[simp] theorem svUpd_loop : (svUpd s d f).loop = s.loop := rfl
@[simp] theorem svUpd_ld : (svUpd s d f).ld = s.ld := rfl
@[simp] theorem svUpd_can : (svUpd s d f).can = s.can := rfl
@[simp] theorem svUpd_rxStage : (svUpd s d f).rxStage = s.rxStage := rfl
@[simp] theorem svUpd_permits : (svUpd s d f).permits = s.permits := rfl
@[simp] theorem svUpd_coreDown : (svUpd s d f).coreDown = s.coreDown := rfl
end

section
variable {c : Ctrl} {f : CanSt → CanSt}
@[simp] theorem canUpd_pending : (canUpd s c f).pending = s.pending := rfl
@[simp] theorem canUpd_freeCtr : (canUpd s c f).freeCtr = s.freeCtr := rfl
@[simp] theorem canUpd_time : (canUpd s c f).time = s.time := rfl
@[simp] theorem canUpd_mono : (canUpd s c f).mono = s.mono := rfl
@[simp] theorem canUpd_regs : (canUpd s c f).regs = s.regs := rfl
@[simp] theorem canUpd_shadow : (canUpd s c f).shadow = s.shadow := rfl
@[simp] theorem canUpd_vddio : (canUpd s c f).vddio = s.vddio := rfl
@[simp] theorem canUpd_tap : (canUpd s c f).tap = s.tap := rfl
@[simp] theorem canUpd_irqStat : (canUpd s c f).irqStat = s.irqStat := rfl
@[simp] theorem canUpd_boot : (canUpd s c f).boot = s.boot := rfl
@[simp] theorem canUpd_attest : (canUpd s c f).attest = s.attest := rfl
@[simp] theorem canUpd_jrn : (canUpd s c f).jrn = s.jrn := rfl
@[simp] theorem canUpd_md : (canUpd s c f).md = s.md := rfl
@[simp] theorem canUpd_pwr : (canUpd s c f).pwr = s.pwr := rfl
@[simp] theorem canUpd_tm : (canUpd s c f).tm = s.tm := rfl
@[simp] theorem canUpd_ws : (canUpd s c f).ws = s.ws := rfl
@[simp] theorem canUpd_cyc : (canUpd s c f).cyc = s.cyc := rfl
@[simp] theorem canUpd_lane : (canUpd s c f).lane = s.lane := rfl
@[simp] theorem canUpd_port : (canUpd s c f).port = s.port := rfl
@[simp] theorem canUpd_peer : (canUpd s c f).peer = s.peer := rfl
@[simp] theorem canUpd_store : (canUpd s c f).store = s.store := rfl
@[simp] theorem canUpd_mp : (canUpd s c f).mp = s.mp := rfl
@[simp] theorem canUpd_pl : (canUpd s c f).pl = s.pl := rfl
@[simp] theorem canUpd_own : (canUpd s c f).own = s.own := rfl
@[simp] theorem canUpd_app : (canUpd s c f).app = s.app := rfl
@[simp] theorem canUpd_wd : (canUpd s c f).wd = s.wd := rfl
@[simp] theorem canUpd_led : (canUpd s c f).led = s.led := rfl
@[simp] theorem canUpd_mnt : (canUpd s c f).mnt = s.mnt := rfl
@[simp] theorem canUpd_snap : (canUpd s c f).snap = s.snap := rfl
@[simp] theorem canUpd_mbox : (canUpd s c f).mbox = s.mbox := rfl
@[simp] theorem canUpd_hub : (canUpd s c f).hub = s.hub := rfl
@[simp] theorem canUpd_nomaj : (canUpd s c f).nomaj = s.nomaj := rfl
@[simp] theorem canUpd_die : (canUpd s c f).die = s.die := rfl
@[simp] theorem canUpd_field : (canUpd s c f).field = s.field := rfl
@[simp] theorem canUpd_gov : (canUpd s c f).gov = s.gov := rfl
@[simp] theorem canUpd_survey : (canUpd s c f).survey = s.survey := rfl
@[simp] theorem canUpd_loop : (canUpd s c f).loop = s.loop := rfl
@[simp] theorem canUpd_ld : (canUpd s c f).ld = s.ld := rfl
@[simp] theorem canUpd_can : (canUpd s c f).can = vmod s.can c f := rfl
@[simp] theorem canUpd_rxStage : (canUpd s c f).rxStage = s.rxStage := rfl
@[simp] theorem canUpd_permits : (canUpd s c f).permits = s.permits := rfl
@[simp] theorem canUpd_coreDown : (canUpd s c f).coreDown = s.coreDown := rfl
end

section
variable {i : Fin 4} {f : WdSt → WdSt}
@[simp] theorem updWd_pending : (updWd s i f).pending = s.pending := rfl
@[simp] theorem updWd_freeCtr : (updWd s i f).freeCtr = s.freeCtr := rfl
@[simp] theorem updWd_time : (updWd s i f).time = s.time := rfl
@[simp] theorem updWd_mono : (updWd s i f).mono = s.mono := rfl
@[simp] theorem updWd_regs : (updWd s i f).regs = s.regs := rfl
@[simp] theorem updWd_shadow : (updWd s i f).shadow = s.shadow := rfl
@[simp] theorem updWd_vddio : (updWd s i f).vddio = s.vddio := rfl
@[simp] theorem updWd_tap : (updWd s i f).tap = s.tap := rfl
@[simp] theorem updWd_irqStat : (updWd s i f).irqStat = s.irqStat := rfl
@[simp] theorem updWd_boot : (updWd s i f).boot = s.boot := rfl
@[simp] theorem updWd_attest : (updWd s i f).attest = s.attest := rfl
@[simp] theorem updWd_jrn : (updWd s i f).jrn = s.jrn := rfl
@[simp] theorem updWd_md : (updWd s i f).md = s.md := rfl
@[simp] theorem updWd_pwr : (updWd s i f).pwr = s.pwr := rfl
@[simp] theorem updWd_tm : (updWd s i f).tm = s.tm := rfl
@[simp] theorem updWd_ws : (updWd s i f).ws = s.ws := rfl
@[simp] theorem updWd_cyc : (updWd s i f).cyc = s.cyc := rfl
@[simp] theorem updWd_lane : (updWd s i f).lane = s.lane := rfl
@[simp] theorem updWd_port : (updWd s i f).port = s.port := rfl
@[simp] theorem updWd_peer : (updWd s i f).peer = s.peer := rfl
@[simp] theorem updWd_store : (updWd s i f).store = s.store := rfl
@[simp] theorem updWd_mp : (updWd s i f).mp = s.mp := rfl
@[simp] theorem updWd_pl : (updWd s i f).pl = s.pl := rfl
@[simp] theorem updWd_own : (updWd s i f).own = s.own := rfl
@[simp] theorem updWd_app : (updWd s i f).app = s.app := rfl
@[simp] theorem updWd_wd : (updWd s i f).wd = vmod s.wd i f := rfl
@[simp] theorem updWd_led : (updWd s i f).led = s.led := rfl
@[simp] theorem updWd_mnt : (updWd s i f).mnt = s.mnt := rfl
@[simp] theorem updWd_snap : (updWd s i f).snap = s.snap := rfl
@[simp] theorem updWd_mbox : (updWd s i f).mbox = s.mbox := rfl
@[simp] theorem updWd_hub : (updWd s i f).hub = s.hub := rfl
@[simp] theorem updWd_nomaj : (updWd s i f).nomaj = s.nomaj := rfl
@[simp] theorem updWd_die : (updWd s i f).die = s.die := rfl
@[simp] theorem updWd_field : (updWd s i f).field = s.field := rfl
@[simp] theorem updWd_gov : (updWd s i f).gov = s.gov := rfl
@[simp] theorem updWd_survey : (updWd s i f).survey = s.survey := rfl
@[simp] theorem updWd_loop : (updWd s i f).loop = s.loop := rfl
@[simp] theorem updWd_ld : (updWd s i f).ld = s.ld := rfl
@[simp] theorem updWd_can : (updWd s i f).can = s.can := rfl
@[simp] theorem updWd_rxStage : (updWd s i f).rxStage = s.rxStage := rfl
@[simp] theorem updWd_permits : (updWd s i f).permits = s.permits := rfl
@[simp] theorem updWd_coreDown : (updWd s i f).coreDown = s.coreDown := rfl
end

section
variable {p o : Nat} {w : Word}
@[simp] theorem putReg_pending : (putReg s p o w).pending = s.pending := rfl
@[simp] theorem putReg_freeCtr : (putReg s p o w).freeCtr = s.freeCtr := rfl
@[simp] theorem putReg_time : (putReg s p o w).time = s.time := rfl
@[simp] theorem putReg_mono : (putReg s p o w).mono = s.mono := rfl
@[simp] theorem putReg_regs : (putReg s p o w).regs = rmSet s.regs (regKey p o) w := rfl
@[simp] theorem putReg_shadow : (putReg s p o w).shadow = s.shadow := rfl
@[simp] theorem putReg_vddio : (putReg s p o w).vddio = s.vddio := rfl
@[simp] theorem putReg_tap : (putReg s p o w).tap = s.tap := rfl
@[simp] theorem putReg_irqStat : (putReg s p o w).irqStat = s.irqStat := rfl
@[simp] theorem putReg_boot : (putReg s p o w).boot = s.boot := rfl
@[simp] theorem putReg_attest : (putReg s p o w).attest = s.attest := rfl
@[simp] theorem putReg_jrn : (putReg s p o w).jrn = s.jrn := rfl
@[simp] theorem putReg_md : (putReg s p o w).md = s.md := rfl
@[simp] theorem putReg_pwr : (putReg s p o w).pwr = s.pwr := rfl
@[simp] theorem putReg_tm : (putReg s p o w).tm = s.tm := rfl
@[simp] theorem putReg_ws : (putReg s p o w).ws = s.ws := rfl
@[simp] theorem putReg_cyc : (putReg s p o w).cyc = s.cyc := rfl
@[simp] theorem putReg_lane : (putReg s p o w).lane = s.lane := rfl
@[simp] theorem putReg_port : (putReg s p o w).port = s.port := rfl
@[simp] theorem putReg_peer : (putReg s p o w).peer = s.peer := rfl
@[simp] theorem putReg_store : (putReg s p o w).store = s.store := rfl
@[simp] theorem putReg_mp : (putReg s p o w).mp = s.mp := rfl
@[simp] theorem putReg_pl : (putReg s p o w).pl = s.pl := rfl
@[simp] theorem putReg_own : (putReg s p o w).own = s.own := rfl
@[simp] theorem putReg_app : (putReg s p o w).app = s.app := rfl
@[simp] theorem putReg_wd : (putReg s p o w).wd = s.wd := rfl
@[simp] theorem putReg_led : (putReg s p o w).led = s.led := rfl
@[simp] theorem putReg_mnt : (putReg s p o w).mnt = s.mnt := rfl
@[simp] theorem putReg_snap : (putReg s p o w).snap = s.snap := rfl
@[simp] theorem putReg_mbox : (putReg s p o w).mbox = s.mbox := rfl
@[simp] theorem putReg_hub : (putReg s p o w).hub = s.hub := rfl
@[simp] theorem putReg_nomaj : (putReg s p o w).nomaj = s.nomaj := rfl
@[simp] theorem putReg_die : (putReg s p o w).die = s.die := rfl
@[simp] theorem putReg_field : (putReg s p o w).field = s.field := rfl
@[simp] theorem putReg_gov : (putReg s p o w).gov = s.gov := rfl
@[simp] theorem putReg_survey : (putReg s p o w).survey = s.survey := rfl
@[simp] theorem putReg_loop : (putReg s p o w).loop = s.loop := rfl
@[simp] theorem putReg_ld : (putReg s p o w).ld = s.ld := rfl
@[simp] theorem putReg_can : (putReg s p o w).can = s.can := rfl
@[simp] theorem putReg_rxStage : (putReg s p o w).rxStage = s.rxStage := rfl
@[simp] theorem putReg_permits : (putReg s p o w).permits = s.permits := rfl
@[simp] theorem putReg_coreDown : (putReg s p o w).coreDown = s.coreDown := rfl
end

section
variable {a : Nat} {bs : List Byte}
@[simp] theorem storePut_pending : (storePut s a bs).pending = s.pending := rfl
@[simp] theorem storePut_freeCtr : (storePut s a bs).freeCtr = s.freeCtr := rfl
@[simp] theorem storePut_time : (storePut s a bs).time = s.time := rfl
@[simp] theorem storePut_mono : (storePut s a bs).mono = s.mono := rfl
@[simp] theorem storePut_regs : (storePut s a bs).regs = s.regs := rfl
@[simp] theorem storePut_shadow : (storePut s a bs).shadow = s.shadow := rfl
@[simp] theorem storePut_vddio : (storePut s a bs).vddio = s.vddio := rfl
@[simp] theorem storePut_tap : (storePut s a bs).tap = s.tap := rfl
@[simp] theorem storePut_irqStat : (storePut s a bs).irqStat = s.irqStat := rfl
@[simp] theorem storePut_boot : (storePut s a bs).boot = s.boot := rfl
@[simp] theorem storePut_attest : (storePut s a bs).attest = s.attest := rfl
@[simp] theorem storePut_jrn : (storePut s a bs).jrn = s.jrn := rfl
@[simp] theorem storePut_md : (storePut s a bs).md = s.md := rfl
@[simp] theorem storePut_pwr : (storePut s a bs).pwr = s.pwr := rfl
@[simp] theorem storePut_tm : (storePut s a bs).tm = s.tm := rfl
@[simp] theorem storePut_ws : (storePut s a bs).ws = s.ws := rfl
@[simp] theorem storePut_cyc : (storePut s a bs).cyc = s.cyc := rfl
@[simp] theorem storePut_lane : (storePut s a bs).lane = s.lane := rfl
@[simp] theorem storePut_port : (storePut s a bs).port = s.port := rfl
@[simp] theorem storePut_peer : (storePut s a bs).peer = s.peer := rfl
@[simp] theorem storePut_store : (storePut s a bs).store = memBlock 0xFF s.store a bs := rfl
@[simp] theorem storePut_mp : (storePut s a bs).mp = s.mp := rfl
@[simp] theorem storePut_pl : (storePut s a bs).pl = s.pl := rfl
@[simp] theorem storePut_own : (storePut s a bs).own = s.own := rfl
@[simp] theorem storePut_app : (storePut s a bs).app = s.app := rfl
@[simp] theorem storePut_wd : (storePut s a bs).wd = s.wd := rfl
@[simp] theorem storePut_led : (storePut s a bs).led = s.led := rfl
@[simp] theorem storePut_mnt : (storePut s a bs).mnt = s.mnt := rfl
@[simp] theorem storePut_snap : (storePut s a bs).snap = s.snap := rfl
@[simp] theorem storePut_mbox : (storePut s a bs).mbox = s.mbox := rfl
@[simp] theorem storePut_hub : (storePut s a bs).hub = s.hub := rfl
@[simp] theorem storePut_nomaj : (storePut s a bs).nomaj = s.nomaj := rfl
@[simp] theorem storePut_die : (storePut s a bs).die = s.die := rfl
@[simp] theorem storePut_field : (storePut s a bs).field = s.field := rfl
@[simp] theorem storePut_gov : (storePut s a bs).gov = s.gov := rfl
@[simp] theorem storePut_survey : (storePut s a bs).survey = s.survey := rfl
@[simp] theorem storePut_loop : (storePut s a bs).loop = s.loop := rfl
@[simp] theorem storePut_ld : (storePut s a bs).ld = s.ld := rfl
@[simp] theorem storePut_can : (storePut s a bs).can = s.can := rfl
@[simp] theorem storePut_rxStage : (storePut s a bs).rxStage = s.rxStage := rfl
@[simp] theorem storePut_permits : (storePut s a bs).permits = s.permits := rfl
@[simp] theorem storePut_coreDown : (storePut s a bs).coreDown = s.coreDown := rfl
end

section
variable {c : Clock}
@[simp] theorem withClock_pending : (withClock s c).pending = s.pending := rfl
@[simp] theorem withClock_freeCtr : (withClock s c).freeCtr = s.freeCtr := rfl
@[simp] theorem withClock_time : (withClock s c).time = c.time := rfl
@[simp] theorem withClock_mono : (withClock s c).mono = c.mono := rfl
@[simp] theorem withClock_regs : (withClock s c).regs = s.regs := rfl
@[simp] theorem withClock_shadow : (withClock s c).shadow = s.shadow := rfl
@[simp] theorem withClock_vddio : (withClock s c).vddio = s.vddio := rfl
@[simp] theorem withClock_tap : (withClock s c).tap = s.tap := rfl
@[simp] theorem withClock_irqStat : (withClock s c).irqStat = s.irqStat := rfl
@[simp] theorem withClock_boot : (withClock s c).boot = s.boot := rfl
@[simp] theorem withClock_attest : (withClock s c).attest = s.attest := rfl
@[simp] theorem withClock_jrn : (withClock s c).jrn = s.jrn := rfl
@[simp] theorem withClock_md : (withClock s c).md = s.md := rfl
@[simp] theorem withClock_pwr : (withClock s c).pwr = s.pwr := rfl
@[simp] theorem withClock_tm : (withClock s c).tm = c.tm := rfl
@[simp] theorem withClock_ws : (withClock s c).ws = s.ws := rfl
@[simp] theorem withClock_cyc : (withClock s c).cyc = s.cyc := rfl
@[simp] theorem withClock_lane : (withClock s c).lane = s.lane := rfl
@[simp] theorem withClock_port : (withClock s c).port = s.port := rfl
@[simp] theorem withClock_peer : (withClock s c).peer = s.peer := rfl
@[simp] theorem withClock_store : (withClock s c).store = s.store := rfl
@[simp] theorem withClock_mp : (withClock s c).mp = s.mp := rfl
@[simp] theorem withClock_pl : (withClock s c).pl = s.pl := rfl
@[simp] theorem withClock_own : (withClock s c).own = s.own := rfl
@[simp] theorem withClock_app : (withClock s c).app = s.app := rfl
@[simp] theorem withClock_wd : (withClock s c).wd = s.wd := rfl
@[simp] theorem withClock_led : (withClock s c).led = s.led := rfl
@[simp] theorem withClock_mnt : (withClock s c).mnt = s.mnt := rfl
@[simp] theorem withClock_snap : (withClock s c).snap = s.snap := rfl
@[simp] theorem withClock_mbox : (withClock s c).mbox = s.mbox := rfl
@[simp] theorem withClock_hub : (withClock s c).hub = s.hub := rfl
@[simp] theorem withClock_nomaj : (withClock s c).nomaj = s.nomaj := rfl
@[simp] theorem withClock_die : (withClock s c).die = s.die := rfl
@[simp] theorem withClock_field : (withClock s c).field = s.field := rfl
@[simp] theorem withClock_gov : (withClock s c).gov = s.gov := rfl
@[simp] theorem withClock_survey : (withClock s c).survey = s.survey := rfl
@[simp] theorem withClock_loop : (withClock s c).loop = s.loop := rfl
@[simp] theorem withClock_ld : (withClock s c).ld = s.ld := rfl
@[simp] theorem withClock_can : (withClock s c).can = s.can := rfl
@[simp] theorem withClock_rxStage : (withClock s c).rxStage = s.rxStage := rfl
@[simp] theorem withClock_permits : (withClock s c).permits = s.permits := rfl
@[simp] theorem withClock_coreDown : (withClock s c).coreDown = s.coreDown := rfl
end

section
@[simp] theorem useFree_pending : (useFree s).pending = s.pending := rfl
@[simp] theorem useFree_freeCtr : (useFree s).freeCtr = s.freeCtr + 1 := rfl
@[simp] theorem useFree_time : (useFree s).time = s.time := rfl
@[simp] theorem useFree_mono : (useFree s).mono = s.mono := rfl
@[simp] theorem useFree_regs : (useFree s).regs = s.regs := rfl
@[simp] theorem useFree_shadow : (useFree s).shadow = s.shadow := rfl
@[simp] theorem useFree_vddio : (useFree s).vddio = s.vddio := rfl
@[simp] theorem useFree_tap : (useFree s).tap = s.tap := rfl
@[simp] theorem useFree_irqStat : (useFree s).irqStat = s.irqStat := rfl
@[simp] theorem useFree_boot : (useFree s).boot = s.boot := rfl
@[simp] theorem useFree_attest : (useFree s).attest = s.attest := rfl
@[simp] theorem useFree_jrn : (useFree s).jrn = s.jrn := rfl
@[simp] theorem useFree_md : (useFree s).md = s.md := rfl
@[simp] theorem useFree_pwr : (useFree s).pwr = s.pwr := rfl
@[simp] theorem useFree_tm : (useFree s).tm = s.tm := rfl
@[simp] theorem useFree_ws : (useFree s).ws = s.ws := rfl
@[simp] theorem useFree_cyc : (useFree s).cyc = s.cyc := rfl
@[simp] theorem useFree_lane : (useFree s).lane = s.lane := rfl
@[simp] theorem useFree_port : (useFree s).port = s.port := rfl
@[simp] theorem useFree_peer : (useFree s).peer = s.peer := rfl
@[simp] theorem useFree_store : (useFree s).store = s.store := rfl
@[simp] theorem useFree_mp : (useFree s).mp = s.mp := rfl
@[simp] theorem useFree_pl : (useFree s).pl = s.pl := rfl
@[simp] theorem useFree_own : (useFree s).own = s.own := rfl
@[simp] theorem useFree_app : (useFree s).app = s.app := rfl
@[simp] theorem useFree_wd : (useFree s).wd = s.wd := rfl
@[simp] theorem useFree_led : (useFree s).led = s.led := rfl
@[simp] theorem useFree_mnt : (useFree s).mnt = s.mnt := rfl
@[simp] theorem useFree_snap : (useFree s).snap = s.snap := rfl
@[simp] theorem useFree_mbox : (useFree s).mbox = s.mbox := rfl
@[simp] theorem useFree_hub : (useFree s).hub = s.hub := rfl
@[simp] theorem useFree_nomaj : (useFree s).nomaj = s.nomaj := rfl
@[simp] theorem useFree_die : (useFree s).die = s.die := rfl
@[simp] theorem useFree_field : (useFree s).field = s.field := rfl
@[simp] theorem useFree_gov : (useFree s).gov = s.gov := rfl
@[simp] theorem useFree_survey : (useFree s).survey = s.survey := rfl
@[simp] theorem useFree_loop : (useFree s).loop = s.loop := rfl
@[simp] theorem useFree_ld : (useFree s).ld = s.ld := rfl
@[simp] theorem useFree_can : (useFree s).can = s.can := rfl
@[simp] theorem useFree_rxStage : (useFree s).rxStage = s.rxStage := rfl
@[simp] theorem useFree_permits : (useFree s).permits = s.permits := rfl
@[simp] theorem useFree_coreDown : (useFree s).coreDown = s.coreDown := rfl
end

section
variable {b : Nat}
@[simp] theorem irq_pending : (irq s b).pending = s.pending := rfl
@[simp] theorem irq_freeCtr : (irq s b).freeCtr = s.freeCtr := rfl
@[simp] theorem irq_time : (irq s b).time = s.time := rfl
@[simp] theorem irq_mono : (irq s b).mono = s.mono := rfl
@[simp] theorem irq_regs : (irq s b).regs = s.regs := rfl
@[simp] theorem irq_shadow : (irq s b).shadow = s.shadow := rfl
@[simp] theorem irq_vddio : (irq s b).vddio = s.vddio := rfl
@[simp] theorem irq_tap : (irq s b).tap = s.tap := rfl
@[simp] theorem irq_irqStat : (irq s b).irqStat = s.irqStat.map fun w => w ||| BitVec.ofNat 13 (2 ^ b) := rfl
@[simp] theorem irq_boot : (irq s b).boot = s.boot := rfl
@[simp] theorem irq_attest : (irq s b).attest = s.attest := rfl
@[simp] theorem irq_jrn : (irq s b).jrn = s.jrn := rfl
@[simp] theorem irq_md : (irq s b).md = s.md := rfl
@[simp] theorem irq_pwr : (irq s b).pwr = s.pwr := rfl
@[simp] theorem irq_tm : (irq s b).tm = s.tm := rfl
@[simp] theorem irq_ws : (irq s b).ws = s.ws := rfl
@[simp] theorem irq_cyc : (irq s b).cyc = s.cyc := rfl
@[simp] theorem irq_lane : (irq s b).lane = s.lane := rfl
@[simp] theorem irq_port : (irq s b).port = s.port := rfl
@[simp] theorem irq_peer : (irq s b).peer = s.peer := rfl
@[simp] theorem irq_store : (irq s b).store = s.store := rfl
@[simp] theorem irq_mp : (irq s b).mp = s.mp := rfl
@[simp] theorem irq_pl : (irq s b).pl = s.pl := rfl
@[simp] theorem irq_own : (irq s b).own = s.own := rfl
@[simp] theorem irq_app : (irq s b).app = s.app := rfl
@[simp] theorem irq_wd : (irq s b).wd = s.wd := rfl
@[simp] theorem irq_led : (irq s b).led = s.led := rfl
@[simp] theorem irq_mnt : (irq s b).mnt = s.mnt := rfl
@[simp] theorem irq_snap : (irq s b).snap = s.snap := rfl
@[simp] theorem irq_mbox : (irq s b).mbox = s.mbox := rfl
@[simp] theorem irq_hub : (irq s b).hub = s.hub := rfl
@[simp] theorem irq_nomaj : (irq s b).nomaj = s.nomaj := rfl
@[simp] theorem irq_die : (irq s b).die = s.die := rfl
@[simp] theorem irq_field : (irq s b).field = s.field := rfl
@[simp] theorem irq_gov : (irq s b).gov = s.gov := rfl
@[simp] theorem irq_survey : (irq s b).survey = s.survey := rfl
@[simp] theorem irq_loop : (irq s b).loop = s.loop := rfl
@[simp] theorem irq_ld : (irq s b).ld = s.ld := rfl
@[simp] theorem irq_can : (irq s b).can = s.can := rfl
@[simp] theorem irq_rxStage : (irq s b).rxStage = s.rxStage := rfl
@[simp] theorem irq_permits : (irq s b).permits = s.permits := rfl
@[simp] theorem irq_coreDown : (irq s b).coreDown = s.coreDown := rfl
end

/-! ## Frames of shared operations -/

/-- Time runs on, and only the clocks and the time master's corrections change (R184, R187, R189). -/
theorem timeTo_frame (s : State) (t : Nat) :
    timeTo s t = { s with time := (timeTo s t).time, mono := (timeTo s t).mono, tm := (timeTo s t).tm } := by
  unfold timeTo
  split <;> rfl

theorem monoTo_frame (s : State) (m : Nat) :
    monoTo s m = { s with time := (monoTo s m).time, mono := (monoTo s m).mono, tm := (monoTo s m).tm } := by
  unfold monoTo
  split <;> rfl

/-- A tick count or an instant that does not lie ahead changes nothing. -/
theorem timeTo_past {t : Nat} (h : t ≤ s.time) : timeTo s t = s := if_neg fun q => absurd q.1 (Nat.not_lt.mpr h)

theorem monoTo_past {m : Nat} (h : m ≤ s.mono) : monoTo s m = s := if_neg (Nat.not_lt.mpr h)

/-- Ticks of 4 ns counted one by one: the tick count takes 4 ns for each (R189). -/
theorem plainTicks_mono (c : Clock) (n : Nat) : (plainTicks c n).mono = c.mono + 4 * n := rfl

theorem tickClock_mono (c : Clock) : (tickClock c).mono = c.mono + 4 := by
  unfold tickClock
  dsimp only
  split_ifs <;> rfl

theorem passTicks_mono (fuel n : Nat) (c : Clock) : (passTicks fuel c n).mono = c.mono + 4 * n := by
  induction fuel generalizing c n with
  | zero => exact plainTicks_mono c n
  | succ f ih =>
    unfold passTicks
    split
    · exact plainTicks_mono c n
    · split
      · exact plainTicks_mono c n
      · rw [ih, tickClock_mono, plainTicks_mono]; omega

theorem tsyncFall_mono (c : Clock) : (tsyncFall c).mono = c.mono := by
  unfold tsyncFall
  split <;> rfl

/-- The tick count reaches `m`, on the grid of ticks (R189). -/
theorem monoTo_mono (s : State) (m : Nat) :
    (monoTo s m).mono = if s.mono < m then s.mono + 4 * ticksFor (m - s.mono) else s.mono := by
  unfold monoTo
  split
  · simp only [withClock, tsyncFall_mono, passTicks_mono, clockOf]
  · rfl

/-- A cause learned changes one lane's pending cause, or nothing (R135). -/
theorem learnCause_frame (s : State) (l : Lane) (c : Nat) : learnCause s l c = { s with lane := (learnCause s l c).lane } := by
  unfold learnCause
  split <;> rfl

/-- A ledger event changes the ledger and the interrupt status, nothing else (R414). -/
theorem ledgerOf_frame (s : State) (t n code src arg : Nat) :
    ledgerOf s t n code src arg =
      { s with led := (ledgerOf s t n code src arg).led, irqStat := (ledgerOf s t n code src arg).irqStat } := by
  unfold ledgerOf
  dsimp only
  split <;> rfl

theorem ledgerAt_frame (s : State) (t code src arg : Nat) :
    ledgerAt s t code src arg = { s with led := (ledgerAt s t code src arg).led, irqStat := (ledgerAt s t code src arg).irqStat } :=
  ledgerOf_frame ..

theorem ledger_frame (s : State) (code unit inst arg : Nat) :
    ledger s code unit inst arg =
      { s with led := (ledger s code unit inst arg).led, irqStat := (ledger s code unit inst arg).irqStat } :=
  ledgerAt_frame ..

/-- An event of an isolated die changes that die's kept events, or the ledger (R414). -/
theorem dieLedger_frame (s : State) (d : Die) (code inst arg : Nat) :
    dieLedger s d code inst arg =
      { s with
        die := (dieLedger s d code inst arg).die
        led := (dieLedger s d code inst arg).led
        irqStat := (dieLedger s d code inst arg).irqStat } := by
  unfold dieLedger
  split
  · dsimp only
    split <;> rfl
  · unfold ledgerAt ledgerOf
    dsimp only
    split <;> rfl

/-- Every ledger event sets the sticky bit of its code (R415). -/
theorem ledgerAt_bit (s : State) (t code src arg : Nat) :
    (ledgerAt s t code src arg).led.bits =
      vset s.led.bits (code / 32) (vget s.led.bits (code / 32) 0 ||| place (code % 32) 1) := by
  unfold ledgerAt ledgerOf
  dsimp only
  split
  · simp only [irq, ledRecord]
    split
    · rfl
    · split <;> rfl
  · rfl

end Sys2Proof.Machine
end

