-- ==== Sys2Proof/Laws/Store.lean ====
section
/-!
SUPPORT. Laws of the store and its directory: reads see only the bytes they name, and a directory copy sealed with its own CRC-32C is the one in use.
-/

namespace Sys2Proof.Machine

/-- A read of `n` bytes sees only those bytes. -/
theorem memTake_congr {d : Byte} {m m' : Memory} {a n : Nat} (h : ∀ j, a ≤ j → j < a + n → memGet d m j = memGet d m' j) :
    memTake d m a n = memTake d m' a n := by
  induction n generalizing a with
  | zero => rfl
  | succ n ih =>
    simp only [memTake, h a (Nat.le_refl a) (by omega), List.cons.injEq, true_and]
    exact ih fun j h1 h2 => h j (by omega) (by omega)

/-- The four bytes of a word spell it. -/
theorem beNat_beBytes (w : Word) : beNat (beBytes w) = w.toNat := by
  have := w.isLt
  simp only [beNat, beBytes, List.foldl, BitVec.toNat_ofNat, Nat.shiftRight_eq_div_pow]
  omega

/-- Bytes written are read back. -/
theorem memTake_memPut (d : Byte) (bs : List Byte) {m : Memory} (a : Nat) (hm : Memory.wf d m = true) :
    memTake d (memPut d m a bs) a bs.length = bs := by
  induction bs generalizing m a with
  | nil => rfl
  | cons b bs ih =>
    simp only [List.length_cons, memTake, memPut, List.cons.injEq]
    refine ⟨?_, ih (a + 1) (amWf_amSet a b hm)⟩
    have hw : Memory.wf d (memSet d m a b) = true := amWf_amSet a b hm
    exact (memGet_memPut_outside d bs (a + 1) a hw (Or.inl (by omega))).trans (amGet_amSet_same a b hm)

/-- Bytes elsewhere leave a read as it was. -/
theorem memTake_memPut_outside (d : Byte) (bs : List Byte) {m : Memory} (p a n : Nat) (hm : Memory.wf d m = true)
    (h : a + n ≤ p ∨ p + bs.length ≤ a) : memTake d (memPut d m p bs) a n = memTake d m a n :=
  memTake_congr fun j _ _ => memGet_memPut_outside d bs p j hm (by omega)

/-- A number read elsewhere stays. -/
theorem beAt_memPut_outside (bs : List Byte) {m : Memory} (p a n : Nat) (hm : Memory.wf 0xFF m = true)
    (h : a + n ≤ p ∨ p + bs.length ≤ a) : beAt (memPut 0xFF m p bs) a n = beAt m a n := by
  simp only [beAt, memTake_memPut_outside 0xFF bs p a n hm h]

/-- A store whose first directory copy ends in its own CRC-32C (Table 3.3). -/
def sealDir (m : Memory) : Memory := memPut 0xFF m 0xFFC (beBytes (crc32c (memTake 0xFF m 0 0xFFC)))

theorem dirAll_sealDir {m : Memory} (hm : Memory.wf 0xFF m = true) (hc : dirCount m 0 ≤ 253) : dirAll (sealDir m) 0 = dirAll m 0 := by
  have hcnt : dirCount (sealDir m) 0 = dirCount m 0 := beAt_memPut_outside _ 0xFFC 0xA 2 hm (by omega)
  simp only [dirAll, hcnt]
  refine List.map_congr_left fun i hi => ?_
  have hi := List.mem_range.mp hi
  simp only [dirEntryAt]
  rw [sealDir, beAt_memPut_outside _ _ _ _ hm (by omega), beAt_memPut_outside _ _ _ _ hm (by omega),
    beAt_memPut_outside _ _ _ _ hm (by omega), beAt_memPut_outside _ _ _ _ hm (by omega)]

/-- A sealed copy with the magic, an ACTIVE below 2, at most 253 entries of distinct types and no second copy is the one in use (R74). -/
theorem dirPick_sealDir {m : Memory} (hm : Memory.wf 0xFF m = true) (hmag : beAt m 0 4 = 0x534B4449) (hact : dirActive m 0 ≤ 1)
    (hcnt : dirCount m 0 ≤ 253) (hty : noRepeat ((dirAll m 0).map fun e => e.type) = true) (hno : beAt m 0x1000 4 ≠ 0x534B4449) :
    dirPick (sealDir m) = some 0 := by
  have hlen : (beBytes (crc32c (memTake 0xFF m 0 0xFFC))).length = 4 := rfl
  have h1 : beAt (sealDir m) 0 4 = 0x534B4449 := (beAt_memPut_outside _ 0xFFC 0 4 hm (by omega)).trans hmag
  have h2 : dirActive (sealDir m) 0 ≤ 1 := by
    simpa only [dirActive, sealDir, beAt_memPut_outside _ 0xFFC (0 + 8) 1 hm (Or.inl (by omega))] using hact
  have h3 : dirCount (sealDir m) 0 ≤ 253 := by
    simpa only [dirCount, sealDir, beAt_memPut_outside _ 0xFFC (0 + 0xA) 2 hm (Or.inl (by omega))] using hcnt
  have h4 : beAt (sealDir m) (0 + 0xFFC) 4 = (crc32c (memTake 0xFF (sealDir m) 0 0xFFC)).toNat := by
    have ht : memTake 0xFF (sealDir m) 0 0xFFC = memTake 0xFF m 0 0xFFC := memTake_memPut_outside 0xFF _ 0xFFC 0 0xFFC hm (by omega)
    have hb : memTake 0xFF (sealDir m) 0xFFC 4 = beBytes (crc32c (memTake 0xFF m 0 0xFFC)) :=
      memTake_memPut 0xFF (beBytes (crc32c (memTake 0xFF m 0 0xFFC))) 0xFFC hm
    rw [ht, beAt, Nat.zero_add, hb, beNat_beBytes]
  have h5 : beAt (sealDir m) 0x1000 4 ≠ 0x534B4449 := by
    rw [sealDir, beAt_memPut_outside _ 0xFFC 0x1000 4 hm (Or.inr (by rw [hlen]))]; exact hno
  have v0 : dirValid (sealDir m) 0 = true := by
    simp only [dirValid, dirAll_sealDir hm hcnt, hty, h1, h2, h3, h4, decide_true, Bool.and_true]
  have v1 : dirValid (sealDir m) 0x1000 = false := by
    simp only [dirValid, h5, decide_false, Bool.false_and]
  simp only [dirPick, v0, v1]

/-- Sealing keeps the entries. -/
theorem dirFind_sealDir {m : Memory} (hm : Memory.wf 0xFF m = true) (hc : dirCount m 0 ≤ 253) (type : Nat) :
    dirFind (sealDir m) 0 type = dirFind m 0 type := by
  simp only [dirFind, dirAll_sealDir hm hc]

theorem sealDir_wf {m : Memory} (hm : Memory.wf 0xFF m = true) : Memory.wf 0xFF (sealDir m) = true := memPut_wf 0xFF _ 0xFFC hm

end Sys2Proof.Machine
end

