-- ==== Sys2Proof/WellFormed.lean ====
section
/-!
DEFINITION. What an operand of a command must be for the world outside to be able to send it: bounds of a frame's fields, the length of a digest, a list with one entry for each channel. The meanings are total: they answer for ill-formed commands too.
-/

namespace Sys2Proof

/-- Page and offset of a frame fit their fields of the header word (R336, R337). -/
def frameFields (page off : Nat) : Bool := decide (page < 32 ∧ off < 65536)

/-- A CAN frame that a bus can carry (R362): an 11-bit identifier without IDE, as many data bytes as DLC says (none in a remote frame), no remote FD frame, and BRS and ESI in FD frames only. -/
def frameWf (f : CanFrame) : Bool :=
  decide ((f.ide = true ∨ f.id.toNat < 2 ^ 11) ∧
    f.data.length = (if f.rtr then 0 else Machine.dlcLen f.fdf f.dlc.toNat) ∧
    (f.rtr = true → f.fdf = false) ∧ (f.fdf = false → f.brs = false ∧ f.esi = false))

/-- The operands of a command are ones that its rule allows. -/
def WellFormed (c : Instr) : Bool :=
  match c with
  | .inputEventFrame _ t => decide (t < 2 ^ 64)
  | .tmSectionFault v0 v1 => decide (v0 < 2 ^ 64 ∧ v1 < 2 ^ 64)
  | .refSwitch adv => decide (adv ≤ 8)
  | .refPRevert adv => decide (adv ≤ 8)
  | .imageDelivered _ dig => decide (dig.length = 3)
  | .quote _ page off _ _ => frameFields page off
  | .dieUcodeCheck _ digest => decide (digest.length = 8)
  | .visoLow mV => decide (mV < 4600)
  | .visoCollapse mV => decide (mV < 4200)
  | .wakeCan _ f _ => frameWf f
  | .tsyncInEdge t => decide (t < 2 ^ 64)
  | .wsOwnSyncStamp t => decide (t < 2 ^ 64)
  | .turnOff _ _ iLast _ => decide (iLast < 2 ^ 32)
  | .otTrip _ _ iLast _ => decide (iLast < 2 ^ 32)
  | .dtTrip _ _ iLast _ => decide (iLast < 2 ^ 32)
  | .scTrip _ _ _ iLast _ => decide (iLast < 2 ^ 32)
  | .scFastTrip _ _ _ iLast _ => decide (iLast < 2 ^ 32)
  | .limtimeTrip _ _ iLast _ => decide (iLast < 2 ^ 32)
  | .sensorTrip _ _ iLast _ => decide (iLast < 2 ^ 32)
  | .thermalSample _ _ tj p uA => decide (tj.length = 16 ∧ p.length = 16 ∧ uA.length = 16)
  | .clampEventEnd _ _ e => decide (e < 2 ^ 32)
  | .govAllowance _ diss => decide (diss.length = 4)
  | .inputSample _ mV _ => decide (mV.length = 16)
  | .permitEdge _ _ half => decide (0 < half)
  | .lhTrip _ _ cause => decide (cause = 1 ∨ cause = 4)
  | .loopMiswire _ cond => decide (1 ≤ cond.toNat ∧ cond.toNat ≤ 4)
  | .hartResponse _ _ frame => decide (frame.length ≤ 264)
  | .hartBurst _ _ frame => decide (frame.length ≤ 264)
  | .read _ page off _ _ => frameFields page off
  | .write _ page off _ _ => frameFields page off
  | .readSnap _ page off _ _ _ => frameFields page off
  | .badCmd _ page off _ _ => frameFields page off
  | .frameTimeout _ _ page off _ => frameFields page off
  | .mpxDone err _ => decide (err.toNat ≤ 5)
  | .canFrameRx _ f => frameWf f
  | .sched _ _ _ _ ecc => decide (ecc.length ≤ 4)
  | .emit _ _ _ _ ecc => decide (ecc.length ≤ 20)
  | .surveyConversionDone _ samples _ => decide (samples.length ∈ [1, 2, 4, 8, 16])
  | .claimTake _ _ how => frameFields how.page how.off
  | .claimRelease _ _ how => frameFields how.page how.off
  | .claimHandover _ _ _ how => frameFields how.page how.off
  | .apply _ _ how => frameFields how.page how.off
  | .discard _ _ how => frameFields how.page how.off
  | .maintEnd _ mV _ _ => decide (mV.length = 16)
  | .busError _ errCnt _ => decide (errCnt = 1 ∨ errCnt = 8)
  | .linkFrameRx .. | .idleFrame .. | .linkLost .. | .timeFrame .. | .transformerFail .. | .railRegulationRestored ..
    | .clockMonitorFail .. | .mcoreWatchdogReset .. | .commit .. | .voteClose ..
    | .finalPassDone .. | .reintResetDone .. | .reintCodeDone .. | .reintBulkDone .. | .reintStageTime ..
    | .reintNoconverge .. | .por .. | .porRelease .. | .pinReset .. | .rstctlCold .. | .rstctlWarm .. | .fatalReset ..
    | .resetRelease .. | .bootComplete .. | .rstoutRelease .. | .confirm .. | .confirmWriteDone .. | .quoteComplete ..
    | .jrnctlNow .. | .journalCaptureDone .. | .journalWriteDone .. | .modecmdQuiet .. | .modecmdHold ..
    | .modecmdPrime .. | .modecmdSafe .. | .laneStart .. | .primeTimeout .. | .bpwrOn .. | .bpwrOff .. | .lclkSet ..
    | .loopmodSet .. | .pwrhartSet .. | .vbbLow .. | .vbbRestored .. | .vbbHigh .. | .wakePad ..
    | .wakeAlarm .. | .lanecmdExclude .. | .lanecmdReint .. | .lanecmdSlackReset .. | .add .. | .sub .. | .adc ..
    | .sbc .. | .adds .. | .subs .. | .cmp .. | .and .. | .or .. | .xor .. | .andn .. | .tst .. | .sll .. | .srl ..
    | .sra .. | .ror .. | .mul .. | .mulhs .. | .mulhu .. | .divs .. | .divu .. | .rems .. | .remu .. | .min ..
    | .max .. | .minu .. | .maxu .. | .clz .. | .popc .. | .addi .. | .cmpi .. | .andi .. | .ori .. | .xori .. | .shi ..
    | .lui .. | .csel .. | .ldw .. | .ldh .. | .ldhu .. | .ldb .. | .ldbu .. | .stw .. | .sth .. | .stb ..
    | .crcValSet .. | .crcW .. | .crcB .. | .b .. | .jal .. | .jalr .. | .endcyc .. | .trap .. 
    | .permitSet .. | .permitClr .. | .permitWrite .. | .serve .. | .rds .. | .wrs .. | .xipLineFill .. | .xipFail ..
    | .plStart .. | .plChunk .. | .plFinish .. | .plAbort .. | .plTrial .. | .plEraseDone .. | .plChunkDone ..
    | .plFinishDone .. | .plTrialDone .. | .tsyncLost .. | .tset .. | .tsyncOutPulse .. | .wsSyncDue .. | .wsSyncRx .. | .wsFollowRx ..
    | .wsSyncAbandon .. | .wsLost .. | .manifestEntryDue .. | .pulseEnd .. | .pgEdge .. | .dutyEdge .. | .turnOn ..
    | .blankingEnd .. | .inrushWindowEnd .. | .retryConditionsMet .. | .rleftReload .. | .tollRefill .. | .olOnDetect ..
    | .olOnClear .. | .olOffTest .. | .stbDetect .. | .dieSumOver .. | .sselStep .. | .sinkWindowStart ..
    | .permitStop .. | .pfaultClear .. | .permitWaitEnd .. | .coastEnd .. | .chStuck .. | .limpHome .. | .lhEnRelease ..
    | .lhInChange .. | .loopFold .. | .foldbackReleaseTry .. | .miswireReconnect .. | .miswireRampEnd .. | .vlbLow ..
    | .loopHeadroom .. | .headroomClear .. | .owFieldSet .. | .owFieldClear .. | .owPathSet .. | .owPathClear ..
    | .owTestStart .. | .owTestAbort .. | .owTestDone .. | .trimPoint1 .. | .trimPoint2 .. | .trimCompute ..
    | .trimAbort .. | .trimPointDone .. | .trimTimeout .. | .hartGo .. | .hartCancel .. | .hartRequestTx ..
    | .hartResponseTimeout .. | .hscan .. | .hdirStoreWrite .. | .modulatorOverload .. | .churnOutput .. | .rephase ..
    | .urgentRequest .. | .chainTestStart .. | .chainTestStop .. | .portSelect ..
    | .status .. | .peerPush .. | .ppStall .. | .mpTimeout .. | .mpSuspend .. | .mpxRead .. | .mpxProgram ..
    | .mpxErase .. | .mpxReadid .. | .protocolException .. | .rxqPop .. | .rxqLockLapse .. | .canTxEnd ..
    | .canRecover .. | .canIntegrated .. | .cancmdRecover .. | .cancmdFlush ..
    | .grantExpire .. | .ownLapse .. | .applyCheckDone ..
    | .applyQuietEffect .. | .wdogCheckin .. | .wdhost .. | .wdogExp .. | .wdogClock .. | .ledgerClear ..
    | .ledgerJournalWrite .. | .jready .. | .mntSvTest .. | .mntInTest .. | .mntOlProbe .. | .mntAbort ..
    | .tapInstruction .. | .stbClear .. | .currentLimit .. | .carrierDetect .. | .coreResetComplete ..
    | .permitReadback .. | .refpOkRestored .. | .vddioAbsent .. | .illegal .. | .fetchFault .. => true

end Sys2Proof
end

