-- ==== Sys2Proof/Tests/Slice0.lean ====
section
/-!
SUPPORT. Tests of one step each, on small states: an ill-formed term for each check of WellFormed, values worked out from the spec's tables, and for every statement with hypotheses states that meet them.
-/

namespace Sys2Proof.Tests

open Sys2Proof Sys2Proof.Machine

/-! ## States -/

/-- The outcome's state. -/
def nx (o : Out) : State := match o with | .next t => t | _ => State.reset

/-- Words in the register map. -/
def withRegs (s : State) (l : List (Nat × Nat × Word)) : State := l.foldl (fun t e => putReg t e.1 e.2.1 e.2.2) s

/-- A die that is loaded, with every link up and past its first commit. -/
def dieUp : DieSt :=
  { dieReset with
    ready := true, time := linkUp, down := Vector.replicate 3 linkUp, up := Vector.replicate 3 linkUp
    lock := true, fresh := false, firstCommit := false }

/-- HOLD after a boot, HP0 the owner, every die powered and ready, no cycle. -/
def hold0 : State :=
  { State.reset with
    time := 10000000, mono := 10000000
    boot := { bootReset with inReset := false, phase := 9, rstoutLow := false, mpRstLow := false, body := 0x1000 }
    md := { modeReset with mode := .hold, lastCause := 1 }
    pwr := { pwrReset with bpwr := 31, lclk := 7 }
    own := { ownReset with owner := some 0 }
    die := Vector.replicate 5 dieUp }

/-- RUN: the cycle runs with the period 1 ms, all lanes in the vote. -/
def run0 : State :=
  { withRegs hold0 [(4, 0, 1000), (4, 1, 0x4010)] with
    md := { modeReset with mode := .run, lastCause := 7 }
    cyc := { cycReset with running := true, everRan := true, acting := true, n := 5, t0 := 10000000, nextT0 := 11000000, period := 1000, member := 7 }
    lane := Vector.replicate 3 { laneReset with state := 0, run := .done, delivered := true, imgValid := true } }

/-- Lane A computes at address 0 with the word `w` there; X1 is `a`, X2 is `b`. -/
def at0 (w a b : Word) : State :=
  laneAt run0 0 { run0.lane[(0 : Lane)] with run := .computing, mem := memPut 0 [] 0 (leBytes w), x := ((laneReset.x.set 1 a).set 2 b) }

/-- The same with the bytes `bs` at the lane address `p`. -/
def atMem (w a b : Word) (p : Nat) (bs : List Byte) : State :=
  laneAt run0 0 { (at0 w a b).lane[(0 : Lane)] with mem := memPut 0 (at0 w a b).lane[(0 : Lane)].mem p bs }

/-- A block for SCHED: 16 bytes. -/
def block16 : List Byte := (List.range 16).map fun i => BitVec.ofNat 8 (0xA0 + i)

/-- A block for EMIT: an 11-bit identifier, one data byte 0x5A. -/
def block80 : List Byte := leBytes 0x123 ++ leBytes 1 ++ leBytes 0 ++ leBytes 0 ++ leBytes 0x5A ++ List.replicate 60 0

/-- A configuration that passes every rule of an APPLY (Table 14.3), with the limits of the home chapters at their edges. -/
def goodRegs : List (Nat × Nat × Word) :=
  [(0, 0x22, 0x100), (1, 8, 10), (4, 0, 1000), (4, 1, 0x4010), (4, 2, 0x100), (8, 8, 1000), (13, 0, 5), (18, 4, 4)] ++
  ([8, 9, 10, 11].flatMap fun p => [(p, 2, 200), (p, 0x30, 50)] ++ ((List.range 4).map fun j => (p, 0x10 + j, 100))) ++
  ((List.range 16).flatMap fun k => [(12, 0x42 + 0x10 * k, 0x20001), (12, 0x43 + 0x10 * k, 0x40003), (12, 0x44 + 0x10 * k, 0x40000000)]) ++
  ((List.range 5).map fun d => (14, d, 2)) ++ ((List.range 16).map fun k => (14, 0x40 + 4 * k, 128)) ++
  [(15, 1, 0x207181), (15, 2, 0x215C1), (16, 1, 0x207181), (16, 2, 0x215C1)]

/-- A directory entry as bytes (Table 3.4). -/
def entBytes (t b l : Nat) : List Byte := natBe 1 t ++ [0, 0, 0] ++ natBe 4 b ++ natBe 4 l ++ natBe 4 0

/-- A directory copy with both journal slots, a ledger journal and a HART directory. -/
def dirBytes : List Byte :=
  natBe 4 0x534B4449 ++ natBe 4 1 ++ [0, 0] ++ natBe 2 4 ++ List.replicate 20 0 ++ entBytes 0x30 0x10000 0x1000 ++
    entBytes 0x31 0x20000 0x1000 ++ entBytes 0x40 0x30000 0x2000 ++ entBytes 0x50 0x40000 0x9000

/-- A store that holds that copy at address 0, with its CRC. -/
def store1 : Memory := memPut 0xFF (memPut 0xFF [] 0 dirBytes) 0xFFC (natBe 4 3794722271)

/-- The configuration is in force at every die. -/
def inForce (s : State) : State := { s with die := s.die.map fun d => { d with settings := s.regs } }

/-- A list of registers at die F1 for its channel 3: an output with ILIM 8, OLT, RMODE retries, CAP and REFILL. -/
def chanRegs : List (Nat × Nat × Word) :=
  [(9, 0x70, 1), (9, 0x71, 0x810), (9, 0x72, 0x2013207), (8, 8, 16000), (9, 0x73, 0xFA0100), (9, 2, 1000), (9, 0x12, 100), (9, 0x16, 50)]

/-- RUN with die F1's channel 3 an output in the state `f` gives it, the die past its first acting commit, and more registers `l`. -/
def chan3 (l : List (Nat × Nat × Word)) (f : ChanSt → ChanSt) : State :=
  let s := inForce (withRegs run0 (chanRegs ++ l))
  { s with field := s.field.set 1 { fieldReset with noact := false, ch := fieldReset.ch.set 3 (f { chanReset with causes := 0, clrRef := some false }) } }

/-- RUN with LD past its first commit and loop 2 (two-wire, supply on) as `f` gives it, with more registers `l`. -/
def loop2 (l : List (Nat × Nat × Word)) (f : LoopSt → LoopSt) : State :=
  let s := inForce (withRegs run0 ([(12, 0x60, 1), (12, 0x61, 0x50), (12, 0x64, 0x40000000), (13, 0, 0x25), (14, 0x48, 128), (14, 4, 2)] ++ l))
  { s with
    pwr := { s.pwr with loopmod := 0xFFFF, loopmodEff := 0xFFFF, modem := 0xFFFF, modemEff := 0xFFFF }
    loop := s.loop.set 2 (f { loopReset0 with supon := true, connected := true }) }


/-- The carry flag of lane A is `c`. -/
def setc (s : State) (c : Bool) : State :=
  laneAt s 0 { s.lane[(0:Lane)] with flC := c }

/-- Four data bytes at the start of DATA, X1 there. -/
def loadSt (w : Word) :=
  atMem w 0x20000000 0x92345678 0x20000000 [0x81,0x92,0xA3,0xF4]

/-- X1 holds an address of the CRC unit. -/
def crcSt (a w : Word) :=
  at0 w a 0x92345678

/-- X1 is `a`. -/
def trapSt (w a : Word) :=
  at0 w a 7

/-- PC stands past the code image. -/
def pastBody  :=
  let s := trapSt 0 0; laneAt s 0 { s.lane[(0 : Lane)] with pc := 0x1000 }

/-- A line fill has waited since the start of time. -/
def fillLate  :=
  let s := trapSt 0 0; laneAt s 0 { s.lane[(0 : Lane)] with lineReq := some 0x40, lineAt := 0, lineData := 0x10000004 }

/-- A block at the start of DATA, die number `b`, `cnt` entries placed. -/
def schedSt (b : Word) (cnt : Byte) :=
  let s := atMem (wordR 0x2A 3 1 2 0 0) 0x20000000 b 0x20000000 block16
  laneAt s 0 { s.lane[(0 : Lane)] with mem := memSet 0 s.lane[(0 : Lane)].mem (0x32001000 + b.toNat) cnt, flV := true }

/-- A block at the start of DATA, controller `b`, `cnt` requests placed; lane B copies in BULK. -/
def emitSt (b : Word) (bl : List Byte) (cnt : Nat) :=
  let s := atMem (wordR 0x2B 3 1 2 0 0) 0x20000000 b 0x20000000 bl
  let s := laneAt s 0 { s.lane[(0 : Lane)] with mem := memPut 0 s.lane[(0 : Lane)].mem (0x31000FF8 + 2 * b.toNat) (natLe 2 cnt), flV := true }
  { s with lane := s.lane.set 1 { s.lane[1] with state := 4 } }

/-- A permit word with bits set. -/
def permitSt (f : BitVec 6) :=
  atMem (wordR 0x2C 0 1 2 0 f) 0x10 0x80000001 0x31000400 [0xFF,0,0,0,0,0,0,0x01]

/-- ENDCYC in a journal cycle. -/
def endSt  :=
  let s := at0 (0x28#6 ++ 0#26) 0 0
  { s with jrn := { s.jrn with active := true, cycle := 5 }, boot := { s.boot with retainLen := 8 } }

/-- ENDCYC at vote close. -/
def endLate  :=
  { endSt with time := 11000000 }

/-- The 32 bytes of a window line. -/
def xipBytes : List Byte :=
  (List.range 32).map fun i => BitVec.ofNat 8 i

/-- A line in the store, its check word right or wrong, wanted by lane A, whose buffer is full. -/
def fillSt (bad : Bool) :=
  let s := at0 0 0 0
  let bs := xipBytes ++ beBytes (crc32c (xipBytes ++ natBe 4 (if bad then 1 else 0)))
  let s := { s with store := memPut 0xFF [] 0x3000 bs }
  laneAt s 0 { s.lane[(0 : Lane)] with xipBase := 0x3000, xipSpan := 72, lineReq := some 0x3000, lineData := 0x10000000, pf := (List.range 64).map fun i => (0x8000+36*i, []) }

/-- RUN, with die F2 reporting lane A. -/
def runMinor : State :=
  { run0 with die := run0.die.set 2 { run0.die[2] with repMinority := 1, evSeq := 9 } }

/-- The link is down with `g` good frames since. -/
def linkDown (s : State) (g : Nat) (k : Link) : State :=
  match k with
  | .down l d => { s with die := s.die.set d { s.die[d] with down := s.die[d].down.set l { up := false, good := g } } }
  | .up l d => { s with die := s.die.set d { s.die[d] with up := s.die[d].up.set l { up := false, good := g } } }
  | .time d => { s with die := s.die.set d { s.die[d] with time := { up := false, good := g } } }

/-- TSYNC_OUT at the commit, which is now. -/
def pulseSt  :=
  withRegs { run0 with time := 11000000, cyc := { run0.cyc with t0 := 11000000 } } [(3, 8, 0x5), (3, 0x0D, 0xFFFF0003)]

/-- On REF_S, with REF_P back. -/
def onRefS  :=
  { pulseSt with tm := { pulseSt.tm with ref := true, refpOk := true }, mono := 1000000000 }

/-- TSYNC_IN expected every second, at phase 500 ns. -/
def tsinSt  :=
  withRegs run0 [(3, 8, 1), (3, 0xB, 1000), (3, 0xC, 500)]

/-- A waystation source of domain 7. -/
def wsSource  :=
  withRegs run0 [(3, 0x10, 0x00100072), (3, 8, 0)]

/-- A waystation receiver of domain 7. -/
def wsReceiver  :=
  withRegs run0 [(3, 0x10, 0x00100071), (3, 8, 0)]

/-- PRIME in its fifth and last cycle, with no good vote yet. -/
def primeEnd : State :=
  let s := withRegs run0 [(0, 0x22, 0x00050500)]
  { s with md := { s.md with mode := .prime, primeLasted := 4 } }

/-- All lanes wait for an image with three bytes. -/
def imageSt (run : LaneRun) : State :=
  { run0 with lane := Vector.replicate 3 { run0.lane[(0 : Lane)] with run := run, delivered := false, frozen := 31, mem := memPut 0 [] 0x31000000 [1,2,3,4], pendCause := 0 }, cyc := { run0.cyc with image := memPut 0 [] 0 [9,9,9] } }

/-- All lanes in run state `r` and lane state `st`. -/
def closeSt (r : LaneRun) (st : Nat) : State :=
  { run0 with lane := Vector.replicate 3 { run0.lane[(0 : Lane)] with run := r, state := st, mem := memPut 0 [] 0x31000400 [1,2,3,4,5,6,7,8] } }

/-- Lane C in stage `st`, lanes A and B agreeing or not. -/
def reintSt (st : Nat) (bad : Bool) : State :=
  { run0 with cyc := { run0.cyc with member := 3 }, lane := (run0.lane.set 2 { run0.lane[2] with state := st, triesLeft := 0, dirty := [0x200000, 0x310004] , mem := memPut 0 [] 4 [7,7] }).set 0 { run0.lane[0] with mem := memPut 0 (memPut 0 [] 0 [1,2,3]) 0x20000000 (if bad then [1] else [2]), xipBase := 4 } |>.set 1 { run0.lane[1] with mem := memPut 0 (memPut 0 [] 0 (if bad then [1,2,4] else [1,2,3])) 0x20000000 [2] } }

/-- A final pass for lane C. -/
def finalSt : State :=
  { reintSt 5 false with cyc := { (reintSt 5 false).cyc with finalPass := some 2 } }

/-- CATCHUP, ten seconds on. -/
def convSt : State :=
  { reintSt 5 false with mono := 10000000000 }

/-- CODE, ten seconds on. -/
def stageLate : State :=
  { reintSt 3 false with mono := 10000000000 }

/-- HOLD after a wake. -/
def startSt : State :=
  { hold0 with md := { hold0.md with row4 := some true }, lane := Vector.replicate 3 { laneReset with mem := memPut 0 [] 0x20000000 [3], pf := [(0,[])] } }

/-- A pin reset. -/
def pinSt  :=
  { hold0 with boot := { hold0.boot with inReset := true, sources := 2 } }

/-- The last boot phase. -/
def bootEnd  :=
  { hold0 with boot := { hold0.boot with phase := 8 }, md := { hold0.md with mode := .boot } }

/-- QUIET. -/
def quiet0 : State :=
  { hold0 with md := { hold0.md with mode := .quiet } }

/-- Die F1 switched off. -/
def offF1 : State :=
  { hold0 with pwr := { hold0.pwr with bpwr := 0x1D } }

/-- LD loads its microcode. -/
def loadingLd : State :=
  { hold0 with die := hold0.die.set 4 { dieReset with loading := true } }

/-- QUIET with every wake source enabled and filter pair 0 of CAN_A set. -/
def wakeSt : State :=
  withRegs { quiet0 with pwr := { quiet0.pwr with alarmArmed := true } } [(0, 0x26, 0xF), (0,0x28, 40000000), (15,0,1), (15, 0x100, 0x123), (15,0x101,0x7FF), (15, 0x102, 0x81)]

/-- A classical frame with identifier 0x123. -/
def canFrame : CanFrame :=
  { ide := false, fdf := false, brs := false, esi := false, rtr := false, id := 0x123, dlc := 1, data := [0x5A] }

/-- A peer push and a store operation run. -/
def storeOpSt (ow : Nat) (er : Bool) : State :=
  withRegs { hold0 with peer := { peerReset with busy := some [1] }, mp := { mpReset with op := mpReset.op.set 0 (some { owner := ow, kind := if er then .erase else .program, suspended := false }) } } [(17, 0x10, 0x30)]

/-- The raw operation `o` (0 none) at `a`. -/
def rawSt (o : Nat) (a : Nat) : State :=
  { withRegs hold0 [(21, 0x10, BitVec.ofNat 32 a)] with mp := { mpReset with xstate := if o = 0 then 0 else 1, xop := o, xaddr := a } }

/-- A load in state `st`, `pos` bytes in. -/
def plSt (st : Nat) (base len : Word) (pos : Nat) (ld := true) : State :=
  { withRegs hold0 [(5, 0x11, base), (5,0x12,len),(5,0x13,0xCAFE)] with pl := { plReset with state := st, base := 0x100000, len := 0x2000, pos := pos, loading := ld, chunk := [1,2,3,255], type := 0x20 }, store := memPut 0xFF [] 0x100100 [1,2,3] }

/-- A load at FINISH whose region agrees with its CRC. -/
def plEnd  :=
  let s := plSt 4 0x100000 0x2000 0x2000
  { s with pl := { s.pl with type := 0x40, len := 4, crc := crc32c (storeBytes s 0x100000 4) } }

/-- No owner. -/
def noOwner : State :=
  { hold0 with own := { ownReset with owner := none, lapsed := true } }

/-- RUN with an APPLY in state `st` and a grant. -/
def applySt (st : Nat) : State :=
  { run0 with app := { applyReset with state := st, copy := srPart run0.regs }, own := { run0.own with grant := some 2, grantAt := 10000000 } }

/-- The copy has a period of 0. -/
def applyBad : State :=
  let s := applySt 1
  { s with app := { s.app with copy := rmSet s.app.copy (regKey 4 0) 0 } }

/-- The first rule that fails. -/
def firstBad (s : State) : ApplyRule :=
  (applyCheck s.regs (takeSr s.regs s.app.copy) s.md.mode (lhEnOf s)).getD { page := 0, off := 0, reason := 0, bad := false }

/-- QUIET with a pending APPLY. -/
def quietApply : State :=
  { hold0 with md := { hold0.md with mode := .quiet }, app := { applyReset with state := 2, copy := [(regKey 4 0, 2000)] } }

/-- A check of a whole valid configuration. -/
def applyGood : State :=
  let s := withRegs run0 goodRegs
  { s with app := { applyReset with state := 1, copy := srPart s.regs } }

/-- A nonce. -/
def nonce8 : List Word :=
  [1,2,3,4,5,6,7,8]

/-- HOLD with the directory of store1, changed by `f`. -/
def storeSt (f : State → State) : State :=
  f { withRegs hold0 [] with store := store1 }

/-- The entry of journal slot 0. -/
def slot0 : DirEntry :=
  { type := 0x30, base := 0x10000, len := 0x1000, crc := 0 }

/-- A ledger record. -/
def ledRec : LedRec :=
  { type := 1, supp := 0, seq := 7, time := 9, cycle := 0, code := 5, src := 3, arg := 1 }

/-- Watchdogs armed, a record pending. -/
def ledgerSt (f : State → State) : State :=
  f { withRegs hold0 [(18,4*0,0xBEEF0005), (18,4*0+1,1000),(18,2,3), (18,4,0xBEEF000D), (18,5,1000),(18,6,3)] with store := store1, wd := Vector.replicate 4 { wdReset with state := 1, start := 10000000 }, led := { ledReset with bits := Vector.replicate 4 5, jen := true, pend := [ledRec] } }

/-- A check-in `w` on its way, SEEN as given. -/
def serveSt (w : Word) (seen : BitVec 16) (f : State → State) : State :=
  f <| ledgerSt fun s => laneAt { s with wd := s.wd.map fun w => { w with seen := seen } } 0 { s.lane[(0 : Lane)] with serve := [w, 3], state := 0 }

/-- RUN, every watchdog armed, action 0. -/
def expireSt (f : State → State) : State :=
  f <| { run0 with wd := Vector.replicate 4 { wdReset with state := 1, start := 10000000 } }

/-- RUN with a REINTCFG. -/
def mntSt : State :=
  withRegs run0 [(4,2,0x104)]

/-- An activity. -/
def actOf (k : Nat) (i : Nat) (m : BitVec 16) : ActSt :=
  { kind := k, port := 0, index := i, mask := m, lo := 0, hi := 0, dir := false }

/-- Lane B is OUT. -/
def laneOut : State :=
  { mntSt with cyc := { mntSt.cyc with member := 5 }, lane := mntSt.lane.set 1 { mntSt.lane[1] with state := 1 } }

/-- HOLD with a test in slot 31. -/
def testSt (k i : Nat) : State :=
  { (inForce <| withRegs hold0 [(10, 0x40, 2), (10, 0x60, 2)]) with mnt := { mntReset with slot := mntReset.slot.set 31 (some (actOf k i 5)) } }

/-- A frame with identifier 0x123. -/
def rxFrame (fd rtr : Bool) : CanFrame :=
  { ide := false, fdf := fd, brs := false, esi := false, rtr := rtr, id := 0x123, dlc := 1, data := if rtr then [] else [0x5A] }

/-- Both controllers in state `st`, changed by `f`. -/
def canSt (st : Nat) (l : List (Nat × Nat × Word)) (f : CanSt → CanSt) : State :=
  let s := withRegs run0 ([(15,0,5)] ++ l)
  { s with can := Vector.replicate 2 (f { canReset with state := st }) }

/-- A received frame. -/
def rxRec1 : RxRec :=
  { idw := 1, info := 2, stamp := 3, data := [4] }

/-- A frame to send. -/
def txFrame1 : TxFrame :=
  { ide := false, fdf := false, brs := false, id := 5, data := [1], age := 0 }

/-- A manifest entry. -/
def entryOf (a : Nat) (mask : BitVec 16) : Entry :=
  { time := 20000000, mask := mask, action := a, flags := 0, arg := 6 }

/-- Die F1 changed by `f`. -/
def f1Pend (f : FieldSt → FieldSt) : State :=
  let s := chan3 [] id
  { s with field := s.field.set 1 (f s.field[1]) }

/-- A held request. -/
def heldReq (c : Nat) (req : List Byte) : HubEntry :=
  { e := entryOf 7 0, ctrl := c, pos := 0, req := req }

/-- Channel 3 follows generator 2. -/
def pgSt : State :=
  chan3 [] (fun c => { c with vrec := { cmdReset with act := 3, pgsel := 2 } })

/-- Channel 3 follows the duty carrier. -/
def dutySt : State :=
  chan3 [] (fun c => { c with vrec := { cmdReset with act := 2, duty := 5000 } })

/-- Every permit of die F1 is present, and its allowance is there. -/
def permitted (s : State) : State :=
  let x := s.field[(1:FDie)]
  { s with permits := BitVec.allOnes 64, field := s.field.set 1 { x with ch := x.ch.map fun c => { c with perm := { c.perm with present := true } }, allow := Vector.replicate 3 (4000, some 10000000) } }

/-- Channel 3 waits to turn on. -/
def waitSt : State :=
  permitted (chan3 [] fun c => { c with st := .wait, vrec := { cmdReset with act := 1 }, level := 256000 })

/-- Channel 3 conducts. -/
def onSt (f : ChanSt → ChanSt) : State :=
  permitted (chan3 [(9,0x71, 0x0510)] fun c => f { c with st := .on, rleft := 2, vrec := { cmdReset with act := 1 } })

/-- It has been in limit for 1 ms. -/
def limitSt  :=
  onSt (fun c => { c with limit := true, limitAt := 9000000 })

/-- Channel 3 is an input. -/
def inputSt (l : List (Nat × Nat × Word)) (f : ChanSt → ChanSt) : State :=
  let s := chan3 ([(9,0x70,2),(9,0x7C,0x000A0301),(9,0x30,50)] ++ l) f
  { s with die := s.die.set 1 { s.die[1] with fresh := false } }

/-- Every terminal at `v` mV. -/
def allMv (v : Nat) : List Nat :=
  (List.range 16).map fun _ => v

/-- Every permit has a fault. -/
def faultPerm (s : State) : State :=
  let x := s.field[(1:FDie)]
  { s with field := s.field.set 1 { x with ch := x.ch.map fun c => { c with perm := { c.perm with fault := true, badAt := [9000000], good := 2, bad := 1 } } } }

/-- Channel 3 is mapped to LH_IN 2. -/
def limpSt (en : Bool) (inv : Bool) (shut : Bool) : State :=
  let s := permitted (chan3 [] fun c => { c with map := { en := true, src := 2, inv := inv }, lhShut := shut })
  { s with field := s.field.set 1 { s.field[1] with lhEn := en, lhIn := 4 } }

/-- An open-wire test of loop 2 at step `st`, the sums of its three windows over two readings each. -/
def owSt (st : Nat) (r1 r2 : Int) : State :=
  loop2 [] fun x => { x with ow := { x.ow with state := 1, step := st, r0 := (0, 2), r1 := (r1, 2), r2 := (r2, 2) } }

/-- A trim with its claim. -/
def trimSt (f : TrimSt → TrimSt) : State :=
  let s := loop2 [] fun x => { x with trim := f x.trim }
  { s with mnt := { s.mnt with slot := s.mnt.slot.set 3 (some (trimAct 0 2)) } }

/-- Both points taken. -/
def trimPoints  :=
  fun x : TrimSt => { x with state := 3, i1 := 4000000, i2 := 20000000, raw1 := 4000100, raw2 := 20000500 }

/-- A short response to command 0, without its check byte. -/
def hartBody : List Byte :=
  [0x06, 0x80, 0, 4, 0x40, 0x50, 1, 2]

/-- A response to command 0 with response code 0x40. -/
def hartFrame : List Byte :=
  hartBody ++ [hartBody.foldl (· ^^^ ·) 0]

/-- A burst frame. -/
def burstFrame : List Byte :=
  let b : List Byte := [0x01, 0x80, 1, 4, 0x40, 0x50, 1, 2]; b ++ [b.foldl (· ^^^ ·) 0]

/-- The entry of the HART directory. -/
def hdirEntry : DirEntry :=
  { type := 0x50, base := 0x40000, len := 0x9000, crc := 0 }

/-- Loop 2 with its modem changed by `f`. -/
def hartSt (f : HartSt → HartSt) : State :=
  let s := loop2 [] fun x => { x with hart := f x.hart }
  { s with store := store1, ld := { s.ld with hdirDirty := true } }

/-- Loop 2 with its chain changed by `f`. -/
def churnSt (f : ChurnSt → ChurnSt) : State :=
  loop2 [(12,0x60,2)] fun x => { x with churn := f { churnReset with running := true, n := 128, edge := 100001, set := 0 } }

/-- HOLD with the survey converters changed by `f`. -/
def surveySt (f : SurveySt → SurveySt) : State :=
  let s := churnSt id
  { s with survey := s.survey.map f, md := { s.md with mode := .hold } }

/-- A chain test on loop 2. -/
def chainTest : State :=
  let s := surveySt id
  { s with loop := s.loop.set 2 { s.loop[2] with churn := { s.loop[2].churn with test := some 2 } }, ld := { s.ld with cvState := 1, cvLoop := 2 }, mnt := { s.mnt with slot := s.mnt.slot.set 3 (some { kind := 8, port := 0, index := 2, mask := 0, lo := 0, hi := 0, dir := false }) } }

/-- The first directory copy of `store1`, without its CRC. -/
def dir1 : Memory := memPut 0xFF [] 0 dirBytes

theorem dir1_wf : Memory.wf 0xFF dir1 = true := by decide +kernel

/-- HOLD with that copy sealed in the store. -/
def sealedSt : State := { hold0 with store := sealDir dir1 }

theorem sealed_wf : Memory.wf 0xFF sealedSt.store = true := sealDir_wf dir1_wf

theorem sealed_pick : dirPick (sealDir dir1) = some 0 :=
  dirPick_sealDir dir1_wf (by decide +kernel) (by decide +kernel) (by decide +kernel) (by decide +kernel) (by decide +kernel)

theorem sealed_entry (s : State) (h : s.store = sealDir dir1) (type : Nat) : dirEntryOf s type = dirFind dir1 0 type := by
  simp only [dirEntryOf, h, sealed_pick, Option.bind_some]
  exact dirFind_sealDir dir1_wf (by decide +kernel) type

/-- Neither slot holds a record, so slot 0 is the free one. -/
theorem sealed_slot (s : State) (h : s.store = sealDir dir1) : slotRegion s (freeSlot s) 2 = some slot0 := by
  have h0 : dirEntryOf s 0x30 = some slot0 := (sealed_entry s h 0x30).trans (by decide +kernel)
  have h1 : dirEntryOf s 0x31 = some { type := 0x31, base := 0x20000, len := 0x1000, crc := 0 } :=
    (sealed_entry s h 0x31).trans (by decide +kernel)
  have b0 : beAt s.store 0x10000 4 ≠ 0x524A4E4C := by
    rw [h, sealDir, beAt_memPut_outside _ 0xFFC 0x10000 4 dir1_wf (Or.inr (by decide))]; decide +kernel
  have b1 : beAt s.store 0x20000 4 ≠ 0x524A4E4C := by
    rw [h, sealDir, beAt_memPut_outside _ 0xFFC 0x20000 4 dir1_wf (Or.inr (by decide))]; decide +kernel
  have hf : freeSlot s = false := by
    simp [freeSlot, retainNewest, retainSlot, h0, h1, slot0, b0, b1]
  rw [hf, slotRegion]
  simp only [Bool.false_eq_true, if_false, h0]
  decide +kernel

theorem sealed_journal (s : State) (h : s.store = sealDir dir1) (hu : eraseUnit s 0 = 4096) : journalRegion s = some (0x30000, 0x2000) := by
  have h0 : dirEntryOf s 0x40 = some { type := 0x40, base := 0x30000, len := 0x2000, crc := 0 } :=
    (sealed_entry s h 0x40).trans (by decide +kernel)
  have hs : selOf 0x30000 = 0 := by decide
  simp [journalRegion, h0, hs, hu]

/-- A line of the window that lane A wants with nothing else waiting at the port, or that the port fetches on its own (`st`). -/
def streamSt (bad : Bool) : State :=
  let s := fillSt bad
  { s with lane := s.lane.map fun x => { x with lineReq := none }, mp := { s.mp with stream := some (0x3000, 0) } }

/-- A source of time that is as `f` gives it. -/
def wsGiven (s : State) (l : List WsFrame) (y : Option WsSync) (q : Option (Byte × Nat)) : State :=
  { s with time := 16000000, mono := 16000000, ws := { s.ws with given := l, sync := y, lastSeq := q } }

/-- A retain record of generation 1 with no data, without its CRC. -/
def retain0 : List Byte := natBe 4 0x524A4E4C ++ natBe 4 1 ++ natBe 8 5 ++ List.replicate 48 0

/-- The first directory copy of `store1`, without its CRC, and that record in journal slot 0. -/
def warmDir : Memory := memPut 0xFF dir1 0x10000 (retain0 ++ beBytes (crc32c retain0))

theorem warm_wf : Memory.wf 0xFF warmDir = true := memPut_wf 0xFF _ _ dir1_wf

theorem warm_newest (s : State) (h : s.store = sealDir warmDir) :
    retainNewest s = some { slot := false, gen := 1, cycle := 5, layout := 0, len := 0, data := [] } := by
  have hp : dirPick (sealDir warmDir) = some 0 :=
    dirPick_sealDir warm_wf (by decide +kernel) (by decide +kernel) (by decide +kernel) (by decide +kernel) (by decide +kernel)
  have he (type : Nat) : dirEntryOf s type = dirFind warmDir 0 type := by
    simp only [dirEntryOf, h, hp, Option.bind_some]
    exact dirFind_sealDir warm_wf (by decide +kernel) type
  have h0 : dirEntryOf s 0x30 = some slot0 := (he 0x30).trans (by decide +kernel)
  have h1 : dirEntryOf s 0x31 = some { type := 0x31, base := 0x20000, len := 0x1000, crc := 0 } := (he 0x31).trans (by decide +kernel)
  have hb (a n : Nat) (ha : 0x1000 ≤ a) : memTake 0xFF s.store a n = memTake 0xFF warmDir a n := by
    rw [h]; exact memTake_memPut_outside 0xFF _ 0xFFC a n warm_wf (Or.inr ha)
  have b0 : retainSlot s false = some { slot := false, gen := 1, cycle := 5, layout := 0, len := 0, data := [] } := by
    simp only [retainSlot, Bool.false_eq_true, if_false, h0, slot0, beAt, storeBytes, hb 0x10000 4 (by decide), hb (0x10000 + 0x1C) 4 (by decide)]
    rw [show beNat (memTake 0xFF warmDir (0x10000 + 0x1C) 4) = 0 by decide +kernel]
    simp only [hb 0x10000 _ (by decide), hb (0x10000 + 0x40 + 0) 4 (by decide), hb (0x10000 + 4) 4 (by decide), hb (0x10000 + 8) 8 (by decide),
      hb (0x10000 + 0x18) 4 (by decide), hb (0x10000 + 0x40) 0 (by decide)]
    rw [if_pos (by decide +kernel)]
    rw [show beNat (memTake 0xFF warmDir (0x10000 + 4) 4) = 1 by decide +kernel, show beNat (memTake 0xFF warmDir (0x10000 + 8) 8) = 5 by decide +kernel,
      show beNat (memTake 0xFF warmDir (0x10000 + 0x18) 4) = 0 by decide +kernel]
    rfl
  have b1 : retainSlot s true = none := by
    simp only [retainSlot, if_true, h1, beAt, hb 0x20000 4 (by decide)]
    rw [if_neg (fun h => absurd h.1 (by decide +kernel))]
  simp only [retainNewest, b0, b1]

/-- The lanes ready to start, with `warmDir` in the store. -/
def warmSt (d : Memory) : State :=
  { startSt with store := sealDir d, md := { startSt.md with row4 := none, cmd := some (.prime true) } }

theorem warmSt_store (d : Memory) : (warmSt d).store = sealDir d := rfl

/-- BULK with DATA that differs outside the written blocks. -/
def bulkDiff : State :=
  let s := reintSt 4 false
  { s with lane := s.lane.set 1 { s.lane[1] with mem := memPut 0 s.lane[1].mem 0x20000400 [9] } }

/-- All lanes wait for an image that has not come. -/
def lateImage : State :=
  let s := closeSt .waiting 0
  { s with lane := s.lane.map fun x => { x with delivered := false } }

/-- The operation of the owner `ow` runs on select 0. -/
def busySt (ow : Nat) (k : MpKind) (s : State) : State :=
  { s with mp := { s.mp with op := mpReset.op.set 0 (some { owner := ow, kind := k, suspended := false }) } }

/-- A NOR erase on select 0, suspended or not, and a line that lane A wants from there. -/
def norSt (susp : Bool) : State :=
  let s := withRegs (storeOpSt 5 true) [(21, 2, 1)]
  { s with
    mp := { s.mp with op := mpReset.op.set 0 (some { owner := 5, kind := .erase, suspended := susp }) }
    lane := s.lane.set 0 { s.lane[0] with lineReq := some 0x3000 } }

/-- The CLAIM frame (`off` 0) or APPLY frame (`off` 1) as Table 12.3 gives it. -/
def howAt (off : Nat) : HowSent := { page := 1, off := off, damage := 0, words := 2, part := false }

/-- A test of a die that has taken `n` of its `m` readings. -/
def testNow (k i n m : Nat) : State :=
  { testSt k i with mnt := { mntReset with slot := mntReset.slot.set 31 (some { actOf k i 5 with count := n, total := m }) } }

/-- A frame of the waystation. -/
def wsFrame (id : BitVec 29) (l : List Byte) : CanFrame :=
  { ide := false, fdf := false, brs := false, esi := false, rtr := false, id := id, dlc := BitVec.ofNat 4 l.length, data := l }

/-- A waystation receiver whose controllers are on the bus. -/
def wsOnBus : State :=
  { withRegs run0 [(15, 0, 1), (3, 0x10, 0x00100071), (3, 8, 0), (3, 0x11, 0x100)] with can := Vector.replicate 2 { canReset with state := 2 } }

/-- Channel 3 conducts under limp-home at 175 °C; channel 4 is an output outside it. -/
def limpBoth : State :=
  let s := permitted (chan3 [(9, 0x80, 1)] fun c => { c with map := { en := true, src := 2, inv := false }, lhOn := true, tj := 2800 })
  { s with field := s.field.set 1 { s.field[1] with lhEn := true, lhIn := 4, vbb := 24000 } }

/-- Channel 3 conducts, VBB is 24 V. -/
def onVbb (f : ChanSt → ChanSt) : State :=
  let s := onSt f
  { s with field := s.field.set 1 { s.field[1] with vbb := 24000, tsub := 400 } }

/-- Channel 3 is off with the load test, VBB is 24 V. -/
def offVbb (f : ChanSt → ChanSt) : State :=
  let s := permitted (chan3 [(9,0x74,0x106), (9,4,0x80010003)] fun c => f { c with st := .off, vrec := { cmdReset with oltest := true } })
  { s with field := s.field.set 1 { s.field[1] with vbb := 24000 } }

/-- Channel 3 is on with an open-load threshold of 500 uA. -/
def olSt (f : ChanSt → ChanSt) : State := permitted (chan3 [(9,0x74,0x105), (9,4,0x80010003)] fun c => f { c with st := .on })

/-! ## Ill-formed commands -/

/-- A classical CAN frame with an 11-bit identifier and one data byte. -/
def canFrame1 : CanFrame := { ide := false, fdf := false, brs := false, esi := false, rtr := false, id := 0x7FF, dlc := 1, data := [0x5A] }

/-- A CLAIM or APPLY frame as the host means it. -/
def sentRight : HowSent := { page := 20, off := 0x30, damage := 0, words := 2, part := false }

/-- Every check of `WellFormed` refuses a term. -/
theorem smoke_refused :
    ([.inputEventFrame 0 (2 ^ 64), .tmSectionFault 0 (2 ^ 64), .tsyncInEdge (2 ^ 64), .wsOwnSyncStamp (2 ^ 64),
      .refSwitch 9, .refPRevert 9, .imageDelivered 0 [1, 2], .quote 0 32 0 [] false, .quote 0 20 65536 nonce8 false,
      .dieUcodeCheck 0 [1], .visoLow 4600, .visoCollapse 4200, .wakeCan 0 { canFrame1 with id := 0x800 } 5000, .turnOff 0 0 (2 ^ 32) true,
      .otTrip 0 0 (2 ^ 32) true, .dtTrip 0 0 (2 ^ 32) true, .scTrip 0 0 0 (2 ^ 32) true, .scFastTrip 0 0 0 (2 ^ 32) true,
      .limtimeTrip 0 0 (2 ^ 32) true, .sensorTrip 0 0 (2 ^ 32) true, .thermalSample 0 0 [] (List.replicate 16 0) (List.replicate 16 0),
      .clampEventEnd 0 0 (2 ^ 32), .govAllowance 0 [1, 2, 3], .inputSample 0 [1] 0, .permitEdge 0 0 0, .lhTrip 0 0 2,
      .loopMiswire 0 0, .hartResponse 0 true (List.replicate 265 0), .hartBurst 0 true (List.replicate 265 0),
      .read 0 32 0 1 false, .write 0 0 65536 [] false, .readSnap 0 32 0 1 false true, .badCmd 0 32 0 [] false,
      .frameTimeout 0 0 32 0 [], .mpxDone 6 0, .canFrameRx 0 { canFrame1 with data := [] },
      .canFrameRx 0 { canFrame1 with rtr := true, fdf := true, data := [] }, .canFrameRx 0 { canFrame1 with brs := true },
      .sched 0 0 0 0 (List.replicate 5 .clean), .emit 0 0 0 0 (List.replicate 21 .clean), .surveyConversionDone 0 [1, 2, 3] 0,
      .claimTake 0 0 { sentRight with page := 32 }, .claimRelease 0 0 { sentRight with off := 65536 },
      .claimHandover 0 1 0 { sentRight with page := 32 }, .apply 0 0 { sentRight with page := 32 }, .discard 0 0 { sentRight with page := 32 },
      .maintEnd 0 [] 0 0, .busError 0 2 0] : List Instr).all (fun c => !WellFormed c) = true := by decide +kernel

/-- The same commands are well-formed at the edges of the checks. -/
theorem smoke_taken :
    ([.inputEventFrame 0 (2 ^ 64 - 1), .refSwitch 8, .imageDelivered 0 [1, 2, 3], .quote 0 20 65535 nonce8 false, .visoLow 4599,
      .visoCollapse 4199, .sched 0 0 0 0 (List.replicate 4 .clean), .emit 0 0 0 0 [], .surveyConversionDone 0 [1, 2, 3, 4] 0, .apply 0 0 sentRight,
      .wakeCan 0 canFrame1 5000, .turnOff 0 0 (2 ^ 32 - 1) true, .permitEdge 0 0 1, .lhTrip 0 0 4, .loopMiswire 0 4,
      .hartResponse 0 true (List.replicate 264 0), .read 0 31 65535 1 false, .mpxDone 5 0,
      .canFrameRx 0 { canFrame1 with ide := true, id := 0x1FFFFFFF }, .canFrameRx 0 { canFrame1 with rtr := true, data := [] },
      .maintEnd 0 (List.replicate 16 0) 0 0, .busError 0 8 0] : List Instr).all WellFormed = true := by decide +kernel

/-! ## Values of the spec's worked examples -/

/-- Table 6.14: the words of the heater fragment, from the formats of Table 6.4. -/
theorem test_heater_words :
    [wordU 0x08#6 1#4 0x0C0000#22, wordI 0x10#6 2 1 0x150#18, wordI 0x04#6 2 2 1#18, wordU 0x08#6 3#4 0x0C4000#22, wordI 0x15#6 2 3 0x250#18,
      (0x28#6 ++ 0#26 : Word)] = [0x204C0000#32, 0x40840150#32, 0x10880001#32, 0x20CC4000#32, 0x548C0250#32, 0xA0000000#32] := by decide

/-- Table 6.14: LUI X1, 0x0C_0000 writes 0x3000_0000. -/
theorem test_heater_lui : xget (nx (exec (.lui 0 1 0x0C0000) (at0 0x204C0000#32 0 0))).lane[(0 : Lane)] 1 = 0x30000000#32 := by decide +kernel

/-- Table 6.14: ANDI keeps the IN bit. -/
theorem test_heater_andi : xget (nx (exec (.andi 0 2 2 1) (at0 0x10880001#32 0 0xFFFFFFFF))).lane[(0 : Lane)] 2 = 1#32 := by decide +kernel

/-- The heater's LDW reads CH5's STATUS in the image at 0x0150, least significant byte first. -/
theorem test_heater_ldw :
    xget (nx (exec (.ldw 0 2 1 0x150 .clean) (atMem 0x40840150#32 0x30000000 0 0x30000150 [0x01, 0x02, 0x03, 0x04]))).lane[(0 : Lane)] 2 = 0x04030201#32 := by
  decide +kernel

/-- Worked example of chapter 5: GUARD_RUN 8,068 ns and GUARD_PRIME 25,988 ns with RECMAX 2 and MANMAX 2; of chapter 6: 18,308 ns and 33,668 ns with 4 and 8. -/
theorem test_guards : [guardFor (2 + 2), guardFor (16 + 2), guardFor (4 + 8), guardFor (16 + 8)] = [8068, 25988, 18308, 33668] := by decide

/-- Worked example of chapter 5: CWIN_RUN 84,572 ns at 100 µs. -/
theorem test_cwin : cwinFor (withRegs hold0 [(4, 0, 100)]) (guardFor 4) = 84572 := by decide +kernel

/-- Worked example of chapter 7: FOLLOW's bytes. -/
theorem test_follow_bytes : natBe 8 3600400063480 = [0x00, 0x00, 0x03, 0x46, 0x48, 0x91, 0x1B, 0xF8] := by decide

/-- Worked example of chapter 8, step 1: the limits of LAMP_INC at ILIM 4, in quarters of an ampere. -/
theorem test_lamp_profile :
    [limitL 1 4 0, limitL 1 4 2000000, limitL 1 4 10000000, limitL 1 4 40000000, limitL 1 4 100000000] = [64, 40, 24, 20, 16] := by decide

/-- Worked example of chapter 8, step 2: L3 is on and L2 off at 2,000,000,350 ns after the origin. -/
theorem test_phase :
    pgDemand 2000000350 0 1200000 600000 600000 = true ∧ pgDemand 2000000350 0 1200000 600000 0 = false := by decide

/-- Table 8.12, E2: the order from ROT 7 begins 7, 9, 1, 3 among the odd channels. -/
theorem test_rotation : ((rotOrder 7).filter fun k => k.val % 2 = 1 ∧ k.val < 10).map (fun k => k.val) = [7, 9, 1, 3, 5] := by decide

/-- Worked example of the trim (R296): gain 0x3FF8_81FC, offset 0. -/
theorem test_trim : (match trimResult 4000000 20000000 4001830 20009150 with | .ok e => decide (e = (0x3FF881FC, 0)) | .error _ => false) = true := by
  decide +kernel

/-- With them the readings at both points are the reference currents (R282). -/
theorem test_trimmed :
    let s := inForce (withRegs hold0 [(12, 0x64, 0x3FF881FC)])
    trimmed s 2 4001830 = 4000000 ∧ trimmed s 2 20009150 = 20000000 := by decide +kernel

/-- Worked example of chapter 11, step 5: the re-phase of TIME 5,000,000,050 ns at N = 3,840 stands at edge 20,631,679. -/
theorem test_rephase_edge : rephaseEdge 5000000050 3840 = 20631679 := by decide

/-- Worked example of chapter 11, step 6: a conversion with TS 3 and four samples takes 7.25 µs. -/
theorem test_conversion_time : convTime (inForce (withRegs hold0 [(14, 0, 0x43)])) 0 = 7250 := by decide +kernel

/-- Worked examples of chapters 12 and 14: the header bytes of a READ of page 9 offset 0x0136 and of a WRITE of offset 0x0101. -/
theorem test_headers : header 0 9 0x0136 = [0x09, 0x01, 0x36] ∧ header 1 9 0x0101 = [0x29, 0x01, 0x01] := by decide

/-- Worked example of chapter 14, step 5: the bytes that extend MEAS_3. -/
theorem test_change_bytes :
    changeBytes [(regKey 9 0x101, 4#32), (regKey 9 0x104, 0x322A#32)] =
      [0, 0, 0, 9, 0, 0, 1, 1, 0, 0, 0, 4, 0, 0, 0, 9, 0, 0, 1, 4, 0, 0, 0x32, 0x2A] := by decide

/-- The same example, step 2: OLRNG 2 with OLT 0 is BAD_OL, 0x1C, at page 9 offset 0x0104. -/
theorem test_bad_ol :
    (let s := withRegs run0 (goodRegs ++ [(9, 0x104, 0x2A)])
     (applyCheck s.regs (takeSr s.regs (srPart s.regs)) .run (lhEnOf s)).map fun r => (r.page, r.off, r.reason)) = some (9, 0x104, 0x1C) := by
  decide +kernel

/-- Worked example of chapter 15: the check-in words of tasks 0, 1 and 2, and a wrong one. -/
theorem test_checkin_words :
    let s := withRegs hold0 [(18, 0, 0x5A3C0001), (18, 2, 7)]
    [0x5A3C0000#32, 0x4B2D0001#32, 0x781E0002#32, 0x4B2D0002#32].map (wdWordOk s 0) = [true, true, true, false] := by decide +kernel

/-- The check value of CRC-32C over "123456789" (R337's polynomial, initial value and final exclusive-or; the value is the algorithm's published one). -/
theorem test_crc_check : crc32c [0x31, 0x32, 0x33, 0x34, 0x35, 0x36, 0x37, 0x38, 0x39] = 0xE3069283#32 := by decide +kernel

/-- SHA-256 of "abc", the example of FIPS 180-4 that R80 names. -/
theorem test_sha_abc : (sha256Words [0x61, 0x62, 0x63]).head? = some 0xBA7816BF#32 := by decide +kernel

/-- Twice the base point of P-256. -/
theorem test_curve_double :
    curveBase 2 = (0x7CF27B188D034F7E8A52380304B51AC3C08969E277F21B35A60B48FC47669978, 0x07775510DB8ED040293D9AC69F7430DBBA7DADE63CE982299E04B79D227873D1) := by decide +kernel

/-- The published P-256 example for the message "sample" and SHA-256. -/
theorem test_ecdsa_sample :
    ecdsaSign 0xC9AFA9D845BA75166B5C215767B1D6934E50C3DB36E89B127B8A622B120F6721 0xA6E3C57DD01ABE90086538398355DD4C3B17AA873382B0F24D6129493D8AAD60
      0xAF2BDBE1AA9B6EC1E2ADE1D694F41FC71A831D0268E9891562113D8A62ADD1BF =
    (0xEFD48B2AACB6A8FD1140DD9CD45E81D69D2C877B56AAF991C34D0EA84EAF3716, 0xF7CB1C942D657C41D436C7A1B6E29F65F3E900DBB9AFF4064DC4AB2F843ACDA8) := by decide +kernel

/-- Table 2.8, the reset states of the pads that the device drives. -/
theorem test_pads_reset :
    ([.hpSo 0, .hpRdy 1, .intN 0, .ppSo, .ppRdy, .faultN, .mpSck, .mpCsN 1, .mpRstN, .canTxd 0, .canStb 1, .tsyncOut, .rstoutN] : List CtlPad).map
        (ctlLevel State.reset) =
      [.released, .low, .released, .released, .released, .low, .low, .high, .low, .high, .high, .low, .low] := by decide +kernel

/-- R52: under EXTEST in QUIET a pad carries its cell, and the cells capture what stands at an input. -/
theorem test_extest :
    let t := nx (exec (.tapInstruction .extest [(.rstoutN, .low)] [(.wake, .high)]) quiet0)
    ctlLevel t .rstoutN = .low ∧ padIn t.tap.seen .wake = some .high := by decide +kernel

/-- R56: without VDDIO_SYS the part is in reset, and every permit is withdrawn. -/
theorem test_vddio_sys :
    let t := nx (exec (.vddioAbsent 0 false) run0)
    t.boot.inReset = true ∧ t.permits = 0#64 := by decide +kernel

/-- Table 6.9: the most negative word divided by -1 gives itself, and any word divided by 0 gives 0. -/
theorem test_div_corners :
    xget (nx (exec (.divs 0 3 1 2) (at0 (wordAlu 0x1C 3 1 2) 0x80000000 0xFFFFFFFF))).lane[(0 : Lane)] 3 = 0x80000000#32 ∧
      xget (nx (exec (.divs 0 3 1 2) (at0 (wordAlu 0x1C 3 1 2) 5 0))).lane[(0 : Lane)] 3 = 0#32 := by decide +kernel

/-! ## The hypotheses of the statements are met -/

section
set_option Elab.async false

/-- States that meet the hypotheses of `Obligations.LynAddSub`, clause by clause. -/
theorem witness_LynAddSub :
    Runs (at0 (wordAlu 0x00#6 3 1 2) 0xFFFFFFFF 0x7FFFFFFF) 0 (wordAlu 0x00#6 3 1 2) ∧
    Runs (at0 (wordAlu 0x01#6 3 1 2) 0xFFFFFFFF 0x7FFFFFFF) 0 (wordAlu 0x01#6 3 1 2) ∧
    Runs (at0 (wordAlu 0x02#6 3 1 2) 0xFFFFFFFF 0x7FFFFFFF) 0 (wordAlu 0x02#6 3 1 2) ∧
    Runs (at0 (wordAlu 0x03#6 3 1 2) 0xFFFFFFFF 0x7FFFFFFF) 0 (wordAlu 0x03#6 3 1 2) ∧
    Runs (at0 (wordI 0x02#6 3 1 0x3FFFF) 0xFFFFFFFF 0x7FFFFFFF) 0 (wordI 0x02#6 3 1 0x3FFFF) :=
  ⟨by unfold Runs; decide +kernel,
   by unfold Runs; decide +kernel,
   by unfold Runs; decide +kernel,
   by unfold Runs; decide +kernel,
   by unfold Runs; decide +kernel⟩

/-- States that meet the hypotheses of `Obligations.LynSaturateMultiply`, clause by clause. -/
theorem witness_LynSaturateMultiply :
    (∃ (s : State) (l : Lane) (rd ra rb : Reg) (r : Word), Runs s l (wordAlu 0x04#6 rd ra rb) ∧ r.toInt = max (-2147483648) (min 2147483647 ((xget s.lane[l] ra).toInt + (xget s.lane[l] rb).toInt))) ∧
    (∃ (s : State) (l : Lane) (rd ra rb : Reg) (r : Word), Runs s l (wordAlu 0x05#6 rd ra rb) ∧ r.toInt = max (-2147483648) (min 2147483647 ((xget s.lane[l] ra).toInt - (xget s.lane[l] rb).toInt))) ∧
    Runs (at0 (wordAlu 0x18#6 1 1 2) 0xFFFFFFFF 0x7FFFFFFF) 0 (wordAlu 0x18#6 1 1 2) ∧
    Runs (at0 (wordAlu 0x19#6 1 1 2) 0xFFFFFFFF 0x7FFFFFFF) 0 (wordAlu 0x19#6 1 1 2) ∧
    Runs (at0 (wordAlu 0x1A#6 1 1 2) 0xFFFFFFFF 0x7FFFFFFF) 0 (wordAlu 0x1A#6 1 1 2) :=
  ⟨⟨(setc (at0 (wordAlu 4 1 1 2) 0xFFFFFFFF 0x7FFFFFFF) false), 0, 1, 1, 2, (BitVec.ofInt 32 (max (-2147483648) (min 2147483647 (((0xFFFFFFFF:Word).toInt)+((0x7FFFFFFF:Word).toInt))))), by unfold Runs; decide +kernel⟩,
   ⟨(setc (at0 (wordAlu 5 1 1 2) 0xFFFFFFFF 0x7FFFFFFF) false), 0, 1, 1, 2, (BitVec.ofInt 32 (max (-2147483648) (min 2147483647 (((0xFFFFFFFF:Word).toInt)-((0x7FFFFFFF:Word).toInt))))), by unfold Runs; decide +kernel⟩,
   by unfold Runs; decide +kernel,
   by unfold Runs; decide +kernel,
   by unfold Runs; decide +kernel⟩

/-- States that meet the hypotheses of `Obligations.LynCompareMinMaxCount`, clause by clause. -/
theorem witness_LynCompareMinMaxCount :
    Runs (at0 (wordAlu 0x06#6 0 1 2) 0xFFFFFFFF 0x7FFFFFFF) 0 (wordAlu 0x06#6 0 1 2) ∧
    Runs (at0 (wordI 0x03#6 0 1 0x20001) 0xFFFFFFFF 0x7FFFFFFF) 0 (wordI 0x03#6 0 1 0x20001) ∧
    Runs (at0 (wordAlu 0x0C#6 0 1 2) 0xFFFFFFFF 0x7FFFFFFF) 0 (wordAlu 0x0C#6 0 1 2) ∧
    Runs (at0 (wordAlu 0x20#6 3 1 2) 0xFFFFFFFF 0x7FFFFFFF) 0 (wordAlu 0x20#6 3 1 2) ∧
    Runs (at0 (wordAlu 0x21#6 3 1 2) 0xFFFFFFFF 0x7FFFFFFF) 0 (wordAlu 0x21#6 3 1 2) ∧
    Runs (at0 (wordAlu 0x22#6 3 1 2) 0xFFFFFFFF 0x7FFFFFFF) 0 (wordAlu 0x22#6 3 1 2) ∧
    Runs (at0 (wordAlu 0x23#6 3 1 2) 0xFFFFFFFF 0x7FFFFFFF) 0 (wordAlu 0x23#6 3 1 2) ∧
    (∃ (s : State) (l : Lane) (rd ra : Reg) (k : Nat), Runs s l (wordAlu 0x28#6 rd ra 0) ∧ k ≤ 32 ∧ (xget s.lane[l] ra).toNat < 2 ^ (32 - k) ∧ (k < 32 → 2 ^ (31 - k) ≤ (xget s.lane[l] ra).toNat)) ∧
    Runs (at0 (wordAlu 0x29#6 3 1 0) 0xFFFFFFFF 0x7FFFFFFF) 0 (wordAlu 0x29#6 3 1 0) :=
  ⟨by unfold Runs; decide +kernel,
   by unfold Runs; decide +kernel,
   by unfold Runs; decide +kernel,
   by unfold Runs; decide +kernel,
   by unfold Runs; decide +kernel,
   by unfold Runs; decide +kernel,
   by unfold Runs; decide +kernel,
   ⟨(setc (at0 (wordAlu 0x28 3 1 0) 0xFFFFFFFF 0x7FFFFFFF) true), 0, 3, 1, 0, by unfold Runs; decide +kernel⟩,
   by unfold Runs; decide +kernel⟩

/-- States that meet the hypotheses of `Obligations.LynLogic`, clause by clause. -/
theorem witness_LynLogic :
    Runs (at0 (wordAlu 0x08#6 3 1 2) 0xFFFFFFFF 0x7FFFFFFF) 0 (wordAlu 0x08#6 3 1 2) ∧
    Runs (at0 (wordAlu 0x09#6 3 1 2) 0xFFFFFFFF 0x7FFFFFFF) 0 (wordAlu 0x09#6 3 1 2) ∧
    Runs (at0 (wordAlu 0x0A#6 3 1 2) 0xFFFFFFFF 0x7FFFFFFF) 0 (wordAlu 0x0A#6 3 1 2) ∧
    Runs (at0 (wordAlu 0x0B#6 3 1 2) 0xFFFFFFFF 0x7FFFFFFF) 0 (wordAlu 0x0B#6 3 1 2) ∧
    Runs (at0 (wordI 0x04#6 3 1 0x3F00F) 0xFFFFFFFF 0x7FFFFFFF) 0 (wordI 0x04#6 3 1 0x3F00F) ∧
    Runs (at0 (wordI 0x05#6 3 1 0x3F00F) 0xFFFFFFFF 0x7FFFFFFF) 0 (wordI 0x05#6 3 1 0x3F00F) ∧
    Runs (at0 (wordI 0x06#6 3 1 0x3F00F) 0xFFFFFFFF 0x7FFFFFFF) 0 (wordI 0x06#6 3 1 0x3F00F) ∧
    Runs (at0 (wordU 0x08#6 (reg4 3) 0x3F00F5) 0xFFFFFFFF 0x7FFFFFFF) 0 (wordU 0x08#6 (reg4 3) 0x3F00F5) ∧
    (∃ (s : State) (l : Lane) (rd ra rb : Reg) (cond : BitVec 4) (h : Bool), Runs s l (wordR 0x09#6 rd ra rb cond 0#6) ∧ condHolds cond s.lane[l].flN s.lane[l].flZ s.lane[l].flC s.lane[l].flV = some h) :=
  ⟨by unfold Runs; decide +kernel,
   by unfold Runs; decide +kernel,
   by unfold Runs; decide +kernel,
   by unfold Runs; decide +kernel,
   by unfold Runs; decide +kernel,
   by unfold Runs; decide +kernel,
   by unfold Runs; decide +kernel,
   by unfold Runs; decide +kernel,
   ⟨(setc (at0 (wordR 9 3 1 2 2 0) 0xFFFFFFFF 0x7FFFFFFF) true), 0, 3, 1, 2, 2, true, by unfold Runs; decide +kernel⟩⟩

/-- States that meet the hypotheses of `Obligations.LynShift`, clause by clause. -/
theorem witness_LynShift :
    Runs (at0 (wordAlu 0x10#6 3 1 2) 0xFFFFFFFF 0x7FFFFFFF) 0 (wordAlu 0x10#6 3 1 2) ∧
    Runs (at0 (wordAlu 0x11#6 3 1 2) 0xFFFFFFFF 0x7FFFFFFF) 0 (wordAlu 0x11#6 3 1 2) ∧
    Runs (at0 (wordAlu 0x12#6 3 1 2) 0xFFFFFFFF 0x7FFFFFFF) 0 (wordAlu 0x12#6 3 1 2) ∧
    Runs (at0 (wordAlu 0x13#6 3 1 2) 0xFFFFFFFF 0x7FFFFFFF) 0 (wordAlu 0x13#6 3 1 2) ∧
    (∃ (s : State) (l : Lane) (rd ra : Reg) (amt : BitVec 5), Runs s l (0x07#6 ++ reg4 rd ++ reg4 ra ++ 0#11 ++ (0#2) ++ amt)) ∧
    (∃ (s : State) (l : Lane) (rd ra : Reg) (amt : BitVec 5), Runs s l (0x07#6 ++ reg4 rd ++ reg4 ra ++ 0#11 ++ (1#2) ++ amt)) ∧
    (∃ (s : State) (l : Lane) (rd ra : Reg) (amt : BitVec 5), Runs s l (0x07#6 ++ reg4 rd ++ reg4 ra ++ 0#11 ++ (2#2) ++ amt)) ∧
    (∃ (s : State) (l : Lane) (rd ra : Reg) (amt : BitVec 5), Runs s l (0x07#6 ++ reg4 rd ++ reg4 ra ++ 0#11 ++ (3#2) ++ amt)) :=
  ⟨by unfold Runs; decide +kernel,
   by unfold Runs; decide +kernel,
   by unfold Runs; decide +kernel,
   by unfold Runs; decide +kernel,
   ⟨(setc (at0 (0x07#6 ++ reg4 3 ++ reg4 1 ++ 0#11 ++ (0 : BitVec 2) ++ (0 : BitVec 5)) 0xFFFFFFFF 0x7FFFFFFF) true), 0, 3, 1, 0, by unfold Runs; decide +kernel⟩,
   ⟨(setc (at0 (0x07#6 ++ reg4 3 ++ reg4 1 ++ 0#11 ++ (1 : BitVec 2) ++ (0 : BitVec 5)) 0xFFFFFFFF 0x7FFFFFFF) true), 0, 3, 1, 0, by unfold Runs; decide +kernel⟩,
   ⟨(setc (at0 (0x07#6 ++ reg4 3 ++ reg4 1 ++ 0#11 ++ (2 : BitVec 2) ++ (0 : BitVec 5)) 0xFFFFFFFF 0x7FFFFFFF) true), 0, 3, 1, 0, by unfold Runs; decide +kernel⟩,
   ⟨(setc (at0 (0x07#6 ++ reg4 3 ++ reg4 1 ++ 0#11 ++ (3 : BitVec 2) ++ (0 : BitVec 5)) 0xFFFFFFFF 0x7FFFFFFF) true), 0, 3, 1, 0, by unfold Runs; decide +kernel⟩⟩

/-- States that meet the hypotheses of `Obligations.LynDivide`, clause by clause. -/
theorem witness_LynDivide :
    Runs (at0 (wordAlu 0x1C#6 3 1 2) 0xFFFFFFFF 0x7FFFFFFF) 0 (wordAlu 0x1C#6 3 1 2) ∧
    Runs (at0 (wordAlu 0x1D#6 3 1 2) 0xFFFFFFFF 0x7FFFFFFF) 0 (wordAlu 0x1D#6 3 1 2) ∧
    Runs (at0 (wordAlu 0x1E#6 3 1 2) 0xFFFFFFFF 0x7FFFFFFF) 0 (wordAlu 0x1E#6 3 1 2) ∧
    Runs (at0 (wordAlu 0x1F#6 3 1 2) 0xFFFFFFFF 0x7FFFFFFF) 0 (wordAlu 0x1F#6 3 1 2) :=
  ⟨by unfold Runs; decide +kernel,
   by unfold Runs; decide +kernel,
   by unfold Runs; decide +kernel,
   by unfold Runs; decide +kernel⟩

/-- States that meet the hypotheses of `Obligations.LynBranchJump`, clause by clause. -/
theorem witness_LynBranchJump :
    (∃ (s : State) (l : Lane) (off : BitVec 22) (cond : BitVec 4), Runs s l (wordU 0x20#6 cond off) ∧ condHolds cond s.lane[l].flN s.lane[l].flZ s.lane[l].flC s.lane[l].flV = some true) ∧
    (∃ (s : State) (l : Lane) (off : BitVec 22) (cond : BitVec 4), Runs s l (wordU 0x20#6 cond off) ∧ condHolds cond s.lane[l].flN s.lane[l].flZ s.lane[l].flC s.lane[l].flV = some false) ∧
    Runs (at0 (wordU 0x21#6 (reg4 3) 0x3FFFFF) 0xFFFFFFFF 0x7FFFFFFF) 0 (wordU 0x21#6 (reg4 3) 0x3FFFFF) ∧
    (∃ (s : State) (l : Lane) (rd ra : Reg) (imm : BitVec 18), Runs s l (wordI 0x22#6 rd ra imm) ∧ (xget s.lane[l] ra + imm.signExtend 32).toNat % 4 = 0) ∧
    (∃ (s : State) (l : Lane) (rd ra : Reg) (imm : BitVec 18), Runs s l (wordI 0x22#6 rd ra imm) ∧ (xget s.lane[l] ra + imm.signExtend 32).toNat % 4 ≠ 0) :=
  ⟨⟨(setc (at0 (wordU 0x20 2 0x3FFFFF) 0xFFFFFFFF 0x7FFFFFFF) true), 0, 0x3FFFFF, 2, by unfold Runs; decide +kernel⟩,
   ⟨(setc (at0 (wordU 0x20 3 0x3FFFFF) 0xFFFFFFFF 0x7FFFFFFF) true), 0, 0x3FFFFF, 3, by unfold Runs; decide +kernel⟩,
   by unfold Runs; decide +kernel,
   ⟨(setc (at0 (wordI 0x22 1 1 1) 0xFFFFFFFF 0x7FFFFFFF) true), 0, 1, 1, 1, by unfold Runs; decide +kernel⟩,
   ⟨(setc (at0 (wordI 0x22 1 1 0) 0xFFFFFFFF 0x7FFFFFFF) true), 0, 1, 1, 0, by unfold Runs; decide +kernel⟩⟩

/-- States that meet the hypotheses of `Obligations.LynLoad`, clause by clause. -/
theorem witness_LynLoad :
    (∃ (s : State) (l : Lane) (rd ra : Reg) (imm : BitVec 18) (ecc : Ecc) (bs : List Byte), ecc ≠ .double ∧ Runs s l (wordI 0x10#6 rd ra imm) ∧ Loads s s.lane[l] (xget s.lane[l] ra + imm.signExtend 32) 4 bs) ∧
    (∃ (s : State) (l : Lane) (rd ra : Reg) (imm : BitVec 18) (ecc : Ecc) (bs : List Byte), ecc ≠ .double ∧ Runs s l (wordI 0x11#6 rd ra imm) ∧ Loads s s.lane[l] (xget s.lane[l] ra + imm.signExtend 32) 2 bs) ∧
    (∃ (s : State) (l : Lane) (rd ra : Reg) (imm : BitVec 18) (ecc : Ecc) (bs : List Byte), ecc ≠ .double ∧ Runs s l (wordI 0x12#6 rd ra imm) ∧ Loads s s.lane[l] (xget s.lane[l] ra + imm.signExtend 32) 2 bs) ∧
    (∃ (s : State) (l : Lane) (rd ra : Reg) (imm : BitVec 18) (ecc : Ecc) (bs : List Byte), ecc ≠ .double ∧ Runs s l (wordI 0x13#6 rd ra imm) ∧ Loads s s.lane[l] (xget s.lane[l] ra + imm.signExtend 32) 1 bs) ∧
    (∃ (s : State) (l : Lane) (rd ra : Reg) (imm : BitVec 18) (ecc : Ecc) (bs : List Byte), ecc ≠ .double ∧ Runs s l (wordI 0x14#6 rd ra imm) ∧ Loads s s.lane[l] (xget s.lane[l] ra + imm.signExtend 32) 1 bs) :=
  ⟨⟨loadSt (wordI 0x10 3 1 0), 0, 3, 1, 0, .single, [0x81,0x92,0xA3,0xF4], by unfold Loads Runs; decide +kernel⟩,
   ⟨loadSt (wordI 0x11 3 1 0), 0, 3, 1, 0, .single, [0x81,0x92], by unfold Loads Runs; decide +kernel⟩,
   ⟨loadSt (wordI 0x12 3 1 2), 0, 3, 1, 2, .clean, [0xA3,0xF4], by unfold Loads Runs; decide +kernel⟩,
   ⟨loadSt (wordI 0x13 0 1 3), 0, 0, 1, 3, .clean, [0xF4], by unfold Loads Runs; decide +kernel⟩,
   ⟨loadSt (wordI 0x14 1 1 3), 0, 1, 1, 3, .clean, [0xF4], by unfold Loads Runs; decide +kernel⟩⟩

/-- States that meet the hypotheses of `Obligations.LynStore`, clause by clause. -/
theorem witness_LynStore :
    (∃ (s : State) (l : Lane) (rs ra : Reg) (imm : BitVec 18) (ecc : Ecc), Memory.wf 0 s.lane[l].mem = true ∧ ecc ≠ .double ∧ Runs s l (wordI 0x15#6 rs ra imm) ∧ Stores s s.lane[l] (xget s.lane[l] ra + imm.signExtend 32) (leBytes (xget s.lane[l] rs))) ∧
    (∃ (s : State) (l : Lane) (rs ra : Reg) (imm : BitVec 18) (ecc : Ecc), Memory.wf 0 s.lane[l].mem = true ∧ ecc ≠ .double ∧ Runs s l (wordI 0x16#6 rs ra imm) ∧ Stores s s.lane[l] (xget s.lane[l] ra + imm.signExtend 32) ((leBytes (xget s.lane[l] rs)).take 2)) ∧
    (∃ (s : State) (l : Lane) (rs ra : Reg) (imm : BitVec 18) (ecc : Ecc), Memory.wf 0 s.lane[l].mem = true ∧ ecc ≠ .double ∧ Runs s l (wordI 0x17#6 rs ra imm) ∧ Stores s s.lane[l] (xget s.lane[l] ra + imm.signExtend 32) ((leBytes (xget s.lane[l] rs)).take 1)) :=
  ⟨⟨loadSt (wordI 0x15 2 1 0), 0, 2, 1, 0, .single, by unfold Runs Stores; decide +kernel⟩,
   ⟨loadSt (wordI 0x16 2 1 2), 0, 2, 1, 2, .single, by unfold Runs Stores; decide +kernel⟩,
   ⟨loadSt (wordI 0x17 2 1 3), 0, 2, 1, 3, .clean, by unfold Runs Stores; decide +kernel⟩⟩

/-- States that meet the hypotheses of `Obligations.LynCrcUnit`, clause by clause. -/
theorem witness_LynCrcUnit :
    (∃ (s : State) (l : Lane) (rs ra : Reg) (imm : BitVec 18), Runs s l (wordI 0x15#6 rs ra imm) ∧ (xget s.lane[l] ra + imm.signExtend 32) = 0x40000000#32) ∧
    (∃ (s : State) (l : Lane) (rs ra : Reg) (imm : BitVec 18), Runs s l (wordI 0x15#6 rs ra imm) ∧ (xget s.lane[l] ra + imm.signExtend 32) = 0x40000004#32) ∧
    (∃ (s : State) (l : Lane) (rs ra : Reg) (imm : BitVec 18), Runs s l (wordI 0x15#6 rs ra imm) ∧ (xget s.lane[l] ra + imm.signExtend 32) = 0x40000008#32) :=
  ⟨⟨crcSt 0x40000000 (wordI 0x15 2 1 0), 0, 2, 1, 0, by unfold Runs; decide +kernel⟩,
   ⟨crcSt 0x40000004 (wordI 0x15 2 1 0), 0, 2, 1, 0, by unfold Runs; decide +kernel⟩,
   ⟨crcSt 0x40000008 (wordI 0x15 2 1 0), 0, 2, 1, 0, by unfold Runs; decide +kernel⟩⟩

/-- States that meet the hypotheses of `Obligations.LynTrap`, clause by clause. -/
theorem witness_LynTrap :
    (∃ (s : State) (l : Lane) (code : BitVec 18), Runs s l (0x29#6 ++ 0#8 ++ code)) ∧
    (∃ (s : State) (l : Lane) (w : Word), Runs s l w ∧ lynLegal w = false) ∧
    (∃ (s : State) (l : Lane), s.lane[l].run = .computing ∧ fetchable (laneRegion s s.lane[l] s.lane[l].pc) = false) ∧
    (∃ (s : State) (l : Lane), s.lane[l].run = .computing ∧ s.lane[l].lineReq.isSome ∧ s.lane[l].lineAt + xipWait s + 50000 ≤ s.mono) ∧
    (∃ (s : State) (l : Lane) (rd ra : Reg) (imm : BitVec 18), Runs s l (wordI 0x10#6 rd ra imm) ∧ loadCause (laneRegion s s.lane[l] (xget s.lane[l] ra + imm.signExtend 32)) 4 (xget s.lane[l] ra + imm.signExtend 32).toNat ≠ 0) ∧
    (∃ (s : State) (l : Lane) (rd ra : Reg) (imm : BitVec 18), Runs s l (wordI 0x15#6 rd ra imm) ∧ storeCause (laneRegion s s.lane[l] (xget s.lane[l] ra + imm.signExtend 32)) 4 (xget s.lane[l] ra + imm.signExtend 32).toNat ≠ 0) :=
  ⟨⟨trapSt (0x29#6 ++ 0#8 ++ 0x2ABCD#18) 0, 0, 0x2ABCD, by unfold Runs; decide +kernel⟩,
   ⟨trapSt 0 0, 0, 0, by unfold Runs; decide +kernel⟩,
   ⟨pastBody, 0, by decide +kernel⟩,
   ⟨fillLate, 0, by decide +kernel⟩,
   ⟨trapSt (wordI 0x10 3 1 1) 0, 0, 3, 1, 1, by unfold Runs; decide +kernel⟩,
   ⟨trapSt (wordI 0x15 3 1 0) 0x0, 0, 3, 1, 0, by unfold Runs; decide +kernel⟩⟩

/-- States that meet the hypotheses of `Obligations.LynAddressMap`, clause by clause. -/
theorem witness_LynAddressMap :
    (∃ (body retain span a : Nat), body ≤ 0x80000 ∧ retain ≤ 0x10000 ∧ 32 * span / 36 ≤ 0x10000000 ∧ a % 4 ≠ 0) ∧
    (∃ (body retain span a : Nat), body ≤ 0x80000 ∧ retain ≤ 0x10000 ∧ 32 * span / 36 ≤ 0x10000000 ∧ a % 4 = 0) :=
  ⟨⟨0x1000, 0x10, 72, 1, by decide +kernel⟩,
   ⟨0x1000, 0x10, 72, 0, by decide +kernel⟩⟩

/-- States that meet the hypotheses of `Obligations.LynSched`, clause by clause. -/
theorem witness_LynSched :
    (∃ (s : State) (l : Lane) (rd ra rb : Reg) (ecc : List Ecc) (bs : List Byte) (i : Nat), Memory.wf 0 s.lane[l].mem = true ∧ Runs s l (wordR 0x2A#6 rd ra rb 0#4 0#6) ∧ Block s s.lane[l] (xget s.lane[l] ra) 4 bs ∧ i < 4 ∧ eccAt s s.lane[l] (xget s.lane[l] ra) ecc i = .double ∧ (∀ j, j < i → eccAt s s.lane[l] (xget s.lane[l] ra) ecc j ≠ .double)) ∧
    (∃ (s : State) (l : Lane) (rd ra rb : Reg) (ecc : List Ecc) (bs : List Byte), Memory.wf 0 s.lane[l].mem = true ∧ Runs s l (wordR 0x2A#6 rd ra rb 0#4 0#6) ∧ Block s s.lane[l] (xget s.lane[l] ra) 4 bs ∧ (∀ i, i < 4 → eccAt s s.lane[l] (xget s.lane[l] ra) ecc i ≠ .double) ∧ 3 < (xget s.lane[l] rb).toNat) ∧
    (∃ (s : State) (l : Lane) (rd ra rb : Reg) (ecc : List Ecc) (bs : List Byte), Memory.wf 0 s.lane[l].mem = true ∧ Runs s l (wordR 0x2A#6 rd ra rb 0#4 0#6) ∧ Block s s.lane[l] (xget s.lane[l] ra) 4 bs ∧ (∀ i, i < 4 → eccAt s s.lane[l] (xget s.lane[l] ra) ecc i ≠ .double) ∧ (xget s.lane[l] rb).toNat ≤ 3 ∧ manMax s ≤ (memGet 0 s.lane[l].mem (0x32001000 + (xget s.lane[l] rb).toNat)).toNat) ∧
    (∃ (s : State) (l : Lane) (rd ra rb : Reg) (ecc : List Ecc) (bs : List Byte), Memory.wf 0 s.lane[l].mem = true ∧ Runs s l (wordR 0x2A#6 rd ra rb 0#4 0#6) ∧ Block s s.lane[l] (xget s.lane[l] ra) 4 bs ∧ (∀ i, i < 4 → eccAt s s.lane[l] (xget s.lane[l] ra) ecc i ≠ .double) ∧ (xget s.lane[l] rb).toNat ≤ 3 ∧ (memGet 0 s.lane[l].mem (0x32001000 + (xget s.lane[l] rb).toNat)).toNat < manMax s ∧ (memGet 0 s.lane[l].mem (0x32001000 + (xget s.lane[l] rb).toNat)).toNat < 64) :=
  ⟨⟨schedSt 3 0, 0, 3, 1, 2, [.clean, .single, .double], block16, 2, by decide +kernel, by unfold Runs; decide +kernel, ⟨by decide +kernel, by rfl⟩, by decide +kernel⟩,
   ⟨schedSt 4 0, 0, 3, 1, 2, [.single], block16, by decide +kernel, by unfold Runs; decide +kernel, ⟨by decide +kernel, by rfl⟩, by decide +kernel⟩,
   ⟨schedSt 3 64, 0, 3, 1, 2, [], block16, by decide +kernel, by unfold Runs; decide +kernel, ⟨by decide +kernel, by rfl⟩, by decide +kernel⟩,
   ⟨schedSt 3 63, 0, 3, 1, 2, [.clean, .single, .single], block16, by decide +kernel, by unfold Runs; decide +kernel, ⟨by decide +kernel, by rfl⟩, by decide +kernel⟩⟩

/-- States that meet the hypotheses of `Obligations.LynEmit`, clause by clause. -/
theorem witness_LynEmit :
    (∃ (s : State) (l : Lane) (rd ra rb : Reg) (ecc : List Ecc) (bs : List Byte) (i : Nat), Memory.wf 0 s.lane[l].mem = true ∧ Runs s l (wordR 0x2B#6 rd ra rb 0#4 0#6) ∧ Block s s.lane[l] (xget s.lane[l] ra) 20 bs ∧ i < 20 ∧ eccAt s s.lane[l] (xget s.lane[l] ra) ecc i = .double ∧ (∀ j, j < i → eccAt s s.lane[l] (xget s.lane[l] ra) ecc j ≠ .double)) ∧
    (∃ (s : State) (l : Lane) (rd ra rb : Reg) (ecc : List Ecc) (bs : List Byte), Memory.wf 0 s.lane[l].mem = true ∧ Runs s l (wordR 0x2B#6 rd ra rb 0#4 0#6) ∧ Block s s.lane[l] (xget s.lane[l] ra) 20 bs ∧ (∀ i, i < 20 → eccAt s s.lane[l] (xget s.lane[l] ra) ecc i ≠ .double) ∧ 1 < (xget s.lane[l] rb).toNat) ∧
    (∃ (s : State) (l : Lane) (rd ra rb : Reg) (ecc : List Ecc) (bs : List Byte), Memory.wf 0 s.lane[l].mem = true ∧ Runs s l (wordR 0x2B#6 rd ra rb 0#4 0#6) ∧ Block s s.lane[l] (xget s.lane[l] ra) 20 bs ∧ (∀ i, i < 20 → eccAt s s.lane[l] (xget s.lane[l] ra) ecc i ≠ .double) ∧ (xget s.lane[l] rb).toNat ≤ 1 ∧ leAt s.lane[l].mem (0x31000FF8 + 2 * (xget s.lane[l] rb).toNat) 2 = 32) ∧
    (∃ (s : State) (l : Lane) (rd ra rb : Reg) (ecc : List Ecc) (bs : List Byte), Memory.wf 0 s.lane[l].mem = true ∧ Runs s l (wordR 0x2B#6 rd ra rb 0#4 0#6) ∧ Block s s.lane[l] (xget s.lane[l] ra) 20 bs ∧ (∀ i, i < 20 → eccAt s s.lane[l] (xget s.lane[l] ra) ecc i ≠ .double) ∧ (xget s.lane[l] rb).toNat ≤ 1 ∧ leAt s.lane[l].mem (0x31000FF8 + 2 * (xget s.lane[l] rb).toNat) 2 ≠ 32 ∧ frameOk bs = false) ∧
    (∃ (s : State) (l : Lane) (rd ra rb : Reg) (ecc : List Ecc) (bs : List Byte), Memory.wf 0 s.lane[l].mem = true ∧ Runs s l (wordR 0x2B#6 rd ra rb 0#4 0#6) ∧ Block s s.lane[l] (xget s.lane[l] ra) 20 bs ∧ (∀ i, i < 20 → eccAt s s.lane[l] (xget s.lane[l] ra) ecc i ≠ .double) ∧ (xget s.lane[l] rb).toNat ≤ 1 ∧ leAt s.lane[l].mem (0x31000FF8 + 2 * (xget s.lane[l] rb).toNat) 2 < 32 ∧ frameOk bs = true) :=
  ⟨⟨emitSt 1 block80 0, 0, 3, 1, 2, List.replicate 19 .single ++ [.double], block80, 19, by decide +kernel, by unfold Runs; decide +kernel, ⟨by decide +kernel, by rfl⟩, by decide +kernel⟩,
   ⟨emitSt 2 block80 0, 0, 3, 1, 2, [], block80, by decide +kernel, by unfold Runs; decide +kernel, ⟨by decide +kernel, by rfl⟩, by decide +kernel⟩,
   ⟨emitSt 1 block80 32, 0, 3, 1, 2, [.single], block80, by decide +kernel, by unfold Runs; decide +kernel, ⟨by decide +kernel, by rfl⟩, by decide +kernel⟩,
   ⟨emitSt 1 (1::block80.set 1 0xFF) 3, 0, 3, 1, 2, [], (1::block80.set 1 0xFF).take 80, by decide +kernel, by unfold Runs; decide +kernel, ⟨by decide +kernel, by rfl⟩, by decide +kernel⟩,
   ⟨emitSt 1 block80 31, 0, 3, 1, 2, [.clean, .single], block80, by decide +kernel, by unfold Runs; decide +kernel, ⟨by decide +kernel, by rfl⟩, by decide +kernel⟩⟩

/-- States that meet the hypotheses of `Obligations.LynPermit`, clause by clause. -/
theorem witness_LynPermit :
    (∃ (s : State) (l : Lane) (ra rb : Reg), Memory.wf 0 s.lane[l].mem = true ∧ Runs s l (wordR 0x2C#6 0 ra rb 0#4 0#6)) ∧
    (∃ (s : State) (l : Lane) (ra rb : Reg), Memory.wf 0 s.lane[l].mem = true ∧ Runs s l (wordR 0x2C#6 0 ra rb 0#4 1#6)) ∧
    (∃ (s : State) (l : Lane) (ra rb : Reg), Memory.wf 0 s.lane[l].mem = true ∧ Runs s l (wordR 0x2C#6 0 ra rb 0#4 2#6)) :=
  ⟨⟨permitSt 0, 0, 1, 2, by unfold Runs; decide +kernel⟩,
   ⟨permitSt 1, 0, 1, 2, by unfold Runs; decide +kernel⟩,
   ⟨permitSt 2, 0, 1, 2, by unfold Runs; decide +kernel⟩⟩

/-- States that meet the hypotheses of `Obligations.LynSpecial`, clause by clause. -/
theorem witness_LynSpecial :
    (∃ (s : State) (l : Lane) (ra : Reg), Runs s l (0x2D#6 ++ 0#4 ++ reg4 ra ++ 0#18)) ∧
    (∃ (s : State) (l : Lane) (rd : Reg), Runs s l (0x2E#6 ++ reg4 rd ++ 0#14 ++ (0x00#8))) ∧
    (∃ (s : State) (l : Lane) (rd : Reg), Runs s l (0x2E#6 ++ reg4 rd ++ 0#14 ++ (0x01#8))) ∧
    (∃ (s : State) (l : Lane) (rd : Reg), Runs s l (0x2E#6 ++ reg4 rd ++ 0#14 ++ (0x02#8))) ∧
    (∃ (s : State) (l : Lane) (rd : Reg), Runs s l (0x2E#6 ++ reg4 rd ++ 0#14 ++ (0x08#8))) ∧
    (∃ (s : State) (l : Lane) (rd : Reg), Runs s l (0x2E#6 ++ reg4 rd ++ 0#14 ++ (0x09#8))) ∧
    (∃ (s : State) (l : Lane) (rd : Reg), Runs s l (0x2E#6 ++ reg4 rd ++ 0#14 ++ (0x03#8))) ∧
    (∃ (s : State) (l : Lane) (rd : Reg) (num : BitVec 8), Runs s l (0x2E#6 ++ reg4 rd ++ 0#14 ++ num) ∧ num ∉ [0#8, 1#8, 2#8, 3#8, 8#8, 9#8]) ∧
    (∃ (s : State) (l : Lane) (ra : Reg), Runs s l (0x2F#6 ++ 0#4 ++ reg4 ra ++ 0#10 ++ (8#8)) ∧ (xget s.lane[l] ra).toNat % 4 = 0) ∧
    (∃ (s : State) (l : Lane) (ra : Reg), Runs s l (0x2F#6 ++ 0#4 ++ reg4 ra ++ 0#10 ++ (9#8)) ∧ (xget s.lane[l] ra).toNat % 36 = 0 ∧ (xget s.lane[l] ra).toNat ≤ 301989888) ∧
    (∃ (s : State) (l : Lane) (ra : Reg), Runs s l (0x2F#6 ++ 0#4 ++ reg4 ra ++ 0#10 ++ (8#8)) ∧ (xget s.lane[l] ra).toNat % 4 ≠ 0) ∧
    (∃ (s : State) (l : Lane) (ra : Reg), Runs s l (0x2F#6 ++ 0#4 ++ reg4 ra ++ 0#10 ++ (9#8)) ∧ ((xget s.lane[l] ra).toNat % 36 ≠ 0 ∨ 301989888 < (xget s.lane[l] ra).toNat)) ∧
    (∃ (s : State) (l : Lane) (ra : Reg) (num : BitVec 8), Runs s l (0x2F#6 ++ 0#4 ++ reg4 ra ++ 0#10 ++ num) ∧ num ∉ [8#8, 9#8]) :=
  ⟨⟨at0 (0x2D#6 ++ 0#4 ++ reg4 1 ++ 0#18) 5 6, 0, 1, by unfold Runs; decide +kernel⟩,
   ⟨at0 (0x2E#6 ++ reg4 3 ++ 0#14 ++ (0 : BitVec 8)) 5 6, 0, 3, by unfold Runs; decide +kernel⟩,
   ⟨at0 (0x2E#6 ++ reg4 3 ++ 0#14 ++ (1 : BitVec 8)) 5 6, 0, 3, by unfold Runs; decide +kernel⟩,
   ⟨at0 (0x2E#6 ++ reg4 3 ++ 0#14 ++ (2 : BitVec 8)) 5 6, 0, 3, by unfold Runs; decide +kernel⟩,
   ⟨at0 (0x2E#6 ++ reg4 3 ++ 0#14 ++ (8 : BitVec 8)) 5 6, 0, 3, by unfold Runs; decide +kernel⟩,
   ⟨at0 (0x2E#6 ++ reg4 3 ++ 0#14 ++ (9 : BitVec 8)) 5 6, 0, 3, by unfold Runs; decide +kernel⟩,
   ⟨at0 (0x2E#6 ++ reg4 3 ++ 0#14 ++ (3 : BitVec 8)) 5 6, 0, 3, by unfold Runs; decide +kernel⟩,
   ⟨at0 (0x2E#6 ++ reg4 3 ++ 0#14 ++ (4 : BitVec 8)) 5 6, 0, 3, 4, by unfold Runs; decide +kernel⟩,
   ⟨at0 (0x2F#6 ++ 0#4 ++ reg4 1 ++ 0#10 ++ (8 : BitVec 8)) 4 6, 0, 1, by unfold Runs; decide +kernel⟩,
   ⟨at0 (0x2F#6 ++ 0#4 ++ reg4 1 ++ 0#10 ++ (9 : BitVec 8)) 72 6, 0, 1, by unfold Runs; decide +kernel⟩,
   ⟨at0 (0x2F#6 ++ 0#4 ++ reg4 1 ++ 0#10 ++ (8 : BitVec 8)) 6 6, 0, 1, by unfold Runs; decide +kernel⟩,
   ⟨at0 (0x2F#6 ++ 0#4 ++ reg4 1 ++ 0#10 ++ (9 : BitVec 8)) 4 6, 0, 1, by unfold Runs; decide +kernel⟩,
   ⟨at0 (0x2F#6 ++ 0#4 ++ reg4 1 ++ 0#10 ++ (4 : BitVec 8)) 4 6, 0, 1, 4, by unfold Runs; decide +kernel⟩⟩

/-- States that meet the hypotheses of `Obligations.LynEndcycXip`, clause by clause. -/
theorem witness_LynEndcycXip :
    (∃ (s : State) (l : Lane), Runs s l (0x28#6 ++ 0#26) ∧ s.time < voteCloseAt s) ∧
    (∃ (s : State) (l : Lane), Runs s l (0x28#6 ++ 0#26) ∧ voteCloseAt s ≤ s.time) ∧
    (∃ (s : State) (addr : Word) (ok1 ok2 : Bool) (w : Lane) (rest : List Lane) (n : Nat), s.vddio.getLsbD 4 = true ∧ selBlocked s (selOf addr.toNat) = false ∧ lineWanters s addr.toNat = w :: rest ∧ n = lineNum s.lane[w] addr.toNat ∧ lineGood s addr.toNat n = true ∧ (ok1 || ok2) = true ∧ (∀ k : Lane, s.lane[k].pf.length ≤ 64) ∧ mpWaiting s = []) ∧
    (∃ (s : State) (addr : Word) (ok1 ok2 : Bool) (w : Lane) (rest : List Lane) (n : Nat), s.vddio.getLsbD 4 = true ∧ selBlocked s (selOf addr.toNat) = false ∧ lineWanters s addr.toNat = w :: rest ∧ n = lineNum s.lane[w] addr.toNat ∧ (lineGood s addr.toNat n && (ok1 || ok2)) = false ∧ s.lane[(0 : Lane)].lineReq = some addr.toNat) ∧
    (∃ (s : State) (addr : Word) (ok1 ok2 : Bool) (n : Nat), s.vddio.getLsbD 4 = true ∧ selBlocked s (selOf addr.toNat) = false ∧ (∀ k : Lane, s.lane[k].lineReq = none) ∧ mpWaiting s = [] ∧ s.mp.stream = some (addr.toNat, n) ∧ (lineGood s addr.toNat n && (ok1 || ok2)) = false) ∧
    (∃ (s : State) (addr : Word), (∀ k : Lane, s.lane[k].lineReq ≠ some addr.toNat) ∧ s.mp.stream = none) ∧
    (∃ (s : State) (addr : Word) (ok1 ok2 : Bool) (n : Nat), s.vddio.getLsbD 4 = true ∧ selBlocked s (selOf addr.toNat) = false ∧ (∀ k : Lane, s.lane[k].lineReq = none) ∧ mpWaiting s = [] ∧ s.mp.stream = some (addr.toNat, n) ∧ lineGood s addr.toNat n = true ∧ (ok1 || ok2) = true ∧ (∀ k : Lane, s.lane[k].pf.length ≤ 64)) :=
  ⟨⟨endSt, 0, by unfold Runs; decide +kernel⟩,
   ⟨endLate, 0, by unfold Runs; decide +kernel⟩,
   ⟨fillSt false, 0x3000, false, true, 0, [], 0, by decide +kernel⟩,
   ⟨fillSt true, 0x3000, false, true, 0, [], 0, by decide +kernel⟩,
   ⟨streamSt false, 0x3000, false, false, 0, by decide +kernel⟩,
   ⟨run0, 0x3000, by decide +kernel⟩,
   ⟨streamSt false, 0x3000, true, false, 0, by decide +kernel⟩⟩

/-- States that meet the hypotheses of `Obligations.LinksAndLaneFaults`, clause by clause. -/
theorem witness_LinksAndLaneFaults :
    (∃ (s : State) (k : Link) (d : Die) (kind : FrameKind), ready s (linkDie k) = true ∧ ready s d = true ∧ kind ≠ .event) ∧
    (∃ (s : State) (k : Link) (d : Die), ready s (linkDie k) = true ∧ ready s d = true) ∧
    (∃ (s : State) (k : Link) (d : Die), ready s (linkDie k) = true ∧ ready s d = true ∧ (linkOf s k).up = true) ∧
    (∃ (s : State) (k : Link) (d : Die), ready s (linkDie k) = true ∧ ready s d = true ∧ (linkOf s k).up = false ∧ (linkOf s k).good < 2) ∧
    (∃ (s : State) (k : Link) (d : Die), ready s (linkDie k) = true ∧ ready s d = true ∧ (linkOf s k).up = false ∧ (linkOf s k).good = 2) ∧
    (∃ (s : State) (k : Link) (l : Lane) (d : Die), ready s (linkDie k) = true ∧ ready s d = true ∧ (linkOf s (.up l d)).up = true ∧ s.lane[l].evSeq[d] < s.die[d].evSeq) ∧
    (∃ (s : State) (k : Link) (l : Lane) (d : Die), ready s (linkDie k) = true ∧ ready s d = true ∧ (linkOf s (.up l d)).up = true) ∧
    (∃ (s : State) (l : Lane) (d : Die), memberOf s l = true ∧ s.lane[l].pendCause = 0 ∧ ready s d = true ∧ (linkOf s (.up l d)).up = true) ∧
    (∃ (s : State) (l : Lane) (d : Die), memberOf s l = true ∧ s.lane[l].pendCause = 0 ∧ ready s d = true ∧ (linkOf s (.down l d)).up = true) ∧
    (∃ (s : State) (l : Lane), memberOf s l = true ∧ s.lane[l].pendCause = 0 ∧ s.boot.inReset = false ∧ s.lane[l].clockOk = true ∧ s.lane[l].state < 2 ∧ l ≠ 0) ∧
    (∃ (s : State) (l : Lane), memberOf s l = true ∧ s.lane[l].pendCause = 0 ∧ s.boot.inReset = false ∧ s.lane[l].clockOk = true ∧ s.lane[l].state < 2 ∧ l = 0 ∧ s.tm.ref = true) ∧
    (∃ (s : State) (l : Lane), memberOf s l = true ∧ s.lane[l].pendCause = 0) :=
  ⟨⟨runMinor, .up 1 2, 2, .freeze, by decide +kernel⟩,
   ⟨runMinor, .up 1 2, 2, by decide +kernel⟩,
   ⟨runMinor, .up 1 2, 2, by decide +kernel⟩,
   ⟨linkDown runMinor 1 (.up 1 2), .up 1 2, 2, by decide +kernel⟩,
   ⟨linkDown runMinor 2 (.up 1 2), .up 1 2, 2, by decide +kernel⟩,
   ⟨runMinor, .up 1 2, 0, 2, by decide +kernel⟩,
   ⟨runMinor, .up 1 2, 0, 2, by decide +kernel⟩,
   ⟨runMinor, 0, 2, by decide +kernel⟩,
   ⟨runMinor, 0, 2, by decide +kernel⟩,
   ⟨runMinor, 1, by decide +kernel⟩,
   ⟨{ runMinor with tm := { runMinor.tm with ref := true } }, 0, by decide +kernel⟩,
   ⟨runMinor, 0, by decide +kernel⟩⟩

/-- States that meet the hypotheses of `Obligations.DieEventsAndTime`, clause by clause. -/
theorem witness_DieEventsAndTime :
    (∃ (s : State) (d : Die) (t0 : Nat), ready s d = true ∧ dieContent s d ≠ s.die[d].told ∧ t0 ≤ dieTime s d ∧ s.die[d].evAt ≤ dieTime s d ∧ dieTime s d < 2 ^ 64) ∧
    (∃ (s : State) (d : Die), ready s d = true ∧ dieContent s d ≠ s.die[d].told) ∧
    (∃ (s : State) (d : Die), ready s d = true ∧ dieContent s d = s.die[d].told) ∧
    (∃ (s : State) (d : Die), ready s d = true) ∧
    (∃ (s : State) (d : Die) (offset : Int), ready s d = true ∧ s.die[d].time.up = true ∧ s.boot.phase = 9 ∧ s.die[d].corrFrom = none ∧ offset.natAbs ≤ 100000) ∧
    (∃ (s : State) (d : Die) (offset : Int), ready s d = true ∧ s.die[d].time.up = true ∧ s.boot.phase = 9 ∧ s.die[d].corrFrom = none ∧ 100000 < offset.natAbs ∧ uplinksDown s d = false) ∧
    (∃ (s : State) (d : Die) (m : Nat), ready s d = true ∧ s.die[d].time.up = true ∧ s.boot.phase = 9 ∧ s.die[d].corrFrom = some m ∧ s.die[d].offset.natAbs ≤ 100000) :=
  ⟨⟨runMinor, 2, 10000000, by decide +kernel⟩,
   ⟨runMinor, 2, by decide +kernel⟩,
   ⟨{ runMinor with die := runMinor.die.set 2 { runMinor.die[2] with told := dieContent runMinor 2 } }, 2, by decide +kernel⟩,
   ⟨runMinor, 2, by decide +kernel⟩,
   ⟨runMinor, 2, -100000, by decide +kernel⟩,
   ⟨runMinor, 2, -100001, by decide +kernel⟩,
   ⟨{ runMinor with die := runMinor.die.set 2 { runMinor.die[2] with offset := 100000, corrFrom := some 5 } }, 2, 5, by decide +kernel⟩⟩

/-- States that meet the hypotheses of `Obligations.PowerAndMonitorEvents`, clause by clause. -/
theorem witness_PowerAndMonitorEvents :
    (∃ (s : State) (d : Die) (u : Fin 2), powered s d = true ∧ s.die[d].pt.getLsbD u.val = true ∧ s.die[d].pt.getLsbD (1 - u.val) = true) ∧
    (∃ (s : State) (d : Die) (f : FDie), powered s d = true ∧ toDie f = d) ∧
    (∃ (s : State) (v0 v1 n a b : Nat), s.boot.inReset = false ∧ s.tm.sect = 3 ∧ v0 ≠ v1 ∧ v0 < 2 ^ 64 ∧ v1 < 2 ^ 64 ∧ n = (dies5.filter (ready s)).length ∧ a = ((dies5.filter (ready s)).filter fun e => decide (((v0 : Int) - dieTime s e).natAbs ≤ 40)).length ∧ b = ((dies5.filter (ready s)).filter fun e => decide (((v1 : Int) - dieTime s e).natAbs ≤ 40)).length ∧ n < 2 * a ∧ 2 * b ≤ n) ∧
    (∃ (s : State) (v0 v1 n a b : Nat), s.boot.inReset = false ∧ s.tm.sect = 3 ∧ v0 ≠ v1 ∧ v0 < 2 ^ 64 ∧ v1 < 2 ^ 64 ∧ n = (dies5.filter (ready s)).length ∧ a = ((dies5.filter (ready s)).filter fun e => decide (((v0 : Int) - dieTime s e).natAbs ≤ 40)).length ∧ b = ((dies5.filter (ready s)).filter fun e => decide (((v1 : Int) - dieTime s e).natAbs ≤ 40)).length ∧ n < 2 * b ∧ 2 * a ≤ n) ∧
    (∃ (s : State) (v0 v1 n a b : Nat), s.boot.inReset = false ∧ s.tm.sect = 3 ∧ v0 ≠ v1 ∧ v0 < 2 ^ 64 ∧ v1 < 2 ^ 64 ∧ n = (dies5.filter (ready s)).length ∧ a = ((dies5.filter (ready s)).filter fun e => decide (((v0 : Int) - dieTime s e).natAbs ≤ 40)).length ∧ b = ((dies5.filter (ready s)).filter fun e => decide (((v1 : Int) - dieTime s e).natAbs ≤ 40)).length ∧ 2 * a ≤ n ∧ 2 * b ≤ n ∧ 0 < n) ∧
    (∃ (s : State) (v0 v1 n a b : Nat), s.boot.inReset = false ∧ s.tm.sect = 3 ∧ v0 ≠ v1 ∧ v0 < 2 ^ 64 ∧ v1 < 2 ^ 64 ∧ n = (dies5.filter (ready s)).length ∧ a = ((dies5.filter (ready s)).filter fun e => decide (((v0 : Int) - dieTime s e).natAbs ≤ 40)).length ∧ b = ((dies5.filter (ready s)).filter fun e => decide (((v1 : Int) - dieTime s e).natAbs ≤ 40)).length ∧ (n < 2 * a ∧ n < 2 * b ∨ n = 0)) ∧
    (∃ (s : State), s.boot.inReset = false) ∧
    (∃ (s : State) (ins : TapIns), (s.md.mode = .boot ∨ s.md.mode = .quiet) ∧ (ins = .sample ∨ ins = .extest)) ∧
    (∃ (s : State) (ins : TapIns), (s.md.mode = .boot ∨ s.md.mode = .quiet) ∧ (ins = .bypass ∨ ins = .idcode)) ∧
    (∃ (s : State), s.md.mode ≠ .boot ∧ s.md.mode ≠ .quiet) ∧
    (∃ (rail : Fin 5) (p : Port), rail ≠ 0 ∧ rail.val = p.val + 1) ∧
    (∃ (rail : Fin 5) (p : Port), rail ≠ 0 ∧ rail.val ≠ p.val + 1) ∧
    (∃ (rail : Fin 5), 1 ≤ rail.val ∧ rail.val ≤ 3) :=
  ⟨⟨hold0, 1, 0, by decide +kernel⟩,
   ⟨hold0, 1, 1, by decide +kernel⟩,
   ⟨hold0, 10000040, 10000044, 5, 5, 0, by decide +kernel⟩,
   ⟨hold0, 9999956, 9999960, 5, 0, 5, by decide +kernel⟩,
   ⟨hold0, 0, 10000044, 5, 0, 0, by decide +kernel⟩,
   ⟨hold0, 10000040, 9999960, 5, 5, 5, by decide +kernel⟩,
   ⟨hold0, by decide +kernel⟩,
   ⟨quiet0, .extest, by decide +kernel⟩,
   ⟨quiet0, .idcode, by decide +kernel⟩,
   ⟨hold0, by decide +kernel⟩,
   ⟨2, 1, by decide +kernel⟩,
   ⟨2, 2, by decide +kernel⟩,
   ⟨3, by decide +kernel⟩⟩

/-- States that meet the hypotheses of `Obligations.TimeReferences`, clause by clause. -/
theorem witness_TimeReferences :
    (∃ (s : State), s.time < 2 ^ 63 ∧ s.tm.ref = false ∧ s.boot.inReset = false ∧ s.lane[(0 : Lane)].clockOk = true ∧ s.lane[(0 : Lane)].state < 2) ∧
    (∃ (s : State), s.time < 2 ^ 63 ∧ s.tm.refpOk = false) ∧
    (∃ (s : State), s.time < 2 ^ 63 ∧ s.tm.ref = true ∧ s.tm.refpOk = true ∧ cfgBit s 3 8 2 = true ∧ s.tm.refpSince + 1000000000 ≤ s.mono) ∧
    (∃ (s : State), s.time < 2 ^ 63 ∧ timeSrc s = 1 ∧ (s.tm.sync = .acquiring ∨ s.tm.sync = .locked) ∧ tsyncLostAt s ≤ s.time) ∧
    (∃ (s : State), s.time < 2 ^ 63 ∧ timeSrc s = 1 ∧ (s.tm.sync = .acquiring ∨ s.tm.sync = .locked) ∧ tsyncLostAt s ≤ 2 ^ 64 - 8) ∧
    (∃ (s : State), s.time < 2 ^ 63 ∧ timeSrc s = 2 ∧ (s.tm.sync = .acquiring ∨ s.tm.sync = .locked) ∧ s.ws.since + wsLostMax s * wsPeriod s ≤ s.mono) ∧
    (∃ (s : State), s.time < 2 ^ 63 ∧ cfgBit s 3 0x0D 0 = true ∧ cfgBit s 3 0x0D 1 = true ∧ s.cyc.running = true ∧ s.time = s.cyc.t0) ∧
    (∃ (s : State), s.time < 2 ^ 63 ∧ cfgBit s 3 0x0D 0 = true ∧ cfgBit s 3 0x0D 1 = false ∧ s.time % (cfgField s 3 0x0D 4 12 * 1000000) = 0) :=
  ⟨⟨pulseSt, by decide +kernel⟩,
   ⟨pulseSt, by decide +kernel⟩,
   ⟨onRefS, by decide +kernel⟩,
   ⟨{ (withRegs onRefS [(3,8,1)]) with time := 9000000000, tm := { onRefS.tm with sync := .locked } }, by decide +kernel⟩,
   ⟨{ (withRegs onRefS [(3,8,1)]) with tm := { onRefS.tm with sync := .acquiring, tsLost := 255 } }, by decide +kernel⟩,
   ⟨{ (withRegs onRefS [(3,8,2)]) with mono := 90000000000, tm := { onRefS.tm with sync := .acquiring } }, by decide +kernel⟩,
   ⟨pulseSt, by decide +kernel⟩,
   ⟨withRegs { run0 with time := 10000000 } [(3, 0x0D, 0x00050011)], by decide +kernel⟩⟩

/-- States that meet the hypotheses of `Obligations.TsyncInEdge`, clause by clause. -/
theorem witness_TsyncInEdge :
    (∃ (s : State) (t0 : Nat), timeSrc s = 1 ∧ t0 ≤ s.time ∧ 0 < (cfgField s 3 0x0B 0 12 * 1000000) ∧ (if s.tm.sync = .locked then 10000 else (cfgField s 3 0x0B 0 12 * 1000000) / 4) < ((t0 : Int) - ((((cfgWord s 3 0x0C).toNat) : Int) + (((t0 : Int) - ((cfgWord s 3 0x0C).toNat) + (cfgField s 3 0x0B 0 12 * 1000000) / 2) / (cfgField s 3 0x0B 0 12 * 1000000)) * (cfgField s 3 0x0B 0 12 * 1000000))).natAbs) ∧
    (∃ (s : State) (t0 : Nat), timeSrc s = 1 ∧ t0 ≤ s.time ∧ 0 < (cfgField s 3 0x0B 0 12 * 1000000) ∧ ((t0 : Int) - ((((cfgWord s 3 0x0C).toNat) : Int) + (((t0 : Int) - ((cfgWord s 3 0x0C).toNat) + (cfgField s 3 0x0B 0 12 * 1000000) / 2) / (cfgField s 3 0x0B 0 12 * 1000000)) * (cfgField s 3 0x0B 0 12 * 1000000))).natAbs ≤ (if s.tm.sync = .locked then 10000 else (cfgField s 3 0x0B 0 12 * 1000000) / 4) ∧ s.tm.haveLast = false ∧ stepAllowed s.md.mode = false ∧ 0 ≤ ((((cfgWord s 3 0x0C).toNat) : Int) + (((t0 : Int) - ((cfgWord s 3 0x0C).toNat) + (cfgField s 3 0x0B 0 12 * 1000000) / 2) / (cfgField s 3 0x0B 0 12 * 1000000)) * (cfgField s 3 0x0B 0 12 * 1000000)) ∧ (cfgField s 3 0x0B 0 12 * 1000000) ≤ 2 ^ 30) :=
  ⟨⟨{tsinSt with time := 5000000000}, 4300000600, by decide +kernel⟩,
   ⟨{tsinSt with time := 5000000000}, 4000000600, by decide +kernel⟩⟩

/-- States that meet the hypotheses of `Obligations.Waystation`, clause by clause. -/
theorem witness_Waystation :
    (∃ (s : State) (t0 : Nat), t0 ≤ s.time ∧ t0 < 2 ^ 64 ∧ wsRole s = 2 ∧ s.time % wsPeriod s = 0 ∧ s.can[wsCtrl s].state < 4) ∧
    (∃ (s : State) (t0 : Nat), t0 ≤ s.time ∧ t0 < 2 ^ 64 ∧ wsRole s = 2 ∧ s.time % wsPeriod s = 0 ∧ (s.can[wsCtrl s].state = 4 ∨ s.can[wsCtrl s].state = 5)) ∧
    (∃ (s : State) (t0 : Nat), t0 ≤ s.time ∧ t0 < 2 ^ 64 ∧ s.ws.awaiting = true) ∧
    (∃ (s : State) (t0 : Nat), t0 ≤ s.time ∧ t0 < 2 ^ 64 ∧ s.ws.awaiting = false ∧ s.ws.syncReady.isSome = true) ∧
    (∃ (s : State) (seq : Byte) (t0 m : Nat), t0 ≤ s.time ∧ t0 < 2 ^ 64 ∧ s.ws.syncReady = some (seq, m) ∧ m + wsPeriod s / 2 ≤ s.mono) ∧
    (∃ (s : State) (dom seq : Byte) (t0 m : Nat) (rest : List WsFrame), t0 ≤ s.time ∧ t0 < 2 ^ 64 ∧ wsRole s = 1 ∧ s.ws.given = .sync seq t0 m :: rest ∧ dom.toNat = wsDomain s) ∧
    (∃ (s : State) (dom seq : Byte) (t0 m : Nat) (rest : List WsFrame), t0 ≤ s.time ∧ t0 < 2 ^ 64 ∧ wsRole s = 2 ∧ s.ws.given = .sync seq t0 m :: rest ∧ dom.toNat = wsDomain s) ∧
    (∃ (s : State) (t0 m j ts : Nat) (y : WsSync) (rest : List WsFrame), t0 ≤ s.time ∧ t0 < 2 ^ 64 ∧ wsRole s = 1 ∧ s.ws.given = .follow ts m :: rest ∧ s.ws.sync = some y ∧ m ≤ y.at_ + 10000000 ∧ y.twice = false ∧ (s.ws.lastSeq = none ∨ s.ws.lastSeq = some (y.seq - 1, j)) ∧ timeSrc s ≠ 2) ∧
    (∃ (s : State) (t0 m j ts : Nat) (y : WsSync) (rest : List WsFrame) (o : Int), t0 ≤ s.time ∧ t0 < 2 ^ 64 ∧ wsRole s = 1 ∧ s.ws.given = .follow ts m :: rest ∧ s.ws.sync = some y ∧ m ≤ y.at_ + 10000000 ∧ y.twice = false ∧ (s.ws.lastSeq = none ∨ s.ws.lastSeq = some (y.seq - 1, j)) ∧ timeSrc s = 2 ∧ stepAllowed s.md.mode = false ∧ o = (y.stamp : Int) - ts - cfgField s 3 0x12 0 16 ∧ o.natAbs < 2 ^ 31) ∧
    (∃ (s : State) (q : Byte) (t0 m j ts : Nat) (y : WsSync) (rest : List WsFrame), t0 ≤ s.time ∧ t0 < 2 ^ 64 ∧ wsRole s = 1 ∧ s.ws.given = .follow ts m :: rest ∧ s.ws.sync = some y ∧ (y.at_ + 10000000 < m ∨ y.twice = true ∨ (s.ws.lastSeq = some (q, j) ∧ y.seq ≠ q + 1 ∧ s.mono < j + wsLostMax s * wsPeriod s))) :=
  ⟨⟨{ wsSource with time := 16000000 }, 15000000, by decide +kernel⟩,
   ⟨{ wsSource with time := 16000000, can := Vector.replicate 2 { canReset with state := 4 } }, 15000000, by decide +kernel⟩,
   ⟨{ wsSource with ws := { wsReset with awaiting := true } }, 10000000, by decide +kernel⟩,
   ⟨{ wsSource with ws := { wsReset with syncReady := some (3, 8000000) } }, 10000000, by decide +kernel⟩,
   ⟨{ wsSource with mono := 90000000000, ws := { wsReset with syncReady := some (3, 8000000) } }, 3, 10000000, 8000000, by decide +kernel⟩,
   ⟨wsGiven wsReceiver [.sync 4 16000000 15999000] none none, 7, 4, 16000000, 15999000, [], by decide +kernel⟩,
   ⟨wsGiven wsSource [.sync 4 16000000 15999000] none none, 7, 4, 16000000, 15999000, [], by decide +kernel⟩,
   ⟨wsGiven wsReceiver [.follow 15000000 16000000] (some { seq := 0, stamp := 15000400, at_ := 15000000, twice := false }) (some (255, 8000000)), 10000000, 16000000, 8000000, 15000000, { seq := 0, stamp := 15000400, at_ := 15000000, twice := false }, [], by decide +kernel⟩,
   ⟨wsGiven (withRegs wsReceiver [(3, 8, 2)]) [.follow 15000000 16000000] (some { seq := 0, stamp := 15000400, at_ := 15000000, twice := false }) none, 10000000, 16000000, 8000000, 15000000, { seq := 0, stamp := 15000400, at_ := 15000000, twice := false }, [], 400, by decide +kernel⟩,
   ⟨wsGiven wsReceiver [.follow 15000000 16000000] (some { seq := 0, stamp := 15000400, at_ := 15000000, twice := true }) none, 7, 10000000, 16000000, 8000000, 15000000, { seq := 0, stamp := 15000400, at_ := 15000000, twice := true }, [], by decide +kernel⟩⟩

/-- States that meet the hypotheses of `Obligations.VoteMajority`, clause by clause. -/
theorem witness_VoteMajority :
    (∃ (m : Nat) (l : List (Lane × Nat)) (v : Nat), l.length ≤ 3 ∧ 2 ≤ m ∧ 2 ≤ (l.filter fun e => decide (e.2 = v)).length) ∧
    (∃ (m : Nat) (l : List (Lane × Nat)) (v : Nat), l.length ≤ 3 ∧ voted m l = some v) ∧
    (∃ (m : Nat) (l : List (Lane × Nat)), l.length ≤ 3 ∧ m < 2) :=
  ⟨⟨3, [(0,5),(1,6),(2,5)], 5, by decide +kernel⟩,
   ⟨3, [(0,5),(1,6),(2,5)], 5, by decide +kernel⟩,
   ⟨1, [(0,5),(1,5)], by decide +kernel⟩⟩

/-- States that meet the hypotheses of `Obligations.CommitCycle`, clause by clause. -/
theorem witness_CommitCycle :
    (∃ (s : State), s.cyc.running = true ∧ s.md.mode ≠ .hold ∧ s.md.mode ≠ .quiet) ∧
    (∃ (s : State), s.cyc.running = true ∧ s.md.mode = .prime ∧ primeTmo s ≠ 0 ∧ primeTmo s ≤ s.md.primeLasted + 1 ∧ s.md.cmd = none ∧ s.md.safePending = false ∧ cfgBit s 0 0x22 3 = false ∧ s.md.primeCnt + 1 < primeN s) :=
  ⟨⟨run0, by decide +kernel⟩,
   ⟨primeEnd, by decide +kernel⟩⟩

/-- States that meet the hypotheses of `Obligations.ImageDelivered`, clause by clause. -/
theorem witness_ImageDelivered :
    (∃ (s : State) (l : Lane) (dig : List Word), s.cyc.running = true ∧ lanesRun s.md.mode = true ∧ s.lane[l].run = .waiting ∧ s.lane[l].delivered = false ∧ s.cyc.finalPass = none ∧ s.cyc.closed = false ∧ imageWhole s l = true ∧ digestOk s l dig = true ∧ amWf 0 s.lane[l].mem = true ∧ amWf 0 s.cyc.image = true) ∧
    (∃ (s : State) (l : Lane) (dig : List Word), s.cyc.running = true ∧ lanesRun s.md.mode = true ∧ s.lane[l].run = .waiting ∧ s.lane[l].delivered = false ∧ s.cyc.finalPass = none ∧ s.cyc.closed = false ∧ s.cyc.member = 7 ∧ s.md.mode ≠ .limp ∧ (∀ k : Lane, k ≠ l → dig.getD k.val 0 ≠ dig.getD l.val 0) ∧ s.lane[l].pendCause = 0) :=
  ⟨⟨imageSt .waiting, 0, [1,1,1], by decide +kernel⟩,
   ⟨imageSt .waiting, 0, [1,2,2], by decide +kernel⟩⟩

/-- States that meet the hypotheses of `Obligations.VoteClose`, clause by clause. -/
theorem witness_VoteClose :
    (∃ (s : State), s.cyc.running = true ∧ lanesRun s.md.mode = true ∧ s.cyc.closed = false ∧ voteCloseAt s ≤ 2 ^ 64 - 8) ∧
    (∃ (s : State) (l : Lane), s.cyc.running = true ∧ lanesRun s.md.mode = true ∧ s.cyc.closed = false ∧ s.lane[l].run = .computing ∧ memberOf s l = true ∧ s.lane[l].pendCause = 0) ∧
    (∃ (s : State) (l : Lane), s.cyc.running = true ∧ lanesRun s.md.mode = true ∧ s.cyc.closed = false ∧ s.lane[l].run = .waiting ∧ s.lane[l].delivered = false ∧ s.cyc.member = 7 ∧ s.lane[l].pendCause = 0) ∧
    (∃ (s : State) (l : Lane), s.cyc.running = true ∧ lanesRun s.md.mode = true ∧ s.cyc.closed = false ∧ s.lane[l].run = .done ∧ s.lane[l].trapped = false ∧ s.lane[l].imgValid = true ∧ s.lane[l].state ≠ 5) :=
  ⟨⟨closeSt .computing 0, by decide +kernel⟩,
   ⟨closeSt .computing 0, 0, by decide +kernel⟩,
   ⟨lateImage, 1, by decide +kernel⟩,
   ⟨closeSt .done 0, 1, by decide +kernel⟩⟩

/-- States that meet the hypotheses of `Obligations.ReintegrationStages`, clause by clause. -/
theorem witness_ReintegrationStages :
    (∃ (s : State) (l : Lane), s.lane[l].state = 2) ∧
    (∃ (s : State) (l a c : Lane), donorChecker s = some (a, c) ∧ l ≠ a ∧ l ≠ c ∧ s.lane[l].state = 3 ∧ memRange s.lane[a].mem 0 0x80000 = memRange s.lane[c].mem 0 0x80000 ∧ amWf 0 s.lane[l].mem = true ∧ amWf 0 s.lane[a].mem = true) ∧
    (∃ (s : State) (l a c : Lane), donorChecker s = some (a, c) ∧ l ≠ a ∧ l ≠ c ∧ s.lane[l].state = 3 ∧ memRange s.lane[a].mem 0 0x80000 ≠ memRange s.lane[c].mem 0 0x80000 ∧ reintAllowed s = true ∧ s.lane[l].triesLeft = 0) ∧
    (∃ (s : State) (l a c : Lane), donorChecker s = some (a, c) ∧ l ≠ a ∧ l ≠ c ∧ s.lane[l].state = 4 ∧ (∀ r ∈ bulkRanges, cleanPart s.lane[l].dirty s.lane[a].mem r = cleanPart s.lane[l].dirty s.lane[c].mem r) ∧ amWf 0 s.lane[l].mem = true ∧ amWf 0 s.lane[a].mem = true) ∧
    (∃ (s : State) (l a c : Lane), donorChecker s = some (a, c) ∧ l ≠ a ∧ l ≠ c ∧ s.lane[l].state = 4 ∧ (∃ r ∈ bulkRanges, cleanPart s.lane[l].dirty s.lane[a].mem r ≠ cleanPart s.lane[l].dirty s.lane[c].mem r) ∧ reintAllowed s = true ∧ s.lane[l].triesLeft = 0) ∧
    (∃ (s : State) (l a c : Lane), donorChecker s = some (a, c) ∧ l ≠ a ∧ l ≠ c ∧ s.cyc.finalPass = some l ∧ (∀ b ∈ s.lane[l].dirty, blockEq s.lane[a].mem s.lane[c].mem b = true) ∧ amWf 0 s.lane[l].mem = true ∧ amWf 0 s.lane[a].mem = true) :=
  ⟨⟨reintSt 2 false, 2, by decide +kernel⟩,
   ⟨reintSt 3 false, 2, 0, 1, by decide +kernel⟩,
   ⟨reintSt 3 true, 2, 0, 1, by decide +kernel⟩,
   ⟨reintSt 4 false, 2, 0, 1, by decide +kernel⟩,
   ⟨bulkDiff, 2, 0, 1, by decide +kernel⟩,
   ⟨finalSt, 2, 0, 1, by decide +kernel⟩⟩

/-- States that meet the hypotheses of `Obligations.ReintegrationFailures`, clause by clause. -/
theorem witness_ReintegrationFailures :
    (∃ (s : State) (l : Lane) (n e : Nat), s.lane[l].clockOk = true ∧ s.lane[l].triesLeft = n ∧ reintAllowed s = true ∧ (s.lane[l].state = 2 ∧ e = s.lane[l].stageAt + 200000 ∨ s.lane[l].state = 3 ∧ e = s.lane[l].stageAt + 524288 ∨ s.lane[l].state = 4 ∧ s.cyc.running = true ∧ s.cyc.closed = false ∧ e ≤ (windowOf s).2 ∧ e = max (windowOf s).1 (s.lane[l].stageAt + 360448) + (131072 - s.lane[l].winUsed))) ∧
    (∃ (s : State) (l : Lane) (n : Nat), s.lane[l].clockOk = true ∧ s.lane[l].triesLeft = n ∧ reintAllowed s = true ∧ s.lane[l].state = 4 ∧ s.cyc.closed = true) ∧
    (∃ (s : State) (l : Lane) (n : Nat), s.lane[l].clockOk = true ∧ s.lane[l].triesLeft = n ∧ reintAllowed s = true ∧ s.lane[l].state = 5 ∧ s.cyc.finalPass = none ∧ convMax s ≤ s.lane[l].convCnt) ∧
    (∃ (s : State) (l : Lane) (e : Nat), s.lane[l].clockOk = true ∧ reintAllowed s = true ∧ s.lane[l].state = 4 ∧ s.cyc.running = true ∧ s.cyc.closed = false ∧ e ≤ (windowOf s).2 ∧ e = max (windowOf s).1 (s.lane[l].stageAt + 360448) + (131072 - s.lane[l].winUsed)) :=
  ⟨⟨stageLate, 2, 0, 524288, by decide +kernel⟩,
   ⟨{ reintSt 4 false with cyc := { (reintSt 4 false).cyc with closed := true } }, 2, 0, by decide +kernel⟩,
   ⟨convSt, 2, 0, by decide +kernel⟩,
   ⟨reintSt 4 false, 2, max (windowOf (reintSt 4 false)).1 360448 + 131072, by decide +kernel⟩⟩

/-- States that meet the hypotheses of `Obligations.LaneStart`, clause by clause. -/
theorem witness_LaneStart :
    (∃ (s : State) (l : Lane), s.md.mode = .hold ∧ s.md.laneStarted = false ∧ (s.md.row4 = some true ∨ (s.md.row4 = none ∧ s.md.cmd = some (.prime false))) ∧ primeReady s = true ∧ amWf 0 s.lane[l].mem = true) ∧
    (∃ (s : State) (l : Lane) (r : RetainRec), s.md.mode = .hold ∧ s.md.laneStarted = false ∧ s.md.row4 = none ∧ s.md.cmd = some (.prime true) ∧ primeReady s = true ∧ retainNewest s = some r ∧ retainFits s r = true ∧ amWf 0 s.lane[l].mem = true) ∧
    (∃ (s : State), s.md.mode = .hold ∧ s.md.laneStarted = false ∧ s.md.row4 = none ∧ s.md.cmd = some (.prime true) ∧ (retainNewest s).filter (retainFits s) = none) ∧
    (∃ (s : State), s.md.mode = .hold ∧ s.md.laneStarted = false ∧ s.md.row4 = none ∧ s.md.cmd = some (.prime false) ∧ primeReady s = false) :=
  ⟨⟨startSt, 0, by decide +kernel⟩,
   ⟨warmSt warmDir, 0, { slot := false, gen := 1, cycle := 5, layout := 0, len := 0, data := [] }, by decide +kernel, by decide +kernel, by decide +kernel, by decide +kernel, by decide +kernel, warm_newest _ (warmSt_store _), by decide +kernel, by decide +kernel⟩,
   ⟨{ startSt with md := { startSt.md with row4 := none, cmd := some (.prime true) } }, by decide +kernel⟩,
   ⟨{ startSt with md := { startSt.md with row4 := none, cmd := some (.prime false) }, pwr := { startSt.pwr with lclk := 5 } }, by decide +kernel⟩⟩

/-- States that meet the hypotheses of `Obligations.ResetEntries`, clause by clause. -/
theorem witness_ResetEntries :
    (∃ (s : State) (p : Port), Accepted s p (writeOf 0 0x11 [0x5A000001#32])) ∧
    (∃ (s : State) (p : Port), Accepted s p (writeOf 0 0x11 [0x5A000002#32])) :=
  ⟨⟨run0, 0, by unfold Accepted; decide +kernel⟩,
   ⟨run0, 0, by unfold Accepted; decide +kernel⟩⟩

/-- States that meet the hypotheses of `Obligations.ResetReleaseAndBoot`, clause by clause. -/
theorem witness_ResetReleaseAndBoot :
    (∃ (s : State), s.boot.inReset = true ∧ s.boot.testHold = true) ∧
    (∃ (s : State) (sel : BitVec 2), s.boot.inReset = true ∧ s.boot.testHold = false ∧ s.boot.sources.getLsbD 0 = true ∧ s.vddio.getLsbD 0 = true ∧ sel = 3) ∧
    (∃ (s : State) (sel : BitVec 2), s.boot.inReset = true ∧ s.boot.testHold = false ∧ s.boot.sources.getLsbD 0 = true ∧ s.vddio.getLsbD 0 = true ∧ sel ≠ 3 ∧ s.vddio.getLsbD 4 = false) ∧
    (∃ (s : State) (sel : BitVec 2), s.boot.inReset = true ∧ s.boot.testHold = false ∧ s.boot.sources.getLsbD 0 = true ∧ s.vddio.getLsbD 0 = true ∧ sel ≠ 3 ∧ s.vddio.getLsbD 4 = true ∧ dirPick s.store = none) ∧
    (∃ (s : State), s.vddio.getLsbD 0 = false) ∧
    (∃ (s : State) (sel : BitVec 2), s.boot.inReset = true ∧ s.boot.testHold = false ∧ s.boot.sources.getLsbD 0 = false ∧ sel = 3) ∧
    (∃ (s : State), s.boot.inReset = false) ∧
    (∃ (s : State), booting s = true ∧ s.boot.phase = 8 ∧ cfgField s 0 0x22 0 2 ≠ 2) ∧
    (∃ (s : State), booting s = true ∧ s.boot.phase = 8 ∧ cfgField s 0 0x22 0 2 = 2 ∧ s.pwr.wakeHigh = false ∧ s.pwr.alarmArmed = false) :=
  ⟨⟨{ Sys2Proof.Machine.State.reset with boot := { bootReset with testHold := true } }, by decide +kernel⟩,
   ⟨Sys2Proof.Machine.State.reset, 3, by decide +kernel⟩,
   ⟨{ Sys2Proof.Machine.State.reset with vddio := 15 }, 0, by decide +kernel⟩,
   ⟨Sys2Proof.Machine.State.reset, 0, by decide +kernel⟩,
   ⟨{ Sys2Proof.Machine.State.reset with vddio := 30 }, by decide +kernel⟩,
   ⟨pinSt, 3, by decide +kernel⟩,
   ⟨bootEnd, by decide +kernel⟩,
   ⟨bootEnd, by decide +kernel⟩,
   ⟨withRegs bootEnd [(0, 0x22, 2)], by decide +kernel⟩⟩

/-- States that meet the hypotheses of `Obligations.ModeCommands`, clause by clause. -/
theorem witness_ModeCommands :
    (∃ (s : State) (p : Port), Accepted s p (writeOf 0 0x21 [0xA5000001#32]) ∧ s.md.mode = .hold) ∧
    (∃ (s : State) (p : Port), Accepted s p (writeOf 0 0x21 [0xA5000002#32]) ∧ s.md.mode ≠ .quiet ∧ s.md.mode ≠ .hold) ∧
    (∃ (s : State) (p : Port), Accepted s p (writeOf 0 0x21 [0xA5000002#32]) ∧ s.md.mode = .quiet) ∧
    (∃ (s : State) (p : Port) (warm : Bool), Accepted s p (writeOf 0 0x21 [if warm then 0xA500000B#32 else 0xA5000003#32]) ∧ s.md.mode = .hold) ∧
    (∃ (s : State) (p : Port), Accepted s p (writeOf 0 0x21 [0xA5000007#32]) ∧ lanesRun s.md.mode = true) :=
  ⟨⟨hold0, 0, by unfold Accepted; decide +kernel⟩,
   ⟨run0, 0, by unfold Accepted; decide +kernel⟩,
   ⟨quiet0, 0, by unfold Accepted; decide +kernel⟩,
   ⟨hold0, 0, true, by unfold Accepted; decide +kernel⟩,
   ⟨run0, 0, by unfold Accepted; decide +kernel⟩⟩

/-- States that meet the hypotheses of `Obligations.PowerCommands`, clause by clause. -/
theorem witness_PowerCommands :
    (∃ (s : State) (p : Port) (d : FDie) (viso : Nat), s.md.mode ≠ .quiet ∧ Accepted { s with pwr := { s.pwr with viso := viso } } p (writeOf 0 0x23 [pwrctlWord s ||| place d.val 1]) ∧ powered s (toDie d) = false) ∧
    (∃ (s : State) (p : Port) (d : FDie), s.md.mode ≠ .quiet ∧ Accepted s p (writeOf 0 0x23 [pwrctlWord s &&& ~~~(place d.val 1)]) ∧ powered s (toDie d) = true) ∧
    (∃ (s : State) (p : Port) (lc : BitVec 3), s.md.mode ≠ .quiet ∧ Accepted s p (writeOf 0 0x23 [(pwrctlWord s &&& ~~~0xE0#32) ||| place 5 lc.toNat])) ∧
    (∃ (s : State) (p : Port) (m : BitVec 16), s.md.mode ≠ .quiet ∧ Accepted s p (writeOf 0 0x23 [(pwrctlWord s &&& 0xFFFF#32) ||| place 16 m.toNat])) ∧
    (∃ (s : State) (p : Port) (m : BitVec 16), s.md.mode ≠ .quiet ∧ Accepted s p (writeOf 0 0x24 [place 0 m.toNat])) :=
  ⟨⟨offF1, 0, 1, 5000, by unfold Accepted; decide +kernel⟩,
   ⟨hold0, 0, 1, by unfold Accepted; decide +kernel⟩,
   ⟨offF1, 0, 5, by unfold Accepted; decide +kernel⟩,
   ⟨offF1, 0, 0x8001, by unfold Accepted; decide +kernel⟩,
   ⟨offF1, 0, 0x8001, by unfold Accepted; decide +kernel⟩⟩

/-- States that meet the hypotheses of `Obligations.SupplyEvents`, clause by clause. -/
theorem witness_SupplyEvents :
    (∃ (s : State) (e : Die), s.boot.inReset = false ∧ powered s e = true ∧ s.die[e].loading = true) ∧
    (∃ (s : State) (e : Die) (dig : List Word), s.boot.inReset = false ∧ powered s e = true ∧ s.die[e].loading = true ∧ dig ≠ ucodeOf s e) ∧
    (∃ (s : State) (mv : Nat), s.boot.inReset = false ∧ mv < 4600 ∧ 4600 ≤ s.pwr.viso) ∧
    (∃ (s : State) (mv : Nat), s.boot.inReset = false ∧ mv < 4600 ∧ s.pwr.viso < 4600) ∧
    (∃ (s : State) (mv : Nat), s.boot.inReset = false ∧ mv < 4200 ∧ 4600 ≤ s.pwr.viso) ∧
    (∃ (s : State), s.boot.inReset = false) ∧
    (∃ (s : State) (d : FDie), s.boot.inReset = false ∧ s.field[d].vbbLow = true) ∧
    (∃ (s : State) (d : FDie), s.boot.inReset = false ∧ powered s (toDie d) = true ∧ uplinksDown s (toDie d) = false) :=
  ⟨⟨loadingLd, 4, by decide +kernel⟩,
   ⟨loadingLd, 4, [1,2,3,4,5,6,7,8], by decide +kernel⟩,
   ⟨{ loadingLd with pwr := { loadingLd.pwr with viso := 5000 } }, 4599, by decide +kernel⟩,
   ⟨{ loadingLd with pwr := { loadingLd.pwr with viso := 4599 } }, 4598, by decide +kernel⟩,
   ⟨{ loadingLd with pwr := { loadingLd.pwr with viso := 4600 } }, 4199, by decide +kernel⟩,
   ⟨loadingLd, by decide +kernel⟩,
   ⟨{loadingLd with field := loadingLd.field.set 1 {loadingLd.field[1] with vbbLow := true}}, 1, by decide +kernel⟩,
   ⟨loadingLd, 1, by decide +kernel⟩⟩

/-- States that meet the hypotheses of `Obligations.WakeSources`, clause by clause. -/
theorem witness_WakeSources :
    (∃ (s : State), wakeOn s 0 = true) ∧
    (∃ (s : State) (high : Bool), (high = false ∨ wakeOn s 0 = false)) ∧
    (∃ (s : State) (c : Ctrl) (f : CanFrame), wakeOn s (1 + c.val) = true ∧ canHears s c = true ∧ (f.fdf = true → canFd s c = true) ∧ f.rtr = false ∧ filterHit s c (frameIdw f.ide f.fdf f.brs f.id.toNat) 0 = true) ∧
    (∃ (s : State) (c : Ctrl) (f : CanFrame), (wakeOn s (1 + c.val) = false ∨ canHears s c = false ∨ f.rtr = true ∨ (f.fdf = true ∧ canFd s c = false))) ∧
    (∃ (s : State), wakeOn s 3 = true ∧ s.pwr.alarmArmed = true ∧ wakeTime s ≤ 2 ^ 64 - 8) ∧
    (∃ (s : State), (wakeOn s 3 = false ∨ s.pwr.alarmArmed = false)) ∧
    (∃ (s : State), s.md.mode ≠ .quiet) :=
  ⟨⟨wakeSt, by decide +kernel⟩,
   ⟨quiet0, true, by decide +kernel⟩,
   ⟨{ wakeSt with can := Vector.replicate 2 { canReset with state := 3 } }, 0, canFrame, by decide +kernel⟩,
   ⟨wakeSt, 0, canFrame, by decide +kernel⟩,
   ⟨wakeSt, by decide +kernel⟩,
   ⟨hold0, by decide +kernel⟩,
   ⟨hold0, by decide +kernel⟩⟩

/-- States that meet the hypotheses of `Obligations.HostFrames`, clause by clause. -/
theorem witness_HostFrames :
    (∃ (s : State) (p : Port) (page off : Nat) (echo : List Byte), portInert s p = false ∧ page < 22 ∧ off < 65536 ∧ amWf 0 s.regs = true ∧ amWf 0 s.shadow = true ∧ echo = [s.port[p].last, BitVec.ofNat 8 s.port[p].seq, echoByte s p] ∧ page ≠ 15 ∧ page ≠ 16 ∧ off ≤ pageLast page ∧ hiOf page off = none ∧ (∀ e ∈ s.port[p].latch, e.1 ≠ regKey page off) ∧ Accepted s p (readOf 0 page off 1)) ∧
    (∃ (s : State) (p : Port) (page off n : Nat) (w : Word) (echo : List Byte), portInert s p = false ∧ page < 22 ∧ off < 65536 ∧ amWf 0 s.regs = true ∧ amWf 0 s.shadow = true ∧ echo = [s.port[p].last, BitVec.ofNat 8 s.port[p].seq, echoByte s p] ∧ n < 128 ∧ Accepted s p (writeOf 1 (0x100 + n) [w])) ∧
    (∃ (s : State) (p : Port) (page off : Nat) (w : Word) (echo : List Byte), portInert s p = false ∧ page < 22 ∧ off < 65536 ∧ amWf 0 s.regs = true ∧ amWf 0 s.shadow = true ∧ echo = [s.port[p].last, BitVec.ofNat 8 s.port[p].seq, echoByte s p] ∧ Accepted s p (writeOf 4 0 [w])) ∧
    (∃ (s : State) (p : Port) (page off : Nat) (ws : List Word) (part : Bool) (echo : List Byte), portInert s p = false ∧ page < 22 ∧ off < 65536 ∧ amWf 0 s.regs = true ∧ amWf 0 s.shadow = true ∧ echo = [s.port[p].last, BitVec.ofNat 8 s.port[p].seq, echoByte s p] ∧ frameCode s p { cmd := 1, page := page, off := off, words := ws, part := part } ≠ 0) ∧
    (∃ (s : State) (p : Port) (page off : Nat) (echo : List Byte), portInert s p = false ∧ page < 22 ∧ off < 65536 ∧ amWf 0 s.regs = true ∧ amWf 0 s.shadow = true ∧ echo = [s.port[p].last, BitVec.ofNat 8 s.port[p].seq, echoByte s p] ∧ off ≤ pageLast 7 ∧ Accepted s p (readOf 2 7 off 1)) ∧
    (∃ (s : State) (p : Port) (page off : Nat) (echo : List Byte), portInert s p = false ∧ page < 22 ∧ off < 65536 ∧ amWf 0 s.regs = true ∧ amWf 0 s.shadow = true ∧ echo = [s.port[p].last, BitVec.ofNat 8 s.port[p].seq, echoByte s p]) ∧
    (∃ (s : State) (p : Port) (page off : Nat) (ws : List Word) (_part : Bool) (echo : List Byte), portInert s p = false ∧ page < 22 ∧ off < 65536 ∧ amWf 0 s.regs = true ∧ amWf 0 s.shadow = true ∧ echo = [s.port[p].last, BitVec.ofNat 8 s.port[p].seq, echoByte s p] ∧ cfgField s 17 p.val 8 8 ≠ 0 ∧ frameCode s p { cmd := 1, page := page, off := off, words := ws, part := false } = 0) :=
  ⟨⟨hold0, 0, 3, 0x0C, [hold0.port[(0 : Port)].last, BitVec.ofNat 8 hold0.port[(0 : Port)].seq, echoByte hold0 0], by unfold Accepted; decide +kernel⟩,
   ⟨hold0, 0, 3, 0x0C, 127, 0x12345678, [hold0.port[(0 : Port)].last, BitVec.ofNat 8 hold0.port[(0 : Port)].seq, echoByte hold0 0], by unfold Accepted; decide +kernel⟩,
   ⟨hold0, 0, 3, 0x0C, 0x12345678, [hold0.port[(0 : Port)].last, BitVec.ofNat 8 hold0.port[(0 : Port)].seq, echoByte hold0 0], by unfold Accepted; decide +kernel⟩,
   ⟨hold0, 0, 3, 0x0C, [1, 2], false, [hold0.port[(0 : Port)].last, BitVec.ofNat 8 hold0.port[(0 : Port)].seq, echoByte hold0 0], by decide +kernel⟩,
   ⟨hold0, 0, 3, 0x0C, [hold0.port[(0 : Port)].last, BitVec.ofNat 8 hold0.port[(0 : Port)].seq, echoByte hold0 0], by unfold Accepted; decide +kernel⟩,
   ⟨hold0, 0, 3, 0x0C, [hold0.port[(0 : Port)].last, BitVec.ofNat 8 hold0.port[(0 : Port)].seq, echoByte hold0 0], by decide +kernel⟩,
   ⟨hold0, 0, 4, 0, [0x12345678, checkWord 1 4 0 [0x12345678]], false, [hold0.port[(0 : Port)].last, BitVec.ofNat 8 hold0.port[(0 : Port)].seq, echoByte hold0 0], by decide +kernel⟩⟩

/-- States that meet the hypotheses of `Obligations.PeerAndMemoryPort`, clause by clause. -/
theorem witness_PeerAndMemoryPort :
    (∃ (s : State) (coll : Nat) (ws : List Word), amWf 0 s.regs = true ∧ Memory.wf 0xFF s.store = true ∧ s.peer.busy = some ws ∧ s.vddio.getLsbD 3 = true ∧ coll ≤ cfgField s 17 0x10 4 3) ∧
    (∃ (s : State) (coll : Nat), amWf 0 s.regs = true ∧ Memory.wf 0xFF s.store = true ∧ s.peer.busy.isSome = true ∧ s.vddio.getLsbD 3 = true ∧ cfgField s 17 0x10 4 3 < coll) ∧
    (∃ (s : State), amWf 0 s.regs = true ∧ Memory.wf 0xFF s.store = true ∧ s.vddio.getLsbD 3 = false) ∧
    (∃ (s : State), amWf 0 s.regs = true ∧ Memory.wf 0xFF s.store = true ∧ s.peer.busy.isSome = true ∧ s.vddio.getLsbD 3 = true) ∧
    (∃ (s : State) (sel : Fin 2) (o : MpOp), amWf 0 s.regs = true ∧ Memory.wf 0xFF s.store = true ∧ s.mp.op[sel] = some o ∧ o.suspended = false ∧ o.owner = 5) ∧
    (∃ (s : State) (sel : Fin 2) (o : MpOp), amWf 0 s.regs = true ∧ Memory.wf 0xFF s.store = true ∧ s.mp.op[sel] = some o ∧ o.suspended = false ∧ o.owner = 4 ∧ s.boot.confirming = false) ∧
    (∃ (s : State) (sel : Fin 2) (o : MpOp), amWf 0 s.regs = true ∧ Memory.wf 0xFF s.store = true ∧ s.mp.op[sel] = some o ∧ o.suspended = true) ∧
    (∃ (s : State) (sel : Fin 2) (o : MpOp) (k : Lane) (ra : Nat), amWf 0 s.regs = true ∧ Memory.wf 0xFF s.store = true ∧ s.mp.op[sel] = some o ∧ mpIsNor s sel.val = true ∧ o.kind ≠ .read ∧ s.lane[k].lineReq = some ra ∧ selOf ra = sel.val) ∧
    (∃ (s : State), amWf 0 s.regs = true ∧ Memory.wf 0xFF s.store = true ∧ (∀ j : Lane, s.lane[j].lineReq = none)) ∧
    (∃ (s : State) (p : Port) (n : Byte), amWf 0 s.regs = true ∧ Memory.wf 0xFF s.store = true ∧ Accepted s p (writeOf 21 0x11 [keyed 0xC3#8 (place 0 1 ||| place 8 n.toNat)]) ∧ MpIdle s (selOf (mpxAddr s))) ∧
    (∃ (s : State) (p : Port) (n : Byte), amWf 0 s.regs = true ∧ Memory.wf 0xFF s.store = true ∧ Accepted s p (writeOf 21 0x11 [keyed 0xC3#8 (place 0 2 ||| place 8 n.toNat)]) ∧ MpIdle s (selOf (mpxAddr s))) ∧
    (∃ (s : State) (p : Port), amWf 0 s.regs = true ∧ Memory.wf 0xFF s.store = true ∧ Accepted s p (writeOf 21 0x11 [keyed 0xC3#8 (place 0 3)]) ∧ MpIdle s (selOf (mpxAddr s))) ∧
    (∃ (s : State) (p : Port), amWf 0 s.regs = true ∧ Memory.wf 0xFF s.store = true ∧ Accepted s p (writeOf 21 0x11 [keyed 0xC3#8 (place 0 4)]) ∧ MpIdle s (selOf (mpxAddr s))) ∧
    (∃ (s : State), amWf 0 s.regs = true ∧ Memory.wf 0xFF s.store = true ∧ s.mp.xstate = 1 ∧ MpBusy s (selOf s.mp.xaddr) 5 ∧ mpType s (selOf s.mp.xaddr) ≠ 0 ∧ s.mp.xop = 4) ∧
    (∃ (s : State) (i : Nat), amWf 0 s.regs = true ∧ Memory.wf 0xFF s.store = true ∧ s.mp.xstate = 1 ∧ MpBusy s (selOf s.mp.xaddr) 5 ∧ mpType s (selOf s.mp.xaddr) ≠ 0 ∧ s.mp.xop = 1 ∧ s.mp.xn ≤ 64 ∧ i < s.mp.xn) ∧
    (∃ (s : State), amWf 0 s.regs = true ∧ Memory.wf 0xFF s.store = true ∧ s.mp.xstate = 1 ∧ MpBusy s (selOf s.mp.xaddr) 5 ∧ mpType s (selOf s.mp.xaddr) ≠ 0 ∧ s.mp.xop = 1) ∧
    (∃ (s : State) (i : Nat), amWf 0 s.regs = true ∧ Memory.wf 0xFF s.store = true ∧ s.mp.xstate = 1 ∧ MpBusy s (selOf s.mp.xaddr) 5 ∧ mpType s (selOf s.mp.xaddr) ≠ 0 ∧ s.mp.xop = 3 ∧ s.mp.xaddr ≤ i ∧ i < s.mp.xaddr + eraseUnit s (selOf s.mp.xaddr)) ∧
    (∃ (s : State) (i : Nat), amWf 0 s.regs = true ∧ Memory.wf 0xFF s.store = true ∧ s.mp.xstate = 1 ∧ MpBusy s (selOf s.mp.xaddr) 5 ∧ mpType s (selOf s.mp.xaddr) ≠ 0 ∧ s.mp.xop = 3 ∧ (i < s.mp.xaddr ∨ s.mp.xaddr + eraseUnit s (selOf s.mp.xaddr) ≤ i)) ∧
    (∃ (s : State), amWf 0 s.regs = true ∧ Memory.wf 0xFF s.store = true ∧ s.mp.xstate = 1 ∧ MpBusy s (selOf s.mp.xaddr) 5 ∧ mpType s (selOf s.mp.xaddr) = 0 ∧ s.mp.xop = 1) ∧
    (∃ (s : State), amWf 0 s.regs = true ∧ Memory.wf 0xFF s.store = true ∧ ¬MpBusy s (selOf s.mp.xaddr) 5 ∧ (vget s.mp.op (selOf s.mp.xaddr) none).isSome = true) :=
  ⟨⟨storeOpSt 5 true, 3, [1], by decide +kernel⟩,
   ⟨storeOpSt 4 true, 4, by decide +kernel⟩,
   ⟨{ storeOpSt 5 true with vddio := 0x17 }, by decide +kernel⟩,
   ⟨storeOpSt 5 true, by decide +kernel⟩,
   ⟨storeOpSt 5 true, 0, { owner := 5, kind := .erase, suspended := false }, by decide +kernel⟩,
   ⟨storeOpSt 4 true, 0, { owner := 4, kind := .erase, suspended := false }, by decide +kernel⟩,
   ⟨norSt true, 0, { owner := 5, kind := .erase, suspended := true }, by decide +kernel⟩,
   ⟨norSt false, 0, { owner := 5, kind := .erase, suspended := false }, 0, 0x3000, by decide +kernel⟩,
   ⟨hold0, by decide +kernel⟩,
   ⟨rawSt 0 0x300000, 0, 64, by unfold Accepted MpIdle; decide +kernel⟩,
   ⟨rawSt 0 0x300000, 0, 4, by unfold Accepted MpIdle; decide +kernel⟩,
   ⟨rawSt 0 0x300000, 0, by unfold Accepted MpIdle; decide +kernel⟩,
   ⟨rawSt 0 0x300000, 0, by unfold Accepted MpIdle; decide +kernel⟩,
   ⟨busySt 5 .read (rawSt 4 0x300000), by decide +kernel, by decide +kernel, by decide +kernel, ⟨by decide +kernel, .read, by decide +kernel⟩, by decide +kernel, by decide +kernel⟩,
   ⟨{ (busySt 5 .read (rawSt 1 0x300000)) with mp := { (busySt 5 .read (rawSt 1 0x300000)).mp with xn := 64 } }, 63, by decide +kernel, by decide +kernel, by decide +kernel, ⟨by decide +kernel, .read, by decide +kernel⟩, by decide +kernel, by decide +kernel, by decide +kernel, by decide +kernel⟩,
   ⟨busySt 5 .read (rawSt 1 0x300000), by decide +kernel, by decide +kernel, by decide +kernel, ⟨by decide +kernel, .read, by decide +kernel⟩, by decide +kernel, by decide +kernel⟩,
   ⟨busySt 5 .erase (rawSt 3 0x300000), 0x300FFF, by decide +kernel, by decide +kernel, by decide +kernel, ⟨by decide +kernel, .erase, by decide +kernel⟩, by decide +kernel, by decide +kernel, by decide +kernel, by decide +kernel⟩,
   ⟨busySt 5 .erase (rawSt 3 0x300000), 0x2FFFFF, by decide +kernel, by decide +kernel, by decide +kernel, ⟨by decide +kernel, .erase, by decide +kernel⟩, by decide +kernel, by decide +kernel, by decide +kernel⟩,
   ⟨busySt 5 .read (withRegs (rawSt 1 0x300000) [(21,2,0)]), by decide +kernel, by decide +kernel, by decide +kernel, ⟨by decide +kernel, .read, by decide +kernel⟩, by decide +kernel, by decide +kernel⟩,
   ⟨storeOpSt 4 true, by decide +kernel, by decide +kernel, fun h => by obtain ⟨_, k, h⟩ := h; revert h; cases k <;> decide +kernel, by decide +kernel⟩⟩

/-- States that meet the hypotheses of `Obligations.StoreLoads`, clause by clause. -/
theorem witness_StoreLoads :
    (∃ (s : State) (p : Port) (ty : BitVec 8), Memory.wf 0xFF s.store = true ∧ Accepted s p (writeOf 5 0x10 [keyed 0x96#8 (place 0 1 ||| place 16 ty.toNat)]) ∧ plStartErr s ty.toNat (cfgWord s 5 0x11).toNat (cfgWord s 5 0x12).toNat = 0 ∧ (cfgWord s 5 0x12).toNat ≠ 0 ∧ MpIdle s (selOf (cfgWord s 5 0x11).toNat)) ∧
    (∃ (s : State) (p : Port) (ty : BitVec 8), Memory.wf 0xFF s.store = true ∧ Accepted s p (writeOf 5 0x10 [keyed 0x96#8 (place 0 1 ||| place 16 ty.toNat)]) ∧ plStartErr s ty.toNat (cfgWord s 5 0x11).toNat (cfgWord s 5 0x12).toNat ≠ 0) ∧
    (∃ (s : State) (p : Port) (n : BitVec 8), Memory.wf 0xFF s.store = true ∧ Accepted s p (writeOf 5 0x10 [keyed 0x96#8 (place 0 2 ||| place 8 n.toNat)]) ∧ s.pl.state = 2 ∧ (cfgWord s 5 0x12).toNat ≠ 0 ∧ s.pl.pos + 4 * n.toNat ≤ (cfgWord s 5 0x12).toNat ∧ meetsAny (plBarred s s.pl.type) ((cfgWord s 5 0x11).toNat + s.pl.pos) ((cfgWord s 5 0x11).toNat + s.pl.pos + 4 * n.toNat) = false) ∧
    (∃ (s : State) (p : Port) (n : BitVec 8), Memory.wf 0xFF s.store = true ∧ Accepted s p (writeOf 5 0x10 [keyed 0x96#8 (place 0 2 ||| place 8 n.toNat)]) ∧ s.pl.state = 2 ∧ (cfgWord s 5 0x12).toNat ≠ 0 ∧ s.pl.pos + 4 * n.toNat ≤ (cfgWord s 5 0x12).toNat ∧ meetsAny (plBarred s s.pl.type) ((cfgWord s 5 0x11).toNat + s.pl.pos) ((cfgWord s 5 0x11).toNat + s.pl.pos + 4 * n.toNat) = true) ∧
    (∃ (s : State) (p : Port) (n : BitVec 8), Memory.wf 0xFF s.store = true ∧ Accepted s p (writeOf 5 0x10 [keyed 0x96#8 (place 0 2 ||| place 8 n.toNat)]) ∧ s.pl.state = 2 ∧ (cfgWord s 5 0x12).toNat < s.pl.pos + 4 * n.toNat ∧ (cfgWord s 5 0x12).toNat ≠ 0) ∧
    (∃ (s : State) (p : Port) (n : BitVec 8), Memory.wf 0xFF s.store = true ∧ Accepted s p (writeOf 5 0x10 [keyed 0x96#8 (place 0 2 ||| place 8 n.toNat)]) ∧ (s.pl.state ≠ 2 ∨ (cfgWord s 5 0x12).toNat = 0)) ∧
    (∃ (s : State) (p : Port), Memory.wf 0xFF s.store = true ∧ Accepted s p (writeOf 5 0x10 [keyed 0x96#8 (place 0 3)]) ∧ s.pl.state = 2 ∧ s.pl.pos = (cfgWord s 5 0x12).toNat) ∧
    (∃ (s : State) (p : Port), Memory.wf 0xFF s.store = true ∧ Accepted s p (writeOf 5 0x10 [keyed 0x96#8 (place 0 3)]) ∧ s.pl.state = 2 ∧ s.pl.pos ≠ (cfgWord s 5 0x12).toNat) ∧
    (∃ (s : State) (p : Port), Memory.wf 0xFF s.store = true ∧ Accepted s p (writeOf 5 0x10 [keyed 0x96#8 (place 0 3)]) ∧ s.pl.state ≠ 2) ∧
    (∃ (s : State) (p : Port), Memory.wf 0xFF s.store = true ∧ Accepted s p (writeOf 5 0x10 [keyed 0x96#8 (place 0 4)])) ∧
    (∃ (s : State) (p : Port) (n : BitVec 8), Memory.wf 0xFF s.store = true ∧ Accepted s p (writeOf 5 0x10 [keyed 0x96#8 (place 0 5 ||| place 8 n.toNat)]) ∧ s.boot.trial = false ∧ s.pl.loading = false) ∧
    (∃ (s : State) (p : Port) (n : BitVec 8), Memory.wf 0xFF s.store = true ∧ Accepted s p (writeOf 5 0x10 [keyed 0x96#8 (place 0 5 ||| place 8 n.toNat)]) ∧ (s.boot.trial = true ∨ s.pl.loading = true)) ∧
    (∃ (s : State), Memory.wf 0xFF s.store = true ∧ s.pl.state = 1 ∧ MpBusy s (selOf s.pl.base) 4 ∧ meetsAny (plBarred s s.pl.type) s.pl.base (s.pl.base + s.pl.len) = false) ∧
    (∃ (s : State), Memory.wf 0xFF s.store = true ∧ s.pl.state = 1 ∧ MpBusy s (selOf s.pl.base) 4 ∧ meetsAny (plBarred s s.pl.type) s.pl.base (s.pl.base + s.pl.len) = true) ∧
    (∃ (s : State), Memory.wf 0xFF s.store = true ∧ s.pl.state = 3 ∧ MpBusy s (selOf s.pl.base) 4 ∧ meetsAny (plBarred s s.pl.type) (s.pl.base + s.pl.pos) (s.pl.base + s.pl.pos + s.pl.chunk.length) = false) ∧
    (∃ (s : State), Memory.wf 0xFF s.store = true ∧ s.pl.state = 4 ∧ MpBusy s 0 4 ∧ plFinishErr s = 0) ∧
    (∃ (s : State), Memory.wf 0xFF s.store = true ∧ s.pl.state = 4 ∧ MpBusy s 0 4 ∧ plFinishErr s ≠ 0) ∧
    (∃ (s : State), Memory.wf 0xFF s.store = true ∧ s.pl.state = 7 ∧ MpBusy s 0 4) :=
  ⟨⟨plSt 0 0x100000 0x2000 0 false, 0, 0x60, by unfold Accepted MpIdle; decide +kernel⟩,
   ⟨plSt 0 0x100004 0x2000 0 false, 0, 0x40, by unfold Accepted; decide +kernel⟩,
   ⟨plSt 2 0x100000 0x2000 0x1FF0, 0, 4, by unfold Accepted; decide +kernel⟩,
   ⟨plSt 2 0x1000 0x2000 0x1F0, 0, 4, by unfold Accepted; decide +kernel⟩,
   ⟨plSt 2 0x100000 0x2000 0x1FF0, 0, 5, by unfold Accepted; decide +kernel⟩,
   ⟨plSt 0 0x100000 0x2000 0 false, 0, 4, by unfold Accepted; decide +kernel⟩,
   ⟨plSt 2 0x100000 0x2000 0x2000, 0, by unfold Accepted; decide +kernel⟩,
   ⟨plSt 2 0x100000 0x2000 0x1FF0, 0, by unfold Accepted; decide +kernel⟩,
   ⟨plSt 0 0x100000 0x2000 0 false, 0, by unfold Accepted; decide +kernel⟩,
   ⟨plSt 0 0x100000 0x2000 0 false, 0, by unfold Accepted; decide +kernel⟩,
   ⟨plSt 0 0x100000 0x2000 0 false, 0, 4, by unfold Accepted; decide +kernel⟩,
   ⟨plSt 2 0x100000 0x2000 0x1FF0, 0, 4, by unfold Accepted; decide +kernel⟩,
   ⟨busySt 4 .erase (plSt 1 0x100000 0x2000 0), by decide +kernel, by decide +kernel, ⟨by decide +kernel, .erase, by decide +kernel⟩, by decide +kernel⟩,
   ⟨{ (busySt 4 .erase (plSt 1 0 0x2000 0)) with pl := { (plSt 1 0 0x2000 0).pl with base := 0x1000 } }, by decide +kernel, by decide +kernel, ⟨by decide +kernel, .erase, by decide +kernel⟩, by decide +kernel⟩,
   ⟨busySt 4 .program (plSt 3 0x100000 0x2000 0x100), by decide +kernel, by decide +kernel, ⟨by decide +kernel, .program, by decide +kernel⟩, by decide +kernel⟩,
   ⟨busySt 4 .program plEnd, by decide +kernel, by decide +kernel, ⟨by decide +kernel, .program, by decide +kernel⟩, by decide +kernel⟩,
   ⟨busySt 4 .program { plEnd with pl := { plEnd.pl with crc := 0 } }, by decide +kernel, by decide +kernel, ⟨by decide +kernel, .program, by decide +kernel⟩, by decide +kernel⟩,
   ⟨busySt 4 .program (plSt 7 0x100000 0x2000 0x2000), by decide +kernel, by decide +kernel, ⟨by decide +kernel, .program, by decide +kernel⟩⟩⟩

/-- States that meet the hypotheses of `Obligations.OwnershipAndApply`, clause by clause. -/
theorem witness_OwnershipAndApply :
    (∃ (s : State) (p : Port) (how : HowSent), Accepted s p (sentFrame 4 how 0xE1000001#32) ∧ s.own.owner ≠ some p) ∧
    (∃ (s : State) (p : Port) (how : HowSent), Accepted s p (sentFrame 4 how 0xE1000002#32)) ∧
    (∃ (s : State) (p q : Port) (tgt : BitVec 2) (how : HowSent), Accepted s p (sentFrame 4 how (keyed 0xE1#8 (place 0 3 ||| place 4 tgt.toNat))) ∧ tgt.toNat = q.val) ∧
    (∃ (s : State) (p : Port) (how : HowSent), portInert s p = false ∧ frameCode s p (sentFrame 4 how 0xE1000001#32) ≠ 0) ∧
    (∃ (s : State), s.own.grant.isSome = true) ∧
    (∃ (s : State) (q : Port), s.own.owner = some q ∧ ownTmo s ≠ 0) ∧
    (∃ (s : State) (p : Port) (how : HowSent), Accepted s p (sentFrame 5 how 0xA9000001#32)) ∧
    (∃ (s : State) (p : Port) (how : HowSent), Accepted s p (sentFrame 5 how 0xA9000002#32)) ∧
    (∃ (s : State), s.app.state = 1 ∧ applyCheck s.regs (takeSr s.regs s.app.copy) s.md.mode (lhEnOf s) = none) ∧
    (∃ (s : State) (r : ApplyRule), s.app.state = 1 ∧ applyCheck s.regs (takeSr s.regs s.app.copy) s.md.mode (lhEnOf s) = some r) ∧
    (∃ (s : State), s.md.mode = .quiet ∧ s.app.state = 2 ∧ ((modeRules s.regs s.app.copy s.md.mode).find? fun x => x.bad) = none) :=
  ⟨⟨noOwner, 0, howAt 0, by unfold Accepted; decide +kernel⟩,
   ⟨hold0, 0, howAt 0, by unfold Accepted; decide +kernel⟩,
   ⟨hold0, 0, 1, 1, howAt 0, by unfold Accepted; decide +kernel⟩,
   ⟨hold0, 1, howAt 0, by decide +kernel⟩,
   ⟨applySt 1, by decide +kernel⟩,
   ⟨withRegs hold0 [(1,8,100)], 0, by decide +kernel⟩,
   ⟨hold0, 0, howAt 1, by unfold Accepted; decide +kernel⟩,
   ⟨hold0, 0, howAt 1, by unfold Accepted; decide +kernel⟩,
   ⟨applyGood, by decide +kernel⟩,
   ⟨applyBad, firstBad applyBad, by decide +kernel⟩,
   ⟨quietApply, by decide +kernel⟩⟩

/-- States that meet the hypotheses of `Obligations.QuotesJournalsTimeSet`, clause by clause. -/
theorem witness_QuotesJournalsTimeSet :
    (∃ (s : State) (p : Port) (nonce : List Word), Memory.wf 0xFF s.store = true ∧ amWf 0 s.regs = true ∧ Accepted s p { cmd := 6, page := 20, off := 0, words := nonce, part := false } ∧ s.attest.waiting = [] ∧ s.attest.active = none) ∧
    (∃ (s : State) (p : Port) (nonce : List Word), Memory.wf 0xFF s.store = true ∧ amWf 0 s.regs = true ∧ Accepted s p { cmd := 6, page := 20, off := 0, words := nonce, part := false } ∧ s.attest.waiting = [] ∧ s.attest.active.isSome = true) ∧
    (∃ (s : State) (p : Port), Memory.wf 0xFF s.store = true ∧ amWf 0 s.regs = true ∧ portInert s p = false) ∧
    (∃ (s : State) (p : Port) (body : List Byte), Memory.wf 0xFF s.store = true ∧ amWf 0 s.regs = true ∧ s.attest.active = some (p, body) ∧ s.attest.waiting = []) ∧
    (∃ (s : State) (p : Port), Memory.wf 0xFF s.store = true ∧ amWf 0 s.regs = true ∧ Accepted s p (writeOf 0 0x13 [1#32])) ∧
    (∃ (s : State), Memory.wf 0xFF s.store = true ∧ amWf 0 s.regs = true ∧ s.boot.confirming = true ∧ MpBusy s 0 4) ∧
    (∃ (s : State) (p : Port), Memory.wf 0xFF s.store = true ∧ amWf 0 s.regs = true ∧ Accepted s p (writeOf 0 0x16 [1#32])) ∧
    (∃ (s : State), Memory.wf 0xFF s.store = true ∧ amWf 0 s.regs = true ∧ s.jrn.active = true ∧ s.cyc.running = false ∧ goodCapture s = none) ∧
    (∃ (s : State) (c : List Byte) (e : DirEntry), Memory.wf 0xFF s.store = true ∧ amWf 0 s.regs = true ∧ s.jrn.active = true ∧ s.cyc.running = false ∧ goodCapture s = some c ∧ slotRegion s (freeSlot s) c.length = some e) ∧
    (∃ (s : State) (bs : List Byte) (slot : Bool) (e : DirEntry), Memory.wf 0xFF s.store = true ∧ amWf 0 s.regs = true ∧ s.jrn.writing = some (slot, bs) ∧ dirEntryOf s (if slot then 0x31 else 0x30) = some e ∧ bs.length ≤ e.len ∧ MpBusy s (selOf e.base) 2) ∧
    (∃ (s : State) (p : Port) (lo hi : Word), Memory.wf 0xFF s.store = true ∧ amWf 0 s.regs = true ∧ Accepted s p (writeOf 3 6 [lo, hi])) :=
  ⟨⟨storeSt id, 1, nonce8, by unfold Accepted; decide +kernel⟩,
   ⟨storeSt fun s => {s with attest := {s.attest with active := some (1, [1,2,3,4]) }, boot := {s.boot with trial := true}}, 0, nonce8, by unfold Accepted; decide +kernel⟩,
   ⟨storeSt id, 1, by decide +kernel⟩,
   ⟨storeSt fun s => {s with attest := {s.attest with active := some (1, [1,2,3,4]) }}, 1, [1,2,3,4], by decide +kernel⟩,
   ⟨storeSt fun s => {s with attest := {s.attest with active := some (1, [1,2,3,4]) }, boot := {s.boot with trial := true}}, 0, by unfold Accepted; decide +kernel⟩,
   ⟨busySt 4 .program (storeSt fun s => {s with boot := {s.boot with trial := true, confirming := true}}), by decide +kernel, by decide +kernel, by decide +kernel, ⟨by decide +kernel, .program, by decide +kernel⟩⟩,
   ⟨storeSt fun s => {s with attest := {s.attest with active := some (1, [1,2,3,4]) }, boot := {s.boot with trial := true}}, 0, by unfold Accepted; decide +kernel⟩,
   ⟨storeSt fun s => {s with jrn := {s.jrn with active := true}}, by decide +kernel⟩,
   ⟨{ sealedSt with jrn := { jrnReset with active := true, members := 7, cap := ⟨#[some [1, 2], some [1, 3], some [1, 2]], rfl⟩ } }, [1, 2], slot0, sealed_wf, by decide +kernel, by decide +kernel, by decide +kernel, by decide +kernel, sealed_slot _ rfl⟩,
   ⟨{ sealedSt with jrn := { jrnReset with writing := some (false, [1, 2, 3, 255]) }, mp := { mpReset with op := mpReset.op.set 0 (some { owner := 2, kind := .program, suspended := false }) } }, [1, 2, 3, 255], false, slot0, sealed_wf, by decide +kernel, rfl, (sealed_entry _ rfl 0x30).trans (by decide +kernel), by decide +kernel, by decide +kernel, .program, by decide +kernel⟩,
   ⟨storeSt fun s => {s with attest := {s.attest with active := some (1, [1,2,3,4]) }, boot := {s.boot with trial := true}}, 0, 7, 1, by unfold Accepted; decide +kernel⟩⟩

/-- States that meet the hypotheses of `Obligations.LedgerAndWatchdogs`, clause by clause. -/
theorem witness_LedgerAndWatchdogs :
    (∃ (s : State) (p : Port) (r : Fin 4) (w : Word), Memory.wf 0xFF s.store = true ∧ Accepted s p (writeOf 2 r.val [w]) ∧ s.led.bits[r] &&& w = 0) ∧
    (∃ (s : State), Memory.wf 0xFF s.store = true ∧ s.led.jready = false ∧ s.boot.phase = 9 ∧ s.led.queue = [] ∧ s.boot.sources.getLsbD 0 = false) ∧
    (∃ (s : State) (x : LedRec) (rest : List LedRec) (b n : Nat), Memory.wf 0xFF s.store = true ∧ s.led.pend = x :: rest ∧ journalRegion s = some (b, n) ∧ MpBusy s (selOf b) 3 ∧ 0 < n) ∧
    (∃ (s : State) (x : LedRec) (rest : List LedRec) (b n : Nat), Memory.wf 0xFF s.store = true ∧ s.led.pend = x :: rest ∧ journalRegion s = some (b, n) ∧ MpBusy s (selOf b) 3) ∧
    (∃ (s : State) (w : Word) (l : Lane) (ws : List Word), Memory.wf 0xFF s.store = true ∧ s.lane[l].serve = w :: ws ∧ s.wd[laneWd l].state = 1 ∧ s.mono < s.wd[laneWd l].start + wdTmo s l.val ∧ wdWordOk s l.val w = true ∧ wdMask s l.val &&& ~~~(s.wd[laneWd l].seen ||| BitVec.ofNat 16 (2 ^ fieldOf w 0 4)) ≠ 0) ∧
    (∃ (s : State) (w : Word) (l : Lane) (ws : List Word), Memory.wf 0xFF s.store = true ∧ s.lane[l].serve = w :: ws ∧ s.wd[laneWd l].state = 1 ∧ s.mono < s.wd[laneWd l].start + wdTmo s l.val ∧ wdWordOk s l.val w = true ∧ wdMask s l.val &&& ~~~(s.wd[laneWd l].seen ||| BitVec.ofNat 16 (2 ^ fieldOf w 0 4)) = 0) ∧
    (∃ (s : State) (p : Port) (w : Word), Memory.wf 0xFF s.store = true ∧ Accepted s p (writeOf 18 0x20 [w]) ∧ s.wd[(3 : Fin 4)].state = 1 ∧ s.mono < s.wd[(3 : Fin 4)].start + wdTmo s 3 ∧ wdWordOk s 3 w = true ∧ wdMask s 3 &&& ~~~(s.wd[(3 : Fin 4)].seen ||| BitVec.ofNat 16 (2 ^ fieldOf w 0 4)) = 0) ∧
    (∃ (s : State) (p : Port) (w : Word), Memory.wf 0xFF s.store = true ∧ Accepted s p (writeOf 18 0x20 [w]) ∧ s.wd[(3 : Fin 4)].state = 1 ∧ s.mono < s.wd[(3 : Fin 4)].start + wdTmo s 3 ∧ wdWordOk s 3 w = false ∧ wdCfg s 3 4 1 = 0) ∧
    (∃ (s : State) (i : Fin 4), Memory.wf 0xFF s.store = true ∧ s.wd[i].state = 1 ∧ s.wd[i].clkFail = false ∧ wdAction s i.val = 3 ∧ (i = 3 → wdHeldNow s = false)) ∧
    (∃ (s : State) (l : Lane), Memory.wf 0xFF s.store = true ∧ s.wd[laneWd l].state = 1 ∧ wdAction s l.val = 0 ∧ memberOf s l = true ∧ s.lane[l].pendCause = 0 ∧ s.lane[l].state = 0) ∧
    (∃ (s : State) (i : Fin 4), Memory.wf 0xFF s.store = true ∧ s.wd[i].state ≠ 0 ∧ s.wd[i].clkFail = false ∧ wdAction s i.val = 3) :=
  ⟨⟨ledgerSt id, 0, 2, 2, by unfold Accepted; decide +kernel⟩,
   ⟨ledgerSt fun s => {s with boot := {s.boot with sources := 2}}, by decide +kernel⟩,
   ⟨{ sealedSt with led := { sealedSt.led with jen := true, pend := [ledRec] }, mp := { mpReset with op := mpReset.op.set 0 (some { owner := 3, kind := .program, suspended := false }) } }, ledRec, [], 0x30000, 0x2000, sealed_wf, rfl, sealed_journal _ rfl (by decide +kernel), ⟨by decide +kernel, .program, by decide +kernel⟩, by decide⟩,
   ⟨{ sealedSt with led := { sealedSt.led with jen := true, pend := [ledRec] }, mp := { mpReset with op := mpReset.op.set 0 (some { owner := 3, kind := .program, suspended := false }) } }, ledRec, [], 0x30000, 0x2000, sealed_wf, rfl, sealed_journal _ rfl (by decide +kernel), ⟨by decide +kernel, .program, by decide +kernel⟩⟩,
   ⟨serveSt 0xBEEF0000 0 id, 0xBEEF0000, 0, [3], by decide +kernel⟩,
   ⟨serveSt 0xBEEF0000 2 id, 0xBEEF0000, 0, [3], by decide +kernel⟩,
   ⟨serveSt 0xBEEF0000 2 id, 0, 0xBEEF0000, by unfold Accepted; decide +kernel⟩,
   ⟨ledgerSt fun s => {s with boot := {s.boot with sources := 2}}, 0, 1, by unfold Accepted; decide +kernel⟩,
   ⟨ledgerSt id, 3, by decide +kernel⟩,
   ⟨expireSt id, 0, by decide +kernel⟩,
   ⟨ledgerSt id, 3, by decide +kernel⟩⟩

/-- States that meet the hypotheses of `Obligations.Maintenance`, clause by clause. -/
theorem witness_Maintenance :
    (∃ (s : State) (p : Port) (l : Lane) (lb : BitVec 2), lb.toNat = l.val ∧ Accepted s p (writeOf 4 0x20 [keyed 0x3C#8 (place 0 1 ||| place 4 lb.toNat)]) ∧ s.lane[l].pendCause = 0) ∧
    (∃ (s : State) (p : Port) (l : Lane) (lb : BitVec 2), lb.toNat = l.val ∧ Accepted s p (writeOf 4 0x20 [keyed 0x3C#8 (place 0 2 ||| place 4 lb.toNat)]) ∧ s.lane[l].clockOk = true) ∧
    (∃ (s : State) (p : Port), Accepted s p (writeOf 4 0x20 [keyed 0x3C#8 (place 0 3)])) ∧
    (∃ (s : State) (p : Port) (d : Die), Accepted s p (writeOf 19 0 [keyed 0xD2#8 (place 0 1 ||| place 3 d.val)])) ∧
    (∃ (s : State) (p : Port) (f : FDie) (m : BitVec 16), Accepted s p (writeOf 19 0 [keyed 0xD2#8 (place 0 2 ||| place 3 f.val ||| place 8 m.toNat)])) ∧
    (∃ (s : State) (p : Port) (f : FDie) (m : BitVec 16), Accepted s p (writeOf 19 0 [keyed 0xD2#8 (place 0 3 ||| place 3 f.val ||| place 8 m.toNat)])) ∧
    (∃ (s : State) (p : Port) (d : Die) (j : Fin 32) (a : ActSt), Accepted s p (writeOf 19 0 [keyed 0xD2#8 (place 0 4 ||| place 3 d.val)]) ∧ unitTests s d.val = [(j.val, a)] ∧ a.kind ≠ 9) ∧
    (∃ (s : State) (p : Port) (d : Die) (j : Fin 32) (a : ActSt), Accepted s p (writeOf 19 0 [keyed 0xD2#8 (place 0 4 ||| place 3 d.val)]) ∧ unitTests s d.val = [(j.val, a)] ∧ (a.kind ≠ 10 ∨ a.total ≤ a.count)) ∧
    (∃ (s : State) (d : Die) (j : Fin 32) (a : ActSt), s.mnt.slot[j] = some a ∧ a.index = d.val ∧ (a.kind = 9 ∨ a.kind = 10) ∧ a.count < a.total) ∧
    (∃ (s : State) (d : Die) (j : Fin 32) (a : ActSt), s.mnt.slot[j] = some a ∧ a.index = d.val ∧ a.kind = 10 ∧ a.total ≤ a.count) ∧
    (∃ (s : State) (d : Die) (j : Fin 32) (a : ActSt), s.mnt.slot[j] = some a ∧ a.index = d.val ∧ a.kind = 9 ∧ a.total ≤ a.count) ∧
    (∃ (s : State) (f : FDie) (j : Fin 32) (a : ActSt), s.mnt.slot[j] = some a ∧ a.index = f.val ∧ a.kind = 11) :=
  ⟨⟨mntSt, 0, 1, 1, by unfold Accepted; decide +kernel⟩,
   ⟨laneOut, 0, 1, 1, by unfold Accepted; decide +kernel⟩,
   ⟨mntSt, 0, by unfold Accepted; decide +kernel⟩,
   ⟨mntSt, 0, 2, by unfold Accepted; decide +kernel⟩,
   ⟨testSt 9 4, 0, 2, 5, by unfold Accepted; decide +kernel⟩,
   ⟨inForce <| withRegs hold0 [(10, 0x40, 1), (10, 0x60, 1), (10, 0x44, 5), (10,0x64,5)], 0, 2, 5, by unfold Accepted; decide +kernel⟩,
   ⟨testNow 10 2 0 8, 0, 2, 31, { actOf 10 2 5 with count := 0, total := 8 }, by unfold Accepted; decide +kernel⟩,
   ⟨testNow 10 2 8 8, 0, 2, 31, { actOf 10 2 5 with count := 8, total := 8 }, by unfold Accepted; decide +kernel⟩,
   ⟨testNow 9 4 63 64, 4, 31, { actOf 9 4 5 with count := 63, total := 64 }, by decide +kernel⟩,
   ⟨testNow 10 2 8 8, 2, 31, { actOf 10 2 5 with count := 8, total := 8 }, by decide +kernel⟩,
   ⟨testNow 9 4 64 64, 4, 31, { actOf 9 4 5 with count := 64, total := 64 }, by decide +kernel⟩,
   ⟨testNow 11 2 0 0, 2, 31, actOf 11 2 5, by decide +kernel⟩⟩

/-- States that meet the hypotheses of `Obligations.CanBus`, clause by clause. -/
theorem witness_CanBus :
    (∃ (s : State) (c : Ctrl) (f : CanFrame), canHears s c = true ∧ (f.fdf = true → canFd s c = true) ∧ (f.rtr = true → f.fdf = true) ∧ s.can[c].state = 2 ∧ s.can[c].rxErr = 0 ∧ s.can[c].txErr < 128 ∧ objFind s c (fieldOf (rxRecord s c f).idw 0 30) = none ∧ ¬(wsRole s ≠ 0 ∧ wsCtrl s = c ∧ f.ide = wsIde s ∧ (f.id.toNat = wsId s ∨ f.id.toNat = wsId s + 1)) ∧ filterOf s c (rxRecord s c f).idw = none) ∧
    (∃ (s : State) (c : Ctrl) (f : CanFrame) (j : Nat), canHears s c = true ∧ (f.fdf = true → canFd s c = true) ∧ (f.rtr = true → f.fdf = true) ∧ s.can[c].state = 2 ∧ s.can[c].rxErr = 0 ∧ s.can[c].txErr < 128 ∧ objFind s c (fieldOf (rxRecord s c f).idw 0 30) = none ∧ ¬(wsRole s ≠ 0 ∧ wsCtrl s = c ∧ f.ide = wsIde s ∧ (f.id.toNat = wsId s ∨ f.id.toNat = wsId s + 1)) ∧ filterOf s c (rxRecord s c f).idw = some j ∧ canBit s c (0x102 + 4 * j) 0 = true ∧ canBit s c (0x102 + 4 * j) 1 = false ∧ canBit s c (0x102 + 4 * j) 2 = false ∧ s.can[c].rxq[(0 : Fin 2)].frames.length < 64) ∧
    (∃ (s : State) (c : Ctrl) (f : CanFrame), canHears s c = true ∧ f.fdf = false ∧ f.rtr = false ∧ s.can[c].state = 2 ∧ s.can[c].rxErr = 0 ∧ s.can[c].txErr < 128 ∧ wsRole s ≠ 0 ∧ wsCtrl s = c ∧ f.ide = wsIde s ∧ f.id.toNat = wsId s ∧ f.dlc = 2 ∧ (f.data.getD 1 0).toNat = wsDomain s) ∧
    (∃ (s : State) (c : Ctrl) (f : CanFrame), canHears s c = true ∧ f.fdf = false ∧ f.rtr = false ∧ s.can[c].state = 2 ∧ s.can[c].rxErr = 0 ∧ s.can[c].txErr < 128 ∧ wsRole s ≠ 0 ∧ wsCtrl s = c ∧ f.ide = wsIde s ∧ f.id.toNat = wsId s + 1 ∧ f.dlc = 8) ∧
    (∃ (s : State) (c : Ctrl) (f : CanFrame), canHears s c = true ∧ f.fdf = false ∧ f.rtr = true ∧ canMute s c = true) ∧
    (∃ (s : State) (c : Ctrl), canHears s c = true) ∧
    (∃ (s : State) (c : Ctrl) (p : Port) (q : Fin 2) (r : RxRec) (rs : List RxRec), s.can[c].rxq[q].frames = r :: rs ∧ (∀ e ∈ s.port[p].latch, e.1 / 65536 ≠ canPage c) ∧ Accepted s p (readOf 0 (canPage c) (if q = 0 then 0x20 else 0x40) 20)) ∧
    (∃ (s : State) (c : Ctrl) (p : Port) (q : Fin 2) (t0 : Nat), s.can[c].rxq[q].lock = some (p, t0)) ∧
    (∃ (s : State) (c : Ctrl) (x : TxFrame) (xs : List TxFrame), s.can[c].state = 2 ∧ s.md.mode ≠ .quiet ∧ s.can[c].tail = none ∧ s.can[c].fifo = x :: xs ∧ s.can[c].onWs = false ∧ canEn s c = true ∧ x.fdf = false ∧ s.can[c].txErr < 120 ∧ s.can[c].rxErr < 128 ∧ canField s c 0 8 8 = 0 ∧ canBit s c 0 4 = false) ∧
    (∃ (s : State) (c : Ctrl) (x : TxFrame) (xs : List TxFrame), s.can[c].state = 2 ∧ s.md.mode ≠ .quiet ∧ s.can[c].tail = none ∧ s.can[c].fifo = x :: xs ∧ s.can[c].onWs = false ∧ canEn s c = true ∧ x.fdf = false ∧ s.can[c].txErr < 120 ∧ s.can[c].rxErr < 128 ∧ canField s c 0 8 8 = 0) ∧
    (∃ (s : State) (c : Ctrl), canState s c = 5) ∧
    (∃ (s : State) (c : Ctrl), s.can[c].state = 1 ∧ canStb s c = false) ∧
    (∃ (s : State) (c : Ctrl) (p : Port), Accepted s p (writeOf (canPage c) 6 [keyed 0xC5#8 (place 0 1)])) ∧
    (∃ (s : State) (c : Ctrl) (p : Port), Accepted s p (writeOf (canPage c) 6 [keyed 0xC5#8 (place 0 2)]) ∧ headOnBus s.can[c] = true) ∧
    (∃ (s : State) (c : Ctrl) (n : Nat), canHears s c = true ∧ canMute s c = false ∧ s.can[c].state = 2 ∧ s.can[c].txErr < 128 ∧ s.can[c].rxErr + n < 128) :=
  ⟨⟨canSt 2 [] id, 0, rxFrame true false, by decide +kernel⟩,
   ⟨canSt 2 [(15, 0x100, 0x123), (15, 0x101, 0x7FF), (15, 0x102, 0x81)] id, 0, rxFrame false false, 0, by decide +kernel⟩,
   ⟨wsOnBus, 0, wsFrame 0x100 [5, 7], by decide +kernel⟩,
   ⟨wsOnBus, 0, wsFrame 0x101 [0, 0, 0, 0, 0, 1, 2, 4], by decide +kernel⟩,
   ⟨canSt 6 [(15,0,3)] id, 0, rxFrame false true, by decide +kernel⟩,
   ⟨canSt 3 [(15,0,1)] id, 0, by decide +kernel⟩,
   ⟨canSt 5 [(15,0,1)] (fun c => {c with rxq := c.rxq.set 1 {rxqReset with frames := [rxRec1], lock := some (0,10)}}), 0, 0, 1, rxRec1, [], by unfold Accepted; decide +kernel⟩,
   ⟨canSt 5 [(15,0,1)] (fun c => {c with rxq := c.rxq.set 1 {rxqReset with frames := [rxRec1], lock := some (0,10)}}), 0, 0, 1, 10, by decide +kernel⟩,
   ⟨canSt 2 [(15,0,1)] (fun c => {c with fifo := [txFrame1], txErr := 119, rxErr := 127}), 0, txFrame1, [], by decide +kernel⟩,
   ⟨canSt 2 [(15,0,1)] (fun c => {c with fifo := [txFrame1], txErr := 119, rxErr := 127}), 0, txFrame1, [], by decide +kernel⟩,
   ⟨canSt 5 [(15,0,1)] id, 0, by decide +kernel⟩,
   ⟨canSt 1 [(15,0,1)] (fun c => {c with rxErr := 128}), 0, by decide +kernel⟩,
   ⟨canSt 4 [(15,0,1)] (fun c => {c with fifo := [txFrame1]}), 0, 0, by unfold Accepted; decide +kernel⟩,
   ⟨canSt 2 [(15,0,1)] (fun c => {c with fifo := [txFrame1], txErr := 119, rxErr := 127}), 0, 0, by unfold Accepted; decide +kernel⟩,
   ⟨canSt 2 [] id, 0, 8, by decide +kernel⟩⟩

/-- States that meet the hypotheses of `Obligations.ManifestsAndEdges`, clause by clause. -/
theorem witness_ManifestsAndEdges :
    (∃ (s : State) (d : FDie) (k : Chan) (e : Entry), powered s (toDie d) = true ∧ s.field[d].pend = [e] ∧ e.action = 1 ∧ e.mask.getLsbD k.val = true ∧ switchReach s d k = true) ∧
    (∃ (s : State) (d : FDie) (e : Entry), powered s (toDie d) = true ∧ s.field[d].pend = [e] ∧ e.action = 6 ∧ curOffset s (toDie d) = 0 ∧ s.time ≤ dueAt e ∧ dueAt e ≤ 2 ^ 64 - 8 ∧ s.time % 4 = 0 ∧ corrWait (clockOf s) = none) ∧
    (∃ (s : State) (c : Ctrl) (h : HubEntry), s.hub.pend = [h] ∧ h.ctrl = c.val ∧ canEn s c = true ∧ canListen s c = false ∧ canFd s c = true ∧ s.md.mode ≠ .quiet ∧ s.can[c].state = 2 ∧ canBit s c 0 5 = false ∧ s.can[c].fifo.length < 32 ∧ dueAt h.e ≤ 2 ^ 64 - 8) ∧
    (∃ (s : State) (d : FDie) (k : Chan) (tt : Nat), s.field[d].ch[k].pulseEnd = some tt) ∧
    (∃ (s : State) (d : FDie) (j : Fin 4) (tt : Nat), dieOn s d = true ∧ minOpt (chans16.map (pgNext s d j.val)) = some tt ∧ curOffset s (toDie d) = 0 ∧ tt ≤ 2 ^ 64 - 8) ∧
    (∃ (s : State) (d : FDie) (k : Chan) (j : Fin 4) (tt : Nat), dieOn s d = true ∧ minOpt (chans16.map (pgNext s d j.val)) = some tt ∧ Governed s d k ∧ s.field[d].stopped.getLsbD k.val = false) ∧
    (∃ (s : State) (d : FDie) (tt : Nat), dieOn s d = true ∧ minOpt (chans16.map (dutyNext s d)) = some tt ∧ curOffset s (toDie d) = 0 ∧ tt ≤ 2 ^ 64 - 8) ∧
    (∃ (s : State) (d : FDie) (k : Chan) (tt : Nat), dieOn s d = true ∧ minOpt (chans16.map (dutyNext s d)) = some tt ∧ Governed s d k ∧ s.field[d].stopped.getLsbD k.val = false) :=
  ⟨⟨permitted (f1Pend (fun x => {x with pend := [entryOf 1 8]})), 1, 3, entryOf 1 8, by decide +kernel⟩,
   ⟨f1Pend (fun x => {x with pend := [entryOf 6 8]}), 1, entryOf 6 8, by decide +kernel⟩,
   ⟨{canSt 2 [(15,0,5)] id with hub := {pend := [heldReq 0 block80], man := manReset}}, 0, heldReq 0 block80, by decide +kernel⟩,
   ⟨chan3 [] (fun c => {c with pulseEnd := some 12000000}), 1, 3, 12000000, by decide +kernel⟩,
   ⟨pgSt, 1, 2, (minOpt (chans16.map (pgNext pgSt 1 2))).getD 0, by decide +kernel⟩,
   ⟨pgSt, 1, 3, 2, (minOpt (chans16.map (pgNext pgSt 1 2))).getD 0, by unfold Governed; decide +kernel⟩,
   ⟨dutySt, 1, (minOpt (chans16.map (dutyNext dutySt 1))).getD 0, by decide +kernel⟩,
   ⟨dutySt, 1, 3, (minOpt (chans16.map (dutyNext dutySt 1))).getD 0, by unfold Governed; decide +kernel⟩⟩

/-- States that meet the hypotheses of `Obligations.ChannelTable`, clause by clause. -/
theorem witness_ChannelTable :
    (∃ (s : State) (d : FDie) (k : Chan), s.field[d].ch[k].st = .wait ∧ inLimp s d k = false ∧ s.field[d].ch[k].queued = false ∧ s.field[d].ch[k].stage = 0 ∧ s.field[d].ch[k].toll = false ∧ (∀ j : Chan, j ≠ k → s.field[d].ch[j].st ≠ .wait) ∧ s.field[d].queue = [] ∧ s.field[d].bqueue = [] ∧ hotOf s d k ≤ trel s d k.val ∧ tollPass s d k = true ∧ s.field[d].reserved + addition s d k ≤ allowance s d * 1000000000000 ∧ slotsUsed s.field[d] < 4) ∧
    (∃ (s : State) (d : FDie) (k : Chan), stOn s.field[d].ch[k].st = true ∧ inLimp s d k = false ∧ demandOf s d k = false ∧ s.field[d].queue = [] ∧ s.field[d].stopped.getLsbD k.val = false) ∧
    (∃ (s : State) (d : FDie) (k : Chan), s.field[d].ch[k].st = .inrush) ∧
    (∃ (s : State) (d : FDie) (k : Chan), s.field[d].ch[k].slot = true ∧ s.field[d].queue = []) ∧
    (∃ (s : State) (d : FDie) (k : Chan), s.field[d].ch[k].st = .rwait ∧ hotOf s d k ≤ trel s d k.val ∧ inLimp s d k = false) ∧
    (∃ (s : State) (d : FDie) (k : Chan), stOn s.field[d].ch[k].st = true ∧ chField s d k.val 2 24 8 ≠ 0) :=
  ⟨⟨waitSt, 1, 3, by decide +kernel⟩,
   ⟨chan3 [] fun c => {c with st := .on, slot := true}, 1, 3, by decide +kernel⟩,
   ⟨chan3 [] fun c => {c with st := .inrush, slot := true, load := 1}, 1, 3, by decide +kernel⟩,
   ⟨chan3 [] fun c => {c with st := .on, slot := true}, 1, 3, by decide +kernel⟩,
   ⟨permitted (chan3 [] fun c => {c with st := .rwait, tripAt := 5, vrec := {cmdReset with act := 1}}), 1, 3, by decide +kernel⟩,
   ⟨chan3 [] fun c => {c with st := .on, slot := true}, 1, 3, by decide +kernel⟩⟩

/-- States that meet the hypotheses of `Obligations.Trips`, clause by clause. -/
theorem witness_Trips :
    (∃ (s : State) (d : FDie) (k : Chan), Governed s d k ∧ stOn s.field[d].ch[k].st = true ∧ 175000000 ≤ hotOf s d k) ∧
    (∃ (s : State) (d : FDie) (k : Chan), Governed s d k ∧ stOn s.field[d].ch[k].st = true ∧ hotOf s d k < 175000000) ∧
    (∃ (s : State) (d : FDie) (k : Chan), Governed s d k ∧ stOn s.field[d].ch[k].st = true ∧ 90 * 16 ≤ (pairMax s d k fun c => c.tj) - s.field[d].tsub) ∧
    (∃ (s : State) (d : FDie) (k : Chan), Governed s d k ∧ stOn s.field[d].ch[k].st = true ∧ (pairMax s d k fun c => c.tj) - s.field[d].tsub < 90 * 16) ∧
    (∃ (s : State) (d : FDie) (k : Chan) (ua : Nat), Governed s d k ∧ stOn s.field[d].ch[k].st = true ∧ 12000000 ≤ ua ∧ Config.part 4 (16 * d.val + k.val) ≤ ua) ∧
    (∃ (s : State) (d : FDie) (k : Chan) (ua : Nat), Governed s d k ∧ stOn s.field[d].ch[k].st = true ∧ ua < 12000000) ∧
    (∃ (s : State) (d : FDie) (k : Chan) (t0 : Nat), Governed s d k ∧ stOn s.field[d].ch[k].st = true ∧ s.field[d].ch[k].diffAt = some t0) ∧
    (∃ (s : State) (d : FDie) (k : Chan), Governed s d k ∧ stOn s.field[d].ch[k].st = true ∧ s.field[d].ch[k].diffAt = none) ∧
    (∃ (s : State) (d : FDie) (k : Chan) (t0 : Nat) (mv : Int), Governed s d k ∧ limitPastB s d k = some t0 ∧ 4 * mv < s.field[d].vbb) ∧
    (∃ (s : State) (d : FDie) (k : Chan) (t0 : Nat) (mv : Int), Governed s d k ∧ limitPastB s d k = some t0 ∧ s.field[d].vbb ≤ 4 * mv) ∧
    (∃ (s : State) (d : FDie) (k : Chan) (t0 : Nat), Governed s d k ∧ limitPastB s d k = some t0 ∧ chField s d k.val 1 8 8 ≠ 0) ∧
    (∃ (s : State) (d : FDie) (k : Chan) (ua : Nat), Governed s d k ∧ conducts s d k = true ∧ s.field[d].ch[k].limit ≠ decide (stageLimit s d k * 62500 < ua)) ∧
    (∃ (s : State) (d : FDie) (k : Chan), Governed s d k ∧ conducts s d k = false ∧ s.field[d].ch[k].limit = true) ∧
    (∃ (s : State) (d : FDie) (k : Chan) (cause : BitVec 4) (l : FDie) (m : Chan), Governed s d k ∧ inLimp s l m = true ∧ s.field[l].ch[m].lhOn = true ∧ ((cause = 1 ∧ 175 * 16 ≤ pairMax s l m fun c => c.tj) ∨ cause = 4)) ∧
    (∃ (s : State) (d : FDie) (k : Chan) (cause : BitVec 4) (l : FDie) (m : Chan), Governed s d k ∧ inLimp s l m = true ∧ s.field[l].ch[m].lhOn = true ∧ cause = 4) :=
  ⟨⟨onVbb fun c => { c with tj := 2800 }, 1, 3, by unfold Governed; decide +kernel⟩,
   ⟨onVbb fun c => { c with tj := 2799 }, 1, 3, by unfold Governed; decide +kernel⟩,
   ⟨onVbb fun c => { c with tj := 1840 }, 1, 3, by unfold Governed; decide +kernel⟩,
   ⟨onVbb fun c => { c with tj := 1839 }, 1, 3, by unfold Governed; decide +kernel⟩,
   ⟨onSt id, 1, 3, max 12000000 (Config.part 4 19), by unfold Governed; decide +kernel, by decide +kernel, Nat.le_max_left _ _, Nat.le_max_right _ _⟩,
   ⟨onSt id, 1, 3, 11999999, by unfold Governed; decide +kernel⟩,
   ⟨onSt fun c => { c with diffAt := some 9000000 }, 1, 3, 9000000, by unfold Governed; decide +kernel⟩,
   ⟨onSt fun c => { c with diffAt := none }, 1, 3, by unfold Governed; decide +kernel⟩,
   ⟨onVbb (fun c => { c with limit := true, limitAt := 9000000 }), 1, 3, (limitPastB (onVbb fun c => { c with limit := true, limitAt := 9000000 }) 1 3).getD 0, 5999, by unfold Governed; decide +kernel⟩,
   ⟨onVbb (fun c => { c with limit := true, limitAt := 9000000 }), 1, 3, (limitPastB (onVbb fun c => { c with limit := true, limitAt := 9000000 }) 1 3).getD 0, 6000, by unfold Governed; decide +kernel⟩,
   ⟨limitSt, 1, 3, (limitPastB limitSt 1 3).getD 0, by unfold Governed; decide +kernel⟩,
   ⟨onSt id, 1, 3, 200000000, by unfold Governed; decide +kernel⟩,
   ⟨chan3 [] fun c => { c with limit := true }, 1, 3, by unfold Governed; decide +kernel⟩,
   ⟨limpBoth, 1, 4, 1, 1, 3, by unfold Governed; decide +kernel⟩,
   ⟨limpBoth, 1, 4, 4, 1, 3, by unfold Governed; decide +kernel⟩⟩

/-- States that meet the hypotheses of `Obligations.DieMonitors`, clause by clause. -/
theorem witness_DieMonitors :
    (∃ (s : State) (d : FDie), dieOn s d = true) ∧
    (∃ (s : State) (d : FDie) (k : Chan), s.field[d].ch[k].clamp = true) ∧
    (∃ (s : State) (d : FDie) (k : Chan) (ua : Nat), olOnActive s d k = true ∧ ua < olThreshold s d k.val - olTolerance s d k.val ∧ s.field[d].ch[k].ol = false ∧ uplinksDown s (toDie d) = false) ∧
    (∃ (s : State) (d : FDie) (k : Chan) (ua : Nat), olOnActive s d k = true ∧ olThreshold s d k.val + olTolerance s d k.val ≤ ua) ∧
    (∃ (s : State) (d : FDie) (k : Chan) (ua : Nat), olOnActive s d k = true ∧ (olThreshold s d k.val + olTolerance s d k.val) * 110 / 100 ≤ ua) ∧
    (∃ (s : State) (d : FDie) (k : Chan) (ua : Nat), olOnActive s d k = true ∧ ua < (olThreshold s d k.val - olTolerance s d k.val) * 110 / 100) ∧
    (∃ (s : State) (d : FDie) (k : Chan) (mv : Nat), olOffActive s d k = true ∧ 4000 < mv) ∧
    (∃ (s : State) (d : FDie) (k : Chan) (mv : Nat), olOffActive s d k = true ∧ mv < 2500) ∧
    (∃ (s : State) (d : FDie) (k : Chan) (mv : Nat), olOffActive s d k = true ∧ 2500 ≤ mv ∧ mv ≤ 4000) ∧
    (∃ (s : State) (d : FDie) (k : Chan) (mi : Int), isGov s d k.val = true ∧ conducts s d k = false ∧ dieOn s d = true ∧ s.field[d].ch[k].stb = false ∧ s.field[d].vbb - 2000 < mi) ∧
    (∃ (s : State) (d : FDie) (k : Chan) (mi : Int), isGov s d k.val = true ∧ conducts s d k = false ∧ dieOn s d = true ∧ s.field[d].ch[k].stb = false ∧ mi ≤ s.field[d].vbb - 2000) ∧
    (∃ (s : State) (d : FDie) (k : Chan) (mi : Int), conducts s d k = false ∧ mi < s.field[d].vbb - 3000) ∧
    (∃ (s : State) (d : FDie) (k : Chan) (mi : Int), conducts s d k = false ∧ s.field[d].vbb - 3000 ≤ mi) ∧
    (∃ (s : State) (d : FDie) (l : Lane), s.die[toDie d].down[l].up = true ∧ dieOn s d = true) ∧
    (∃ (s : State) (d : FDie) (long : Bool), fdBit s d 4 1 = true ∧ fdField s d 4 16 16 ≠ 0 ∧ dieOn s d = true ∧ long = true) ∧
    (∃ (s : State) (d : FDie) (k : Chan) (t0 : Nat), powered s (toDie d) = true ∧ stageOn s d k = false ∧ s.field[d].ch[k].stuck = false ∧ s.field[d].ch[k].highSince = some t0 ∧ isGov s d (govOf s d k).val = true) ∧
    (∃ (s : State) (d : FDie) (k : Chan) (t0 : Nat), powered s (toDie d) = true ∧ stageOn s d k = false ∧ s.field[d].ch[k].stuck = false ∧ s.field[d].ch[k].highSince = some t0 ∧ uplinksDown s (toDie d) = false) ∧
    (∃ (s : State) (d : FDie) (k : Chan), powered s (toDie d) = true ∧ stageOn s d k = false ∧ s.field[d].ch[k].stuck = false ∧ s.field[d].ch[k].highSince = none) :=
  ⟨⟨onSt id, 1, by decide +kernel⟩,
   ⟨onSt fun c => {c with clamp := true}, 1, 3, by decide +kernel⟩,
   ⟨olSt id, 1, 3, 324, by decide +kernel⟩,
   ⟨olSt id, 1, 3, 675, by decide +kernel⟩,
   ⟨olSt id, 1, 3, 742, by decide +kernel⟩,
   ⟨olSt id, 1, 3, 356, by decide +kernel⟩,
   ⟨permitted (chan3 [(9,0x74,0x106), (9,4,0x80010003)] fun c => {c with st := .off, vrec := {cmdReset with oltest := true}}), 1, 3, 4001, by decide +kernel⟩,
   ⟨permitted (chan3 [(9,0x74,0x106), (9,4,0x80010003)] fun c => {c with st := .off, vrec := {cmdReset with oltest := true}}), 1, 3, 2499, by decide +kernel⟩,
   ⟨permitted (chan3 [(9,0x74,0x106), (9,4,0x80010003)] fun c => {c with st := .off, vrec := {cmdReset with oltest := true}}), 1, 3, 2500, by decide +kernel⟩,
   ⟨offVbb id, 1, 3, 22001, by decide +kernel⟩,
   ⟨offVbb id, 1, 3, 22000, by decide +kernel⟩,
   ⟨offVbb id, 1, 3, 20999, by decide +kernel⟩,
   ⟨offVbb id, 1, 3, 21000, by decide +kernel⟩,
   ⟨onSt id, 1, 0, by decide +kernel⟩,
   ⟨olSt id, 1, true, by decide +kernel⟩,
   ⟨offVbb fun c => { c with highSince := some 9000000 }, 1, 3, 9000000, by decide +kernel⟩,
   ⟨offVbb fun c => { c with highSince := some 9000000 }, 1, 3, 9000000, by decide +kernel⟩,
   ⟨offVbb fun c => { c with highSince := none }, 1, 3, by decide +kernel⟩⟩

/-- States that meet the hypotheses of `Obligations.InputsAndPermits`, clause by clause. -/
theorem witness_InputsAndPermits :
    (∃ (s : State) (d : FDie) (k : Chan), powered s (toDie d) = true ∧ s.die[toDie d].fresh = false ∧ chMode s d k.val = 2 ∧ inTested s d k.val = false ∧ chBit s d k.val 0x0C 2 = false ∧ chBit s d k.val 0x0C 3 = false ∧ curOffset s (toDie d) = 0 ∧ nextSample s d ≤ 2 ^ 64 - 8) ∧
    (∃ (s : State) (d : FDie) (k : Chan) (mvs : List Nat), powered s (toDie d) = true ∧ s.die[toDie d].fresh = false ∧ chMode s d k.val = 2 ∧ inTested s d k.val = false ∧ chBit s d k.val 0x0C 2 = false ∧ chBit s d k.val 0x0C 3 = false ∧ (riseLim (chField s d k.val 0x0C 0 2)).2 ≤ mvs.getD k.val 0) ∧
    (∃ (s : State) (d : FDie) (k : Chan) (mvs : List Nat), powered s (toDie d) = true ∧ s.die[toDie d].fresh = false ∧ chMode s d k.val = 2 ∧ inTested s d k.val = false ∧ chBit s d k.val 0x0C 2 = false ∧ chBit s d k.val 0x0C 3 = false ∧ mvs.getD k.val 0 < (fallLim (chField s d k.val 0x0C 0 2)).1) ∧
    (∃ (s : State) (d : FDie) (k : Chan) (tt : Nat), powered s (toDie d) = true ∧ s.die[toDie d].fresh = false ∧ windowStart s d k = some tt ∧ (∀ (j : Chan) u, windowStart s d j = some u → tt ≤ u) ∧ curOffset s (toDie d) = 0 ∧ tt ≤ 2 ^ 64 - 8) ∧
    (∃ (s : State) (d : FDie) (half : Nat), powered s (toDie d) = true ∧ 25000 < half) ∧
    (∃ (s : State) (d : FDie) (half : Nat), powered s (toDie d) = true ∧ 7500 ≤ half ∧ half ≤ 12500) ∧
    (∃ (s : State) (d : FDie) (half : Nat), powered s (toDie d) = true ∧ (half < 7500 ∨ (12500 < half ∧ half ≤ 25000))) ∧
    (∃ (s : State) (d : FDie) (k : Chan), powered s (toDie d) = true ∧ isOutput s d k.val = true ∧ isUpper s d k.val = false ∧ permOf s d k = true) ∧
    (∃ (s : State) (d : FDie) (k : Chan), powered s (toDie d) = true ∧ s.field[d].ch[k].perm.fault = true) ∧
    (∃ (s : State) (d : FDie) (k : Chan) (tt : Nat), powered s (toDie d) = true ∧ s.field[d].ch[k].permWait = some tt) ∧
    (∃ (s : State) (d : FDie) (k : Chan) (tt : Nat), powered s (toDie d) = true ∧ s.field[d].ch[k].coast = some tt ∧ s.field[d].ch[k].permWait = none ∧ Governed s d k ∧ s.field[d].stopped.getLsbD k.val = false ∧ decidingCause s.field[d].ch[k].causes ≠ 0 ∧ safeCode s d k.val (decidingCause s.field[d].ch[k].causes) = 2) :=
  ⟨⟨inputSt [] id, 1, 3, by decide +kernel⟩,
   ⟨inputSt [] fun c => {c with raw := true, rawCnt := 250, level1 := true}, 1, 3, allMv 20000, by decide +kernel⟩,
   ⟨inputSt [] id, 1, 3, allMv 5000, by decide +kernel⟩,
   ⟨inputSt [] id, 1, 3, (windowStart (inputSt [] id) 1 3).getD 0, by decide +kernel⟩,
   ⟨inputSt [] fun c => {c with raw := false, rawCnt := 3, level1 := true}, 1, 25001, by decide +kernel⟩,
   ⟨inputSt [] id, 1, 7500, by decide +kernel⟩,
   ⟨inputSt [] fun c => {c with raw := true, rawCnt := 250, level1 := true}, 1, 25000, by decide +kernel⟩,
   ⟨permitted (chan3 [(9,0x7D,2)] fun c => {c with coast := some 12000000, causes := 2}), 1, 3, by decide +kernel⟩,
   ⟨permitted (chan3 [] fun c => {c with perm := {c.perm with fault := true, badAt := [9000000], good := 2, bad := 1}}), 1, 3, by decide +kernel⟩,
   ⟨faultPerm (permitted (chan3 [] fun c => {c with permWait := some 12000000})), 1, 3, 12000000, by decide +kernel⟩,
   ⟨permitted (chan3 [(9,0x7D,2)] fun c => {c with coast := some 12000000, causes := 2}), 1, 3, 12000000, by unfold Governed; decide +kernel⟩⟩

/-- States that meet the hypotheses of `Obligations.LimpHome`, clause by clause. -/
theorem witness_LimpHome :
    (∃ (s : State) (d : FDie) (k : Chan), s.field[d].vbbLow = false ∧ s.field[d].lhEn = false ∧ s.field[d].ch[k].map.en = true) ∧
    (∃ (s : State) (d : FDie) (k : Chan), s.field[d].vbbLow = false ∧ s.field[d].lhEn = true ∧ s.field[d].ch[k].map.en = true) ∧
    (∃ (s : State) (d : FDie) (k : Chan) (j : Fin 4), s.field[d].vbbLow = false ∧ s.field[d].lhEn = true ∧ s.field[d].ch[k].map.en = true ∧ s.field[d].ch[k].map.src = j.val ∧ s.field[d].ch[k].lhShut = false) ∧
    (∃ (s : State) (d : FDie) (k : Chan) (j : Fin 4), s.field[d].vbbLow = false ∧ s.field[d].ch[k].map.src ≠ j.val ∨ s.field[d].lhEn = false) :=
  ⟨⟨limpSt false false true, 1, 3, by decide +kernel⟩,
   ⟨limpSt true false true, 1, 3, by decide +kernel⟩,
   ⟨limpSt true true false, 1, 3, 2, by decide +kernel⟩,
   ⟨limpSt false false true, 1, 3, 2, by decide +kernel⟩⟩

/-- States that meet the hypotheses of `Obligations.LoopProtection`, clause by clause. -/
theorem witness_LoopProtection :
    (∃ (s : State) (k : Chan) (lim : Bool) (sup : Int), ldOn s = true ∧ uplinksDown s ldDie = false ∧ s.loop[k].supon = true ∧ s.loop[k].foldback = false ∧ lim = true ∧ sup < 6000) ∧
    (∃ (s : State) (k : Chan) (lim : Bool) (sup : Int), ldOn s = true ∧ uplinksDown s ldDie = false ∧ s.loop[k].supon = true ∧ s.loop[k].foldback = false ∧ (lim = false ∨ 6000 ≤ sup)) ∧
    (∃ (s : State) (k : Chan), ldOn s = true ∧ uplinksDown s ldDie = false ∧ s.loop[k].foldback = true) ∧
    (∃ (s : State) (k : Chan) (cond : BitVec 3), ldOn s = true ∧ uplinksDown s ldDie = false ∧ (s.loop[k].miswire = false ∨ s.loop[k].ramp = true) ∧ 1 ≤ cond.toNat ∧ cond.toNat ≤ 4) ∧
    (∃ (s : State) (k : Chan), ldOn s = true ∧ uplinksDown s ldDie = false ∧ s.loop[k].miswire = true ∧ s.loop[k].ramp = false ∧ 3 ≤ s.loop[k].trips.length) ∧
    (∃ (s : State) (k : Chan), ldOn s = true ∧ uplinksDown s ldDie = false ∧ s.loop[k].ramp = true) ∧
    (∃ (s : State), ldOn s = true ∧ uplinksDown s ldDie = false ∧ s.ld.vlbLow = false) ∧
    (∃ (s : State) (k : Chan) (t0 : Nat), ldOn s = true ∧ uplinksDown s ldDie = false ∧ s.loop[k].headAt = some t0 ∧ headOn s k = true ∧ s.loop[k].headroom = false) ∧
    (∃ (s : State) (k : Chan) (t0 : Nat), ldOn s = true ∧ uplinksDown s ldDie = false ∧ s.loop[k].headAt = some t0 ∧ s.loop[k].headroom = true) ∧
    (∃ (s : State) (k : Chan), ldOn s = true ∧ uplinksDown s ldDie = false ∧ s.loop[k].headAt = none) ∧
    (∃ (s : State) (k : Chan), ldOn s = true ∧ uplinksDown s ldDie = false ∧ owFieldCond s k = true ∧ s.loop[k].owField = false ∧ openWire s.loop[k] = false) ∧
    (∃ (s : State) (k : Chan), ldOn s = true ∧ uplinksDown s ldDie = false ∧ 1500000 ≤ s.loop[k].i) ∧
    (∃ (s : State) (k : Chan), ldOn s = true ∧ uplinksDown s ldDie = false ∧ s.loop[k].owPath = false) ∧
    (∃ (s : State) (k : Chan), ldOn s = true ∧ uplinksDown s ldDie = false ∧ s.loop[k].owFailed = false) ∧
    (∃ (s : State) (k : Chan), ldOn s = true ∧ uplinksDown s ldDie = false ∧ s.loop[k].owFailed = true) :=
  ⟨⟨loop2 [] id, 2, true, 5999, by decide +kernel⟩,
   ⟨loop2 [] id, 2, true, 6000, by decide +kernel⟩,
   ⟨loop2 [] fun x => {x with foldback := true, foldAt := 5}, 2, by decide +kernel⟩,
   ⟨loop2 [] fun x => { x with miswire := true, ramp := true }, 2, 4, by decide +kernel⟩,
   ⟨loop2 [] fun x => {x with miswire := true, tripAt := 100, trips := [1,2,3]}, 2, by decide +kernel⟩,
   ⟨loop2 [] fun x => {x with ramp := true, rampAt := 100, headroom := true, v := 0, raw := 4000000}, 2, by decide +kernel⟩,
   ⟨loop2 [] id, by decide +kernel⟩,
   ⟨loop2 [] fun x => { x with headAt := some 9000000 }, 2, 9000000, by decide +kernel⟩,
   ⟨loop2 [] fun x => { x with headAt := some 9000000, headroom := true }, 2, 9000000, by decide +kernel⟩,
   ⟨loop2 [] fun x => { x with headAt := none }, 2, by decide +kernel⟩,
   ⟨loop2 [(12,0x60,2)] fun x => {x with miswire := true, tripAt := 100, trips := [1,2]}, 2, by decide +kernel⟩,
   ⟨loop2 [(12,0x61,0xFFFF00DC)] fun x => {x with special := false, v := 30000000, i := 1500000}, 2, by decide +kernel⟩,
   ⟨loop2 [] id, 2, by decide +kernel⟩,
   ⟨loop2 [] id, 2, by decide +kernel⟩,
   ⟨loop2 [(12,0x61,0xFFFF00DC)] fun x => {x with special := false, i := 999999, owFailed := true, owPath := true}, 2, by decide +kernel⟩⟩

/-- States that meet the hypotheses of `Obligations.OpenWireAndTrim`, clause by clause. -/
theorem witness_OpenWireAndTrim :
    (∃ (s : State) (p : Port) (k : Chan), Accepted s p (writeOf 12 2 [keyed 0x4F#8 (place 0 k.val ||| place 4 1)])) ∧
    (∃ (s : State) (p : Port) (k : Chan), Accepted s p (writeOf 12 2 [keyed 0x4F#8 (place 0 k.val ||| place 4 2)]) ∧ s.loop[k].ow.state = 1) ∧
    (∃ (s : State) (p : Port) (k : Chan), Accepted s p (writeOf 12 2 [keyed 0x4F#8 (place 0 k.val ||| place 4 2)]) ∧ s.loop[k].ow.state ≠ 1) ∧
    (∃ (s : State) (k : Chan), s.loop[k].ow.state = 1 ∧ s.loop[k].ow.step = 2 ∧ s.loop[k].ow.sn = true) ∧
    (∃ (s : State) (k : Chan) (r0 r1 r2 : ℚ), s.loop[k].ow.state = 1 ∧ s.loop[k].ow.step = 6 ∧ 0 < s.loop[k].ow.r0.2 ∧ 0 < s.loop[k].ow.r1.2 ∧ 0 < s.loop[k].ow.r2.2 ∧ r0 = (s.loop[k].ow.r0.1 : ℚ) / s.loop[k].ow.r0.2 ∧ r1 = (s.loop[k].ow.r1.1 : ℚ) / s.loop[k].ow.r1.2 ∧ r2 = (s.loop[k].ow.r2.1 : ℚ) / s.loop[k].ow.r2.2 ∧ 20000 < |r2 - r0|) ∧
    (∃ (s : State) (k : Chan) (r0 r1 r2 : ℚ), s.loop[k].ow.state = 1 ∧ s.loop[k].ow.step = 6 ∧ 0 < s.loop[k].ow.r0.2 ∧ 0 < s.loop[k].ow.r1.2 ∧ 0 < s.loop[k].ow.r2.2 ∧ r0 = (s.loop[k].ow.r0.1 : ℚ) / s.loop[k].ow.r0.2 ∧ r1 = (s.loop[k].ow.r1.1 : ℚ) / s.loop[k].ow.r1.2 ∧ r2 = (s.loop[k].ow.r2.1 : ℚ) / s.loop[k].ow.r2.2 ∧ |r2 - r0| ≤ 20000 ∧ |r1 - (r0 + r2) / 2 - 1000000| ≤ 20000) ∧
    (∃ (s : State) (k : Chan) (r0 r1 r2 : ℚ), s.loop[k].ow.state = 1 ∧ s.loop[k].ow.step = 6 ∧ 0 < s.loop[k].ow.r0.2 ∧ 0 < s.loop[k].ow.r1.2 ∧ 0 < s.loop[k].ow.r2.2 ∧ r0 = (s.loop[k].ow.r0.1 : ℚ) / s.loop[k].ow.r0.2 ∧ r1 = (s.loop[k].ow.r1.1 : ℚ) / s.loop[k].ow.r1.2 ∧ r2 = (s.loop[k].ow.r2.1 : ℚ) / s.loop[k].ow.r2.2 ∧ |r2 - r0| ≤ 20000 ∧ 20000 < |r1 - (r0 + r2) / 2 - 1000000|) ∧
    (∃ (s : State) (p : Port) (k : Chan), Accepted s p (writeOf 12 3 [keyed 0x7B#8 (place 0 k.val ||| place 4 1)])) ∧
    (∃ (s : State) (p : Port) (k : Chan), Accepted s p (writeOf 12 3 [keyed 0x7B#8 (place 0 k.val ||| place 4 2)]) ∧ s.loop[k].trim.state = 2) ∧
    (∃ (s : State) (p : Port) (k : Chan), Accepted s p (writeOf 12 3 [keyed 0x7B#8 (place 0 k.val ||| place 4 2)]) ∧ s.loop[k].trim.state = 0) ∧
    (∃ (s : State) (p : Port) (k : Chan) (g o : Int), Accepted s p (writeOf 12 3 [keyed 0x7B#8 (place 0 k.val ||| place 4 3)]) ∧ s.loop[k].trim.state = 3 ∧ trimResult s.loop[k].trim.i1 s.loop[k].trim.i2 s.loop[k].trim.raw1 s.loop[k].trim.raw2 = .ok (g, o)) ∧
    (∃ (s : State) (p : Port) (k : Chan) (e : Nat), Accepted s p (writeOf 12 3 [keyed 0x7B#8 (place 0 k.val ||| place 4 3)]) ∧ s.loop[k].trim.state = 3 ∧ trimResult s.loop[k].trim.i1 s.loop[k].trim.i2 s.loop[k].trim.raw1 s.loop[k].trim.raw2 = .error e) ∧
    (∃ (s : State) (p : Port) (k : Chan), Accepted s p (writeOf 12 3 [keyed 0x7B#8 (place 0 k.val ||| place 4 3)]) ∧ s.loop[k].trim.state ≠ 3) ∧
    (∃ (s : State) (p : Port) (k : Chan), Accepted s p (writeOf 12 3 [keyed 0x7B#8 (place 0 k.val ||| place 4 4)]) ∧ (mntFind s 7 k.val).isSome = true) ∧
    (∃ (s : State) (p : Port) (k : Chan), Accepted s p (writeOf 12 3 [keyed 0x7B#8 (place 0 k.val ||| place 4 4)]) ∧ (mntFind s 7 k.val).isSome = false) ∧
    (∃ (s : State) (k : Chan) (f : Nat), s.loop[k].trim.state = 1 ∧ s.loop[k].trim.wfrom = some f ∧ s.loop[k].trim.point = 1) ∧
    (∃ (s : State) (k : Chan) (f : Nat), s.loop[k].trim.state = 1 ∧ s.loop[k].trim.wfrom = some f ∧ s.loop[k].trim.point = 2) ∧
    (∃ (s : State) (k : Chan), (mntFind s 7 k.val).isSome = true) :=
  ⟨⟨loop2 [] id, 0, 2, by unfold Accepted; decide +kernel⟩,
   ⟨owSt 6 0 0, 0, 2, by unfold Accepted; decide +kernel⟩,
   ⟨loop2 [] id, 0, 2, by unfold Accepted; decide +kernel⟩,
   ⟨loop2 [] fun x => { x with ow := { x.ow with state := 1, step := 2, sn := true } }, 2, by decide +kernel⟩,
   ⟨owSt 6 2040002 40002, 2, 0, 1020001, 20001, by decide +kernel, by decide +kernel, by decide +kernel, by decide +kernel, by decide +kernel, by rw [show (owSt 6 2040002 40002).loop[(2 : Chan)].ow.r0 = (0, 2) by decide +kernel]; norm_num, by rw [show (owSt 6 2040002 40002).loop[(2 : Chan)].ow.r1 = (2040002, 2) by decide +kernel]; norm_num, by rw [show (owSt 6 2040002 40002).loop[(2 : Chan)].ow.r2 = (40002, 2) by decide +kernel]; norm_num, by norm_num⟩,
   ⟨owSt 6 2040000 20000, 2, 0, 1020000, 10000, by decide +kernel, by decide +kernel, by decide +kernel, by decide +kernel, by decide +kernel, by rw [show (owSt 6 2040000 20000).loop[(2 : Chan)].ow.r0 = (0, 2) by decide +kernel]; norm_num, by rw [show (owSt 6 2040000 20000).loop[(2 : Chan)].ow.r1 = (2040000, 2) by decide +kernel]; norm_num, by rw [show (owSt 6 2040000 20000).loop[(2 : Chan)].ow.r2 = (20000, 2) by decide +kernel]; norm_num, by norm_num, by norm_num⟩,
   ⟨owSt 6 2040001 0, 2, 0, (2040001 / 2), 0, by decide +kernel, by decide +kernel, by decide +kernel, by decide +kernel, by decide +kernel, by rw [show (owSt 6 2040001 0).loop[(2 : Chan)].ow.r0 = (0, 2) by decide +kernel]; norm_num, by rw [show (owSt 6 2040001 0).loop[(2 : Chan)].ow.r1 = (2040001, 2) by decide +kernel]; norm_num, by rw [show (owSt 6 2040001 0).loop[(2 : Chan)].ow.r2 = (0, 2) by decide +kernel]; norm_num, by norm_num, by norm_num⟩,
   ⟨loop2 [] id, 0, 2, by unfold Accepted; decide +kernel⟩,
   ⟨trimSt fun x => {x with state := 2}, 0, 2, by unfold Accepted; decide +kernel⟩,
   ⟨loop2 [] id, 0, 2, by unfold Accepted; decide +kernel⟩,
   ⟨trimSt trimPoints, 0, 2, (match trimResult 4000000 20000000 4000100 20000500 with | .ok g => g.1 | _ => 0), (match trimResult 4000000 20000000 4000100 20000500 with | .ok g => g.2 | _ => 0), by unfold Accepted; decide +kernel⟩,
   ⟨trimSt fun x => {trimPoints x with i2 := 4000000, raw2 := 4000000}, 0, 2, 1, by unfold Accepted; decide +kernel⟩,
   ⟨loop2 [] id, 0, 2, by unfold Accepted; decide +kernel⟩,
   ⟨trimSt fun x => {x with state := 2}, 0, 2, by unfold Accepted; decide +kernel⟩,
   ⟨loop2 [] id, 0, 2, by unfold Accepted; decide +kernel⟩,
   ⟨trimSt fun x => {x with state := 1, wfrom := some 77, point := 1, sum := 400, cnt := 100}, 2, 77, by decide +kernel⟩,
   ⟨trimSt fun x => {x with state := 1, wfrom := some 77, point := 2, sum := 400, cnt := 100}, 2, 77, by decide +kernel⟩,
   ⟨trimSt fun x => {x with state := 2}, 2, by decide +kernel⟩⟩

/-- States that meet the hypotheses of `Obligations.Hart`, clause by clause. -/
theorem witness_Hart :
    (∃ (s : State) (p : Port) (k : Chan) (ctl : Word), Memory.wf 0xFF s.store = true ∧ Accepted s p (writeOf 13 (0x43 + 8 * k.val) [(ctl &&& 0xFF000000#32) ||| 1#32])) ∧
    (∃ (s : State) (p : Port) (k : Chan), Memory.wf 0xFF s.store = true ∧ Accepted s p (writeOf 13 (0x43 + 8 * k.val) [keyed 0x69#8 (place 0 2)]) ∧ s.loop[k].hart.job = 1) ∧
    (∃ (s : State) (p : Port) (k : Chan), Memory.wf 0xFF s.store = true ∧ Accepted s p (writeOf 13 (0x43 + 8 * k.val) [keyed 0x69#8 (place 0 2)]) ∧ s.loop[k].hart.job ≠ 1) ∧
    (∃ (s : State) (p : Port) (k : Chan) (fi la : BitVec 6), Memory.wf 0xFF s.store = true ∧ Accepted s p (writeOf 13 2 [keyed 0x5C#8 (place 0 k.val ||| place 4 fi.toNat ||| place 10 la.toNat)])) ∧
    (∃ (s : State) (k : Chan), Memory.wf 0xFF s.store = true ∧ s.loop[k].hart.job ≠ 0 ∧ s.loop[k].hart.waiting = false ∧ s.loop[k].hart.cd = false ∧ hartRuns s k = true ∧ hartHeld s k = false ∧ 0 < s.loop[k].hart.att) ∧
    (∃ (s : State) (k : Chan), Memory.wf 0xFF s.store = true ∧ s.loop[k].hart.job ≠ 0 ∧ s.loop[k].hart.waiting = false ∧ s.loop[k].hart.cd = false ∧ hartRuns s k = true ∧ hartHeld s k = false ∧ s.loop[k].hart.job = 1) ∧
    (∃ (s : State) (k : Chan) (fr : List Byte), Memory.wf 0xFF s.store = true ∧ s.loop[k].hart.waiting = true ∧ hartRuns s k = true ∧ s.loop[k].hart.job = 1 ∧ hartAccept s.loop[k].hart true fr = true ∧ (hartData fr).getD 0 0 ≠ 32#8 ∧ s.mono ≤ s.loop[k].hart.sentAt + charTime (28 + fr.length)) ∧
    (∃ (s : State) (k : Chan), Memory.wf 0xFF s.store = true ∧ s.loop[k].hart.waiting = true ∧ hartRuns s k = true ∧ s.loop[k].hart.job = 1 ∧ s.loop[k].hart.att < 1 + fieldOf (cfgWord s 13 0) 5 3) ∧
    (∃ (s : State) (k : Chan), Memory.wf 0xFF s.store = true ∧ s.loop[k].hart.waiting = true ∧ hartRuns s k = true ∧ s.loop[k].hart.job = 1 ∧ 1 + fieldOf (cfgWord s 13 0) 5 3 ≤ s.loop[k].hart.att) ∧
    (∃ (s : State) (k : Chan) (fr : List Byte), Memory.wf 0xFF s.store = true ∧ hartRuns s k = true ∧ hartWhole fr = true ∧ fr.getD 0 0 = 0x01#8) ∧
    (∃ (s : State) (k : Chan), Memory.wf 0xFF s.store = true ∧ hartRuns s k = true) ∧
    (∃ (s : State) (e : DirEntry), Memory.wf 0xFF s.store = true ∧ dirEntryOf s 0x50 = some e ∧ MpBusy s (selOf e.base) 6) :=
  ⟨⟨hartSt id, 0, 2, 0x69000000, by unfold Accepted; decide +kernel⟩,
   ⟨hartSt (fun h => {h with job := 1, att := 1, req := [2,0x80,0,0,0x82], waiting := false}), 0, 2, by unfold Accepted; decide +kernel⟩,
   ⟨hartSt id, 0, 2, by unfold Accepted; decide +kernel⟩,
   ⟨hartSt id, 0, 2, 0, 63, by unfold Accepted; decide +kernel⟩,
   ⟨hartSt (fun h => {h with job := 1, att := 1, req := [2,0x80,0,0,0x82], waiting := false}), 2, by decide +kernel⟩,
   ⟨hartSt (fun h => {h with job := 1, att := 1, req := [2,0x80,0,0,0x82], waiting := false}), 2, by decide +kernel⟩,
   ⟨hartSt (fun h => {h with job := 1, att := 1, req := [2,0x80,0,0,0x82], waiting := true}), 2, hartFrame, by decide +kernel⟩,
   ⟨hartSt (fun h => {h with job := 1, att := 1, req := [2,0x80,0,0,0x82], waiting := true}), 2, by decide +kernel⟩,
   ⟨hartSt (fun h => {h with job := 1, att := 2, req := [2,0x80,0,0,0x82], waiting := true}), 2, by decide +kernel⟩,
   ⟨hartSt (fun h => {h with job := 1, att := 2, req := [2,0x80,0,0,0x82], waiting := true}), 2, burstFrame, by decide +kernel⟩,
   ⟨hartSt id, 2, by decide +kernel⟩,
   ⟨{ sealedSt with ld := { sealedSt.ld with hdirDirty := true }, mp := { mpReset with op := mpReset.op.set 0 (some { owner := 6, kind := .program, suspended := false }) } }, hdirEntry, sealed_wf, (sealed_entry _ rfl 0x50).trans (by decide +kernel), by decide +kernel, .program, by decide +kernel⟩⟩

/-- States that meet the hypotheses of `Obligations.ChurnAndSurvey`, clause by clause. -/
theorem witness_ChurnAndSurvey :
    (∃ (s : State) (k : Chan), s.loop[k].churn.running = true ∧ s.loop[k].churn.target = none ∧ s.loop[k].churn.waiting = [] ∧ s.loop[k].churn.test = none ∧ onGrid s.loop[k].churn s.loop[k].churn.edge 1 = false) ∧
    (∃ (s : State) (k : Chan), s.loop[k].churn.running = true) ∧
    (∃ (s : State) (k : Chan) (tO tE : Nat) (r : List (Nat × Nat)), s.loop[k].churn.target = none ∧ s.loop[k].churn.waiting = (tO, tE) :: r ∧ s.loop[k].churn.edge ≤ tO - (79 * s.loop[k].churn.n - 3)) ∧
    (∃ (s : State) (k : Chan), modulatorOn s k = true ∧ uplinksDown s ldDie = false) ∧
    (∃ (s : State) (k : Chan) (d : FDie), svRuns s (toDie d) = true ∧ s.survey[toDie d].urgent = false ∧ s.survey[toDie d].queue = [] ∧ s.survey[toDie d].item = .chI k.val) ∧
    (∃ (s : State) (k : Chan) (d : FDie), svRuns s (toDie d) = true ∧ s.survey[toDie d].urgent = false ∧ s.survey[toDie d].queue = [] ∧ s.survey[toDie d].item = .chV k.val) ∧
    (∃ (s : State) (d : FDie) (smp : List Int), svRuns s (toDie d) = true ∧ s.survey[toDie d].urgent = false ∧ s.survey[toDie d].queue = [] ∧ s.survey[toDie d].item = .aux ∧ (((smp.take (2 ^ (min 4 (svField s (toDie d) 5 3)))).foldl (· + ·) 0 / ((2 ^ (min 4 (svField s (toDie d) 5 3)) : Nat) : Int)) < 4750 ∨ 5250 < ((smp.take (2 ^ (min 4 (svField s (toDie d) 5 3)))).foldl (· + ·) 0 / ((2 ^ (min 4 (svField s (toDie d) 5 3)) : Nat) : Int)))) ∧
    (∃ (s : State) (d : FDie) (smp : List Int), svRuns s (toDie d) = true ∧ s.survey[toDie d].urgent = false ∧ s.survey[toDie d].queue = [] ∧ s.survey[toDie d].item = .aux ∧ 4750 ≤ ((smp.take (2 ^ (min 4 (svField s (toDie d) 5 3)))).foldl (· + ·) 0 / ((2 ^ (min 4 (svField s (toDie d) 5 3)) : Nat) : Int)) ∧ ((smp.take (2 ^ (min 4 (svField s (toDie d) 5 3)))).foldl (· + ·) 0 / ((2 ^ (min 4 (svField s (toDie d) 5 3)) : Nat) : Int)) ≤ 5250 ∧ s.survey[toDie d].okSup = 1) ∧
    (∃ (s : State) (x : Die) (u : UrgItem × Nat × Nat) (us : List (UrgItem × Nat × Nat)), svRuns s x = true ∧ s.survey[x].urgent = true ∧ s.survey[x].queue = u :: us) ∧
    (∃ (s : State) (d : FDie) (u : UrgItem × Nat × Nat) (us : List (UrgItem × Nat × Nat)), svRuns s (toDie d) = true ∧ s.survey[toDie d].queue = u :: us ∧ s.survey[toDie d].urgent = false ∧ s.survey[toDie d].guard = false) ∧
    (∃ (s : State) (d : FDie) (u : UrgItem × Nat × Nat) (us : List (UrgItem × Nat × Nat)), svRuns s (toDie d) = true ∧ s.survey[toDie d].queue = u :: us ∧ s.survey[toDie d].urgent = false ∧ s.survey[toDie d].guard = true) ∧
    (∃ (s : State) (p : Port) (k : Chan) (pat : BitVec 4), Accepted s p (writeOf 14 0x30 [keyed 0x3E#8 (place 0 k.val ||| place 4 1 ||| place 6 (pat.toNat % 4))])) ∧
    (∃ (s : State) (p : Port) (k : Chan), Accepted s p (writeOf 14 0x30 [keyed 0x3E#8 (place 0 k.val ||| place 4 2)]) ∧ s.loop[k].churn.test.isSome = true) ∧
    (∃ (s : State) (p : Port) (k : Chan), Accepted s p (writeOf 14 0x30 [keyed 0x3E#8 (place 0 k.val ||| place 4 2)]) ∧ s.loop[k].churn.test = none) :=
  ⟨⟨churnSt id, 2, by decide +kernel⟩,
   ⟨churnSt id, 2, by decide +kernel⟩,
   ⟨churnSt fun c => {c with waiting := [(200000, 200000)]}, 2, 200000, 200000, [], by decide +kernel⟩,
   ⟨churnSt id, 2, by decide +kernel⟩,
   ⟨surveySt fun c => {c with item := .chI 2}, 2, 1, by decide +kernel⟩,
   ⟨surveySt fun c => {c with item := .chV 2}, 2, 1, by decide +kernel⟩,
   ⟨surveySt fun c => {c with item := .aux}, 1, [4749], by decide +kernel⟩,
   ⟨surveySt fun c => {c with item := .aux, supErr := true, okSup := 1}, 1, [4750], by decide +kernel⟩,
   ⟨surveySt fun c => {c with urgent := true, queue := [(.loopSn 2, 5, 0)]}, 4, (.loopSn 2, 5, 0), [], by decide +kernel⟩,
   ⟨surveySt fun c => {c with queue := [(.sampleV 2, 5, 0)]}, 1, (.sampleV 2, 5, 0), [], by decide +kernel⟩,
   ⟨surveySt fun c => {c with guard := true, queue := [(.sampleV 2, 5, 0)]}, 1, (.sampleV 2, 5, 0), [], by decide +kernel⟩,
   ⟨churnSt id, 0, 2, 6, by unfold Accepted; decide +kernel⟩,
   ⟨chainTest, 0, 2, by unfold Accepted; decide +kernel⟩,
   ⟨churnSt id, 0, 2, by unfold Accepted; decide +kernel⟩⟩

/-- States that meet the hypotheses of `Obligations.StepRunsCommand`, clause by clause. -/
theorem witness_StepRunsCommand :
    (∃ (s : State) (c : Instr) (r : List Instr), s.pending = c :: r) :=
  ⟨{ run0 with pending := [.commit 0, .voteClose] }, .commit 0, [.voteClose], by decide +kernel⟩

/-- A state with a command in front that meets the hypotheses of `Obligations.StepInvariant`. -/
theorem witness_StepInvariant : ∃ (s t : State), Inv s ∧ s.pending ≠ [] ∧ step s = .next t :=
  ⟨{ run0 with pending := [.voteClose] }, nx (step { run0 with pending := [.voteClose] }),
    { store := by decide +kernel, mem := by decide +kernel, image := by decide +kernel, regs := by decide +kernel,
      shadow := by decide +kernel, pc := by decide +kernel, entry := by decide +kernel }, by decide, rfl⟩

/-- States that meet the hypotheses of `Obligations.QueueAndPads`, clause by clause. -/
theorem witness_QueueAndPads :
    (∃ (c : Instr), (∀ i cs xs, c ≠ .tapInstruction i cs xs)) ∧
    (∃ (c : Instr), (∀ r b, c ≠ .vddioAbsent r b)) :=
  ⟨⟨.commit 0, fun _ _ _ h => by cases h⟩,
   ⟨.commit 0, fun _ _ h => by cases h⟩⟩

end

end Sys2Proof.Tests
end

namespace Sys2Proof.Machine

/-! ## What every command keeps -/

/-- The command answers a next state, and from `s` to it the queue, the test access port and the rails stand and the invariant goes over. -/
def Keeps (s : State) (o : Out) : Prop := ∃ t, o = .next t ∧ Kept s t

theorem Keeps.of_next {s t : State} (h : Kept s t) : Keeps s (.next t) := ⟨t, rfl, h⟩

/-! ### Writes to one part of the state that no invariant speaks of -/

section
variable {s0 s : State}

theorem Kept.with_boot {x : BootSt} (hx : x.entry = s.boot.entry) (h : Kept s0 s) : Kept s0 { s with boot := x } :=
  .record rfl rfl rfl id id id id id (fun he => hx ▸ he) h
theorem Kept.with_cyc {x : CycSt} (hx : x.image = s.cyc.image) (h : Kept s0 s) : Kept s0 { s with cyc := x } :=
  .record rfl rfl rfl id id (fun hi => hx ▸ hi) id id id h
theorem Kept.with_jrn {x : JrnSt} (h : Kept s0 s) : Kept s0 { s with jrn := x } := .record rfl rfl rfl id id id id id id h
theorem Kept.with_pwr {x : PwrSt} (h : Kept s0 s) : Kept s0 { s with pwr := x } := .record rfl rfl rfl id id id id id id h
theorem Kept.with_tm {x : TmSt} (h : Kept s0 s) : Kept s0 { s with tm := x } := .record rfl rfl rfl id id id id id id h
theorem Kept.with_ws {x : WsSt} (h : Kept s0 s) : Kept s0 { s with ws := x } := .record rfl rfl rfl id id id id id id h
theorem Kept.with_peer {x : PeerSt} (h : Kept s0 s) : Kept s0 { s with peer := x } := .record rfl rfl rfl id id id id id id h
theorem Kept.with_mp {x : MpSt} (h : Kept s0 s) : Kept s0 { s with mp := x } := .record rfl rfl rfl id id id id id id h
theorem Kept.with_pl {x : PlSt} (h : Kept s0 s) : Kept s0 { s with pl := x } := .record rfl rfl rfl id id id id id id h
theorem Kept.with_own {x : OwnSt} (h : Kept s0 s) : Kept s0 { s with own := x } := .record rfl rfl rfl id id id id id id h
theorem Kept.with_app {x : ApplySt} (h : Kept s0 s) : Kept s0 { s with app := x } := .record rfl rfl rfl id id id id id id h
theorem Kept.with_led {x : LedSt} (h : Kept s0 s) : Kept s0 { s with led := x } := .record rfl rfl rfl id id id id id id h
theorem Kept.with_gov {x : GovSt} (h : Kept s0 s) : Kept s0 { s with gov := x } := .record rfl rfl rfl id id id id id id h
theorem Kept.with_ld {x : LdSt} (h : Kept s0 s) : Kept s0 { s with ld := x } := .record rfl rfl rfl id id id id id id h
theorem Kept.with_coreDown {x : Bool} (h : Kept s0 s) : Kept s0 { s with coreDown := x } := .record rfl rfl rfl id id id id id id h
theorem Kept.with_tm_ws {x : TmSt} {y : WsSt} (h : Kept s0 s) : Kept s0 { s with tm := x, ws := y } :=
  .record rfl rfl rfl id id id id id id h
theorem Kept.with_time_tm {x : Nat} {y : TmSt} (h : Kept s0 s) : Kept s0 { s with time := x, tm := y } :=
  .record rfl rfl rfl id id id id id id h
theorem Kept.with_freeCtr_attest {x : Nat} {y : AttestSt} (h : Kept s0 s) : Kept s0 { s with freeCtr := x, attest := y } :=
  .record rfl rfl rfl id id id id id id h

/-- A lane begins its cycle from the image and ENTRY, which the invariant holds in order (R145). -/
theorem laneBegin_kept {l : Lane} (h : Kept s0 s) : Kept s0 (updLane s l (laneBegin s)) :=
  ⟨h.pending, h.tap, h.vddio, fun hi => laneBegin_inv (h.inv hi)⟩

end

section
variable {s : State} {l : Lane} {d : FDie} {x : Die} {k : Chan} {p : Port} {c : Ctrl}

/-! ### Time (07) -/

theorem execTsyncInEdge_keeps {t : Nat} : Keeps s (execTsyncInEdge t s) :=
  .of_next <| Kept.ite (fun _ => .refl s) fun _ => Kept.ite
    (fun _ => Kept.ite (fun _ => timeTo_kept (.refl s)) fun _ => accept_kept (.with_tm (timeTo_kept (.refl s))))
    fun _ => .with_tm (timeTo_kept (.refl s))

theorem execTsyncLost_keeps : Keeps s (execTsyncLost s) :=
  .of_next <| Kept.ite (fun _ => ledger_kept (setSync_kept (.with_tm (timeTo_kept (.refl s))))) fun _ => .refl s

theorem execWsLost_keeps : Keeps s (execWsLost s) :=
  .of_next <| Kept.ite (fun _ => ledger_kept (setSync_kept (.with_tm (monoTo_kept (.refl s))))) fun _ => .refl s

theorem execTsyncOutPulse_keeps : Keeps s (execTsyncOutPulse s) :=
  .of_next <| Kept.ite (fun _ => .with_tm (Kept.ite (fun _ => .refl s) fun _ => timeTo_kept (.refl s))) fun _ => .refl s

theorem execRefPRevert_keeps {adv : Nat} : Keeps s (execRefPRevert adv s) :=
  .of_next <| Kept.ite (fun _ => ledger_kept (.with_time_tm (monoTo_kept (.refl s)))) fun _ => .refl s

theorem execWsSyncRx_keeps {domain seq : Byte} {t : Nat} : Keeps s (execWsSyncRx domain seq t s) := by
  refine .of_next ?_
  split
  · exact Kept.ite (fun _ => .refl s) fun _ => Kept.ite (fun _ => .with_ws (.refl s)) fun _ =>
      Kept.ite (fun _ => .with_ws (.with_ws (.refl s))) fun _ =>
      Kept.ite (fun _ => ledger_kept (.with_ws (.refl s))) fun _ => .with_ws (.refl s)
  · exact .refl s

theorem execWsFollowRx_keeps {ts t : Nat} : Keeps s (execWsFollowRx ts t s) := by
  refine .of_next ?_
  split
  · refine Kept.ite (fun _ => .refl s) fun _ => ?_
    split
    · exact .with_ws (.refl s)
    · have h {w v} : Kept s { { s with ws := w } with ws := v } := .with_ws (.with_ws (.refl s))
      exact Kept.ite (fun _ => Kept.ite (fun _ => accept_kept (.with_tm_ws h)) fun _ => .with_tm_ws h) fun _ => .with_tm h
  · exact .refl s

theorem execWsSyncDue_keeps : Keeps s (execWsSyncDue s) :=
  have h : ∀ w, Kept s { timeTo s (gridNext 0 (wsPeriod s) s.time) with ws := w } := fun _ => .with_ws (timeTo_kept (.refl s))
  .of_next <| Kept.ite (fun _ => Kept.ite (fun _ => abandonSync_kept (h _)) fun _ => h _) fun _ => .refl s

theorem execWsSyncAbandon_keeps : Keeps s (execWsSyncAbandon s) := by
  refine .of_next ?_
  split
  · exact abandonSync_kept (monoTo_kept (.refl s))
  · exact .refl s

theorem execWsOwnSyncStamp_keeps {t : Nat} : Keeps s (execWsOwnSyncStamp t s) :=
  .of_next <| Kept.ite (fun _ => .with_ws (timeTo_kept (.refl s))) fun _ =>
    Kept.ite (fun _ => .with_ws (timeTo_kept (.refl s))) fun _ => .refl s

theorem execRefpOkRestored_keeps : Keeps s (execRefpOkRestored s) :=
  .of_next <| Kept.ite (fun _ => .refl s) fun _ => updLane_kept (fun _ hx => hx) (.with_tm (.refl s))

theorem execTmSectionFault_keeps {v0 v1 : Nat} : Keeps s (execTmSectionFault v0 s v1) :=
  .of_next <| Kept.ite (fun _ => .refl s) fun _ => Kept.ite (fun _ => dropSection_kept (.refl s)) fun _ =>
    Kept.ite (fun _ => dropSection_kept (.refl s)) fun _ => Kept.ite (fun _ => enterReset_kept (.refl s)) fun _ =>
    Kept.ite (fun _ => dropSection_kept (useFree_kept (.refl s))) fun _ => dropSection_kept (useFree_kept (.refl s))

/-! ### Links, barrier power and monitors (01, 02) -/

theorem execLinkLost_keeps {j : Link} : Keeps s (execLinkLost j s) :=
  .of_next <| Kept.ite (fun _ => loseLink_kept (.refl s)) fun _ => .refl s

theorem execInputEventFrame_keeps {t : Nat} : Keeps s (execInputEventFrame x t s) :=
  .of_next <| Kept.ite (fun _ => stampEvent_kept (dieTimeTo_kept (.refl s))) fun _ => .refl s

theorem execTimeFrame_keeps {ok : Bool} {o : Int} : Keeps s (execTimeFrame x ok o s) :=
  .of_next <| Kept.ite (fun _ => dieLock_kept (linkFrame_kept (.refl s))) fun _ => linkFrame_kept (.refl s)

theorem execTransformerFail_keeps {t : Fin 2} : Keeps s (execTransformerFail x t s) :=
  .of_next <| Kept.ite (fun _ => .refl s) fun _ =>
    Kept.ite (fun _ => dieClear_kept (abortOnDie_kept (ledger_kept (updDie_kept (.refl s))))) fun _ =>
      transferStops_kept (updDie_kept (ledger_kept (updDie_kept (.refl s))))

theorem execRailRegulationRestored_keeps : Keeps s (execRailRegulationRestored x s) := by
  refine .of_next ?_
  extract_lets s1
  have h1 : Kept s s1 := updDie_kept (.refl s)
  split
  · exact Kept.ite (fun _ => settle_kept (updField_kept h1)) fun _ => h1
  · exact h1

theorem execClockMonitorFail_keeps : Keeps s (execClockMonitorFail l s) :=
  .of_next <| Kept.ite (fun _ => toRefS_kept (useFree_kept (clockLost_kept (.refl s)))) fun _ =>
    Kept.ite (fun _ => toRefS_kept (clockLost_kept (.refl s))) fun _ => clockLost_kept (.refl s)

theorem execRefSwitch_keeps {adv : Nat} : Keeps s (execRefSwitch adv s) := .of_next (toRefS_kept (clockLost_kept (.refl s)))

theorem execMcoreWatchdogReset_keeps : Keeps s (execMcoreWatchdogReset s) :=
  .of_next <| Kept.ite (fun _ => .refl s) fun _ => Kept.foldl (fun _ _ => hartAbort_kept) _ (.with_coreDown (.refl s))

theorem execDieUcodeCheck_keeps {dig : List Word} : Keeps s (execDieUcodeCheck x dig s) :=
  .of_next <| Kept.ite (fun _ => .refl s) fun _ => Kept.ite (fun _ => dieReady_kept (.refl s)) fun _ => dieFails_kept (.refl s)

theorem execVisoLow_keeps {mV : Nat} : Keeps s (execVisoLow mV s) :=
  .of_next <| Kept.ite (fun _ => visoFalls_kept (.refl s)) fun _ => .refl s

theorem execVisoCollapse_keeps {mV : Nat} : Keeps s (execVisoCollapse s mV) :=
  .of_next <| Kept.ite (fun _ => Kept.foldl (fun _ _ => diePowerOff_kept) _ (visoFalls_kept (.refl s))) fun _ => .refl s

theorem execVbbLow_keeps {mV : Nat} : Keeps s (execVbbLow d mV s) :=
  have h : Kept s (chans16.foldl (chanVbbOff d) (updField s d fun f => { f with vbb := mV, vbbLow := true, vbbOff := true })) :=
    Kept.foldl (fun _ _ => chanVbbOff_kept) _ (updField_kept (.refl s))
  .of_next <| Kept.ite (fun _ => dieLedger_kept h) fun _ => h

theorem execVbbRestored_keeps : Keeps s (execVbbRestored d s) :=
  .of_next <| Kept.ite (fun _ => updField_kept (.refl s)) fun _ => .refl s

theorem execVbbHigh_keeps {mV : Nat} : Keeps s (execVbbHigh d mV s) :=
  .of_next <| Kept.ite (fun _ => dieLedger_kept (updField_kept (.refl s))) fun _ => updField_kept (.refl s)

theorem execPermitReadback_keeps : Keeps s (execPermitReadback l s) := .of_next (learnCause_kept (useFree_kept (.refl s)))

/-! ### The cycle and reintegration (05) -/

theorem execCommit_keeps {rb : BitVec 64} : Keeps s (execCommit rb s) :=
  .of_next <| Kept.ite (fun _ => commit_kept (.refl s)) fun _ => .refl s

theorem execPrimeTimeout_keeps {rb : BitVec 64} : Keeps s (execPrimeTimeout rb s) :=
  .of_next <| Kept.ite (fun _ => commit_kept (.refl s)) fun _ => .refl s

theorem execImageDelivered_keeps {dig : List Word} : Keeps s (execImageDelivered l dig s) :=
  .of_next <| Kept.ite (fun _ => .refl s) fun _ => Kept.ite (fun _ => laneBegin_kept (.refl s)) fun _ =>
    Kept.ite (fun _ => learnCause_kept (updLane_kept (fun _ hx => hx) (.refl s))) fun _ =>
      updLane_kept (fun _ hx => hx) (.refl s)

theorem execReintResetDone_keeps : Keeps s (execReintResetDone l s) :=
  .of_next <| Kept.ite (fun _ => updLane_kept (fun _ _ => ⟨rfl, rfl⟩) (.refl s)) fun _ => .refl s

theorem execReintCodeDone_keeps : Keeps s (execReintCodeDone l s) := by
  refine .of_next ?_
  split
  · exact Kept.ite (fun _ => Kept.laneUpd (fun _ hx hl => ⟨amWf_amCopy (by decide) hx.1 (hl _).1, hx.2⟩) (.refl s))
      fun _ => reintFail_kept (.refl s)
  · exact .refl s

theorem bulkRanges_le : ∀ r ∈ (0x30000000, 0x30020000) :: bulkRanges, r.1 ≤ r.2 := by decide

theorem execReintBulkDone_keeps : Keeps s (execReintBulkDone l s) := by
  refine .of_next ?_
  split
  · exact Kept.ite (fun _ => Kept.laneUpd (fun _ hx hl => ⟨copyRanges_ok hx.1 (hl _).1 _ bulkRanges_le, hx.2⟩) (.refl s))
      fun _ => reintFail_kept (.refl s)
  · exact .refl s

theorem execReintStageTime_keeps : Keeps s (execReintStageTime l s) := by
  refine .of_next ?_
  extract_lets x
  split
  · exact reintFail_kept (monoTo_kept (.refl s))
  · exact reintFail_kept (monoTo_kept (.refl s))
  · split
    · exact reintFail_kept (monoTo_kept (.refl s))
    · exact .refl s
  · exact .refl s

theorem execReintNoconverge_keeps : Keeps s (execReintNoconverge l s) :=
  .of_next <| Kept.ite (fun _ => reintFail_kept (.refl s)) fun _ => .refl s

theorem execFinalPassDone_keeps : Keeps s (execFinalPassDone s) := by
  refine .of_next ?_
  split
  · exact Kept.ite
      (fun _ => .with_cyc rfl (Kept.laneUpd (fun _ hx hl => ⟨copyBlocks_wf _ hx.1 (hl _).1, hx.2⟩) (.refl s)))
      fun _ => reintFail_kept (.refl s)
  · exact .refl s

/-! ### Reset, boot and modes (03, 04) -/

theorem execPorRelease_keeps {b : BitVec 2} {t r : Bool} : Keeps s (execPorRelease b t s r) :=
  .of_next <| Kept.ite (fun _ => release_kept (.refl s)) fun _ => .refl s

theorem execResetRelease_keeps {b : BitVec 2} {t : Bool} : Keeps s (execResetRelease b t s) :=
  .of_next <| Kept.ite (fun _ => release_kept (.refl s)) fun _ => .refl s

theorem execBootComplete_keeps : Keeps s (execBootComplete s) :=
  .of_next <| Kept.foldl (fun _ _ h => Kept.ite (fun _ => bootStep_kept h) fun _ => h) _ (.refl s)

theorem execRstoutRelease_keeps : Keeps s (execRstoutRelease s) :=
  .of_next <| Kept.ite (fun _ => .refl s) fun _ => .with_boot rfl (.refl s)

theorem execWakePad_keeps {v : Nat} {hi : Bool} : Keeps s (execWakePad v s hi) :=
  .of_next <| Kept.ite (fun _ => wake_kept (.with_pwr (.refl s))) fun _ => .with_pwr (.refl s)

theorem execWakeCan_keeps {f : CanFrame} {v : Nat} : Keeps s (execWakeCan c f v s) :=
  .of_next <| Kept.ite (fun _ => wake_kept (.refl s)) fun _ => .refl s

theorem execWakeAlarm_keeps {v : Nat} : Keeps s (execWakeAlarm v s) :=
  .of_next <| Kept.ite (fun _ => wake_kept (timeTo_kept (.refl s))) fun _ => .refl s

theorem execConfirmWriteDone_keeps {ok : Bool} : Keeps s (execConfirmWriteDone ok s) := by
  refine .of_next ?_
  extract_lets s1 _ s2 s3
  have h1 : Kept s s1 := mpServe_kept (.refl s)
  have h2 : Kept s s2 := .with_boot rfl h1
  have h3 : Kept s s3 := Kept.ite (fun _ => dirWrite_kept h2) fun _ => mpCount_kept h2
  exact Kept.ite (fun _ => h1) fun _ => mpFinish_kept (mntEndOf_kept h3)

theorem execQuoteComplete_keeps {ok : Bool} : Keeps s (execQuoteComplete ok s) := by
  refine .of_next ?_
  split
  · exact .refl s
  · exact quoteNext_kept (irqQuote_kept (Kept.ite (fun _ => .with_freeCtr_attest (.refl s)) fun _ =>
      ledger_kept (.with_freeCtr_attest (.refl s))))

theorem execJournalCaptureDone_keeps : Keeps s (execJournalCaptureDone s) := by
  refine .of_next (Kept.ite (fun _ => .refl s) fun _ => ?_)
  extract_lets _ s1
  have h1 : Kept s s1 := .with_jrn (.refl s)
  split
  · exact journalBegin_kept h1
  · exact ledger_kept (.with_jrn h1)

theorem execJournalWriteDone_keeps {ok : Bool} : Keeps s (execJournalWriteDone ok s) := by
  refine .of_next ?_
  split
  · exact .refl s
  · extract_lets type s1
    have h1 : Kept s s1 := mpServe_kept (.refl s)
    split
    · exact mpDrop_kept (.with_jrn h1)
    · refine Kept.ite (fun _ => h1) fun _ => ?_
      have h2 := fun lo hi => storeErase_kept (a1 := lo) (a2 := hi) (Kept.with_jrn (x := { s1.jrn with writing := none }) h1)
      exact mpFinish_kept (Kept.ite (fun _ => journalShow_kept (storePut_kept (h2 _ _))) fun _ => mpCount_kept (h2 _ _))

/-! ### The lanes (06) -/

theorem execEndcyc_keeps : Keeps s (execEndcyc l s) := by
  refine .of_next ?_
  extract_lets x
  refine Kept.ite (fun _ => .refl s) fun _ => ?_
  split
  · exact laneTrap_kept (.refl s)
  · exact askLine_kept (.refl s)
  · exact Kept.ite (fun _ => endCycle_kept (.refl s)) fun _ => .refl s

theorem execTrap_keeps {code : BitVec 18} : Keeps s (execTrap l code s) := .of_next (lyn_ok (fun _ _ => trivial) (.refl s))

theorem execServe_keeps {ra : Reg} : Keeps s (execServe l ra s) :=
  .of_next (lyn_ok (fun y hy => pcNext_ok (x := { y with serve := y.serve ++ [xget y ra] }) hy) (.refl s))

theorem execRds_keeps {rd : Reg} {num : BitVec 8} : Keeps s (execRds l rd num s) := by
  refine .of_next (lyn_ok (fun y hy => ?_) (.refl s))
  split
  · exact pcNext_ok (xset_ok hy)
  · trivial

theorem execWrs_keeps {ra : Reg} {num : BitVec 8} : Keeps s (execWrs l ra num s) := by
  refine .of_next (lyn_ok (fun y hy => ?_) (.refl s))
  extract_lets v
  split
  · exact pcNext_ok (x := { y with xipBase := v }) hy
  · split
    · exact pcNext_ok (x := { y with xipSpan := v }) hy
    · trivial

theorem execLui_keeps {rd : Reg} {imm : BitVec 22} : Keeps s (execLui l rd imm s) :=
  .of_next (lyn_ok (fun _ hy => pcNext_ok (xset_ok hy)) (.refl s))

theorem execCsel_keeps {rd ra rb : Reg} {cond : BitVec 4} : Keeps s (execCsel l rd ra rb cond s) := by
  refine .of_next (lyn_ok (fun y hy => ?_) (.refl s))
  split
  · exact pcNext_ok (xset_ok hy)
  · trivial

theorem execB_keeps {cond : BitVec 4} {imm : BitVec 22} : Keeps s (execB l cond imm s) := by
  refine .of_next (lyn_ok (fun y hy => ?_) (.refl s))
  split
  · exact branch_ok hy
  · exact pcNext_ok hy
  · trivial

theorem execJal_keeps {rd : Reg} {imm : BitVec 22} : Keeps s (execJal l rd imm s) :=
  .of_next (lyn_ok (fun _ hy => xset_ok (branch_ok hy)) (.refl s))

/-- A jump to a target that is no multiple of 4 traps (R145), so the new PC is one. -/
theorem execJalr_keeps {rd ra : Reg} {imm : BitVec 18} : Keeps s (execJalr l rd ra imm s) := by
  refine .of_next (lyn_ok (fun y hy => ?_) (.refl s))
  extract_lets tgt
  split
  · trivial
  · rename_i haligned
    exact xset_ok (x := { y with pc := tgt }) ⟨hy.1, not_not.mp haligned⟩

theorem execIllegal_keeps {w : Word} : Keeps s (execIllegal l w s) := by
  refine .of_next (lyn_ok (fun y hy => ?_) (.refl s))
  split
  · exact hy
  · trivial

theorem execFetchFault_keeps {e : Ecc} : Keeps s (execFetchFault l e s) := by
  refine .of_next (lynStep_ok (fun y hy => ?_) (.refl s))
  cases e
  case clean => exact hy
  case single => exact countEcc_ok hy
  case double => trivial

theorem execXipLineFill_keeps {a : Word} {ok1 ok2 : Bool} : Keeps s (execXipLineFill a ok1 ok2 s) := by
  refine .of_next ?_
  extract_lets a
  split
  · exact Kept.ite (fun _ => .refl s) fun _ => fillEnds_kept (lineArrives_kept (.refl s))
  · exact .refl s

theorem execXipFail_keeps : Keeps s (execXipFail l s) :=
  .of_next <| Kept.ite (fun _ => laneTrap_kept (monoTo_kept (.refl s))) fun _ => .refl s

/-! ### Program loads and the memory port (06, 12) -/

theorem execPlEraseDone_keeps {ok : Bool} : Keeps s (execPlEraseDone ok s) :=
  have h {a} : Kept s (mpServe s a) := mpServe_kept (.refl s)
  .of_next <| Kept.ite (fun _ => h) fun _ => Kept.ite (fun _ => plFail_kept h) fun _ =>
    Kept.ite (fun _ => mpFinish_kept (.with_pl (storeErase_kept h))) fun _ => plFail_kept (mpCount_kept h)

theorem execPlChunkDone_keeps {ok : Bool} : Keeps s (execPlChunkDone ok s) :=
  have h {a} : Kept s (mpServe s a) := mpServe_kept (.refl s)
  .of_next <| Kept.ite (fun _ => h) fun _ => Kept.ite (fun _ => plFail_kept h) fun _ =>
    Kept.ite (fun _ => mpFinish_kept (.with_pl (storePut_kept h))) fun _ => plFail_kept (mpCount_kept h)

theorem execPlFinishDone_keeps {ok : Bool} : Keeps s (execPlFinishDone ok s) :=
  have h : Kept s (mpServe s 0) := mpServe_kept (.refl s)
  .of_next <| Kept.ite (fun _ => h) fun _ => Kept.ite (fun _ => plFail_kept h) fun _ =>
    Kept.ite (fun _ => plFail_kept h) fun _ => plEnd_kept (dirWrite_kept h)

theorem execPlTrialDone_keeps {ok : Bool} : Keeps s (execPlTrialDone ok s) :=
  have h : Kept s (mpServe s 0) := mpServe_kept (.refl s)
  .of_next <| Kept.ite (fun _ => h) fun _ => Kept.ite (fun _ => plFail_kept h) fun _ => plEnd_kept (dirWrite_kept h)

theorem execMpxDone_keeps {e : BitVec 3} {id : Word} : Keeps s (execMpxDone e id s) := by
  refine .of_next ?_
  extract_lets sel s1 e s2 _ s3
  have h1 : Kept s s1 := mpServe_kept (.refl s)
  have h2 : Kept s s2 := Kept.ite (fun _ => mpxApply_kept h1) fun _ => mpxCount_kept h1
  have h3 : Kept s s3 := mpFinish_kept (.with_mp h2)
  exact Kept.ite (fun _ => h1) fun _ => Kept.ite (fun _ => mntEndOf_kept h3) fun _ => h3

theorem execMpTimeout_keeps {sel : Fin 2} : Keeps s (execMpTimeout sel s) := by
  refine .of_next ?_
  extract_lets s1
  have h1 : Kept s s1 := mpServe_kept (.refl s)
  split
  · exact h1
  · refine Kept.ite (fun _ => h1) fun _ => ?_
    have h2 {m} : Kept s (mpTimedOut { s1 with mp := m } sel.val) := mpTimedOut_kept (.with_mp h1)
    refine mpServe_kept ?_
    split
    · exact .with_jrn h2
    · exact Kept.ite (fun _ => mntEndOf_kept (.with_boot rfl h2)) fun _ => plFail_kept h2
    · exact Kept.ite (fun _ => mntEndOf_kept (.with_mp h2)) fun _ => .with_mp h2
    · exact h2

theorem execMpSuspend_keeps {sel : Fin 2} : Keeps s (execMpSuspend sel s) := by
  refine .of_next ?_
  split
  · exact Kept.ite (fun _ => .with_mp (.refl s)) fun _ => .refl s
  · exact .refl s

/-! ### Frames and the peer port (12) -/

theorem execPortSelect_keeps {r : Bool} : Keeps s (execPortSelect p s r) :=
  .of_next <| Kept.ite (fun _ => .refl s) fun _ => updPort_kept (.refl s)

theorem execReadSnap_keeps {page off n : Nat} {part ends : Bool} : Keeps s (execReadSnap p page off n part ends s) :=
  .of_next <| Kept.ite (fun _ => .refl s) fun _ => Kept.ite (fun _ => hostFrame_kept (.refl s)) fun _ =>
    Kept.ite (fun _ => sendEcho_kept (.refl s)) fun _ => updPort_kept (sendEcho_kept (.refl s))

theorem execFrameTimeout_keeps {cmd : BitVec 3} {page off : Nat} {ws : List Word} : Keeps s (execFrameTimeout p cmd page off ws s) :=
  .of_next <| Kept.ite (fun _ => .refl s) fun _ => serveFrame_kept (.refl s)

theorem execPeerPush_keeps {n : Nat} {r : Byte} : Keeps s (execPeerPush n r s) := by
  refine .of_next ?_
  split
  · exact .refl s
  · exact Kept.ite (fun _ => pushFault_kept (.refl s)) fun _ => .with_peer (.refl s)

theorem execPpStall_keeps : Keeps s (execPpStall s) :=
  .of_next <| Kept.ite (fun _ => .refl s) fun _ => pushFault_kept (.refl s)

theorem execBpwrOn_keeps {v : Nat} : Keeps s (execBpwrOn p x v s) := .of_next (hostWrite_kept (.with_pwr (.refl s)))

/-! ### Ownership, APPLY, watchdogs, ledger, maintenance (14, 15) -/

theorem execGrantExpire_keeps : Keeps s (execGrantExpire s) :=
  .of_next <| Kept.ite (fun _ => .refl s) fun _ => .with_own (monoTo_kept (.refl s))

theorem execOwnLapse_keeps : Keeps s (execOwnLapse s) := by
  refine .of_next ?_
  split
  · exact .refl s
  · exact Kept.ite (fun _ => .refl s) fun _ => .with_own (ledger_kept (ownerSet_kept (monoTo_kept (.refl s))))

theorem execApplyCheckDone_keeps : Keeps s (execApplyCheckDone s) := by
  refine .of_next (Kept.ite (fun _ => .refl s) fun _ => ?_)
  split
  · exact applyRefuse_kept (.refl s)
  · exact .with_app (.refl s)

theorem execApplyQuietEffect_keeps : Keeps s (execApplyQuietEffect s) :=
  .of_next <| Kept.ite (fun _ => quietApply_kept (.refl s)) fun _ => .refl s

theorem execWdogCheckin_keeps : Keeps s (execWdogCheckin l s) := by
  refine .of_next ?_
  split
  · exact .refl s
  · exact wdCheckin_kept (updLane_kept (fun _ hx => hx) (.refl s))

theorem execWdogExp_keeps {i : Fin 4} : Keeps s (execWdogExp i s) :=
  .of_next <| Kept.ite (fun _ => wdExpire_kept (monoTo_kept (.refl s))) fun _ => .refl s

theorem execWdogClock_keeps {i : Fin 4} : Keeps s (execWdogClock i s) :=
  .of_next <| Kept.ite (fun _ => .refl s) fun _ => wdAct_kept (ledger_kept (updWd_kept (.refl s)))

theorem execLedgerJournalWrite_keeps {ok : Bool} : Keeps s (execLedgerJournalWrite ok s) := by
  refine .of_next ?_
  extract_lets sel s1
  have h1 : Kept s s1 := mpServe_kept (.refl s)
  split
  · refine Kept.ite (fun _ => h1) fun _ => ?_
    extract_lets u pos s2
    have h2 : Kept s s2 := Kept.ite (fun _ => storeErase_kept h1) fun _ => h1
    exact Kept.ite (fun _ => mpFinish_kept (.with_led (storePut_kept h2))) fun _ => mpFinish_kept (mpCount_kept h2)
  · exact h1

theorem execJready_keeps : Keeps s (execJready s) :=
  .of_next <| Kept.ite (fun _ => .refl s) fun _ =>
    Kept.foldl (fun _ _ h => .with_led h) _ (ledOther_kept (.with_led (.refl s)))

theorem execMaintEnd_keeps {j : Fin 32} {mV : List Nat} {cd cl : BitVec 16} : Keeps s (execMaintEnd j mV cd cl s) := by
  refine .of_next ?_
  split
  · exact .refl s
  · exact Kept.ite (fun _ => Kept.ite (fun _ => testEnd_kept (.refl s)) fun _ => .refl s) fun _ =>
      Kept.ite (fun _ => testEnd_kept (monoTo_kept (.refl s))) fun _ => .refl s

/-! ### Output functions and output channels (07, 08) -/

theorem execManifestEntryDue_keeps {u : Fin 5} : Keeps s (execManifestEntryDue u s) := by
  refine .of_next ?_
  split
  · exact Kept.ite (fun _ => dieDue_kept (.refl s)) fun _ => .refl s
  · exact hubDue_kept (.refl s)

theorem execPulseEnd_keeps : Keeps s (execPulseEnd d k s) := by
  refine .of_next ?_
  split
  · exact .refl s
  · exact settle_kept (updChan_kept (monoTo_kept (.refl s)))

theorem execPgEdge_keeps {j : Fin 4} : Keeps s (execPgEdge d j s) := by
  refine .of_next (Kept.ite (fun _ => .refl s) fun _ => ?_)
  split
  · exact .refl s
  · exact settle_kept (dieTimeTo_kept (.refl s))

theorem execDutyEdge_keeps : Keeps s (execDutyEdge d s) := by
  refine .of_next (Kept.ite (fun _ => .refl s) fun _ => ?_)
  split
  · exact .refl s
  · exact settle_kept (dieTimeTo_kept (.refl s))

theorem execTurnOn_keeps : Keeps s (execTurnOn d k s) :=
  .of_next <| Kept.ite (fun _ => waitPass_kept (.refl s)) fun _ => .refl s

theorem execTurnOff_keeps {i : Nat} {cl : Bool} : Keeps s (execTurnOff d k i cl s) :=
  .of_next <| Kept.ite (fun _ => updChan_kept (openSwitch_kept (.refl s))) fun _ => .refl s

theorem execBlankingEnd_keeps : Keeps s (execBlankingEnd d k s) :=
  .of_next <| Kept.ite (fun _ => updChan_kept (monoTo_kept (.refl s))) fun _ => .refl s

theorem execInrushWindowEnd_keeps : Keeps s (execInrushWindowEnd d k s) :=
  .of_next <| Kept.ite (fun _ => serveSlots_kept (updChan_kept (monoTo_kept (.refl s)))) fun _ => .refl s

theorem execScTrip_keeps {mV : Int} {i : Nat} {cl : Bool} : Keeps s (execScTrip d k mV i s cl) := by
  refine .of_next ?_
  split
  · exact Kept.ite (fun _ => tripCmd_kept (monoTo_kept (.refl s))) fun _ => .refl s
  · exact .refl s

theorem execLimtimeTrip_keeps {i : Nat} {cl : Bool} : Keeps s (execLimtimeTrip d k i cl s) := by
  refine .of_next ?_
  extract_lets lt
  split
  · exact Kept.ite (fun _ => .refl s) fun _ => tripCmd_kept (monoTo_kept (.refl s))
  · exact .refl s

theorem execSensorTrip_keeps {i : Nat} {cl : Bool} : Keeps s (execSensorTrip d k i cl s) := by
  refine .of_next ?_
  split
  · exact tripCmd_kept (monoTo_kept (.refl s))
  · exact .refl s

theorem execRetryConditionsMet_keeps : Keeps s (execRetryConditionsMet d k s) :=
  .of_next <| Kept.ite (fun _ => Kept.ite (fun _ => updChan_kept (monoTo_kept (.refl s))) fun _ => updChan_kept (monoTo_kept (.refl s)))
    fun _ => .refl s

theorem execRleftReload_keeps : Keeps s (execRleftReload d k s) :=
  .of_next <| Kept.ite (fun _ => updChan_kept (monoTo_kept (.refl s))) fun _ => .refl s

theorem execThermalSample_keeps {t : Int} {tj : List Int} {q uA : List Nat} : Keeps s (execThermalSample d t tj q s uA) :=
  .of_next <| Kept.ite (fun _ => Kept.foldl (fun _ _ => lhCool_kept) _ (.refl s)) fun _ =>
    waitPass_kept (Kept.foldl (fun _ _ => thermalChan_kept) _ (updField_kept (monoTo_kept (.refl s))))

theorem execClampEventEnd_keeps {e : Nat} : Keeps s (execClampEventEnd d k e s) :=
  .of_next <| Kept.ite (fun _ => updChan_kept (.refl s)) fun _ => .refl s

theorem execTollRefill_keeps : Keeps s (execTollRefill d s) :=
  .of_next <| Kept.ite (fun _ => .refl s) fun _ =>
    waitPass_kept (Kept.foldl (fun _ _ => updChan_kept) _ (updField_kept (dieTimeTo_kept (.refl s))))

theorem execOlOnDetect_keeps {uA : Nat} : Keeps s (execOlOnDetect d k s uA) :=
  .of_next <| Kept.ite (fun _ => .refl s) fun _ => Kept.ite (fun _ => olRestart_kept (.refl s)) fun _ =>
    Kept.ite (fun _ => .refl s) fun _ => dieLedger_kept (updChan_kept (monoTo_kept (.refl s)))

theorem execOlOnClear_keeps {uA : Nat} : Keeps s (execOlOnClear d k s uA) :=
  .of_next <| Kept.ite (fun _ => updChan_kept (olRestart_kept (monoTo_kept (.refl s)))) fun _ => .refl s

theorem execOlOffTest_keeps {mV : Nat} : Keeps s (execOlOffTest d k mV s) :=
  .of_next <| Kept.ite (fun _ => .refl s) fun _ =>
    Kept.ite (fun _ => Kept.ite (fun _ => .refl s) fun _ => dieLedger_kept (updChan_kept (.refl s))) fun _ =>
    Kept.ite (fun _ => updChan_kept (.refl s)) fun _ => .refl s

theorem execStbDetect_keeps {mV : Int} : Keeps s (execStbDetect d k mV s) :=
  .of_next <| Kept.ite (fun _ => dieLedger_kept (updChan_kept (.refl s))) fun _ => .refl s

theorem execStbClear_keeps {mV : Int} : Keeps s (execStbClear d k s mV) :=
  .of_next <| Kept.ite (fun _ => updChan_kept (.refl s)) fun _ => .refl s

theorem execCurrentLimit_keeps {ask : Nat} : Keeps s (execCurrentLimit d k ask s) :=
  .of_next <| Kept.ite (fun _ => updChan_kept (.refl s)) fun _ => .refl s

theorem execGovAllowance_keeps {ds : List Nat} : Keeps s (execGovAllowance l ds s) := by
  refine .of_next ?_
  extract_lets t s1 budget est a _ s2 ovr _ s3 s4
  have h3 : Kept s s3 := .with_gov (.with_gov (timeTo_kept (useFree_kept (.refl s))))
  have h4 : Kept s s4 := Kept.ite (fun _ => ledger_kept h3) fun _ => h3
  exact Kept.foldl (fun _ _ h => Kept.ite (fun _ => waitPass_kept (updField_kept h)) fun _ => h) _ h4

theorem execDieSumOver_keeps {mA : Nat} : Keeps s (execDieSumOver d mA s) :=
  .of_next <| Kept.ite (fun _ => .refl s) fun _ =>
    Kept.ite (fun _ => dieLedger_kept (updField_kept (.refl s))) fun _ => updField_kept (.refl s)

theorem execSselStep_keeps {b : Bool} : Keeps s (execSselStep d b s) :=
  .of_next <| Kept.ite (fun _ => updField_kept (.refl s)) fun _ => .refl s

/-! ### Inputs, permits and limp home (09) -/

theorem execInputSample_keeps {mV : List Nat} {dead : BitVec 16} : Keeps s (execInputSample d mV s dead) :=
  .of_next <| Kept.ite (fun _ => .refl s) fun _ =>
    Kept.ite (fun _ => stampEvent_kept (takeSample_kept (.refl s))) fun _ => takeSample_kept (.refl s)

theorem execSinkWindowStart_keeps : Keeps s (execSinkWindowStart d s) := by
  refine .of_next (Kept.ite (fun _ => .refl s) fun _ => ?_)
  extract_lets starts
  clear_value starts
  split
  · exact .refl s
  · exact Kept.foldl (fun _ _ => updChan_kept) _ (dieTimeTo_kept (.refl s))

theorem execPermitEdge_keeps {half : Nat} : Keeps s (execPermitEdge d k half s) := by
  have h {f} : Kept s (updChan (monoTo s ((chan s d k).perm.edgeAt + half)) d k f) := updChan_kept (monoTo_kept (.refl s))
  exact .of_next <| Kept.ite (fun _ => .refl s) fun _ => Kept.ite (fun _ => permChanged_kept h) fun _ =>
    Kept.ite (fun _ => permChanged_kept h) fun _ => permChanged_kept (Kept.ite (fun _ => dieLedger_kept h) fun _ => h)

theorem execPermitStop_keeps : Keeps s (execPermitStop d k s) :=
  .of_next <| Kept.ite (fun _ => .refl s) fun _ => permChanged_kept (updChan_kept (monoTo_kept (.refl s)))

theorem execPfaultClear_keeps : Keeps s (execPfaultClear d k s) :=
  .of_next <| Kept.ite (fun _ => .refl s) fun _ => permChanged_kept (updChan_kept (monoTo_kept (.refl s)))

theorem execPermitWaitEnd_keeps : Keeps s (execPermitWaitEnd d k s) := by
  refine .of_next ?_
  split
  · exact .refl s
  · exact endPermWait_kept (monoTo_kept (.refl s))

theorem execCoastEnd_keeps : Keeps s (execCoastEnd d k s) := by
  refine .of_next ?_
  extract_lets c
  split
  · exact .refl s
  · exact Kept.ite (fun _ => .refl s) fun _ => settle_kept (updChan_kept (monoTo_kept (.refl s)))

theorem execChStuck_keeps {uA : Nat} : Keeps s (execChStuck d k uA s) := by
  refine .of_next ?_
  split
  · exact .refl s
  · refine Kept.ite (fun _ => ?_) fun _ => .refl s
    extract_lets s1 s2
    have h2 : Kept s s2 := dieLedger_kept (updChan_kept (monoTo_kept (.refl s)))
    exact Kept.ite (fun _ => settle_kept (setCauses_kept h2)) fun _ => h2

theorem execLimpHome_keeps : Keeps s (execLimpHome d s) := by
  refine .of_next (Kept.ite (fun _ => .refl s) fun _ => ?_)
  extract_lets s1 s2 s3
  have h3 : Kept s s3 :=
    settle_kept (serveSlots_kept (updField_kept (Kept.foldl (fun _ _ => enterLimp_kept) _ (.refl s))))
  exact Kept.ite (fun _ => dieLedger_kept h3) fun _ => h3

theorem execLhEnRelease_keeps : Keeps s (execLhEnRelease d s) :=
  .of_next <| Kept.ite (fun _ => .refl s) fun _ =>
    settle_kept (updField_kept (Kept.foldl (fun _ _ => leaveLimp_kept) _ (.refl s)))

theorem execLhInChange_keeps {j : Fin 4} {b : Bool} : Keeps s (execLhInChange d j b s) :=
  .of_next <| Kept.ite (fun _ => .refl s) fun _ => Kept.ite (fun _ => updField_kept (.refl s)) fun _ =>
    Kept.foldl (fun _ _ h => Kept.ite (fun _ => Kept.ite (fun _ => updChan_kept h) fun _ =>
      Kept.ite (fun _ => lhOpens_kept h) fun _ => h) fun _ => h) _ (updField_kept (.refl s))

theorem execLhTrip_keeps {cause : BitVec 4} : Keeps s (execLhTrip d k cause s) :=
  .of_next <| Kept.ite
    (fun _ => Kept.ite (fun _ => dieLedger_kept (updChan_kept (lhOpens_kept (.refl s)))) fun _ => updChan_kept (lhOpens_kept (.refl s)))
    fun _ => .refl s

/-! ### Loops and HART (10) -/

theorem execLoopFold_keeps {b : Bool} {mV : Int} : Keeps s (execLoopFold k s b mV) :=
  .of_next <| Kept.ite (fun _ => .refl s) fun _ =>
    Kept.ite (fun _ => dieLedger_kept (trimLoopFault_kept (updLoop_kept (.refl s)))) fun _ => updLoop_kept (.refl s)

theorem execFoldbackReleaseTry_keeps {b : Bool} {mV : Int} : Keeps s (execFoldbackReleaseTry k b s mV) :=
  .of_next <| Kept.ite (fun _ => updLoop_kept (monoTo_kept (.refl s))) fun _ => .refl s

theorem execLoopMiswire_keeps {cond : BitVec 3} : Keeps s (execLoopMiswire k cond s) :=
  .of_next <| Kept.ite (fun _ => dieLedger_kept (hartSync_kept (trimLoopFault_kept (updLoop_kept (.refl s))))) fun _ => .refl s

theorem execMiswireReconnect_keeps : Keeps s (execMiswireReconnect k s) :=
  .of_next <| Kept.ite (fun _ => updLoop_kept (monoTo_kept (.refl s))) fun _ => .refl s

theorem execMiswireRampEnd_keeps : Keeps s (execMiswireRampEnd k s) :=
  .of_next <| Kept.ite (fun _ => updLoop_kept (monoTo_kept (.refl s))) fun _ => .refl s

theorem execVlbLow_keeps {mV : Nat} : Keeps s (execVlbLow mV s) :=
  .of_next <| Kept.ite (fun _ => dieLedger_kept (.with_ld (.refl s))) fun _ => .refl s

theorem execLoopHeadroom_keeps : Keeps s (execLoopHeadroom k s) := by
  refine .of_next ?_
  split
  · exact Kept.ite (fun _ => dieLedger_kept (headTrack_kept (updLoop_kept (monoTo_kept (.refl s))))) fun _ => .refl s
  · exact .refl s

theorem execHeadroomClear_keeps : Keeps s (execHeadroomClear k s) := by
  refine .of_next ?_
  split
  · exact Kept.ite (fun _ => headTrack_kept (updLoop_kept (monoTo_kept (.refl s)))) fun _ => .refl s
  · exact .refl s

theorem execOwFieldSet_keeps : Keeps s (execOwFieldSet k s) :=
  .of_next <| Kept.ite (fun _ => owRise_kept (updLoop_kept (.refl s))) fun _ => .refl s

theorem execOwFieldClear_keeps : Keeps s (execOwFieldClear k s) :=
  .of_next <| Kept.ite (fun _ => updLoop_kept (.refl s)) fun _ => .refl s

theorem execOwPathSet_keeps : Keeps s (execOwPathSet k s) :=
  .of_next <| Kept.ite (fun _ => owRise_kept (updLoop_kept (.refl s))) fun _ => .refl s

theorem execOwPathClear_keeps : Keeps s (execOwPathClear k s) :=
  .of_next <| Kept.ite (fun _ => .refl s) fun _ => updLoop_kept (.refl s)

theorem execOwTestDone_keeps : Keeps s (execOwTestDone k s) := by
  refine .of_next ?_
  extract_lets o failed _ s1
  have hf : ∀ t, Kept s t → Kept s (failed t) := fun _ h => owRise_kept (updLoop_kept (owEnd_kept h))
  refine Kept.ite (fun _ => hf _ (.refl s)) fun _ => Kept.ite (fun _ => ?_) fun _ => .refl s
  have h1 : Kept s s1 := useFree_kept (.with_ld (.refl s))
  split
  · exact hf _ h1
  · exact updLoop_kept (owEnd_kept h1)
  · exact owEnd_kept h1

theorem execTrimPointDone_keeps : Keeps s (execTrimPointDone k s) := by
  refine .of_next ?_
  extract_lets t
  split
  · exact updTrim_kept (monoTo_kept (.refl s))
  · exact .refl s

theorem execTrimTimeout_keeps : Keeps s (execTrimTimeout k s) :=
  .of_next <| Kept.ite (fun _ => trimFail_kept (monoTo_kept (.refl s))) fun _ => .refl s

theorem execHartRequestTx_keeps : Keeps s (execHartRequestTx k s) := by
  refine .of_next <| Kept.ite (fun _ => .refl s) fun _ => updHart_kept (Kept.ite (fun _ => monoTo_kept (.refl s)) fun _ => ?_)
  split
  · exact Kept.ite (fun _ => .refl s) fun _ => monoTo_kept (.refl s)
  · exact .refl s

theorem execHartResponse_keeps {ok : Bool} {f : List Byte} : Keeps s (execHartResponse k ok f s) :=
  have h {g} : Kept s (updHart s k g) := updHart_kept (.refl s)
  .of_next <| Kept.ite (fun _ => .refl s) fun _ => Kept.ite (fun _ => hartFail_kept h) fun _ =>
    Kept.ite (fun _ => hartFail_kept h) fun _ => Kept.ite (fun _ => hartFail_kept h) fun _ =>
    Kept.ite (fun _ => hartDone_kept h) fun _ => scanDone2_kept h

theorem execHartResponseTimeout_keeps : Keeps s (execHartResponseTimeout k s) :=
  .of_next <| Kept.ite (fun _ => hartFail_kept (monoTo_kept (.refl s))) fun _ => .refl s

theorem execHartBurst_keeps {ok : Bool} {f : List Byte} : Keeps s (execHartBurst k ok f s) :=
  .of_next <| Kept.ite (fun _ => .refl s) fun _ => Kept.ite (fun _ => updHart_kept (.refl s)) fun _ => updHart_kept (.refl s)

theorem execCarrierDetect_keeps {on : Bool} : Keeps s (execCarrierDetect k on s) :=
  .of_next <| Kept.ite (fun _ => updHart_kept (.refl s)) fun _ => updHart_kept (.refl s)

theorem execHdirStoreWrite_keeps {ok : Bool} : Keeps s (execHdirStoreWrite ok s) := by
  refine .of_next ?_
  extract_lets sel s1
  have h1 : Kept s s1 := mpServe_kept (.refl s)
  split
  · exact h1
  · exact Kept.ite (fun _ => h1) fun _ => Kept.ite (fun _ => mpFinish_kept (.with_mp h1)) fun _ =>
      mpFinish_kept (.with_ld (storePut_kept (storeErase_kept h1)))

/-! ### Conversion and the churn (11) -/

theorem execSurveyConversionDone_keeps {smp : List Int} {lsb : Int} : Keeps s (execSurveyConversionDone x smp lsb s) := by
  refine .of_next (Kept.ite (fun _ => .refl s) fun _ => ?_)
  extract_lets s1
  have h1 : Kept s s1 := monoTo_kept (.refl s)
  refine Kept.ite (fun _ => ?_) fun _ => ?_
  · have h2 := fun i => urgentResult_kept (a1 := x) (a2 := i) (a3 := lsb) h1
    exact Kept.ite (fun _ => startUrgent_kept (h2 _)) fun _ => startRoutine_kept (h2 _)
  · have h2 := fun i => nextRoutine_kept (a1 := x) (routineResult_kept (a1 := x) (a2 := i) (a3 := lsb) h1)
    exact Kept.ite (fun _ => startUrgent_kept (svUpd_kept (h2 _))) fun _ => startRoutine_kept (h2 _)

theorem execUrgentRequest_keeps : Keeps s (execUrgentRequest x s) := by
  refine .of_next (Kept.ite (fun _ => .refl s) fun _ => ?_)
  extract_lets s1 v
  have h1 : Kept s s1 := Kept.ite (fun _ => snRequests_kept (.refl s)) fun _ => .refl s
  exact Kept.ite (fun _ => startUrgent_kept (svUpd_kept h1)) fun _ => h1

theorem execModulatorOverload_keeps : Keeps s (execModulatorOverload k s) :=
  .of_next <| Kept.ite (fun _ => dieLedger_kept (startChurn_kept (updChurn_kept (.refl s)))) fun _ => .refl s

theorem execChurnOutput_keeps {bs : List Bool} : Keeps s (execChurnOutput k bs s) :=
  .of_next <| Kept.ite (fun _ => Kept.foldl (fun _ _ => churnBit_kept) _ (.refl s)) fun _ => .refl s

theorem execRephase_keeps : Keeps s (execRephase k s) := by
  refine .of_next ?_
  extract_lets c
  split
  · exact updChurn_kept (dieTimeTo_kept (.refl s))
  · exact .refl s

/-! ### The bus (13) -/

theorem execCanFrameRx_keeps {f : CanFrame} : Keeps s (execCanFrameRx c f s) :=
  .of_next <| Kept.ite (fun _ => .refl s) fun _ => Kept.ite (fun _ => protExc_kept (.refl s)) fun _ =>
    Kept.ite (fun _ => countGood_kept (canUpd_kept (.refl s))) fun _ =>
    canReceive_kept (wsPass_kept (countGood_kept (canUpd_kept (.refl s))))

theorem execProtocolException_keeps : Keeps s (execProtocolException c s) :=
  .of_next <| Kept.ite (fun _ => protExc_kept (.refl s)) fun _ => .refl s

theorem execRxqLockLapse_keeps {q : Fin 2} : Keeps s (execRxqLockLapse c q s) := by
  refine .of_next ?_
  split
  · exact rxqUnlock_kept (monoTo_kept (.refl s))
  · exact .refl s

theorem execCanTxEnd_keeps {r : CanTxResult} {lec : BitVec 3} {td : Nat} {exc : Bool} : Keeps s (execCanTxEnd c r lec td s exc) := by
  refine .of_next ?_
  split
  · exact .refl s
  · exact nextOffer_kept (txEnd_kept (fun _ h => h) (canUpd_kept (.refl s)))
  · exact nextOffer_kept (txEnd_kept (fun _ h => Kept.ite (fun _ => wsFrameSent_kept h) fun _ => h) (.refl s))
  · exact nextOffer_kept (txEnd_kept (fun _ => canUpd_kept) (.refl s))

theorem execCanRecover_keeps : Keeps s (execCanRecover c s) :=
  .of_next <| Kept.ite (fun _ => ledger_kept (canUpd_kept (.refl s))) fun _ => .refl s

theorem execCanIntegrated_keeps : Keeps s (execCanIntegrated c s) :=
  .of_next <| Kept.ite (fun _ => offerHead_kept (canUpd_kept (.refl s))) fun _ => .refl s

theorem execBusError_keeps {n : Nat} {lec : BitVec 3} : Keeps s (execBusError c n lec s) :=
  .of_next <| Kept.ite (fun _ => .refl s) fun _ => Kept.ite (fun _ => canUpd_kept (.refl s)) fun _ =>
    confine_kept (canUpd_kept (.refl s))

/-! ### The two commands that write the test access port or the rails -/

/-- TAP_INSTRUCTION writes the test access port and keeps the rest. -/
theorem execTapInstruction_keeps {ins : TapIns} {cells inputs : List (CtlPad × PadLevel)} :
    ∃ y, Keeps { s with tap := y } (execTapInstruction ins s cells inputs) := by
  unfold execTapInstruction
  extract_lets free t _ s2 _ s1
  have htap : ∃ y, s1 = { s with tap := y } := by
    unfold s1
    split <;> exact ⟨_, rfl⟩
  obtain ⟨y, hy⟩ := htap
  exact ⟨y, .of_next (hy ▸ wdSync_kept (.refl s1))⟩

/-- VDDIO_ABSENT writes the rails and keeps the rest. -/
theorem execVddioAbsent_keeps {rail : Fin 5} {present : Bool} : ∃ y, Keeps { s with vddio := y } (execVddioAbsent rail present s) := by
  unfold execVddioAbsent
  extract_lets b s1
  refine ⟨s1.vddio, .of_next (Kept.ite (fun _ => enterReset_kept (.refl s1)) fun _ => ?_)⟩
  split
  · exact Kept.ite (fun _ => .refl s1) fun _ => updPort_kept (.refl s1)
  · exact Kept.ite (fun _ => mpServe_kept (mpServe_kept (.refl s1))) fun _ => .refl s1


/-! ### Any command and any step -/

/-- Every command but the two that write them keeps the queue, the test access port and the rails, and with them the invariant. -/
theorem exec_keeps (i : Instr) (s : State) (htap : ∀ ins cells inputs, i ≠ .tapInstruction ins cells inputs)
    (hrail : ∀ rail present, i ≠ .vddioAbsent rail present) : Keeps s (exec i s) := by
  cases i
  case tapInstruction ins cells inputs => exact absurd rfl (htap ins cells inputs)
  case vddioAbsent rail present => exact absurd rfl (hrail rail present)
  case add | sub | adc | sbc | adds | subs | and | or | xor | andn | sll | srl | sra | ror | mul | mulhs | mulhu | divs | divu | rems |
      remu | min | max | minu | maxu | clz | popc | addi | andi | ori | xori | shi =>
    exact .of_next (lyn_ok alu_ok (.refl s))
  case cmp | tst | cmpi => exact .of_next (lyn_ok cmp_ok (.refl s))
  case ldw | ldh | ldhu | ldb | ldbu => exact .of_next (lyn_ok (fun _ => lynLd_ok) (.refl s))
  case stw => exact .of_next (lyn_ok (fun _ => lynStoreWord_ok) (.refl s))
  case sth | stb => exact .of_next (lyn_ok (fun _ => lynStorePart_ok) (.refl s))
  case crcValSet | crcW | crcB => exact .of_next (lynStep_ok (fun _ => lynStoreWord_ok) (.refl s))
  case sched => exact .of_next (lyn_ok (fun _ => schedOp_ok) (.refl s))
  case emit => exact .of_next (lyn_ok (fun _ => emitOp_ok) (.refl s))
  case permitSet | permitClr | permitWrite => exact .of_next (lyn_ok (fun _ => permitOp_ok) (.refl s))
  case rstctlCold | rstctlWarm | confirm | jrnctlNow | modecmdQuiet | modecmdHold | modecmdPrime | modecmdSafe | bpwrOff | lclkSet |
      loopmodSet | pwrhartSet | lanecmdExclude | lanecmdReint | lanecmdSlackReset | plStart | plChunk | plFinish | plAbort | plTrial |
      tset | owTestStart | owTestAbort | trimPoint1 | trimPoint2 | trimCompute | trimAbort | hartGo | hartCancel | hscan | chainTestStart
      | chainTestStop | mpxRead | mpxProgram | mpxErase | mpxReadid | cancmdRecover | cancmdFlush | wdhost | ledgerClear | mntSvTest |
      mntInTest | mntOlProbe | mntAbort =>
    exact .of_next (hostWrite_kept (.refl s))
  case quote | read | write | status | badCmd | rxqPop | claimTake | claimRelease | claimHandover | apply | discard =>
    exact .of_next (hostFrame_kept (.refl s))
  case otTrip | dtTrip | scFastTrip => exact .of_next (tripCmd_kept (.refl s))
  case por | pinReset | fatalReset => exact .of_next (enterReset_kept (.refl s))
  case linkFrameRx | idleFrame => exact .of_next (linkFrame_kept (.refl s))
  case voteClose => exact .of_next (voteClose_kept (.refl s))
  case laneStart => exact .of_next (laneStart_kept (.refl s))
  case coreResetComplete => exact .of_next (.with_coreDown (.refl s))
  case linkLost => exact execLinkLost_keeps
  case inputEventFrame => exact execInputEventFrame_keeps
  case timeFrame => exact execTimeFrame_keeps
  case transformerFail => exact execTransformerFail_keeps
  case railRegulationRestored => exact execRailRegulationRestored_keeps
  case clockMonitorFail => exact execClockMonitorFail_keeps
  case refSwitch => exact execRefSwitch_keeps
  case refPRevert => exact execRefPRevert_keeps
  case tmSectionFault => exact execTmSectionFault_keeps
  case mcoreWatchdogReset => exact execMcoreWatchdogReset_keeps
  case commit => exact execCommit_keeps
  case imageDelivered => exact execImageDelivered_keeps
  case finalPassDone => exact execFinalPassDone_keeps
  case reintResetDone => exact execReintResetDone_keeps
  case reintCodeDone => exact execReintCodeDone_keeps
  case reintBulkDone => exact execReintBulkDone_keeps
  case reintStageTime => exact execReintStageTime_keeps
  case reintNoconverge => exact execReintNoconverge_keeps
  case porRelease => exact execPorRelease_keeps
  case resetRelease => exact execResetRelease_keeps
  case bootComplete => exact execBootComplete_keeps
  case rstoutRelease => exact execRstoutRelease_keeps
  case confirmWriteDone => exact execConfirmWriteDone_keeps
  case quoteComplete => exact execQuoteComplete_keeps
  case journalCaptureDone => exact execJournalCaptureDone_keeps
  case journalWriteDone => exact execJournalWriteDone_keeps
  case primeTimeout => exact execPrimeTimeout_keeps
  case bpwrOn => exact execBpwrOn_keeps
  case dieUcodeCheck => exact execDieUcodeCheck_keeps
  case visoLow => exact execVisoLow_keeps
  case visoCollapse => exact execVisoCollapse_keeps
  case vbbLow => exact execVbbLow_keeps
  case vbbRestored => exact execVbbRestored_keeps
  case vbbHigh => exact execVbbHigh_keeps
  case wakePad => exact execWakePad_keeps
  case wakeCan => exact execWakeCan_keeps
  case wakeAlarm => exact execWakeAlarm_keeps
  case lui => exact execLui_keeps
  case csel => exact execCsel_keeps
  case b => exact execB_keeps
  case jal => exact execJal_keeps
  case jalr => exact execJalr_keeps
  case endcyc => exact execEndcyc_keeps
  case trap => exact execTrap_keeps
  case serve => exact execServe_keeps
  case rds => exact execRds_keeps
  case wrs => exact execWrs_keeps
  case xipLineFill => exact execXipLineFill_keeps
  case xipFail => exact execXipFail_keeps
  case plEraseDone => exact execPlEraseDone_keeps
  case plChunkDone => exact execPlChunkDone_keeps
  case plFinishDone => exact execPlFinishDone_keeps
  case plTrialDone => exact execPlTrialDone_keeps
  case tsyncInEdge => exact execTsyncInEdge_keeps
  case tsyncLost => exact execTsyncLost_keeps
  case tsyncOutPulse => exact execTsyncOutPulse_keeps
  case wsSyncDue => exact execWsSyncDue_keeps
  case wsSyncAbandon => exact execWsSyncAbandon_keeps
  case wsOwnSyncStamp => exact execWsOwnSyncStamp_keeps
  case wsSyncRx => exact execWsSyncRx_keeps
  case wsFollowRx => exact execWsFollowRx_keeps
  case wsLost => exact execWsLost_keeps
  case manifestEntryDue => exact execManifestEntryDue_keeps
  case pulseEnd => exact execPulseEnd_keeps
  case pgEdge => exact execPgEdge_keeps
  case dutyEdge => exact execDutyEdge_keeps
  case turnOn => exact execTurnOn_keeps
  case turnOff => exact execTurnOff_keeps
  case blankingEnd => exact execBlankingEnd_keeps
  case inrushWindowEnd => exact execInrushWindowEnd_keeps
  case scTrip => exact execScTrip_keeps
  case limtimeTrip => exact execLimtimeTrip_keeps
  case sensorTrip => exact execSensorTrip_keeps
  case retryConditionsMet => exact execRetryConditionsMet_keeps
  case rleftReload => exact execRleftReload_keeps
  case thermalSample => exact execThermalSample_keeps
  case clampEventEnd => exact execClampEventEnd_keeps
  case tollRefill => exact execTollRefill_keeps
  case olOnDetect => exact execOlOnDetect_keeps
  case olOnClear => exact execOlOnClear_keeps
  case olOffTest => exact execOlOffTest_keeps
  case stbDetect => exact execStbDetect_keeps
  case govAllowance => exact execGovAllowance_keeps
  case dieSumOver => exact execDieSumOver_keeps
  case sselStep => exact execSselStep_keeps
  case inputSample => exact execInputSample_keeps
  case sinkWindowStart => exact execSinkWindowStart_keeps
  case permitEdge => exact execPermitEdge_keeps
  case permitStop => exact execPermitStop_keeps
  case pfaultClear => exact execPfaultClear_keeps
  case permitWaitEnd => exact execPermitWaitEnd_keeps
  case coastEnd => exact execCoastEnd_keeps
  case chStuck => exact execChStuck_keeps
  case limpHome => exact execLimpHome_keeps
  case lhEnRelease => exact execLhEnRelease_keeps
  case lhInChange => exact execLhInChange_keeps
  case lhTrip => exact execLhTrip_keeps
  case loopFold => exact execLoopFold_keeps
  case foldbackReleaseTry => exact execFoldbackReleaseTry_keeps
  case loopMiswire => exact execLoopMiswire_keeps
  case miswireReconnect => exact execMiswireReconnect_keeps
  case miswireRampEnd => exact execMiswireRampEnd_keeps
  case vlbLow => exact execVlbLow_keeps
  case loopHeadroom => exact execLoopHeadroom_keeps
  case headroomClear => exact execHeadroomClear_keeps
  case owFieldSet => exact execOwFieldSet_keeps
  case owFieldClear => exact execOwFieldClear_keeps
  case owPathSet => exact execOwPathSet_keeps
  case owPathClear => exact execOwPathClear_keeps
  case owTestDone => exact execOwTestDone_keeps
  case trimPointDone => exact execTrimPointDone_keeps
  case trimTimeout => exact execTrimTimeout_keeps
  case hartRequestTx => exact execHartRequestTx_keeps
  case hartResponse => exact execHartResponse_keeps
  case hartResponseTimeout => exact execHartResponseTimeout_keeps
  case hartBurst => exact execHartBurst_keeps
  case hdirStoreWrite => exact execHdirStoreWrite_keeps
  case modulatorOverload => exact execModulatorOverload_keeps
  case churnOutput => exact execChurnOutput_keeps
  case rephase => exact execRephase_keeps
  case surveyConversionDone => exact execSurveyConversionDone_keeps
  case urgentRequest => exact execUrgentRequest_keeps
  case portSelect => exact execPortSelect_keeps
  case readSnap => exact execReadSnap_keeps
  case frameTimeout => exact execFrameTimeout_keeps
  case peerPush => exact execPeerPush_keeps
  case ppStall => exact execPpStall_keeps
  case mpTimeout => exact execMpTimeout_keeps
  case mpSuspend => exact execMpSuspend_keeps
  case mpxDone => exact execMpxDone_keeps
  case canFrameRx => exact execCanFrameRx_keeps
  case protocolException => exact execProtocolException_keeps
  case rxqLockLapse => exact execRxqLockLapse_keeps
  case canTxEnd => exact execCanTxEnd_keeps
  case canRecover => exact execCanRecover_keeps
  case canIntegrated => exact execCanIntegrated_keeps
  case grantExpire => exact execGrantExpire_keeps
  case ownLapse => exact execOwnLapse_keeps
  case applyCheckDone => exact execApplyCheckDone_keeps
  case applyQuietEffect => exact execApplyQuietEffect_keeps
  case wdogCheckin => exact execWdogCheckin_keeps
  case wdogExp => exact execWdogExp_keeps
  case wdogClock => exact execWdogClock_keeps
  case ledgerJournalWrite => exact execLedgerJournalWrite_keeps
  case jready => exact execJready_keeps
  case maintEnd => exact execMaintEnd_keeps
  case stbClear => exact execStbClear_keeps
  case currentLimit => exact execCurrentLimit_keeps
  case carrierDetect => exact execCarrierDetect_keeps
  case busError => exact execBusError_keeps
  case permitReadback => exact execPermitReadback_keeps
  case refpOkRestored => exact execRefpOkRestored_keeps
  case illegal => exact execIllegal_keeps
  case fetchFault => exact execFetchFault_keeps

/-- The queue, the test access port and the rails are no part of the invariant. -/
theorem Inv.with_queue_pads {q : List Instr} {y : TapSt} {v : BitVec 5} (h : Inv s) :
    Inv { s with pending := q, tap := y, vddio := v } :=
  { store := h.store, mem := h.mem, image := h.image, regs := h.regs, shadow := h.shadow, pc := h.pc, entry := h.entry }

theorem Keeps.inv {o : Out} {t : State} (h : Keeps s o) (hs : Inv s) (ho : o = .next t) : Inv t := by
  obtain ⟨u, hu, hk⟩ := h
  obtain rfl : u = t := by simpa using hu.symm.trans ho
  exact hk.inv hs

/-- Every command keeps the invariant. -/
theorem exec_inv {i : Instr} {t : State} (h : Inv s) (ht : exec i s = .next t) : Inv t := by
  by_cases htap : ∃ ins cells inputs, i = .tapInstruction ins cells inputs
  · obtain ⟨ins, cells, inputs, rfl⟩ := htap
    obtain ⟨y, hy⟩ := execTapInstruction_keeps (s := s) (ins := ins) (cells := cells) (inputs := inputs)
    exact hy.inv h.with_queue_pads ht
  by_cases hrail : ∃ rail present, i = .vddioAbsent rail present
  · obtain ⟨rail, present, rfl⟩ := hrail
    obtain ⟨y, hy⟩ := execVddioAbsent_keeps (s := s) (rail := rail) (present := present)
    exact hy.inv h.with_queue_pads ht
  exact (exec_keeps i s (fun a b c e => htap ⟨a, b, c, e⟩) fun a b e => hrail ⟨a, b, e⟩).inv h ht

end

/-! ## The reset state -/

theorem reset_lane (l : Lane) : State.reset.lane[l] = laneReset := Vector.getElem_replicate _

theorem reset_port (p : Port) : State.reset.port[p] = portReset := Vector.getElem_replicate _

theorem reset_field (d : FDie) : State.reset.field[d] = fieldReset := Vector.getElem_replicate _

theorem fieldReset_ch (k : Chan) : fieldReset.ch[k] = chanReset := Vector.getElem_replicate _

/-- No die has barrier power after reset. -/
theorem reset_powered (d : Die) : powered State.reset d = false := BitVec.getLsbD_zero

theorem reset_ready (d : Die) : ready State.reset d = false := by
  simp only [ready, reset_powered, Bool.false_and]

/-- LSTAT and LSLACK of a lane after reset, as read on page 4. -/
theorem readLane_reset (l : Lane) :
    readLane State.reset (0x10 + l.val) = 7 ∧ readLane State.reset (0x1C + l.val) = 0xFFFFFFFF#32 := by
  fin_cases l <;> exact ⟨rfl, rfl⟩

/-! ## The obligations -/

/-- Settles O57: each value is read off the reset state. -/
theorem resetValues : Obligations.ResetValues := by
  have hport (p : Port) : State.reset.port[p].last = 0x7F#8 := by rw [reset_port]; rfl
  have hrun (l : Lane) : State.reset.lane[l].run = .halted := by rw [reset_lane]; rfl
  have hchan (d : FDie) (k : Chan) : State.reset.field[d].ch[k].st = .off ∧ State.reset.field[d].noact = true := by
    rw [reset_field, fieldReset_ch]
    exact ⟨rfl, rfl⟩
  exact ⟨rfl, rfl, rfl, rfl, hport, fun l => ⟨(readLane_reset l).1, (readLane_reset l).2, hrun l⟩, rfl, hchan, rfl, rfl,
    reset_ready, rfl, rfl, rfl, rfl⟩

/-- Settles O58: no memory is written, every PC and ENTRY are 0, and the reset values of the registers are listed in rising order. -/
theorem resetInvariant : Obligations.ResetInvariant :=
  { store := rfl, mem := fun l => by rw [reset_lane]; rfl, image := rfl, regs := regsReset_wf, shadow := rfl,
    pc := fun l => by rw [reset_lane]; rfl, entry := rfl }

/-- Settles O59: the command in front runs on the queue's rest, and an idle tick keeps the invariant too. -/
theorem stepInvariant : Obligations.StepInvariant := by
  intro s t h ht
  unfold step at ht
  split at ht
  case h_1 =>
    obtain rfl : idleTick s = t := by simpa using ht
    exact (idleTick_kept (.refl s)).inv h
  case h_2 c rest hq => exact exec_inv h.with_queue_pads ht

end Sys2Proof.Machine

namespace Sys2Proof.Machine

/-! ## Time and the ledger, as the events of the architecture use them (R184 to R194, R414) -/

section
variable {s : State}

/-- An event sets the sticky bit of its code in LEDGER_0 (R415). -/
theorem ledger_bit0 {code unit inst arg : Nat} (h : code < 32) : (ledger s code unit inst arg).led.bits[0].getLsbD code = true := by
  have hb : (ledger s code unit inst arg).led.bits = vset s.led.bits 0 (vget s.led.bits 0 0 ||| place code 1) := by
    have := ledgerAt_bit s s.time code (ledSrc unit inst) arg
    rwa [Nat.div_eq_of_lt h, Nat.mod_eq_of_lt h] at this
  have hp : (place code 1).getLsbD code = true := by simp only [place, BitVec.getLsbD_ofNat, h, Nat.one_shiftLeft, Nat.testBit_two_pow_self, decide_true, Bool.and_self]
  simp [hb, vset, hp]

/-- What the passing of time leaves of the time master: all but the corrections and TSYNC_OUT (R187, R194). -/
def tmSteady (a : TmSt) : TmSt := { a with residual := 0, rateAcc := 0, lastPhase := 0, lastRate := 0, lastCorr := 0, tsyncOut := false }

theorem tickClock_steady (c : Clock) : tmSteady (tickClock c).tm = tmSteady c.tm := by
  unfold tickClock
  dsimp only
  split_ifs <;> rfl

theorem passTo_steady (fuel t : Nat) (c : Clock) : tmSteady (passTo fuel c t).tm = tmSteady c.tm := by
  induction fuel generalizing c with
  | zero => rfl
  | succ f ih =>
    unfold passTo
    split
    · rfl
    · split
      · rfl
      · rw [ih, tickClock_steady]; rfl

theorem passTicks_steady (fuel n : Nat) (c : Clock) : tmSteady (passTicks fuel c n).tm = tmSteady c.tm := by
  induction fuel generalizing c n with
  | zero => rfl
  | succ f ih =>
    unfold passTicks
    split
    · rfl
    · split
      · rfl
      · rw [ih, tickClock_steady]; rfl

theorem tsyncFall_steady (c : Clock) : tmSteady (tsyncFall c).tm = tmSteady c.tm := by
  unfold tsyncFall
  split <;> rfl

theorem timeTo_steady (s : State) (t : Nat) : tmSteady (timeTo s t).tm = tmSteady s.tm := by
  unfold timeTo
  split
  · rw [withClock_tm, tsyncFall_steady, passTo_steady]; rfl
  · rfl

theorem monoTo_steady (s : State) (m : Nat) : tmSteady (monoTo s m).tm = tmSteady s.tm := by
  unfold monoTo
  split
  · rw [withClock_tm, tsyncFall_steady, passTicks_steady]; rfl
  · rfl

/-- A tick advances the time base by at most 8 ns, and never backwards short of the wrap of the count (R184, R187). -/
theorem tickClock_time (c : Clock) (h : c.time + 8 < 2 ^ 64) : c.time ≤ (tickClock c).time ∧ (tickClock c).time ≤ c.time + 8 := by
  unfold tickClock
  dsimp only
  split_ifs <;> dsimp only <;> omega

/-- Time that runs on to an instant short of the wrap reaches it. -/
theorem passTo_reaches (fuel : Nat) {t : Nat} (ht : t ≤ lastInstant) (c : Clock) (hc : c.time < t + 8) : t ≤ (passTo fuel c t).time := by
  have hl : lastInstant = 2 ^ 64 - 8 := rfl
  have hplain (c : Clock) (hc : c.time < t + 8) : t ≤ (plainTicks c (ticksFor (t - c.time))).time := by
    simp only [plainTicks, ticksFor]
    omega
  induction fuel generalizing c with
  | zero => exact hplain c hc
  | succ f ih =>
    unfold passTo
    split
    · exact hplain c hc
    · next k _ =>
      split
      · exact hplain c hc
      · next hk =>
        have hp : (plainTicks c k).time < t := by
          simp only [ticksFor] at hk
          simp only [plainTicks]
          omega
        have := tickClock_time (plainTicks c k) (by omega)
        exact ih _ (by omega)

theorem timeTo_reaches {t : Nat} (ht : t ≤ lastInstant) : t ≤ (timeTo s t).time := by
  by_cases h : s.time < t
  · have hf (c : Clock) : (tsyncFall c).time = c.time := by unfold tsyncFall; split <;> rfl
    rw [timeTo, if_pos ⟨h, ht⟩, withClock_time, hf]
    exact passTo_reaches _ ht _ (show s.time < t + 8 by omega)
  · rw [timeTo_past (Nat.not_lt.mp h)]; exact Nat.not_lt.mp h

theorem monoTo_reaches (s : State) (m : Nat) : m ≤ (monoTo s m).mono := by
  rw [monoTo_mono]
  split
  · simp only [ticksFor]; omega
  · omega

/-- A ledger event: its sticky bit, and besides the ledger only the interrupt status changes (R414, R415). -/
theorem ledger_event (s : State) {code : Nat} (unit inst arg : Nat) (h : code < 32) :
    ∃ led irqStat, led.bits[0].getLsbD code = true ∧ ledger s code unit inst arg = { s with led := led, irqStat := irqStat } :=
  ⟨_, _, ledger_bit0 h, ledger_frame ..⟩

/-- Ticks pass until the count has reached `m`: none when it has, and the time master keeps all but the corrections (R187, R189). -/
theorem monoTo_event (s : State) (m : Nat) : ∃ time mono tm, monoTo s m = { s with time := time, mono := mono, tm := tm } ∧ m ≤ mono ∧
    tmSteady tm = tmSteady s.tm ∧ (m ≤ s.mono → time = s.time ∧ mono = s.mono ∧ tm = s.tm) :=
  ⟨_, _, _, monoTo_frame s m, monoTo_reaches s m, monoTo_steady s m, fun h => by rw [monoTo_past h]; exact ⟨rfl, rfl, rfl⟩⟩

/-- Time runs on to the instant `i`, unless that has passed (R184, R187). -/
theorem timeTo_event (s : State) (i : Nat) : ∃ time mono tm, timeTo s i = { s with time := time, mono := mono, tm := tm } ∧
    (i ≤ lastInstant → i ≤ time) ∧ tmSteady tm = tmSteady s.tm ∧ (i ≤ s.time → time = s.time) :=
  ⟨_, _, _, timeTo_frame s i, timeTo_reaches, timeTo_steady s i, fun h => by rw [timeTo_past h]⟩

/-- SYNC takes its new value, and besides it only the interrupt status and the count of good offsets change. -/
theorem setSync_frame (s : State) (y : SyncSt) :
    setSync s y = { s with tm := { s.tm with sync := y, good := (setSync s y).tm.good }, irqStat := (setSync s y).irqStat } := by
  unfold setSync
  split
  · next h => subst h; rfl
  · rfl

/-- A source is lost: HOLDOVER, and the ledger event of the source (R192). -/
theorem holdover_event (s : State) {code : Nat} (h : code < 32) : ∃ good led irqStat, led.bits[0].getLsbD code = true ∧
    ledger (setSync s .holdover) code 0 0 0 = { s with tm := { s.tm with sync := .holdover, good := good }, led := led, irqStat := irqStat } := by
  obtain ⟨led, irqStat, hb, hl⟩ := ledger_event (setSync s .holdover) 0 0 0 h
  rw [setSync_frame] at hl
  exact ⟨_, led, irqStat, hb, (congrArg (ledger · code 0 0 0) (setSync_frame s .holdover)).trans hl⟩

/-- A multiple of the period is the first grid instant not earlier than itself (R191). -/
theorem gridNext_of_mod {p t : Nat} (h : t % p = 0) : gridNext 0 p t = t := by
  unfold gridNext
  split
  · rfl
  · next hp =>
    obtain ⟨k, rfl⟩ := Nat.dvd_of_mod_eq_zero h
    have hq : ((p * k : Nat) - (0 : Nat) + (p : Int) - 1) / p = k := by
      rw [Int.ediv_eq_iff_of_pos (by omega)]
      push_cast
      have h1 : (1 : Int) ≤ p := by omega
      constructor <;> nlinarith
    rw [hq]
    push_cast
    rw [Int.zero_add, Int.mul_comm]
    exact_mod_cast Int.toNat_natCast (p * k)
end

/-! ## A lane's clock, and the references (R33, R186, R188) -/

section
variable {s : State}

/-- A change that leaves an entry as it is leaves the vector. -/
theorem vmod_fixed {α : Type} {n : Nat} {v : Vector α n} {i : Fin n} {f : α → α} (h : f v[i] = v[i]) : vmod v i f = v := by
  unfold vmod
  rw [h]
  exact Vector.set_getElem_self ..

/-- Two changes of one entry are one. -/
theorem vmod_vmod {α : Type} {n : Nat} (v : Vector α n) (i : Fin n) (f g : α → α) : vmod (vmod v i f) i g = vmod v i (g ∘ f) := by
  simp [vmod]

theorem updLane_updLane (s : State) (l : Lane) (f g : LaneSt → LaneSt) : updLane (updLane s l f) l g = updLane s l (g ∘ f) := by
  unfold updLane
  rw [vmod_vmod]

/-- A lane of which the device learns a cause, as a member (`m`) or not (R135). -/
def learns (c : Nat) (m : Bool) (x : LaneSt) : LaneSt := { x with pendCause := if m = true ∧ x.pendCause = 0 then c else x.pendCause }

theorem learnCause_eq (s : State) (l : Lane) (c : Nat) : learnCause s l c = updLane s l (learns c (memberOf s l)) := by
  unfold learnCause
  split
  · next h => simp only [updLane, vmod, learns, if_pos h]
  · next h =>
    have hx : learns c (memberOf s l) s.lane[l] = s.lane[l] := by simp only [learns, if_neg h]
    simp only [updLane, vmod_fixed hx]

/-- A lane whose clock has stopped (R33). -/
def clockStops (m : Bool) (x : LaneSt) : LaneSt :=
  { x with
    run := .halted, lineReq := none, clockOk := false
    pendCause := if m = true ∧ x.pendCause = 0 then 8 else x.pendCause }

/-- The clock of a lane that is not in reintegration stops: the lane halts, its watchdog is off, and a member learns cause 8 (R33). -/
theorem clockLost_eq {l : Lane} (hr : s.boot.inReset = false) (hc : s.lane[l].clockOk = true) (hs : s.lane[l].state < 2) :
    clockLost s l = updLane (wdOff s (laneWd l)) l (clockStops (memberOf s l)) := by
  have h : learnCause (haltLane (updLane s l fun x => { x with clockOk := false }) l) l 8 =
      updLane (wdOff s (laneWd l)) l (clockStops (memberOf s l)) := by
    rw [learnCause_eq, haltLane, updLane_updLane]
    exact updLane_updLane (wdOff s (laneWd l)) l _ _
  have hj : joining (updLane (wdOff s (laneWd l)) l (clockStops (memberOf s l))) l = false := by
    simp only [joining, updLane_lane, vmod_same, Bool.and_eq_false_iff, decide_eq_false_iff_not]
    exact .inl (Nat.not_le.mpr hs)
  unfold clockLost
  rw [if_neg (by rw [hr, hc]; decide)]
  simp only [h, hj, Bool.false_eq_true, if_false]

/-- The switch to REF_S: REF_P counts as failed, time advances by 0 to 8 ns in whole ticks, and REF_SWITCH is recorded (R186, R188). -/
theorem toRefS_switch (adv : Nat) (h : s.tm.ref = false) :
    ∃ led irqStat, led.bits[0].getLsbD 5 = true ∧ toRefS s adv = { s with
      time := (s.time + refAdvance adv) % 2 ^ 64, tm := { s.tm with ref := true, refpOk := false }, led := led, irqStat := irqStat } := by
  unfold toRefS
  rw [if_neg (by simp [h])]
  exact ⟨_, _, ledger_bit0 (by decide), ledger_frame ..⟩

/-- On REF_S already, only REF_P's state is noted. -/
theorem toRefS_again (adv : Nat) (h : s.tm.ref = true) : toRefS s adv = { s with tm := { s.tm with refpOk := false } } := if_pos h

theorem refSwitch_runs (adv : Nat) (ht : s.time < 2 ^ 63) (href : s.tm.ref = false) (hr : s.boot.inReset = false)
    (hc : s.lane[(0 : Lane)].clockOk = true) (hs : s.lane[(0 : Lane)].state < 2) :
    ∃ t, exec (.refSwitch adv) s = .next t ∧ t.tm = { s.tm with ref := true, refpOk := false } ∧
      t.time = s.time + min adv 8 / 4 * 4 ∧ t.led.bits[0].getLsbD 5 = true ∧
      t.lane[(0 : Lane)] = { s.lane[(0 : Lane)] with
        run := .halted, lineReq := none, clockOk := false
        pendCause := if memberOf s 0 ∧ s.lane[(0 : Lane)].pendCause = 0 then 8 else s.lane[(0 : Lane)].pendCause } ∧
      (∀ l : Lane, l ≠ 0 → t.lane[l] = s.lane[l]) ∧
      t = { s with time := t.time, tm := t.tm, lane := t.lane, wd := t.wd, led := t.led, irqStat := t.irqStat } := by
  have hx : exec (.refSwitch adv) s = .next (toRefS (updLane (wdOff s (laneWd 0)) 0 (clockStops (memberOf s 0))) adv) :=
    congrArg (fun u => Host.Outcome.next (toRefS u adv)) (clockLost_eq hr hc hs)
  obtain ⟨led, irqStat, hb, he⟩ := toRefS_switch (s := updLane (wdOff s (laneWd 0)) 0 (clockStops (memberOf s 0))) adv href
  refine ⟨_, hx.trans (congrArg _ he), rfl, ?_, hb, vmod_same .., fun l hl => vmod_other _ _ hl, rfl⟩
  exact Nat.mod_eq_of_lt (show s.time + refAdvance adv < 2 ^ 64 by simp only [refAdvance]; omega)

theorem refPRevert_runs (adv : Nat) (ht : s.time < 2 ^ 63) (href : s.tm.ref = true) (hok : s.tm.refpOk = true) (hrev : cfgBit s 3 8 2 = true) :
    ∃ t, exec (.refPRevert adv) s = .next t ∧ t.tm.ref = false ∧ s.tm.refpSince + 1000000000 ≤ t.mono ∧
      t.led.bits[0].getLsbD 5 = true ∧ t = { s with time := t.time, mono := t.mono, tm := t.tm, led := t.led, irqStat := t.irqStat } ∧
      (s.tm.refpSince + 1000000000 ≤ s.mono → t.tm = { s.tm with ref := false } ∧ t.time = s.time + min adv 8 / 4 * 4 ∧ t.mono = s.mono) := by
  obtain ⟨time, mono, tm, hu, hm, -, hpast⟩ := monoTo_event s (s.tm.refpSince + 1000000000)
  obtain ⟨led, irqStat, hb, hl⟩ := ledger_event
    { s with time := (time + refAdvance adv) % 2 ^ 64, mono := mono, tm := { tm with ref := false } } 0 0 1 (show 5 < 32 by decide)
  have hx : exec (.refPRevert adv) s = .next { s with
      time := (time + refAdvance adv) % 2 ^ 64, mono := mono, tm := { tm with ref := false }, led := led, irqStat := irqStat } := by
    show execRefPRevert adv s = _
    simp only [execRefPRevert, href, hok, hrev, and_self, if_true, hu, hl]
  refine ⟨_, hx, rfl, hm, hb, rfl, fun h => ?_⟩
  obtain ⟨rfl, rfl, rfl⟩ := hpast h
  exact ⟨rfl, Nat.mod_eq_of_lt (show s.time + refAdvance adv < 2 ^ 64 by simp only [refAdvance]; omega), rfl⟩

theorem tsyncLost_runs (hsrc : timeSrc s = 1) (hy : s.tm.sync = .acquiring ∨ s.tm.sync = .locked) :
    ∃ t, exec .tsyncLost s = .next t ∧ t.tm.sync = .holdover ∧
      t.tm.tsLost = min 255 (s.tm.tsLost + 1) ∧ t.led.bits[0].getLsbD 8 = true ∧
      (tsyncLostAt s ≤ s.time → t.time = s.time) ∧ (tsyncLostAt s ≤ 2 ^ 64 - 8 → tsyncLostAt s ≤ t.time) ∧
      t = { s with time := t.time, mono := t.mono, tm := t.tm, led := t.led, irqStat := t.irqStat } := by
  obtain ⟨time, mono, tm, hu, hreach, htm, hpast⟩ := timeTo_event s (tsyncLostAt s)
  have hlost : tm.tsLost = s.tm.tsLost := show (tmSteady tm).tsLost = (tmSteady s.tm).tsLost by rw [htm]
  obtain ⟨good, led, irqStat, hb, hl⟩ := holdover_event { s with time := time, mono := mono, tm := { tm with tsLost := satAdd 255 tm.tsLost 1 } } (show 8 < 32 by decide)
  have hx : exec .tsyncLost s = .next (ledger (setSync { s with time := time, mono := mono, tm := { tm with tsLost := satAdd 255 tm.tsLost 1 } } .holdover) 8 0 0 0) := by
    show execTsyncLost s = _
    simp only [execTsyncLost, hsrc, hy, and_self, if_true, hu]
  rw [hl] at hx
  exact ⟨_, hx, rfl, by rw [← hlost]; rfl, hb, hpast, hreach, rfl⟩

theorem wsLost_runs (hsrc : timeSrc s = 2) (hy : s.tm.sync = .acquiring ∨ s.tm.sync = .locked) :
    ∃ t, exec .wsLost s = .next t ∧ t.tm.sync = .holdover ∧
      t.tm.wsLost = min 255 (s.tm.wsLost + 1) ∧ t.led.bits[0].getLsbD 9 = true ∧
      s.ws.since + wsLostMax s * wsPeriod s ≤ t.mono ∧ (s.ws.since + wsLostMax s * wsPeriod s ≤ s.mono → t.time = s.time) ∧
      t = { s with time := t.time, mono := t.mono, tm := t.tm, led := t.led, irqStat := t.irqStat } := by
  obtain ⟨time, mono, tm, hu, hm, htm, hpast⟩ := monoTo_event s (s.ws.since + wsLostSpan s)
  have hlost : tm.wsLost = s.tm.wsLost := show (tmSteady tm).wsLost = (tmSteady s.tm).wsLost by rw [htm]
  obtain ⟨good, led, irqStat, hb, hl⟩ := holdover_event { s with time := time, mono := mono, tm := { tm with wsLost := satAdd 255 tm.wsLost 1 } } (show 9 < 32 by decide)
  have hx : exec .wsLost s = .next (ledger (setSync { s with time := time, mono := mono, tm := { tm with wsLost := satAdd 255 tm.wsLost 1 } } .holdover) 9 0 0 0) := by
    show execWsLost s = _
    simp only [execWsLost, hsrc, hy, and_self, if_true, hu]
  rw [hl] at hx
  exact ⟨_, hx, rfl, by rw [← hlost]; rfl, hb, hm, fun h => (hpast h).1, rfl⟩

/-- The rise of TSYNC_OUT now (R194). -/
def tsyncRise (s : State) : State :=
  { s with tm := { s.tm with tsyncOut := true, tsyncOutEnd := s.mono + cfgField s 3 0x0D 16 16 * 1000 } }

theorem tsyncOutPulse_commit (hen : cfgBit s 3 0x0D 0 = true) (hmode : cfgBit s 3 0x0D 1 = true) (hrun : s.cyc.running = true)
    (ht : s.time = s.cyc.t0) : exec .tsyncOutPulse s = .next (tsyncRise s) := by
  show execTsyncOutPulse s = _
  simp [execTsyncOutPulse, hen, hmode, hrun, ht, tsyncRise]

theorem tsyncOutPulse_period (hen : cfgBit s 3 0x0D 0 = true) (hmode : cfgBit s 3 0x0D 1 = false)
    (ht : s.time % (cfgField s 3 0x0D 4 12 * 1000000) = 0) : exec .tsyncOutPulse s = .next (tsyncRise s) := by
  show execTsyncOutPulse s = _
  simp [execTsyncOutPulse, hen, hmode, gridNext_of_mod ht, timeTo_past, tsyncRise]

/-- REF_P is restored: the 1 s towards a revert starts, and lane A's clock runs (R186). -/
theorem refpOkRestored_runs (h : s.tm.refpOk = false) :
    exec .refpOkRestored s = .next { s with
      tm := { s.tm with refpOk := true, refpSince := s.mono }
      lane := s.lane.set 0 { s.lane[(0 : Lane)] with clockOk := true } } :=
  congrArg Host.Outcome.next (if_neg (by simp [h]))

/-- Settles O22: the clauses one by one, each on the state that its command meets. -/
theorem timeReferences : Obligations.TimeReferences := by
  intro s adv ht
  exact ⟨refSwitch_runs adv ht, refpOkRestored_runs, refPRevert_runs adv ht, tsyncLost_runs, wsLost_runs, tsyncOutPulse_commit,
    tsyncOutPulse_period⟩
end
end Sys2Proof.Machine

namespace Sys2Proof.Machine

/-! ## A lane begins its cycle (R112, R121, R124, R137) -/

section
variable {α : Type} {d : α}

/-- An address that the filter takes out reads as unlisted. -/
theorem amGet_filter_out (p : Nat × α → Bool) {k : Nat} (hk : ∀ v, p (k, v) = false) (m : List (Nat × α)) : amGet d (m.filter p) k = d := by
  induction m with
  | nil => rfl
  | cons e r ih =>
    obtain ⟨a, v⟩ := e
    rw [List.filter_cons]
    split
    · next h =>
      have hne : a ≠ k := fun e => by rw [e, hk v] at h; exact Bool.false_ne_true h
      rw [amGet, if_neg hne]
      split
      · rfl
      · exact ih
    · exact ih

/-- An address that the filter keeps reads as before, in a canonical list. -/
theorem amGet_filter_in [DecidableEq α] (p : Nat × α → Bool) {k lo : Nat} (hk : ∀ v, p (k, v) = true) {m : List (Nat × α)} (hm : amWfFrom d lo m = true) :
    amGet d (m.filter p) k = amGet d m k := by
  induction m generalizing lo with
  | nil => rfl
  | cons e r ih =>
    obtain ⟨a, v⟩ := e
    simp only [amWfFrom, Bool.and_eq_true, decide_eq_true_eq] at hm
    obtain ⟨-, hr⟩ := hm
    rw [List.filter_cons]
    split
    · simp only [amGet, ih hr]
    · next h =>
      have hne : a ≠ k := fun e => h (e ▸ hk v)
      rw [ih hr, amGet, if_neg hne]
      split
      · next hlt => exact amGet_below (by omega) hr
      · rfl

/-- Two lists joined, the first below `b` and the second from `b`: an address reads from the part on its side. -/
theorem amGet_append_low [DecidableEq α] {b k : Nat} (hk : k < b) {m n : List (Nat × α)} (hn : amWfFrom d b n = true) :
    amGet d (m ++ n) k = amGet d m k := by
  induction m with
  | nil => exact amGet_below hk hn
  | cons e r ih =>
    obtain ⟨a, v⟩ := e
    simp only [List.cons_append, amGet, ih]

theorem amGet_append_high {b k : Nat} (hk : b ≤ k) {m n : List (Nat × α)} (hm : ∀ e ∈ m, e.1 < b) : amGet d (m ++ n) k = amGet d n k := by
  induction m with
  | nil => rfl
  | cons e r ih =>
    obtain ⟨a, v⟩ := e
    have ha : a < b := hm (a, v) (by simp)
    rw [List.cons_append, amGet, if_neg (by omega), if_neg (by omega)]
    exact ih fun e he => hm e (by simp [he])

/-- The copied range reads from the source, and every other address as before. -/
theorem amGet_amCopy [DecidableEq α] {lo hi : Nat} (h : lo ≤ hi) {m n : List (Nat × α)} (hm : amWf d m = true) (hn : amWf d n = true) (k : Nat) :
    amGet d (amCopy m n lo hi) k = if lo ≤ k ∧ k < hi then amGet d n k else amGet d m k := by
  have hmid : amWfFrom d lo (n.filter fun e => decide (lo ≤ e.1) && decide (e.1 < hi)) = true := amWfFrom_above _ (by simp; omega) hn
  have htop : amWfFrom d hi (m.filter fun e => decide (hi ≤ e.1)) = true := amWfFrom_above _ (by simp) hm
  have hjoin := amWfFrom_append hmid (b := hi) (by simp) h htop
  simp only [amCopy, List.append_assoc]
  by_cases h1 : k < lo
  · rw [amGet_append_low h1 hjoin, if_neg (by omega)]
    exact amGet_filter_in _ (fun _ => decide_eq_true h1) hm
  · rw [amGet_append_high (b := lo) (by omega) (by simp)]
    by_cases h2 : k < hi
    · rw [amGet_append_low h2 htop, if_pos ⟨by omega, h2⟩]
      exact amGet_filter_in _ (by simp; omega) hn
    · rw [amGet_append_high (b := hi) (by omega) (by simp), if_neg (by omega)]
      exact amGet_filter_in _ (by simp; omega) hm

/-- A list moved up by `o` reads as before, `o` further up. -/
theorem amGet_shift (o k : Nat) (m : List (Nat × α)) : amGet d (m.map fun e => (e.1 + o, e.2)) (k + o) = amGet d m k := by
  induction m with
  | nil => rfl
  | cons e r ih =>
    obtain ⟨a, v⟩ := e
    simp only [List.map_cons, amGet, ih, Nat.add_right_cancel_iff, Nat.add_lt_add_iff_right]
end

section
variable {s : State} {x : LaneSt}

/-- The lane memory at the start of a cycle: the image in IMAGE_IN, the manifest area and the counts of EMIT zero, the rest as before (R121, R124). -/
theorem laneBegin_mem (hx : amWf 0 x.mem = true) (hi : amWf 0 s.cyc.image = true) :
    (∀ a, a < 0x20000 → memGet 0 (laneBegin s x).mem (0x30000000 + a) = memGet 0 s.cyc.image a) ∧
    (∀ a, 0x32000000 ≤ a → a < 0x32002000 → memGet 0 (laneBegin s x).mem a = 0) ∧
    (∀ a, a < 0x30000000 → memGet 0 (laneBegin s x).mem a = memGet 0 x.mem a) ∧
    (∀ a, 0x31000000 ≤ a → a < 0x31000FF8 → memGet 0 (laneBegin s x).mem a = memGet 0 x.mem a) := by
  have himg : amWf 0 (s.cyc.image.map fun e => (e.1 + 0x30000000, e.2)) = true :=
    amWfFrom_mono (Nat.zero_le _) (shift_wf_from 0x30000000 hi)
  have hcopy (k : Nat) : memGet 0 (laneBegin s x).mem k = _ :=
    amGet_amCopy (show 0x30000000 ≤ 0x30020000 by decide) (amWfFrom_filter _ hx) himg k
  refine ⟨fun a ha => ?_, fun a h1 h2 => ?_, fun a ha => ?_, fun a h1 h2 => ?_⟩
  · refine (hcopy _).trans ((if_pos ⟨by omega, by omega⟩).trans ?_)
    rw [Nat.add_comm]
    exact amGet_shift 0x30000000 a s.cyc.image
  · refine (hcopy _).trans ((if_neg (by omega)).trans (amGet_filter_out _ ?_ _))
    simp; omega
  · refine (hcopy _).trans ((if_neg (by omega)).trans (amGet_filter_in _ ?_ hx))
    simp; omega
  · refine (hcopy _).trans ((if_neg (by omega)).trans (amGet_filter_in _ ?_ hx))
    simp; omega

/-- The lane waits for its image, in a running cycle of a mode in which lanes run (R112). -/
structure AwaitsImage (s : State) (l : Lane) : Prop where
  running : s.cyc.running = true
  mode : lanesRun s.md.mode = true
  waiting : s.lane[l].run = .waiting
  fresh : s.lane[l].delivered = false
  noPass : s.cyc.finalPass = none
  inTime : s.cyc.closed = false

variable {l : Lane} {dig : List Word}

/-- An image that is whole and whose digest agrees starts the lane (R28, R137). -/
theorem imageDelivered_good (h : AwaitsImage s l) (hw : imageWhole s l = true) (hd : digestOk s l dig = true) :
    exec (.imageDelivered l dig) s = .next (updLane s l (laneBegin s)) := by
  show execImageDelivered l dig s = _
  simp [-Fin.getElem_fin, execImageDelivered, h.running, h.mode, h.waiting, h.fresh, h.noPass, h.inTime, hw, hd]

/-- With three members an image whose digest does not agree is invalid, and is cause 3 (R28, R137). -/
theorem imageDelivered_bad (h : AwaitsImage s l) (hd : digestOk s l dig = false) (hm : memberCount s.cyc.member = 3) :
    exec (.imageDelivered l dig) s = .next (learnCause (updLane s l fun y =>
      { y with delivered := true, imgValid := false, shadowDiff := y.shadowDiff || decide (y.state = 6) }) l 3) := by
  show execImageDelivered l dig s = _
  simp [-Fin.getElem_fin, execImageDelivered, h.running, h.mode, h.waiting, h.fresh, h.noPass, h.inTime, hd, hm]

theorem memberOf_all (h : s.cyc.member = 7) (k : Lane) : memberOf s k = true := by
  simp only [memberOf, h]
  fin_cases k <;> rfl

/-- Among three members a digest that differs from both others' does not agree. -/
theorem digestOk_minority (hmem : s.cyc.member = 7) (hmode : s.md.mode ≠ .limp)
    (hdiff : ∀ k : Lane, k ≠ l → dig.getD k.val 0 ≠ dig.getD l.val 0) : digestOk s l dig = false := by
  have hall (k : Lane) : memberOf s k = true := memberOf_all hmem k
  have hne : (lanes3.filter fun k => k != l && memberOf s k).isEmpty = false := by
    simp only [hall, Bool.and_true]
    fin_cases l <;> rfl
  have hany : (lanes3.filter fun k => k != l && memberOf s k).any (fun k => dig.getD k.val 0 == dig.getD l.val 0) = false := by
    refine List.any_eq_false.mpr fun k hk => ?_
    have hkl : k ≠ l := by
      have := (List.mem_filter.mp hk).2
      simp only [Bool.and_eq_true, bne_iff_ne] at this
      exact this.1
    simpa using hdiff k hkl
  simp only [digestOk, hmode, hne, hany, decide_false, Bool.or_self]

/-- Settles O27: the two outcomes of a delivery, and what the lane holds after each. -/
theorem imageDelivered : Obligations.ImageDelivered := by
  intro s l dig hrun hmode hwait hfresh hpass hclosed
  have h : AwaitsImage s l := ⟨hrun, hmode, hwait, hfresh, hpass, hclosed⟩
  refine ⟨fun hw hd hmem himg => ⟨_, imageDelivered_good h hw hd, ?_⟩, fun hmem hlimp hdiff hpend =>
    ⟨_, imageDelivered_bad h (digestOk_minority hmem hlimp hdiff) (by rw [hmem]; rfl), ?_⟩⟩
  · have hl : (updLane s l (laneBegin s)).lane[l] = laneBegin s s.lane[l] := vmod_same ..
    obtain ⟨hm1, hm2, hm3, hm4⟩ := laneBegin_mem hmem himg
    rw [hl]
    exact ⟨rfl, rfl, rfl, rfl, rfl, rfl, rfl, rfl, rfl, hm1, fun a h1 h2 => hm2 a h1 (by omega), hm3, hm4,
      fun k hk => vmod_other _ _ hk, rfl⟩
  · rw [learnCause_eq, updLane_updLane]
    refine ⟨?_, ?_, ?_, ?_, fun k hk => vmod_other _ _ hk, rfl⟩ <;> rw [updLane_lane, vmod_same]
    · rfl
    · rfl
    · exact hwait
    · exact if_pos ⟨memberOf_all hmem l, hpend⟩
end
end Sys2Proof.Machine

namespace Sys2Proof.Machine

/-! ## What the operations of the far side leave unchanged

A frame is stated as an equation between two states with the parts that may change blanked out: an operation on such a part is invisible there, and every other field is read off the equation. -/

/-- A fold whose every step leaves `π` as it is leaves it. -/
theorem foldl_same {σ α β : Type} {π : σ → β} {f : σ → α → σ} (h : ∀ t a, π (f t a) = π t) (l : List α) (s : σ) :
    π (l.foldl f s) = π s := by
  induction l generalizing s with
  | nil => rfl
  | cons a l ih => exact (ih (f s a)).trans (h s a)

/-- A choice of two states, each of which leaves `π` as it is. -/
theorem ite_same {β : Type} {π : State → β} {c : Prop} [Decidable c] {a b s : State} (ha : π a = π s) (hb : π b = π s) :
    π (if c then a else b) = π s := by
  split
  · exact ha
  · exact hb

/-- The state without its loops, LD, survey converters, arbiter and ledger. -/
def sansLoops (s : State) : State :=
  { s with
    survey := State.reset.survey, loop := State.reset.loop, ld := State.reset.ld, mnt := State.reset.mnt, led := State.reset.led
    irqStat := State.reset.irqStat }

/-- The state without field die `f`. -/
def sansField (f : FDie) (s : State) : State := { s with field := s.field.set f fieldReset }

/-- The state without what an activity on die `d` may touch. -/
def sansDie (d : Die) (s : State) : State :=
  match asField d with
  | some f => sansField f (sansLoops s)
  | none => sansLoops s

section
variable {s t : State} {d : Die} {f : FDie} {k : Chan}

theorem asField_some {d : Die} {f : FDie} (h : asField d = some f) : toDie f = d := by
  unfold asField at h
  split at h
  · obtain rfl := Option.some.inj h; rfl
  · simp at h

theorem asField_toDie (f : FDie) : asField (toDie f) = some f := dif_pos f.isLt

theorem sansField_field (h : sansField f t = sansField f s) {e : FDie} (he : e ≠ f) : t.field[e] = s.field[e] := by
  have hne : f.val ≠ e.val := fun q => he (Fin.ext q.symm)
  have := congrArg (fun u : State => u.field[e]) h
  simpa [sansField, hne] using this

/-- Only the field die differs. -/
theorem sansField_frame (h : sansField f t = sansField f s) : t = { s with field := t.field } :=
  congrArg (fun u : State => { u with field := t.field }) h

theorem sansDie_of_loops (h : sansLoops t = sansLoops s) : sansDie d t = sansDie d s := by
  unfold sansDie
  rw [h]

theorem sansDie_of_field (hd : asField d = some f) (h : sansField f t = sansField f s) : sansDie d t = sansDie d s := by
  unfold sansDie
  simp only [hd]
  exact congrArg sansLoops h

/-- What an activity on die `d` leaves: all but the loops' side, and the other field dies. -/
theorem sansDie_frame (h : sansDie d t = sansDie d s) :
    t = { s with survey := t.survey, loop := t.loop, ld := t.ld, mnt := t.mnt, led := t.led, irqStat := t.irqStat, field := t.field } := by
  have hput : sansLoops { t with field := s.field } = sansLoops s := by
    unfold sansDie at h
    split at h
    · exact congrArg (fun u : State => { u with field := s.field }) h
    · exact congrArg (fun u : State => { u with field := s.field }) h
  exact congrArg (fun u : State =>
    { u with survey := t.survey, loop := t.loop, ld := t.ld, mnt := t.mnt, led := t.led, irqStat := t.irqStat, field := t.field }) hput

theorem sansDie_field (h : sansDie d t = sansDie d s) {e : FDie} (he : toDie e ≠ d) : t.field[e] = s.field[e] := by
  unfold sansDie at h
  split at h
  · next f hf => exact sansField_field (s := sansLoops s) (t := sansLoops t) h fun q => he (q ▸ asField_some hf)
  · exact show (sansLoops t).field[e] = (sansLoops s).field[e] by rw [h]

/-! ### The arbiter, the loops and LD -/

theorem ledger_loops (s : State) (code unit inst arg : Nat) : sansLoops (ledger s code unit inst arg) = sansLoops s := by
  rw [ledger_frame]; rfl

theorem mntEnd_loops (s : State) (j e : Nat) : sansLoops (mntEnd s j e) = sansLoops s := by
  unfold mntEnd
  split
  · rfl
  · exact ledger_loops _ ..

theorem mntEndOf_loops (s : State) (kind index e : Nat) : sansLoops (mntEndOf s kind index e) = sansLoops s := by
  unfold mntEndOf
  split
  · exact mntEnd_loops ..
  · rfl

theorem updLoop_loops (s : State) (k : Chan) (g : LoopSt → LoopSt) : sansLoops (updLoop s k g) = sansLoops s := rfl

theorem owEnd_loops (s : State) (k : Chan) (state e : Nat) : sansLoops (owEnd s k state e) = sansLoops s :=
  (mntEndOf_loops _ ..).trans ((updLoop_loops ..).trans (ite_same rfl rfl))

theorem trimFail_loops (s : State) (k : Chan) (err e : Nat) : sansLoops (trimFail s k err e) = sansLoops s := mntEndOf_loops _ ..

theorem churnSync_loops (s : State) (k : Chan) : sansLoops (churnSync s k) = sansLoops s :=
  ite_same rfl (ite_same rfl rfl)

theorem cvStop_loops (s : State) (k : Chan) (e : Nat) : sansLoops (cvStop s k e) = sansLoops s := by
  unfold cvStop
  extract_lets s1 s2
  have h2 : sansLoops s2 = sansLoops s := ite_same rfl rfl
  exact (mntEndOf_loops ..).trans h2

theorem owGoOn_loops (s : State) (k : Chan) : sansLoops (owGoOn s k) = sansLoops s := ite_same rfl rfl

theorem hartIdle_loops (s : State) (k : Chan) : sansLoops (hartIdle s k) = sansLoops s := by
  unfold hartIdle
  extract_lets s0
  have h0 : sansLoops s0 = sansLoops s := ite_same rfl rfl
  exact (owGoOn_loops ..).trans h0

theorem hartAbort_loops (s : State) (k : Chan) : sansLoops (hartAbort s k) = sansLoops s := by
  unfold hartAbort
  refine ite_same rfl (ite_same ?_ (hartIdle_loops s k))
  exact hartIdle_loops (updHart s k _) k

theorem ldDiscard_loops (s : State) : sansLoops (ldDiscard s) = sansLoops s := by
  unfold ldDiscard
  exact foldl_same (fun t k => updLoop_loops t k _) _ { s with ld := { s.ld with pend := [] } }

theorem setRes_loops (s : State) (u : Nat) (g : MntRes → MntRes) : sansLoops (setRes s u g) = sansLoops s := by
  unfold setRes
  split <;> rfl

/-! ### A field die -/

theorem updField_sans (s : State) (f : FDie) (g : FieldSt → FieldSt) : sansField f (updField s f g) = sansField f s := by
  have h : (s.field.set f (g s.field[f])).set f fieldReset = s.field.set f fieldReset := Vector.set_set ..
  exact congrArg (fun v => { s with field := v }) h

theorem updChan_sans (s : State) (f : FDie) (k : Chan) (g : ChanSt → ChanSt) : sansField f (updChan s f k g) = sansField f s :=
  updField_sans ..

theorem withdraw_sans (s : State) (f : FDie) (k : Chan) : sansField f (withdraw s f k) = sansField f s :=
  (updChan_sans ..).trans (updField_sans ..)

theorem inRestore_sans (m : BitVec 16) (f : FDie) (s : State) (k : Chan) : sansField f (inRestore m f s k) = sansField f s :=
  ite_same (updChan_sans ..) rfl

theorem settleChan_sans (f : FDie) (s : State) (k : Chan) : sansField f (settleChan f s k) = sansField f s := by
  unfold settleChan
  extract_lets dm c s1
  have h1 : sansField f s1 = sansField f s := ite_same rfl (updChan_sans ..)
  clear_value s1
  exact ite_same rfl (ite_same ((updChan_sans ..).trans h1) (ite_same ((withdraw_sans ..).trans ((updChan_sans ..).trans h1)) h1))

theorem settle_sans (s : State) (f : FDie) : sansField f (settle s f) = sansField f s := foldl_same (settleChan_sans f) _ _

theorem dropBits_sans (s : State) (f : FDie) (k : Nat) : sansField f (dropBits s f k) = sansField f s :=
  (updField_sans ..).trans (updField_sans ..)

theorem causeChanged_sans (s : State) (f : FDie) (k : Chan) (old : Nat) : sansField f (causeChanged s f k old) = sansField f s := by
  unfold causeChanged
  extract_lets c new newHold oldHold s1
  have h1 : sansField f s1 = sansField f s := ite_same (dropBits_sans ..) rfl
  clear_value s1
  refine ite_same rfl (ite_same ?_ (ite_same h1 ?_)) <;> exact (updChan_sans ..).trans h1

theorem setCauses_sans (s : State) (f : FDie) (k : Chan) (clear set : BitVec 8) : sansField f (setCauses s f k clear set) = sansField f s :=
  (causeChanged_sans ..).trans (updChan_sans ..)

theorem fieldLink_sans (s : State) (f : FDie) : sansField f (fieldLink s f) = sansField f s :=
  (settle_sans _ f).trans ((foldl_same (fun _ _ => ite_same (setCauses_sans ..) rfl) _ _).trans (updField_sans ..))

/-! ### The activities on a die that is lost (R424) -/

theorem testOver_sans (s : State) (a : ActSt) {d : Die} (ha : a.index = d.val) : sansDie d (testOver s a) = sansDie d s := by
  have hd : (⟨a.index, by omega⟩ : Die) = d := Fin.ext ha
  unfold testOver
  split
  · split
    · exact sansDie_of_loops rfl
    · next f _ hf =>
      exact ite_same (sansDie_of_field (hd ▸ hf) (foldl_same (inRestore_sans _ f) _ _)) rfl
    · rfl
  · rfl

theorem abortAct_sans (s : State) (j : Nat) (a : ActSt) {d : Die} (ha : actOnDie d a = true) : sansDie d (abortAct s j a) = sansDie d s := by
  unfold abortAct
  split
  · exact sansDie_of_loops (owEnd_loops ..)
  · exact sansDie_of_loops (trimFail_loops ..)
  · exact sansDie_of_loops (cvStop_loops ..)
  · next h6 h7 h8 =>
    have hi : a.index = d.val := by
      simp only [actOnDie, Bool.or_eq_true, Bool.and_eq_true, decide_eq_true_eq] at ha
      rcases ha with ha | ⟨-, (h | h) | h⟩
      · exact ha.2
      · exact absurd h h6
      · exact absurd h h7
      · exact absurd h h8
    exact (sansDie_of_loops ((mntEnd_loops ..).trans (setRes_loops ..))).trans (testOver_sans s a hi)

theorem lostAct_sans (s : State) (j : Nat) (a : ActSt) {d : Die} (ha : actOnDie d a = true) : sansDie d (lostAct s j a) = sansDie d s := by
  exact ite_same (sansDie_of_loops (trimFail_loops ..)) (abortAct_sans s j a ha)

/-- The activities on a die end: nothing but the die's channels and the loops' side changes. -/
theorem abortOnDie_sans (s : State) (d : Die) : sansDie d (abortOnDie s d) = sansDie d s := by
  have hall : ∀ e ∈ (mntRunning s).filter fun e => actOnDie d e.2, actOnDie d e.2 = true := fun e he => (List.mem_filter.mp he).2
  unfold abortOnDie
  generalize (mntRunning s).filter (fun e => actOnDie d e.2) = l at hall
  induction l generalizing s with
  | nil => rfl
  | cons e l ih =>
    refine (ih _ fun q hq => hall q (List.mem_cons_of_mem _ hq)).trans ?_
    exact lostAct_sans s e.1 e.2 (hall e List.mem_cons_self)
end
end Sys2Proof.Machine

namespace Sys2Proof.Machine

/-! ## Links (R16, R17, R113) -/

section
variable {s : State} {k : Link} {kind : FrameKind}

/-- A change of a link's receiver changes that receiver. -/
theorem linkOf_updLink (s : State) (k : Link) (f : LinkSt → LinkSt) : linkOf (updLink s k f) k = f (linkOf s k) := by
  cases k with
  | down l d => exact (congrArg (fun x : DieSt => x.down[l]) (vmod_same s.die d _)).trans (vmod_same ..)
  | up l d => exact (congrArg (fun x : DieSt => x.up[l]) (vmod_same s.die d _)).trans (vmod_same ..)
  | time d => exact congrArg DieSt.time (vmod_same s.die d _)

/-- Only the link's die changes with it. -/
theorem updLink_frame (s : State) (k : Link) (f : LinkSt → LinkSt) : updLink s k f = { s with die := (updLink s k f).die } := by
  cases k <;> rfl

theorem updLink_other (s : State) {k : Link} (f : LinkSt → LinkSt) {e : Die} (he : e ≠ linkDie k) : (updLink s k f).die[e] = s.die[e] := by
  cases k <;> exact vmod_other s.die _ he

theorem updDie_fixed {d : Die} {f : DieSt → DieSt} (h : f s.die[d] = s.die[d]) : updDie s d f = s :=
  congrArg (fun v => { s with die := v }) (vmod_fixed h)

/-- A receiver that stays as it is leaves the state. -/
theorem updLink_fixed {f : LinkSt → LinkSt} (h : f (linkOf s k) = linkOf s k) : updLink s k f = s := by
  cases k with
  | down l d => exact updDie_fixed (congrArg (fun v => { s.die[d] with down := v }) (vmod_fixed h))
  | up l d => exact updDie_fixed (congrArg (fun v => { s.die[d] with up := v }) (vmod_fixed h))
  | time d => exact updDie_fixed (congrArg (fun v => { s.die[d] with time := v }) h)

theorem updLink_linkErr (s : State) (k : Link) (f : LinkSt → LinkSt) : (updLink s k f).die[linkDie k].linkErr = s.die[linkDie k].linkErr := by
  cases k with
  | down l d => show (vmod s.die d _)[d].linkErr = _; rw [vmod_same]; rfl
  | up l d => show (vmod s.die d _)[d].linkErr = _; rw [vmod_same]; rfl
  | time d => show (vmod s.die d _)[d].linkErr = _; rw [vmod_same]; rfl

/-- A change of a die that touches no receiver leaves every receiver. -/
theorem linkOf_updDie (s : State) (d : Die) {f : DieSt → DieSt} (hf : ∀ x, (f x).down = x.down ∧ (f x).up = x.up ∧ (f x).time = x.time)
    (k : Link) : linkOf (updDie s d f) k = linkOf s k := by
  have h (e : Die) : ((updDie s d f).die[e]).down = s.die[e].down ∧ ((updDie s d f).die[e]).up = s.die[e].up ∧
      ((updDie s d f).die[e]).time = s.die[e].time := by
    by_cases he : e = d
    · subst he
      rw [updDie_die, vmod_same]
      exact hf _
    · rw [updDie_die, vmod_other _ _ he]
      exact ⟨rfl, rfl, rfl⟩
  cases k with
  | down l e => simp only [linkOf, h]
  | up l e => simp only [linkOf, h]
  | time e => exact (h e).2.2

/-! ### Frames -/

/-- Of what a discarded frame takes with it, only an event is kept account of (R113, log entry 67). -/
theorem spoilFrame_frame (s : State) (k : Link) (kind : FrameKind) : spoilFrame s k kind = { s with lane := (spoilFrame s k kind).lane } := by
  unfold spoilFrame
  split
  · split
    · unfold spoilEvent
      split <;> rfl
    · rfl
  · rfl

theorem spoilFrame_other (s : State) (k : Link) (h : kind ≠ .event) : spoilFrame s k kind = s := by
  unfold spoilFrame
  split
  · exact absurd rfl h
  · rfl

/-- A frame whose CRC fails is counted and breaks the run of good frames; besides the link's die only the slices' account of events changes (R16). -/
theorem linkFrame_bad (hr : ready s (linkDie k) = true) :
    ∃ t, linkFrame s k false kind = t ∧ t.die[linkDie k].linkErr = s.die[linkDie k].linkErr + 1 ∧
      linkOf t k = { linkOf s k with good := 0 } ∧ t.lane = (spoilFrame s k kind).lane ∧ t = { s with die := t.die, lane := t.lane } ∧
      ∀ e : Die, e ≠ linkDie k → t.die[e] = s.die[e] := by
  have hx : linkFrame s k false kind =
      updDie (updLink (spoilFrame s k kind) k linkBad) (linkDie k) fun x => { x with linkErr := x.linkErr + 1 } := by
    simp only [linkFrame, hr, Bool.not_true, Bool.not_false, Bool.false_eq_true, if_false, if_true]
  refine ⟨_, hx, ?_, ?_, ?_, ?_, fun e he => ?_⟩
  · rw [updDie_die, vmod_same, updLink_linkErr, spoilFrame_frame]
  · rw [linkOf_updDie _ _ (by exact fun _ => ⟨rfl, rfl, rfl⟩), linkOf_updLink, spoilFrame_frame]
    rfl
  · rw [updDie_lane, updLink_frame]
  · rw [spoilFrame_frame, updLink_frame]
    rfl
  · rw [updDie_die, vmod_other _ _ he, updLink_other _ _ he, spoilFrame_frame]

/-- On a link that is up a good frame is taken. -/
theorem linkFrame_up (hr : ready s (linkDie k) = true) (hup : (linkOf s k).up = true) : linkFrame s k true kind = takeFrame s k kind := by
  have hg : linkGood (linkOf s k) = linkOf s k := if_pos hup
  simp only [linkFrame, hr, hup, updLink_fixed hg, Bool.not_true, Bool.false_eq_true, if_false, if_true]

/-- On a lost link the first two good frames in a row are only counted. -/
theorem linkFrame_waits (hr : ready s (linkDie k) = true) (hup : (linkOf s k).up = false) (hg : (linkOf s k).good < 2) :
    linkFrame s k true kind = updLink s k linkGood := by
  have hl : linkGood (linkOf s k) = { linkOf s k with good := (linkOf s k).good + 1 } := by
    rw [linkGood, if_neg (by simp [hup]), if_neg (by omega)]
  simp only [linkFrame, hr, hup, linkOf_updLink, hl, Bool.not_true, Bool.false_eq_true, if_false]

/-- The third one restores it. -/
theorem linkFrame_restores (hr : ready s (linkDie k) = true) (hup : (linkOf s k).up = false) (hg : (linkOf s k).good = 2) :
    linkFrame s k true kind = linkRestored (updLink s k linkGood) k ∧ (linkOf (updLink s k linkGood) k).up = true := by
  have hl : linkGood (linkOf s k) = { up := true, good := 0 } := by
    rw [linkGood, if_neg (by simp [hup]), if_pos (by omega)]
  have hu : (linkOf (updLink s k linkGood) k).up = true := by rw [linkOf_updLink, hl]
  refine ⟨?_, hu⟩
  simp only [linkFrame, hr, hup, hu, Bool.not_true, Bool.false_eq_true, if_false, if_true]

/-- A ledger event leaves the dies. -/
theorem ledgerOf_die (s : State) (t n code src arg : Nat) : (ledgerOf s t n code src arg).die = s.die := by
  rw [ledgerOf_frame]

/-- The kept events are sent: the dies' links stay. -/
theorem linkOf_sendKept (s : State) (d : Die) (k : Link) : linkOf (sendKept s d) k = linkOf s k := by
  have h : (sendKept s d).die = (updDie s d fun x => { x with kept := [] }).die :=
    foldl_same (π := State.die) (fun t r => ledgerOf_die t ..) s.die[d].kept (updDie s d fun x => { x with kept := [] })
  have hl (t u : State) (e : t.die = u.die) : linkOf t k = linkOf u k := by cases k <;> simp only [linkOf, e]
  exact (hl _ _ h).trans (linkOf_updDie s d (by exact fun _ => ⟨rfl, rfl, rfl⟩) k)

/-- What a restored link ends leaves its receiver. -/
theorem linkOf_linkRestored (s : State) (k : Link) : linkOf (linkRestored s k) k = linkOf s k := by
  cases k with
  | down l d => exact linkOf_updDie s d (by exact fun _ => ⟨rfl, rfl, rfl⟩) (.down l d)
  | up l d => exact linkOf_sendKept s d (.up l d)
  | time d => exact linkOf_updDie s d (by exact fun _ => ⟨rfl, rfl, rfl⟩) (.time d)

/-! ### What the slices take -/

/-- The next event in stamp order arrives at the slice (R113). -/
theorem takeEvent_next {l : Lane} {d : Die} (h : s.lane[l].evSeq[d] < s.die[d].evSeq) :
    takeEvent s l d = { s with lane := s.lane.set l { s.lane[l] with evSeq := s.lane[l].evSeq.set d (s.lane[l].evSeq[d] + 1) } } := by
  have hm : min s.die[d].evSeq (s.lane[l].evSeq[d] + 1) = s.lane[l].evSeq[d] + 1 := Nat.min_eq_right h
  simp only [takeEvent, updLane, vmod, hm]

/-- A lane after what die `x` reports of it as lane `j`, a member (`m`) or not (R135, R141). -/
def reported (x : DieSt) (j : Lane) (m : Bool) (y : LaneSt) : LaneSt :=
  let y1 := if x.repMinority.getLsbD j.val then learns 4 m y else y
  let y2 := if x.repClose.getLsbD j.val then learns 5 m y1 else y1
  if x.repShadow.getLsbD j.val then { y2 with shadowDiff := true } else y2

theorem updLane_ite {c : Prop} [Decidable c] (s : State) (j : Lane) (f g : LaneSt → LaneSt) :
    (if c then updLane (updLane s j g) j f else updLane s j g) = updLane s j fun y => if c then f (g y) else g y := by
  split
  · exact updLane_updLane ..
  · rfl

/-- The reports of a die on the three lanes, one lane after another. -/
theorem takeReports_eq (s : State) (d : Die) :
    takeReports s d = lanes3.foldl (fun t j => updLane t j (reported s.die[d] j (memberOf t j))) s := by
  unfold takeReports
  dsimp only
  congr 1
  funext t j
  have h1 : (if s.die[d].repMinority.getLsbD j.val = true then learnCause t j 4 else t) =
      updLane t j fun y => if s.die[d].repMinority.getLsbD j.val = true then learns 4 (memberOf t j) y else y := by
    split
    · exact learnCause_eq t j 4
    · exact (congrArg (fun v => { t with lane := v }) (vmod_fixed (f := fun y => y) rfl)).symm
  rw [h1, learnCause_eq, updLane_ite, updLane_ite]
  rfl

theorem takeReports_frame (s : State) (d : Die) : takeReports s d = { s with lane := (takeReports s d).lane } := by
  rw [takeReports_eq]
  rfl

theorem takeReports_lane (s : State) (d : Die) (j : Lane) :
    (takeReports s d).lane[j] = reported s.die[d] j (memberOf s j) s.lane[j] := by
  have hv : (takeReports s d).lane =
      vmod (vmod (vmod s.lane 0 (reported s.die[d] 0 (memberOf s 0))) 1 (reported s.die[d] 1 (memberOf s 1))) 2
        (reported s.die[d] 2 (memberOf s 2)) := by
    rw [takeReports_eq]
    rfl
  rw [hv]
  match j with
  | 0 => rw [vmod_other _ _ (by decide), vmod_other _ _ (by decide), vmod_same]
  | 1 => rw [vmod_other _ _ (by decide), vmod_same, vmod_other _ _ (by decide)]
  | 2 => rw [vmod_same, vmod_other _ _ (by decide), vmod_other _ _ (by decide)]

theorem reported_frozen (x : DieSt) (j : Lane) (m : Bool) (y : LaneSt) : (reported x j m y).frozen = y.frozen := by
  unfold reported
  dsimp only
  split_ifs <;> rfl

/-- A minority is the first cause that a member learns. -/
theorem reported_minority {x : DieSt} {j : Lane} {y : LaneSt} (hx : x.repMinority.getLsbD j.val = true) (hy : y.pendCause = 0) :
    (reported x j true y).pendCause = 4 := by
  have h4 : (learns 4 true y).pendCause = 4 := if_pos ⟨rfl, hy⟩
  have h5 : (learns 5 true (learns 4 true y)).pendCause = 4 := (if_neg (by simp [h4])).trans h4
  simp only [reported, hx, if_true]
  split_ifs
  · exact h5
  · exact h4
  · exact h5
  · exact h4

theorem bit5_self (d : Die) : (bit5 d).getLsbD d.val = true := by
  revert d
  decide

/-- A freeze frame is noted with the slice, and the die's reports are learned (R113, R135). -/
theorem takeFreeze_runs (s : State) (l : Lane) (d : Die) : (takeFreeze s l d).lane[l].frozen.getLsbD d.val = true ∧
    (∀ j : Lane, memberOf s j = true → s.lane[j].pendCause = 0 → s.die[d].repMinority.getLsbD j.val = true →
      (takeFreeze s l d).lane[j].pendCause = 4) ∧
    takeFreeze s l d = { s with lane := (takeFreeze s l d).lane } := by
  unfold takeFreeze
  refine ⟨?_, fun j hm hp hx => ?_, (takeReports_frame _ d).trans rfl⟩
  · rw [takeReports_lane, reported_frozen, updLane_lane, vmod_same, BitVec.getLsbD_or, bit5_self, Bool.or_true]
  · have hpend : (updLane s l fun y => { y with frozen := y.frozen ||| bit5 d }).lane[j].pendCause = 0 := by
      by_cases h : j = l
      · subst h
        rw [updLane_lane, vmod_same]
        exact hp
      · rw [updLane_lane, vmod_other _ _ h]
        exact hp
    rw [takeReports_lane]
    exact (show memberOf (updLane s l _) j = true from hm) ▸ reported_minority hx hpend

/-! ### Loss of a link, of a clock, and of a permit read-back (R16, R17, R33) -/

theorem dieLedger_down (s : State) (d : Die) (code inst arg : Nat) (e : Die) : (dieLedger s d code inst arg).die[e].down = s.die[e].down := by
  have hkept (r : List LedRec) : (vmod s.die d fun x => { x with kept := r })[e].down = s.die[e].down := by
    by_cases h : e = d
    · subst h; rw [vmod_same]
    · rw [vmod_other _ _ h]
  unfold dieLedger
  split
  · dsimp only
    split
    · exact hkept _
    · rfl
  · rw [ledgerAt_frame]

/-- LINK at a die leaves every lane and every downlink's receiver (R269). -/
theorem dieLink_lane (s : State) (d : Die) : (dieLink s d).lane = s.lane ∧ ∀ e : Die, (dieLink s d).die[e].down = s.die[e].down := by
  have h1 : ∀ e : Die, (dieLedger (updDie s d fun x => { x with linkDown := true }) d 36 0 0).die[e].down = s.die[e].down := fun e => by
    rw [dieLedger_down]
    by_cases h : e = d
    · subst h; rw [updDie_die, vmod_same]
    · rw [updDie_die, vmod_other _ _ h]
  have hlane : (dieLedger (updDie s d fun x => { x with linkDown := true }) d 36 0 0).lane = s.lane := by rw [dieLedger_frame]; rfl
  unfold dieLink
  generalize dieLedger (updDie s d fun x => { x with linkDown := true }) d 36 0 0 = u at h1 hlane
  rw [sansDie_frame (abortOnDie_sans _ d)]
  split
  · next f _ =>
    rw [sansField_frame (fieldLink_sans u f)]
    exact ⟨hlane, h1⟩
  · have hl := ldDiscard_loops u
    exact ⟨(congrArg State.lane hl).trans hlane, fun e => (congrArg (fun v : State => v.die[e].down) hl).trans (h1 e)⟩

variable {l : Lane} {d : Die}

/-- A member without a cause learns one. -/
theorem learnCause_member (c : Nat) (hm : memberOf s l = true) (hp : s.lane[l].pendCause = 0) :
    learnCause s l c = updLane s l fun x => { x with pendCause := c } := if_pos ⟨hm, hp⟩

theorem linkLost_up (hm : memberOf s l = true) (hp : s.lane[l].pendCause = 0) (hr : ready s d = true)
    (hup : (linkOf s (.up l d)).up = true) : ∃ t, exec (.linkLost (.up l d)) s = .next t ∧
      (linkOf t (.up l d)).up = false ∧ t.lane[l] = { s.lane[l] with pendCause := 6 } ∧ (∀ k : Lane, k ≠ l → t.lane[k] = s.lane[k]) ∧
      t = { s with lane := t.lane, die := t.die } := by
  have hx : exec (.linkLost (.up l d)) s = .next (learnCause (updLink s (.up l d) fun _ => linkDownSt) l 6) := by
    show execLinkLost (.up l d) s = _
    rw [execLinkLost, if_pos (by rw [show ready s (linkDie (.up l d)) = true from hr, hup]; rfl)]
    rfl
  rw [learnCause_member 6 (by exact hm) (by exact hp)] at hx
  refine ⟨_, hx, ?_, vmod_same .., fun k hk => vmod_other _ _ hk, rfl⟩
  exact congrArg LinkSt.up (linkOf_updLink s (.up l d) fun _ => linkDownSt)

theorem linkLost_down (hm : memberOf s l = true) (hp : s.lane[l].pendCause = 0) (hr : ready s d = true)
    (hup : (linkOf s (.down l d)).up = true) : ∃ t, exec (.linkLost (.down l d)) s = .next t ∧
      (linkOf t (.down l d)).up = false ∧ t.lane[l].pendCause = 6 := by
  have hx : exec (.linkLost (.down l d)) s = .next (loseLink s (.down l d)) := by
    show execLinkLost (.down l d) s = _
    rw [execLinkLost, if_pos (by rw [show ready s (linkDie (.down l d)) = true from hr, hup]; rfl)]
  refine ⟨_, hx, ?_⟩
  have hu : learnCause (updLink s (.down l d) fun _ => linkDownSt) l 6 = _ := learnCause_member 6 (by exact hm) (by exact hp)
  have hlink : (linkOf (learnCause (updLink s (.down l d) fun _ => linkDownSt) l 6) (.down l d)).up = false := by
    rw [hu]
    exact congrArg LinkSt.up (linkOf_updLink s (.down l d) fun _ => linkDownSt)
  have hcause : (learnCause (updLink s (.down l d) fun _ => linkDownSt) l 6).lane[l].pendCause = 6 := by
    rw [hu, updLane_lane, vmod_same]
  unfold loseLink
  dsimp only
  generalize learnCause (updLink s (.down l d) fun _ => linkDownSt) l 6 = u at hlink hcause
  split
  · obtain ⟨hl, hd⟩ := dieLink_lane u d
    exact ⟨(congrArg (fun v : Vector LinkSt 3 => v[l].up) (hd d)).trans hlink,
      (congrArg (fun v : Vector LaneSt 3 => v[l].pendCause) hl).trans hcause⟩
  · exact ⟨hlink, hcause⟩

/-- The lane's clock stops; lane A's is that of the crystal, and takes REF_P with it. -/
theorem clockMonitorFail_runs (hm : memberOf s l = true) (hp : s.lane[l].pendCause = 0) (hr : s.boot.inReset = false)
    (hc : s.lane[l].clockOk = true) (hs : s.lane[l].state < 2) : ∃ t, exec (.clockMonitorFail l) s = .next t ∧
      t.lane[l] = { s.lane[l] with run := .halted, lineReq := none, clockOk := false, pendCause := 8 } ∧
      (∀ k : Lane, k ≠ l → t.lane[k] = s.lane[k]) ∧ (l ≠ 0 → t = { s with lane := t.lane, wd := t.wd }) ∧
      (l = 0 → t.tm = { s.tm with ref := true, refpOk := false } ∧ (s.tm.ref = true → t.time = s.time) ∧
        t = { s with lane := t.lane, wd := t.wd, time := t.time, tm := t.tm, led := t.led, irqStat := t.irqStat, freeCtr := t.freeCtr }) := by
  have hu := clockLost_eq hr hc hs
  have hstop : clockStops (memberOf s l) s.lane[l] =
      { s.lane[l] with run := .halted, lineReq := none, clockOk := false, pendCause := 8 } := by
    simp only [clockStops, hm, hp, and_self, if_true]
  have hlane : (vmod s.lane l (clockStops (memberOf s l)))[l] = _ := (vmod_same ..).trans hstop
  have hother : ∀ k : Lane, k ≠ l → (vmod s.lane l (clockStops (memberOf s l)))[k] = s.lane[k] := fun k hk => vmod_other _ _ hk
  show ∃ t, execClockMonitorFail l s = .next t ∧ _
  unfold execClockMonitorFail
  rw [hu]
  dsimp only
  by_cases hl : l = 0
  · by_cases href : s.tm.ref = true
    · rw [if_neg (by simp [href]), if_pos (by simp [hl, hr]),
        toRefS_again (s := updLane (wdOff s (laneWd l)) l (clockStops (memberOf s l))) _ href]
      exact ⟨_, rfl, hlane, hother, fun h => absurd hl h, fun _ => ⟨by rw [← href]; rfl, fun _ => rfl, rfl⟩⟩
    · have href : s.tm.ref = false := Bool.eq_false_iff.mpr href
      rw [if_pos (by simp [hl, hr, href])]
      obtain ⟨led, irqStat, -, he⟩ := toRefS_switch (s := useFree (updLane (wdOff s (laneWd l)) l (clockStops (memberOf s l))))
        (4 * (freeNat s % 3)) href
      rw [he]
      exact ⟨_, rfl, hlane, hother, fun h => absurd hl h, fun _ => ⟨rfl, fun h => absurd (h.symm.trans href) (by decide), rfl⟩⟩
  · rw [if_neg (by simp [hl]), if_neg (by simp [hl])]
    exact ⟨_, rfl, hlane, hother, fun _ => rfl, fun h => absurd h hl⟩

theorem permitReadback_runs (hm : memberOf s l = true) (hp : s.lane[l].pendCause = 0) :
    ∃ t, exec (.permitReadback l) s = .next t ∧ 1 ≤ t.lane[l].pendCause ∧ t.lane[l].pendCause ≤ 8 ∧
      t.lane[l] = { s.lane[l] with pendCause := t.lane[l].pendCause } ∧ (∀ k : Lane, k ≠ l → t.lane[k] = s.lane[k]) ∧
      t = { s with lane := t.lane, freeCtr := s.freeCtr + 1 } := by
  have hx : exec (.permitReadback l) s = .next (updLane (useFree s) l fun x => { x with pendCause := 1 + freeNat s % 8 }) :=
    congrArg Host.Outcome.next (learnCause_member (s := useFree s) _ hm hp)
  have hl : (updLane (useFree s) l fun x => { x with pendCause := 1 + freeNat s % 8 }).lane[l] =
      { s.lane[l] with pendCause := 1 + freeNat s % 8 } := vmod_same ..
  refine ⟨_, hx, ?_, ?_, ?_, fun k hk => vmod_other _ _ hk, rfl⟩ <;> rw [hl]
  · exact Nat.le_add_right 1 _
  · show 1 + freeNat s % 8 ≤ 8
    omega

/-! ### The statement -/

/-- The next event of a die is spoiled: it is missing from the slice from its number on (R113, log entry 67). -/
theorem spoilEvent_next (h : s.lane[l].evSeq[d] < s.die[d].evSeq) : spoilEvent s l d = updLane s l fun y =>
    { y with evLost := y.evLost.set d (some (y.evLost[d].getD (y.evSeq[d] + 1))), evSeq := y.evSeq.set d (y.evSeq[d] + 1) } := if_pos h

theorem linkFrameRx_spoiled (hr : ready s d = true) (hup : (linkOf s (.up l d)).up = true) (hev : s.lane[l].evSeq[d] < s.die[d].evSeq) :
    ∃ t, exec (.linkFrameRx (.up l d) false .event) s = .next t ∧ t.lane[l].evSeq[d] = s.lane[l].evSeq[d] + 1 ∧
      t.lane[l].evLost[d] = some (s.lane[l].evLost[d].getD (s.lane[l].evSeq[d] + 1)) ∧ ∀ j : Lane, j ≠ l → t.lane[j] = s.lane[j] := by
  obtain ⟨t, hx, -, -, hlane, -⟩ := linkFrame_bad (k := .up l d) (kind := .event) hr
  have hspoil : spoilFrame s (.up l d) .event = spoilEvent s l d := if_pos hup
  rw [hspoil, spoilEvent_next hev] at hlane
  refine ⟨t, congrArg Host.Outcome.next hx, ?_, ?_, fun j hj => ?_⟩ <;> rw [hlane]
  · rw [updLane_lane, vmod_same]
    simp
  · rw [updLane_lane, vmod_same]
    simp
  · exact vmod_other _ _ hj

/-- Settles O19: the frames by what their link and their CRC are, then the losses. -/
theorem linksAndLaneFaults : Obligations.LinksAndLaneFaults := by
  refine ⟨fun s k l d kind hrk hrd => ⟨?_, ?_, fun hup => ?_, fun hup hg => ?_, fun hup hg => ?_, fun hup hev => ⟨?_, ?_⟩, fun hup => ?_⟩,
    fun s l d hm hp => ⟨linkLost_up hm hp, linkLost_down hm hp, clockMonitorFail_runs hm hp, permitReadback_runs hm hp⟩⟩
  · obtain ⟨t, hx, herr, hlink, hlane, hframe, hother⟩ := linkFrame_bad (kind := kind) hrk
    exact ⟨t, congrArg Host.Outcome.next hx, herr, hlink, fun hne => hlane.trans (by rw [spoilFrame_other s k hne]), hframe, hother⟩
  · obtain ⟨t, hx, herr, hlink, hlane, hframe, -⟩ := linkFrame_bad (kind := .idle) hrk
    rw [hlane, spoilFrame_other s k (by decide)] at hframe
    exact ⟨t, congrArg Host.Outcome.next hx, herr, hlink, hframe⟩
  · refine congrArg Host.Outcome.next ((linkFrame_up hrk hup).trans ?_)
    cases k <;> rfl
  · have hl : linkGood (linkOf s k) = { up := false, good := (linkOf s k).good + 1 } := by
      rw [linkGood, if_neg (by simp [hup]), if_neg (by omega), hup]
    exact ⟨_, congrArg Host.Outcome.next (linkFrame_waits hrk hup hg), (linkOf_updLink ..).trans hl, updLink_frame ..,
      fun e he => updLink_other _ _ he⟩
  · obtain ⟨hx, hu⟩ := linkFrame_restores (kind := kind) hrk hup hg
    exact ⟨_, congrArg Host.Outcome.next hx, (congrArg LinkSt.up (linkOf_linkRestored ..)).trans hu⟩
  · exact congrArg Host.Outcome.next ((linkFrame_up hrd hup).trans (takeEvent_next hev))
  · exact linkFrameRx_spoiled hrd hup hev
  · exact ⟨_, congrArg Host.Outcome.next (linkFrame_up hrd hup), takeFreeze_runs s l d⟩
end
end Sys2Proof.Machine

namespace Sys2Proof.Machine

/-! ## Power of the dies, sections of the time master, the management core and the rails (R21, R33, R50 to R52, R185) -/

/-- The state without the far side of the barrier and what stands for it in the control die: the dies and their power, the lanes' slices. -/
def sansFar (s : State) : State :=
  { sansLoops s with field := State.reset.field, lane := State.reset.lane, die := State.reset.die, pwr := State.reset.pwr }

section
variable {s t : State} {d : Die} {f : FDie} {k : Chan} {l : Lane}

/-- What the loops' side leaves. -/
theorem sansLoops_frame (h : sansLoops t = sansLoops s) :
    t = { s with survey := t.survey, loop := t.loop, ld := t.ld, mnt := t.mnt, led := t.led, irqStat := t.irqStat } :=
  congrArg (fun u : State => { u with survey := t.survey, loop := t.loop, ld := t.ld, mnt := t.mnt, led := t.led, irqStat := t.irqStat }) h

theorem sansFar_of_loops (h : sansLoops t = sansLoops s) : sansFar t = sansFar s := (congrArg sansFar h :)

theorem sansFar_of_die (h : sansDie d t = sansDie d s) : sansFar t = sansFar s := by
  unfold sansDie at h
  split at h
  · exact (congrArg sansFar h :)
  · exact (congrArg sansFar h :)

/-! ### A die off or reset -/

theorem stopChurn_loops (s : State) (k : Chan) : sansLoops (stopChurn s k) = sansLoops s := rfl

theorem loopReset_loops (s : State) (k : Chan) : sansLoops (loopReset s k) = sansLoops s :=
  (updLoop_loops ..).trans ((hartAbort_loops ..).trans (stopChurn_loops ..))

theorem dieClear_far (s : State) (d : Die) (b : Bool) : sansFar (dieClear s d b) = sansFar s := by
  unfold dieClear
  extract_lets old reset s1 s2 ld
  have h1 : sansFar s1 = sansFar s := rfl
  have h2 : sansFar s2 = sansFar s1 := sansFar_of_loops (foldl_same loopReset_loops _ _)
  clear_value ld s2 s1
  split
  · exact h1
  · exact h2.trans h1

theorem diePowerOff_far (s : State) (d : Die) : sansFar (diePowerOff s d) = sansFar s :=
  (dieClear_far _ d false).trans (sansFar_of_die (abortOnDie_sans s d) :)

/-! ### The reset of the control die -/

theorem owSwitch_loops (s : State) (k : Chan) (t : Nat) : sansLoops (owSwitch s k t) = sansLoops s := rfl

theorem endChainTest_loops (s : State) (k : Chan) : sansLoops (endChainTest s k) = sansLoops s :=
  ite_same (ite_same rfl rfl) rfl

theorem ldKept_loops (s : State) : sansLoops (ldKept s) = sansLoops s := by
  unfold ldKept
  extract_lets s1 s2
  have h1 : sansLoops s1 = sansLoops s := foldl_same (fun t k => ite_same (owSwitch_loops t k _) rfl) _ _
  have h2 : sansLoops s2 = sansLoops s1 := foldl_same endChainTest_loops _ _
  clear_value s1 s2
  exact h2.trans h1

theorem resetSources_bit (s : State) {src : Nat} (h : src < 6) : (resetSources s src).getLsbD src = true := by
  rw [resetSources, BitVec.getLsbD_or, BitVec.getLsbD_ofNat]
  simp [Nat.testBit_two_pow_self, h]

theorem resetCause_bit (s : State) {src : Nat} (h : src < 6) : (resetCause s src).getLsbD src = true := by
  unfold resetCause
  split
  · next h0 => subst h0; decide
  · rw [BitVec.getLsbD_or, BitVec.getLsbD_ofNat]
    simp [Nat.testBit_two_pow_self, h]

theorem reset_halted (l : Lane) : State.reset.lane[l].run = .halted := by
  revert l
  decide

theorem controlReset_inReset (s : State) {src : Nat} (h : src < 6) : InReset s (controlReset s src) src :=
  ⟨rfl, resetSources_bit s h, resetCause_bit s h, rfl, rfl, rfl, rfl, rfl, rfl, rfl, rfl, reset_halted,
    fun p => ⟨congrArg PortSt.last (reset_port p), congrArg PortSt.seq (reset_port p)⟩, rfl, rfl, rfl, rfl⟩

/-- What says that the device is in reset is not of the loops. -/
theorem InReset.of_loops {u : State} {src : Nat} (h : InReset s t src) (hu : sansLoops u = sansLoops t) : InReset s u src := by
  rw [sansLoops_frame hu]
  exact h

theorem enterReset_inReset (s : State) {src : Nat} (h : src < 6) : InReset s (enterReset s src) src := by
  unfold enterReset
  extract_lets s1
  have hfar : sansFar s1 = sansFar s := ite_same (foldl_same diePowerOff_far _ _) rfl
  clear_value s1
  have hreset := (controlReset_inReset s1 h).of_loops (ldKept_loops _)
  obtain ⟨h1, h2, h3, h4, h5, h6, h7, h8, h9, h10, h11, h12, h13, hstore, hvddio, htap, hpending⟩ := hreset
  exact ⟨h1, h2, h3, h4, h5, h6, h7, h8, h9, h10, h11, h12, h13, hstore.trans (congrArg State.store hfar :),
    hvddio.trans (congrArg State.vddio hfar :), htap.trans (congrArg State.tap hfar :), hpending.trans (congrArg State.pending hfar :)⟩

/-! ### Transformers -/

theorem updField_at (s : State) (f : FDie) (g : FieldSt → FieldSt) : (updField s f g).field[f] = g s.field[f] := vmod_same ..

theorem updField_other (s : State) {f e : FDie} (g : FieldSt → FieldSt) (h : e ≠ f) : (updField s f g).field[e] = s.field[e] := vmod_other _ _ h

theorem transferStops_runs (s : State) (d : Die) : (∀ f : FDie, (transferStops s d).field[f] =
    { s.field[f] with stopped := (transferStops s d).field[f].stopped } ∧ (toDie f ≠ d → (transferStops s d).field[f] = s.field[f])) ∧
    transferStops s d = { s with field := (transferStops s d).field, freeCtr := (transferStops s d).freeCtr } := by
  unfold transferStops
  split
  · next f hf =>
    extract_lets stop
    refine ⟨fun e => ?_, rfl⟩
    by_cases he : e = f
    · subst he
      refine ⟨?_, fun h => absurd (asField_some hf) h⟩
      rw [updField_at]
      rfl
    · rw [updField_other _ _ he]
      exact ⟨rfl, fun _ => rfl⟩
  · exact ⟨fun e => ⟨rfl, fun _ => rfl⟩, rfl⟩

/-- One of two transformers goes out of service. -/
theorem pt_without (pt : BitVec 2) (u : Fin 2) (hu : pt.getLsbD u.val = true) (ho : pt.getLsbD (1 - u.val) = true) :
    (pt &&& ~~~(BitVec.ofNat 2 (2 ^ u.val))).getLsbD u.val = false ∧
    (pt &&& ~~~(BitVec.ofNat 2 (2 ^ u.val))).getLsbD (1 - u.val) = true ∧ pt &&& ~~~(BitVec.ofNat 2 (2 ^ u.val)) ≠ 0 := by
  revert pt u
  decide

theorem transformerFail_runs (u : Fin 2) (hpow : powered s d = true) (hu : s.die[d].pt.getLsbD u.val = true)
    (ho : s.die[d].pt.getLsbD (1 - u.val) = true) :
    ∃ t, exec (.transformerFail d u) s = .next t ∧ t.die[d].pt.getLsbD u.val = false ∧ t.die[d].pt.getLsbD (1 - u.val) = true ∧
      t.die[d].transfer = true ∧ t.led.bits[0].getLsbD 11 = true ∧
      (∀ f : FDie, t.field[f] = { s.field[f] with stopped := t.field[f].stopped } ∧ (toDie f ≠ d → t.field[f] = s.field[f])) ∧
      t = { s with die := t.die, led := t.led, irqStat := t.irqStat, field := t.field, freeCtr := t.freeCtr } := by
  obtain ⟨hoff, hon, hne⟩ := pt_without s.die[d].pt u hu ho
  show ∃ t, execTransformerFail d u s = .next t ∧ _
  unfold execTransformerFail
  rw [if_neg (by rw [hpow, hu]; decide)]
  obtain ⟨led, irqStat, hbit, he⟩ := ledger_event (updDie s d fun x => { x with pt := x.pt &&& ~~~(BitVec.ofNat 2 (2 ^ u.val)) }) (code := 11)
    (d.val + 1) 0 u.val (by decide)
  have hpt : (vmod s.die d fun x => { x with pt := x.pt &&& ~~~(BitVec.ofNat 2 (2 ^ u.val)) })[d].pt =
      s.die[d].pt &&& ~~~(BitVec.ofNat 2 (2 ^ u.val)) := congrArg DieSt.pt (vmod_same ..)
  dsimp only
  rw [he]
  rw [if_neg (by rw [updDie_die, hpt]; exact hne)]
  obtain ⟨hfield, hframe⟩ := transferStops_runs (updDie { updDie s d fun x => { x with pt := x.pt &&& ~~~(BitVec.ofNat 2 (2 ^ u.val)) } with
    led := led, irqStat := irqStat } d fun x => { x with transfer := true }) d
  have hdie : (vmod (vmod s.die d fun x => { x with pt := x.pt &&& ~~~(BitVec.ofNat 2 (2 ^ u.val)) }) d fun x => { x with transfer := true })[d] =
      { s.die[d] with pt := s.die[d].pt &&& ~~~(BitVec.ofNat 2 (2 ^ u.val)), transfer := true } := by rw [vmod_same, vmod_same]
  refine ⟨_, rfl, ?_, ?_, ?_, ?_, hfield, ?_⟩ <;> rw [hframe]
  · exact (congrArg (fun x : DieSt => x.pt.getLsbD u.val) hdie).trans hoff
  · exact (congrArg (fun x : DieSt => x.pt.getLsbD (1 - u.val)) hdie).trans hon
  · exact congrArg DieSt.transfer hdie
  · exact hbit
  · rfl

/-! ### The rail regulates again (R21) -/

theorem updChan_stopped (s : State) (f : FDie) (k : Chan) (g : ChanSt → ChanSt) : (updChan s f k g).field[f].stopped = s.field[f].stopped :=
  (congrArg FieldSt.stopped (updField_at ..) :)

theorem withdraw_stopped (s : State) (f : FDie) (k : Chan) : (withdraw s f k).field[f].stopped = s.field[f].stopped :=
  (updChan_stopped ..).trans (congrArg FieldSt.stopped (updField_at s f _) :)

theorem settleChan_stopped (f : FDie) (s : State) (k : Chan) : (settleChan f s k).field[f].stopped = s.field[f].stopped := by
  unfold settleChan
  extract_lets dm c s1
  have h1 : s1.field[f].stopped = s.field[f].stopped := ite_same (π := fun t => t.field[f].stopped) rfl (updChan_stopped ..)
  clear_value s1
  exact ite_same (π := fun t => t.field[f].stopped) rfl (ite_same (π := fun t => t.field[f].stopped) ((updChan_stopped ..).trans h1)
    (ite_same (π := fun t => t.field[f].stopped) ((withdraw_stopped ..).trans ((updChan_stopped ..).trans h1)) h1))

theorem settle_stopped (s : State) (f : FDie) : (settle s f).field[f].stopped = s.field[f].stopped :=
  foldl_same (π := fun t : State => t.field[f].stopped) (settleChan_stopped f) _ _

theorem railRegulationRestored_runs (s : State) (d : Die) : ∃ t, exec (.railRegulationRestored d) s = .next t ∧ t.die[d].transfer = false ∧
    (powered s d = true → ∀ f : FDie, toDie f = d → t.field[f].stopped = 0) ∧ (∀ f : FDie, toDie f ≠ d → t.field[f] = s.field[f]) ∧
    t.lane = s.lane ∧ t.regs = s.regs ∧ t.store = s.store ∧ t.md = s.md ∧ t.own = s.own ∧ t.loop = s.loop ∧ t.cyc = s.cyc := by
  show ∃ t, execRailRegulationRestored d s = .next t ∧ _
  unfold execRailRegulationRestored
  dsimp only
  have hdie : (updDie s d fun x => { x with transfer := false }).die[d].transfer = false := congrArg DieSt.transfer (vmod_same ..)
  split
  · next f hf =>
    obtain rfl := asField_some hf
    by_cases hp : powered s (toDie f) = true
    · rw [if_pos hp]
      have hsans : sansField f (settle (updField (updDie s (toDie f) fun x => { x with transfer := false }) f fun x => { x with stopped := 0 }) f) =
          sansField f (updDie s (toDie f) fun x => { x with transfer := false }) := (settle_sans ..).trans (updField_sans ..)
      have hframe := sansField_frame hsans
      refine ⟨_, rfl, ?_, fun _ e he => ?_, fun e he => sansField_field hsans fun q => he (q ▸ rfl), ?_⟩
      · rw [hframe]; exact hdie
      · obtain rfl : f = e := Fin.ext (congrArg Fin.val he).symm
        exact (settle_stopped ..).trans (congrArg FieldSt.stopped (updField_at ..))
      · rw [hframe]
        exact ⟨rfl, rfl, rfl, rfl, rfl, rfl, rfl⟩
    · rw [if_neg hp]
      exact ⟨_, rfl, hdie, fun h => absurd h hp, fun _ _ => rfl, rfl, rfl, rfl, rfl, rfl, rfl, rfl⟩
  · next hf =>
    refine ⟨_, rfl, hdie, fun _ f he => ?_, fun _ _ => rfl, rfl, rfl, rfl, rfl, rfl, rfl, rfl⟩
    subst he
    exact absurd ((asField_toDie f).symm.trans hf) (by simp)

/-! ### The sections of the time master (R185) -/

theorem stampOf_of_lt {v : Nat} (h : v < 2 ^ 64) : stampOf v = v / 4 * 4 := by
  rw [stampOf, Nat.mod_eq_of_lt h]

theorem dropSection_second (h : s.tm.sect = 3) {v : Nat} (hv : v < 2 ^ 64) :
    dropSection s 1 v = { s with time := v / 4 * 4, tm := { s.tm with sect := 1 } } := by
  rw [dropSection, stampOf_of_lt hv, h]
  rfl

theorem dropSection_first (h : s.tm.sect = 3) {v : Nat} (hv : v < 2 ^ 64) :
    dropSection s 0 v = { s with time := v / 4 * 4, tm := { s.tm with sect := 2 } } := by
  rw [dropSection, stampOf_of_lt hv, h]
  rfl

/-- The ready dies, and those of them within 40 ns of `v`. -/
theorem diesAgree_eq (s : State) (v : Nat) : diesAgree s v = decide ((dies5.filter (ready s)).length <
    2 * ((dies5.filter (ready s)).filter fun e => decide (((v : Int) - dieTime s e).natAbs ≤ 40)).length) := rfl

theorem anyReady_eq (s : State) : dies5.any (ready s) = decide (0 < (dies5.filter (ready s)).length) := by
  rw [Bool.eq_iff_iff]
  simp [List.length_pos_iff, List.filter_eq_nil_iff]

theorem tmSectionFault_eq {v0 v1 n a b : Nat} (hr : s.boot.inReset = false) (hs : s.tm.sect = 3) (hv : v0 ≠ v1) (h0 : v0 < 2 ^ 64)
    (h1 : v1 < 2 ^ 64) (hn : n = (dies5.filter (ready s)).length)
    (ha : a = ((dies5.filter (ready s)).filter fun e => decide (((v0 : Int) - dieTime s e).natAbs ≤ 40)).length)
    (hb : b = ((dies5.filter (ready s)).filter fun e => decide (((v1 : Int) - dieTime s e).natAbs ≤ 40)).length) :
    exec (.tmSectionFault v0 v1) s = .next (
      if n < 2 * a ∧ 2 * b ≤ n then { s with time := v0 / 4 * 4, tm := { s.tm with sect := 1 } }
      else if n < 2 * b ∧ 2 * a ≤ n then { s with time := v1 / 4 * 4, tm := { s.tm with sect := 2 } }
      else if 2 * a ≤ n ∧ 0 < n then enterReset s 5
      else if freeNat s % 2 = 0 then { useFree s with time := v0 / 4 * 4, tm := { s.tm with sect := 1 } }
      else { useFree s with time := v1 / 4 * 4, tm := { s.tm with sect := 2 } }) := by
  show execTmSectionFault v0 s v1 = _
  unfold execTmSectionFault
  rw [if_neg (by simp [hr, hs, hv]), diesAgree_eq, diesAgree_eq, anyReady_eq, ← hn, ← ha, ← hb, dropSection_second hs h0,
    dropSection_first hs h1, dropSection_second (s := useFree s) hs h0, dropSection_first (s := useFree s) hs h1]
  simp only [Bool.and_eq_true, decide_eq_true_eq, Bool.not_eq_true', decide_eq_false_iff_not, Nat.not_lt]
  rfl

theorem tmSectionFault_runs {v0 v1 n a b : Nat} (hr : s.boot.inReset = false) (hs : s.tm.sect = 3) (hv : v0 ≠ v1) (h0 : v0 < 2 ^ 64)
    (h1 : v1 < 2 ^ 64) (hn : n = (dies5.filter (ready s)).length)
    (ha : a = ((dies5.filter (ready s)).filter fun e => decide (((v0 : Int) - dieTime s e).natAbs ≤ 40)).length)
    (hb : b = ((dies5.filter (ready s)).filter fun e => decide (((v1 : Int) - dieTime s e).natAbs ≤ 40)).length) :
    (n < 2 * a → 2 * b ≤ n → exec (.tmSectionFault v0 v1) s = .next { s with time := v0 / 4 * 4, tm := { s.tm with sect := 1 } }) ∧
    (n < 2 * b → 2 * a ≤ n → exec (.tmSectionFault v0 v1) s = .next { s with time := v1 / 4 * 4, tm := { s.tm with sect := 2 } }) ∧
    (2 * a ≤ n → 2 * b ≤ n → 0 < n → ∃ t, exec (.tmSectionFault v0 v1) s = .next t ∧ InReset s t 5) ∧
    ((n < 2 * a ∧ n < 2 * b ∨ n = 0) → ∃ t, exec (.tmSectionFault v0 v1) s = .next t ∧
      (t.tm.sect = 1 ∧ t.time = v0 / 4 * 4 ∨ t.tm.sect = 2 ∧ t.time = v1 / 4 * 4) ∧
      t = { s with time := t.time, tm := { s.tm with sect := t.tm.sect }, freeCtr := s.freeCtr + 1 }) := by
  rw [tmSectionFault_eq hr hs hv h0 h1 hn ha hb]
  have hle : a ≤ n ∧ b ≤ n := by rw [hn, ha, hb]; exact ⟨List.length_filter_le .., List.length_filter_le ..⟩
  refine ⟨fun h h' => by rw [if_pos ⟨h, h'⟩], fun h h' => by rw [if_neg (by omega), if_pos ⟨h, h'⟩], fun h h' hpos => ?_, fun h => ?_⟩
  · rw [if_neg (by omega), if_neg (by omega), if_pos ⟨h, hpos⟩]
    exact ⟨_, rfl, enterReset_inReset s (by decide)⟩
  · rw [if_neg (by omega), if_neg (by omega), if_neg (by omega)]
    split
    · exact ⟨_, rfl, .inl ⟨rfl, rfl⟩, rfl⟩
    · exact ⟨_, rfl, .inr ⟨rfl, rfl⟩, rfl⟩

/-! ### The management core (R33) -/

theorem updHart_at (s : State) (k : Chan) (g : HartSt → HartSt) : (updHart s k g).loop[k].hart = g s.loop[k].hart :=
  congrArg LoopSt.hart (vmod_same ..)

theorem updHart_job_zero (s : State) (k j : Chan) (g : HartSt → HartSt) (hg : ∀ h, h.job = 0 → (g h).job = 0)
    (hj : s.loop[j].hart.job = 0) : (updHart s k g).loop[j].hart.job = 0 := by
  by_cases h : j = k
  · subst h
    rw [updHart_at]
    exact hg _ hj
  · exact (congrArg (fun x : LoopSt => x.hart.job) (vmod_other _ _ h)).trans hj

/-- An update of a loop that keeps its transaction. -/
theorem updLoop_hart (s : State) (k j : Chan) (g : LoopSt → LoopSt) (hg : ∀ x, (g x).hart = x.hart) :
    (updLoop s k g).loop[j].hart = s.loop[j].hart := by
  by_cases h : j = k
  · subst h
    exact (congrArg LoopSt.hart (vmod_same ..)).trans (hg _)
  · exact congrArg LoopSt.hart (vmod_other _ _ h)

theorem owStep2_hart (s : State) (k j : Chan) : (owStep2 s k).loop[j].hart = s.loop[j].hart := by
  unfold owStep2
  extract_lets t
  refine (updLoop_hart (updOw s k _) k j (fun x => { x with churn := stepChurn x.churn t }) fun _ => rfl).trans ?_
  exact updLoop_hart s k j _ fun _ => rfl

theorem owGoOn_hart (s : State) (k j : Chan) : (owGoOn s k).loop[j].hart = s.loop[j].hart :=
  ite_same (π := fun t => t.loop[j].hart) (owStep2_hart s k j) rfl

theorem hartIdle_hart (s : State) (k j : Chan) : (hartIdle s k).loop[j].hart =
    (updHart s k fun h => { h with job := 0, att := 0, waiting := false, scan := none }).loop[j].hart := by
  refine (owGoOn_hart _ k j).trans ?_
  split <;> rfl

theorem hartIdle_job (s : State) (k : Chan) : (hartIdle s k).loop[k].hart.job = 0 := by
  rw [hartIdle_hart, updHart_at]

theorem hartIdle_job_zero (s : State) (k j : Chan) (hj : s.loop[j].hart.job = 0) : (hartIdle s k).loop[j].hart.job = 0 := by
  rw [hartIdle_hart]
  exact updHart_job_zero _ _ _ _ (fun _ _ => rfl) hj

theorem hartAbort_job (s : State) (k : Chan) : (hartAbort s k).loop[k].hart.job = 0 := by
  unfold hartAbort
  split
  · assumption
  · split
    · exact hartIdle_job ..
    · exact hartIdle_job ..

theorem hartAbort_job_zero (s : State) (k j : Chan) (hj : s.loop[j].hart.job = 0) : (hartAbort s k).loop[j].hart.job = 0 := by
  unfold hartAbort
  split
  · exact hj
  · split
    · exact hartIdle_job_zero _ _ _ (updHart_job_zero _ _ _ _ (fun _ h => h) hj)
    · exact hartIdle_job_zero _ _ _ hj

theorem hartAbort_all_zero (l : List Chan) (s : State) (j : Chan) (h : s.loop[j].hart.job = 0 ∨ j ∈ l) :
    (l.foldl hartAbort s).loop[j].hart.job = 0 := by
  induction l generalizing s with
  | nil => exact h.resolve_right (List.not_mem_nil)
  | cons k l ih =>
    refine ih _ ?_
    rcases h with h | h
    · exact .inl (hartAbort_job_zero _ _ _ h)
    · rcases List.mem_cons.mp h with h | h
      · subst h
        exact .inl (hartAbort_job ..)
      · exact .inr h

theorem mem_chans16 (k : Chan) : k ∈ chans16 := by
  revert k
  decide

theorem mcoreWatchdogReset_runs (hr : s.boot.inReset = false) : ∃ t, exec .mcoreWatchdogReset s = .next t ∧ t.coreDown = true ∧
    (∀ k : Chan, t.loop[k].hart.job = 0) ∧ t.regs = s.regs ∧ t.lane = s.lane ∧ t.field = s.field ∧ t.md = s.md ∧ t.store = s.store ∧ t.own = s.own := by
  have hx : exec .mcoreWatchdogReset s = .next (chans16.foldl hartAbort { s with coreDown := true }) := by
    show execMcoreWatchdogReset s = _
    rw [execMcoreWatchdogReset, if_neg (by simp [hr])]
  have hsans : sansLoops (chans16.foldl hartAbort { s with coreDown := true }) = sansLoops { s with coreDown := true } :=
    foldl_same hartAbort_loops _ _
  have hjob : ∀ k : Chan, (chans16.foldl hartAbort { s with coreDown := true }).loop[k].hart.job = 0 := fun k =>
    hartAbort_all_zero _ _ _ (.inr (mem_chans16 k))
  generalize chans16.foldl hartAbort { s with coreDown := true } = t at hx hsans hjob
  refine ⟨t, hx, ?_, hjob, ?_⟩ <;> rw [sansLoops_frame hsans]
  exact ⟨rfl, rfl, rfl, rfl, rfl, rfl⟩

/-! ### The test access port (R52) -/

theorem wdSync_frame (s : State) : wdSync s = { s with wd := (wdSync s).wd } := by
  unfold wdSync
  dsimp only
  split
  · rfl
  · split <;> rfl

theorem tapInstruction_captures (h : s.md.mode = .boot ∨ s.md.mode = .quiet) {ins : TapIns} (hi : ins = .sample ∨ ins = .extest)
    (cells inputs : List (CtlPad × PadLevel)) : ∃ t, exec (.tapInstruction ins cells inputs) s = .next t ∧
      t.tap.ins = ins ∧ t.tap.cells = cells ∧ t.tap.seen.map Prod.fst = ctlPads ∧
      (∀ q ∈ ctlPads, ctlInput q = true → (q, (padIn inputs q).getD (ctlPull q)) ∈ t.tap.seen) ∧ t = { s with tap := t.tap, wd := t.wd } := by
  have hfree : (decide (s.md.mode = .boot) || decide (s.md.mode = .quiet)) = true := by simpa using h
  show ∃ t, execTapInstruction ins s cells inputs = .next t ∧ _
  unfold execTapInstruction
  simp only [hfree, Bool.true_or, if_true, if_pos hi]
  refine ⟨_, rfl, ?_⟩
  rw [wdSync_frame]
  refine ⟨rfl, rfl, ?_, fun q hq hin => ?_, rfl⟩
  · simp [padsSeen, Function.comp_def]
  · refine List.mem_map.mpr ⟨q, hq, ?_⟩
    rw [hin]
    rfl

theorem tapInstruction_takes (h : s.md.mode = .boot ∨ s.md.mode = .quiet) {ins : TapIns} (hi : ins = .bypass ∨ ins = .idcode)
    (cells inputs : List (CtlPad × PadLevel)) : ∃ t, exec (.tapInstruction ins cells inputs) s = .next t ∧
      t = { s with tap := { s.tap with ins := ins }, wd := t.wd } := by
  have hfree : (decide (s.md.mode = .boot) || decide (s.md.mode = .quiet)) = true := by simpa using h
  have hno : ¬(ins = .sample ∨ ins = .extest) := by rcases hi with h | h <;> subst h <;> decide
  show ∃ t, execTapInstruction ins s cells inputs = .next t ∧ _
  unfold execTapInstruction
  simp only [hfree, Bool.true_or, if_true, if_neg hno]
  exact ⟨_, rfl, wdSync_frame _⟩

theorem tapInstruction_refuses (hb : s.md.mode ≠ .boot) (hq : s.md.mode ≠ .quiet) (ins : TapIns)
    (cells inputs : List (CtlPad × PadLevel)) : ∃ t, exec (.tapInstruction ins cells inputs) s = .next t ∧
      t = { s with tap := { s.tap with ins := if ins = .idcode then .idcode else .bypass }, wd := t.wd } := by
  have hins : (if (decide (s.md.mode = .boot) || decide (s.md.mode = .quiet) || decide (ins = .idcode)) = true then ins else .bypass) =
      if ins = .idcode then TapIns.idcode else .bypass := by
    by_cases h : ins = .idcode <;> simp [hb, hq, h]
  have hno : ¬((if ins = .idcode then TapIns.idcode else .bypass) = .sample ∨ (if ins = .idcode then TapIns.idcode else .bypass) = .extest) := by
    split <;> decide
  show ∃ t, execTapInstruction ins s cells inputs = .next t ∧ _
  unfold execTapInstruction
  dsimp only
  rw [hins, if_neg hno]
  exact ⟨_, rfl, wdSync_frame _⟩

/-! ### The rails (R50, R56) -/

theorem rail_bit (rail j : Fin 5) : (BitVec.ofNat 5 (2 ^ rail.val)).getLsbD j.val = decide (j = rail) := by
  revert rail j
  decide

theorem vddio_without (v : BitVec 5) (rail j : Fin 5) : (v &&& ~~~(BitVec.ofNat 5 (2 ^ rail.val))).getLsbD j.val =
    (v.getLsbD j.val && decide (j ≠ rail)) := by
  rw [BitVec.getLsbD_and, BitVec.getLsbD_not, rail_bit]
  simp

theorem vddio_with (v : BitVec 5) (rail j : Fin 5) : (v ||| BitVec.ofNat 5 (2 ^ rail.val)).getLsbD j.val = (v.getLsbD j.val || decide (j = rail)) := by
  rw [BitVec.getLsbD_or, rail_bit]

theorem railPort_eq_some {rail : Fin 5} {q : Port} (h : railPort rail = some q) : rail.val = q.val + 1 := by
  unfold railPort at h
  split at h
  · obtain rfl := Option.some.inj h
    show rail.val = rail.val - 1 + 1
    omega
  · simp at h

theorem railPort_eq_none {rail : Fin 5} (h : railPort rail = none) : ¬(1 ≤ rail.val ∧ rail.val ≤ 3) := by
  unfold railPort at h
  split at h
  · simp at h
  · assumption

theorem mpServe_frame (s : State) (sel : Nat) : mpServe s sel = { s with mp := (mpServe s sel).mp } := by
  unfold mpServe
  split
  · rfl
  · split <;> rfl

theorem vddioAbsent_port (rail : Fin 5) (p : Port) (h : rail ≠ 0) : ∃ t, exec (.vddioAbsent rail false) s = .next t ∧ t.vddio.getLsbD rail.val = false ∧
    (∀ j : Fin 5, j ≠ rail → t.vddio.getLsbD j.val = s.vddio.getLsbD j.val) ∧
    (rail.val = p.val + 1 → t.port[p] = { s.port[p] with hold := none, selected := false }) ∧
    (rail.val ≠ p.val + 1 → t.port[p] = s.port[p]) ∧ t = { s with vddio := t.vddio, port := t.port } := by
  have hoff : (s.vddio &&& ~~~(BitVec.ofNat 5 (2 ^ rail.val))).getLsbD rail.val = false := by rw [vddio_without]; simp
  have hkeep : ∀ j : Fin 5, j ≠ rail → (s.vddio &&& ~~~(BitVec.ofNat 5 (2 ^ rail.val))).getLsbD j.val = s.vddio.getLsbD j.val := fun j hj => by
    rw [vddio_without]; simp [hj]
  show ∃ t, execVddioAbsent rail false s = .next t ∧ _
  unfold execVddioAbsent
  dsimp only
  rw [if_neg (by simp [h])]
  split
  · next q hq =>
    have hrail := railPort_eq_some hq
    refine ⟨_, rfl, hoff, hkeep, fun he => ?_, fun hne => ?_, rfl⟩
    · obtain rfl : q = p := Fin.ext (by omega)
      exact vmod_same ..
    · exact vmod_other _ _ fun he => hne (he ▸ hrail)
  · next hq =>
    have := railPort_eq_none hq
    exact ⟨_, rfl, hoff, hkeep, fun he => absurd ⟨by omega, by omega⟩ this, fun _ => rfl, rfl⟩

theorem vddioAbsent_returns (s : State) (rail : Fin 5) : ∃ t, exec (.vddioAbsent rail true) s = .next t ∧ t.vddio.getLsbD rail.val = true ∧
    (∀ j : Fin 5, j ≠ rail → t.vddio.getLsbD j.val = s.vddio.getLsbD j.val) ∧ (1 ≤ rail.val → rail.val ≤ 3 → t.mp = s.mp) ∧
    t = { s with vddio := t.vddio, mp := t.mp } := by
  have hon : (s.vddio ||| BitVec.ofNat 5 (2 ^ rail.val)).getLsbD rail.val = true := by rw [vddio_with]; simp
  have hkeep : ∀ j : Fin 5, j ≠ rail → (s.vddio ||| BitVec.ofNat 5 (2 ^ rail.val)).getLsbD j.val = s.vddio.getLsbD j.val := fun j hj => by
    rw [vddio_with]; simp [hj]
  show ∃ t, execVddioAbsent rail true s = .next t ∧ _
  unfold execVddioAbsent
  dsimp only
  rw [if_neg (by simp)]
  split
  · exact ⟨_, rfl, hon, hkeep, fun _ _ => rfl, rfl⟩
  · next hq =>
    refine ⟨_, rfl, ?_⟩
    simp only [if_true]
    rw [mpServe_frame, mpServe_frame _ 0]
    exact ⟨hon, hkeep, fun h h' => absurd ⟨h, h'⟩ (railPort_eq_none hq), rfl⟩

/-- Settles O21: event by event; a reset by a section or a rail is the one of `enterReset`. -/
theorem powerAndMonitorEvents : Obligations.PowerAndMonitorEvents := fun s d u ins cells inputs rail p v0 v1 n a b =>
  ⟨transformerFail_runs u, railRegulationRestored_runs s d, fun hr hs hv h0 h1 hn ha hb => tmSectionFault_runs hr hs hv h0 h1 hn ha hb,
    mcoreWatchdogReset_runs, rfl, fun h hi => tapInstruction_captures h hi cells inputs, fun h hi => tapInstruction_takes h hi cells inputs,
    fun hb hq => tapInstruction_refuses hb hq ins cells inputs,
    ⟨_, rfl, enterReset_inReset { s with vddio := s.vddio &&& 0x1E#5 } (by decide)⟩, fun h => vddioAbsent_port rail p h, vddioAbsent_returns s rail⟩
end
end Sys2Proof.Machine

namespace Sys2Proof.Machine

/-! ## An accepted write of the owner to a register of page 0 (R342 to R344, R390) -/

section
variable {s t : State} {p : Port} {off : Nat} {w : Word}

/-- The frame that writes one word passes row 1 of Table 12.6, so its code is that of the later rows. -/
theorem frameCode_writeOf (s : State) (p : Port) (page off : Nat) (w : Word) : frameCode s p (writeOf page off [w]) =
    if earlyCode s p (writeOf page off [w]) ≠ 0 then earlyCode s p (writeOf page off [w]) else writeCode s p (writeOf page off [w]) := rfl

theorem writes_writeOf (page off : Nat) (w : Word) : writes (writeOf page off [w]) = [(off, w)] := rfl

/-- Every register that an accepted frame writes may be written by its port (R386). -/
theorem mayWrite_of_accepted {page : Nat} (h : Accepted s p (writeOf page off [w])) : mayWrite s p page off = true := by
  have hcode := h.2
  rw [frameCode_writeOf] at hcode
  split at hcode
  · contradiction
  · unfold writeCode at hcode
    rw [writes_writeOf] at hcode
    dsimp only at hcode
    split at hcode
    · exact absurd hcode (by decide)
    · split at hcode
      · exact absurd hcode (by decide)
      · split at hcode
        · exact absurd hcode (by decide)
        · split at hcode
          · exact absurd hcode (by decide)
          · next hown => simpa [writeOf, checkedFrame] using hown

/-- Page 0 but for the ports' own interrupt registers is the owner's. -/
theorem owner_of_accepted (h : Accepted s p (writeOf 0 off [w])) (hoff : off < 0x30) : isOwner s p = true := by
  have hm := mayWrite_of_accepted h
  unfold mayWrite at hm
  have h1 : off ≠ 0x30 + p.val := by omega
  have h2 : off ≠ 0x32 + p.val := by omega
  simpa [isOwner, h1, h2] using hm

theorem frameEnd_owner {u : State} (hown : isOwner u p = true) (f : Frame) (so sent : List Word) : ∃ x : PortSt,
    frameEnd u p f 0 false so sent = { u with port := u.port.set p x, own := { u.own with timerAt := u.mono } } ∧
    x.last = 0 ∧ x.seq = nextSeq u.port[p].seq ∧ x.okCnt = (u.port[p].okCnt + 1) % 65536 ∧ x.rejCnt = u.port[p].rejCnt ∧
    x.tmoCnt = u.port[p].tmoCnt := by
  have hown' : ∀ g, isOwner (updPort u p g) p = true := fun _ => hown
  unfold frameEnd ownerRestart
  dsimp only
  rw [if_pos ⟨hown' _, by decide, by decide⟩]
  exact ⟨_, rfl, rfl, rfl, rfl, rfl, rfl⟩

/-- What an accepted write of a register of page 0 does: the register's effect, the port's record and the owner timer. -/
theorem hostWrite_sys (h : Accepted s p (writeOf 0 off [w])) (hoff : off < 0x30) (hreset : off ≠ 0x11) {u : State}
    (hu : writeSys (sendEcho s p) p off w = u) (hport : u.port = (sendEcho s p).port) (hown : u.own = s.own) (hmono : u.mono = s.mono) :
    ∃ port, hostWrite s p 0 off [w] = { u with port := port, own := { s.own with timerAt := s.mono } } ∧
      ∀ t : State, t.port = port → Answered s t p := by
  have hser : hostWrite s p 0 off [w] = frameEnd u p (writeOf 0 off [w]) 0 false [0, 0] (writeOf 0 off [w]).words := by
    unfold hostWrite hostFrame
    rw [show portInert s p = false from h.1, if_neg (by simp), show frameCode s p (checkedFrame 1 0 off [w]) = 0 from h.2, ← hu]
    show resetLast _ 0 [(off, w)] = _
    rw [resetLast, if_pos rfl, List.find?_cons_of_neg (by simpa using hreset)]
    rfl
  have howner : isOwner u p = true := (congrArg (fun o : OwnSt => decide (o.owner = some p)) hown).trans (owner_of_accepted h hoff)
  obtain ⟨x, hx, hlast, hseq, hok, hrej, htmo⟩ := frameEnd_owner howner (writeOf 0 off [w]) [0, 0] (writeOf 0 off [w]).words
  have hp : u.port[p] = { s.port[p] with echo := portEcho s p } := (congrArg (fun v : Vector PortSt 3 => v[p]) hport).trans (vmod_same ..)
  rw [hp] at hseq hok hrej htmo
  refine ⟨_, hser.trans (by rw [hx, hown, hmono]), fun t ht => ?_⟩
  have htp : t.port[p] = x := by rw [ht]; exact Vector.getElem_set_self ..
  refine ⟨?_, ?_, ?_, ?_, ?_, fun q hq => ?_⟩
  · rw [htp, hlast]
  · rw [htp, hseq]
  · rw [htp, hok]
  · rw [htp, hrej]
  · rw [htp, htmo]
  · have hset : t.port[q] = u.port[q] := by
      rw [ht]
      exact Vector.getElem_set_ne _ _ fun hv => hq (Fin.ext hv.symm)
    exact hset.trans ((congrArg (fun v : Vector PortSt 3 => v[q]) hport).trans (vmod_other _ _ hq))

/-! ## PWRCTL (R22, R106, R107) -/

theorem place_bit (lo v i : Nat) : (place lo v).getLsbD i = (decide (i < 32) && (decide (lo ≤ i) && v.testBit (i - lo))) := by
  rw [place, BitVec.getLsbD_ofNat, Nat.testBit_shiftLeft]

/-- A field read into a register holds the word's bits. -/
theorem fieldOf_bits (w : Word) (lo n : Nat) : BitVec.ofNat n (fieldOf w lo n) = w.extractLsb' lo n := by
  refine BitVec.eq_of_toNat_eq ?_
  simp [fieldOf]

theorem pwrctlWord_bit (s : State) (i : Nat) (h : i < 32) : (pwrctlWord s).getLsbD i =
    (s.pwr.bpwr.getLsbD i || (decide (5 ≤ i) && s.pwr.lclk.getLsbD (i - 5)) || (decide (16 ≤ i) && s.pwr.loopmod.getLsbD (i - 16))) := by
  rw [pwrctlWord, BitVec.getLsbD_or, BitVec.getLsbD_or, place_bit, place_bit, place_bit]
  simp [h, BitVec.testBit_toNat]

/-- The word shows barrier power in [4:0]. -/
theorem pwrctlWord_power (s : State) (e : Die) : bitOf (pwrctlWord s) e.val = powered s e := by
  rw [bitOf, pwrctlWord_bit s e.val (by omega)]
  simp [powered, show ¬ 5 ≤ e.val by omega, show ¬ 16 ≤ e.val by omega]

theorem pwrctlWord_lclk (s : State) : (pwrctlWord s).extractLsb' 5 3 = s.pwr.lclk := by
  refine BitVec.eq_of_getLsbD_eq fun i hi => ?_
  rw [BitVec.getLsbD_extractLsb', pwrctlWord_bit s _ (by omega)]
  simp [hi, show ¬ 16 ≤ 5 + i by omega]

theorem pwrctlWord_loopmod (s : State) : (pwrctlWord s).extractLsb' 16 16 = s.pwr.loopmod := by
  refine BitVec.eq_of_getLsbD_eq fun i hi => ?_
  rw [BitVec.getLsbD_extractLsb', pwrctlWord_bit s _ (by omega)]
  simp [hi, s.pwr.lclk.getLsbD_of_ge (16 + i - 5) (by omega), s.pwr.bpwr.getLsbD_of_ge (16 + i) (by omega)]

/-- A die whose bit stands as it is held keeps its power; so do all of them. -/
theorem bpwrBits_none (l : List Die) (h : ∀ e ∈ l, bitOf w e.val = powered s e) : l.foldl (bpwrBit w) s = s := by
  induction l with
  | nil => rfl
  | cons e l ih =>
    have he : bpwrBit w s e = s := if_pos (h e List.mem_cons_self)
    rw [List.foldl_cons, he]
    exact ih fun q hq => h q (List.mem_cons_of_mem _ hq)

/-- One die's bit differs, and its power alone is switched. -/
theorem bpwrBits_one (d : Die) (l : List Die) (hl : l.Nodup) (hd : d ∈ l) (hact : bpwrBit w s d = t)
    (hs : ∀ e, e ≠ d → bitOf w e.val = powered s e) (ht : ∀ e, e ≠ d → bitOf w e.val = powered t e) : l.foldl (bpwrBit w) s = t := by
  induction l with
  | nil => exact absurd hd List.not_mem_nil
  | cons e l ih =>
    obtain ⟨hnot, hl'⟩ := List.nodup_cons.mp hl
    rw [List.foldl_cons]
    by_cases he : e = d
    · subst he
      rw [hact]
      exact bpwrBits_none l fun q hq => ht q fun hqe => hnot (hqe ▸ hq)
    · have hkeep : bpwrBit w s e = s := if_pos (hs e he)
      rw [hkeep]
      exact ih hl' ((List.mem_cons.mp hd).resolve_left fun h => he h.symm)

theorem mem_dies5 (d : Die) : d ∈ dies5 := by
  revert d
  decide

theorem pwrctlWrite_eq (hq : s.md.mode ≠ .quiet) (hfold : dies5.foldl (bpwrBit w) s = t) (hmd : t.md = s.md) :
    pwrctlWrite s w = { t with pwr := { t.pwr with lclk := w.extractLsb' 5 3, loopmod := w.extractLsb' 16 16 } } := by
  unfold pwrctlWrite loopPowerQuiet
  rw [hfold, fieldOf_bits, fieldOf_bits]
  exact if_neg (hmd ▸ hq)

/-! ### A field die switched -/

/-- In `t` field die `f` is in its reset state, loading or not; nothing else of the dies, the lanes and the power has changed. -/
structure Cleared (s t : State) (f : FDie) (loading : Bool) : Prop where
  loads : t.die[toDie f].loading = loading
  notReady : t.die[toDie f].ready = false
  off : ∀ k : Chan, t.field[f].ch[k].st = .off
  dies : ∀ e : Die, e ≠ toDie f → t.die[e] = s.die[e]
  fields : ∀ e : FDie, e ≠ f → t.field[e] = s.field[e]
  lanes : SameLanes s t
  power : t.pwr = s.pwr
  far : sansFar t = sansFar s

theorem dieClear_field (s : State) (f : FDie) (b : Bool) : dieClear s (toDie f) b = updField (eventsMet { s with
    die := s.die.set (toDie f) { dieReset with loading := b, pt := s.die[toDie f].pt, linkErr := s.die[toDie f].linkErr }
    survey := s.survey.set (toDie f) surveyReset } (toDie f)) f (fieldClear s.mono) := by
  unfold dieClear
  simp only [asField_toDie]

theorem dieClear_cleared (s : State) (f : FDie) (b : Bool) : Cleared s (dieClear s (toDie f) b) f b := by
  have hfar := dieClear_far s (toDie f) b
  rw [dieClear_field] at hfar ⊢
  have hdie : (s.die.set (toDie f) { dieReset with loading := b, pt := s.die[toDie f].pt, linkErr := s.die[toDie f].linkErr })[toDie f] =
    { dieReset with loading := b, pt := s.die[toDie f].pt, linkErr := s.die[toDie f].linkErr } := Vector.getElem_set_self ..
  refine ⟨congrArg DieSt.loading hdie, congrArg DieSt.ready hdie, fun k => ?_, fun e he => ?_, fun e he => updField_other _ _ he, fun l => ?_, rfl, hfar⟩
  · rw [updField_at]
    simp [fieldClear, chanClear, chanReset]
  · exact Vector.getElem_set_ne (toDie f).isLt e.isLt fun hv => he (Fin.ext hv.symm)
  · simp [updField, eventsMet]

theorem SameLanes.of_lane {u : State} (h : SameLanes u t) (hu : u.lane = s.lane) : SameLanes s t := by
  unfold SameLanes at h ⊢
  rw [hu] at h
  exact h

theorem diePowerOn_cleared (s : State) (f : FDie) :
    Cleared { s with pwr := { s.pwr with bpwr := s.pwr.bpwr ||| bit5 (toDie f) } } (diePowerOn s (toDie f)) f true :=
  dieClear_cleared ..

theorem diePowerOff_cleared (s : State) (f : FDie) :
    Cleared { s with pwr := { s.pwr with bpwr := s.pwr.bpwr &&& ~~~(bit5 (toDie f)) } } (diePowerOff s (toDie f)) f false := by
  have habort := abortOnDie_sans s (toDie f)
  unfold diePowerOff
  generalize abortOnDie s (toDie f) = u at habort
  obtain ⟨hload, hready, hoff, hdies, hfields, hlanes, hpower, hfar⟩ := dieClear_cleared
    { u with pwr := { u.pwr with bpwr := u.pwr.bpwr &&& ~~~(bit5 (toDie f)) } } f false
  have hu := sansDie_frame habort
  have hfield : ∀ e : FDie, e ≠ f → u.field[e] = s.field[e] := fun e he =>
    sansDie_field habort fun h => he (Fin.ext (congrArg Fin.val h :))
  have hlane : u.lane = s.lane := by rw [hu]
  have hdie : u.die = s.die := by rw [hu]
  have hpwr : u.pwr = s.pwr := by rw [hu]
  refine ⟨hload, hready, hoff, fun e he => (hdies e he).trans ?_, fun e he => (hfields e he).trans (hfield e he), hlanes.of_lane hlane,
    hpower.trans ?_, hfar.trans (sansFar_of_die habort :)⟩
  · exact congrArg (fun v : Vector DieSt 5 => v[e]) hdie
  · rw [hpwr]

/-- PWRCTL's write that differs in the power bit of one field die. -/
theorem pwrctlWrite_switches (hq : s.md.mode ≠ .quiet) {f : FDie} {b : Bool} {pw : BitVec 5} (hact : bpwrBit w s (toDie f) = t)
    (ht : Cleared { s with pwr := { s.pwr with bpwr := pw } } t f b) (hs : ∀ e : Die, e ≠ toDie f → bitOf w e.val = powered s e)
    (hpw : ∀ e : Die, e ≠ toDie f → pw.getLsbD e.val = s.pwr.bpwr.getLsbD e.val) :
    pwrctlWrite s w = { t with pwr := { t.pwr with lclk := w.extractLsb' 5 3, loopmod := w.extractLsb' 16 16 } } := by
  refine pwrctlWrite_eq hq (bpwrBits_one (toDie f) dies5 (by decide) (mem_dies5 _) hact hs fun e he => (hs e he).trans ?_)
    (congrArg State.md ht.far :)
  exact (hpw e he).symm.trans (congrArg (fun x : PwrSt => x.bpwr.getLsbD e.val) ht.power).symm

/-- The frame that switches one field die. -/
theorem hostWrite_switches (h : Accepted s p (writeOf 0 0x23 [w])) (hq : s.md.mode ≠ .quiet) {f : FDie} {b : Bool} {pw : BitVec 5} {u : State}
    (hact : bpwrBit w (sendEcho s p) (toDie f) = u) (hu : Cleared { sendEcho s p with pwr := { s.pwr with bpwr := pw } } u f b)
    (hs : ∀ e : Die, e ≠ toDie f → bitOf w e.val = powered s e)
    (hpw : ∀ e : Die, e ≠ toDie f → pw.getLsbD e.val = s.pwr.bpwr.getLsbD e.val) :
    ∃ t, hostWrite s p 0 0x23 [w] = t ∧ Answered s t p ∧ t.pwr.bpwr = pw ∧ t.die[toDie f].loading = b ∧ t.die[toDie f].ready = false ∧
      (∀ k : Chan, t.field[f].ch[k].st = .off) ∧ (∀ e : Die, e ≠ toDie f → t.die[e] = s.die[e]) ∧
      (∀ e : FDie, e ≠ f → t.field[e] = s.field[e]) ∧ SameLanes s t := by
  obtain ⟨port, hx, hans⟩ := hostWrite_sys h (by decide) (by decide) (pwrctlWrite_switches (s := sendEcho s p) hq hact hu hs hpw)
    (congrArg State.port hu.far :) (congrArg State.own hu.far :) (congrArg State.mono hu.far :)
  exact ⟨_, hx, hans _ rfl, congrArg PwrSt.bpwr hu.power, hu.loads, hu.notReady, hu.off, hu.dies, hu.fields, hu.lanes⟩

theorem bit5_bit (d e : Die) : (bit5 d).getLsbD e.val = decide (e = d) := by
  revert d e
  decide

theorem place_die_bit (d e : Die) : (place d.val 1).getLsbD e.val = decide (e = d) := by
  revert d e
  decide

theorem bpwrOn_runs {f : FDie} (hq : s.md.mode ≠ .quiet) (h : Accepted s p (writeOf 0 0x23 [pwrctlWord s ||| place f.val 1]))
    (hoff : powered s (toDie f) = false) : ∃ t, hostWrite s p 0 0x23 [pwrctlWord s ||| place f.val 1] = t ∧ Answered s t p ∧
      t.pwr.bpwr = s.pwr.bpwr ||| bit5 (toDie f) ∧ t.die[toDie f].loading = true ∧ t.die[toDie f].ready = false ∧
      (∀ k : Chan, t.field[f].ch[k].st = .off) ∧ (∀ e : Die, e ≠ toDie f → t.die[e] = s.die[e]) ∧
      (∀ e : FDie, e ≠ f → t.field[e] = s.field[e]) ∧ SameLanes s t := by
  have hbit : ∀ e : Die, bitOf (pwrctlWord s ||| place f.val 1) e.val = (powered s e || decide (e = toDie f)) := fun e => by
    rw [bitOf, BitVec.getLsbD_or, ← pwrctlWord_power, bitOf, ← place_die_bit]
    rfl
  refine hostWrite_switches h hq ?_ (diePowerOn_cleared (sendEcho s p) f) (fun e he => by rw [hbit]; simp [he]) fun e he => by
    rw [BitVec.getLsbD_or, bit5_bit]; simp [he]
  have hd : bitOf (pwrctlWord s ||| place f.val 1) (toDie f).val = true := by rw [hbit]; simp
  have hp : powered (sendEcho s p) (toDie f) = false := hoff
  rw [bpwrBit, hd, hp, if_neg (by decide), if_pos rfl]

theorem bpwrOff_runs {f : FDie} (hq : s.md.mode ≠ .quiet) (h : Accepted s p (writeOf 0 0x23 [pwrctlWord s &&& ~~~(place f.val 1)]))
    (hon : powered s (toDie f) = true) : ∃ t, hostWrite s p 0 0x23 [pwrctlWord s &&& ~~~(place f.val 1)] = t ∧ Answered s t p ∧
      t.pwr.bpwr = s.pwr.bpwr &&& ~~~(bit5 (toDie f)) ∧ t.die[toDie f].loading = false ∧ t.die[toDie f].ready = false ∧
      (∀ k : Chan, t.field[f].ch[k].st = .off) ∧ (∀ e : Die, e ≠ toDie f → t.die[e] = s.die[e]) ∧
      (∀ e : FDie, e ≠ f → t.field[e] = s.field[e]) ∧ SameLanes s t := by
  have hbit : ∀ e : Die, bitOf (pwrctlWord s &&& ~~~(place f.val 1)) e.val = (powered s e && !decide (e = toDie f)) := fun e => by
    rw [bitOf, BitVec.getLsbD_and, BitVec.getLsbD_not, ← pwrctlWord_power, bitOf, ← place_die_bit, decide_eq_true (show e.val < 32 by omega)]
    rfl
  refine hostWrite_switches h hq ?_ (diePowerOff_cleared (sendEcho s p) f) (fun e he => by rw [hbit]; simp [he]) fun e he => by
    rw [BitVec.getLsbD_and, BitVec.getLsbD_not, bit5_bit]; simp [he]
  have hd : bitOf (pwrctlWord s &&& ~~~(place f.val 1)) (toDie f).val = false := by rw [hbit]; simp
  have hp : powered (sendEcho s p) (toDie f) = true := hon
  rw [bpwrBit, hd, hp, if_neg (by decide), if_neg (by decide)]

/-! ### Clocks, modulators and modems -/

/-- A frame that leaves the power bits writes the lane clocks and the modulators. -/
theorem hostWrite_pwrctl (hq : s.md.mode ≠ .quiet) (h : Accepted s p (writeOf 0 0x23 [w])) (hs : ∀ e : Die, bitOf w e.val = powered s e) :
    ∃ t, hostWrite s p 0 0x23 [w] = t ∧ Answered s t p ∧ t = { s with
      pwr := { s.pwr with lclk := w.extractLsb' 5 3, loopmod := w.extractLsb' 16 16 }, port := t.port, own := { s.own with timerAt := s.mono } } := by
  obtain ⟨port, hx, hans⟩ := hostWrite_sys h (by decide) (by decide)
    (pwrctlWrite_eq (s := sendEcho s p) (t := sendEcho s p) hq (bpwrBits_none dies5 fun e _ => hs e) rfl) rfl rfl rfl
  exact ⟨_, hx, hans _ rfl, rfl⟩

theorem lclkSet_runs (hq : s.md.mode ≠ .quiet) (lc : BitVec 3)
    (h : Accepted s p (writeOf 0 0x23 [(pwrctlWord s &&& ~~~0xE0#32) ||| place 5 lc.toNat])) :
    ∃ t, exec (.lclkSet p lc) s = .next t ∧ Answered s t p ∧
      t = { s with pwr := { s.pwr with lclk := lc }, port := t.port, own := { s.own with timerAt := s.mono } } := by
  have hlow : ∀ i < 5, (~~~0xE0#32).getLsbD i = true := by decide
  have hmid : ∀ i < 3, (~~~0xE0#32).getLsbD (5 + i) = false := by decide
  have hhigh : ∀ i < 16, (~~~0xE0#32).getLsbD (16 + i) = true := by decide
  obtain ⟨t, hx, hans, ht⟩ := hostWrite_pwrctl hq h fun e => by
    rw [bitOf, BitVec.getLsbD_or, BitVec.getLsbD_and, hlow _ e.isLt, place_bit, ← pwrctlWord_power, bitOf]
    simp [show ¬ 5 ≤ e.val by omega]
  refine ⟨t, congrArg Host.Outcome.next hx, hans, ?_⟩
  have hl : ((pwrctlWord s &&& ~~~0xE0#32) ||| place 5 lc.toNat).extractLsb' 5 3 = lc := by
    refine BitVec.eq_of_getLsbD_eq fun i hi => ?_
    rw [BitVec.getLsbD_extractLsb', BitVec.getLsbD_or, BitVec.getLsbD_and, hmid i hi, place_bit]
    simp [hi, show 5 + i < 32 by omega, BitVec.testBit_toNat]
  have hm : ((pwrctlWord s &&& ~~~0xE0#32) ||| place 5 lc.toNat).extractLsb' 16 16 = s.pwr.loopmod := by
    rw [← pwrctlWord_loopmod]
    refine BitVec.eq_of_getLsbD_eq fun i hi => ?_
    rw [BitVec.getLsbD_extractLsb', BitVec.getLsbD_extractLsb', BitVec.getLsbD_or, BitVec.getLsbD_and, hhigh i hi, place_bit,
      BitVec.testBit_toNat, lc.getLsbD_of_ge _ (by omega)]
    simp
  rw [hl, hm] at ht
  exact ht

theorem loopmodSet_runs (hq : s.md.mode ≠ .quiet) (m : BitVec 16)
    (h : Accepted s p (writeOf 0 0x23 [(pwrctlWord s &&& 0xFFFF#32) ||| place 16 m.toNat])) :
    ∃ t, exec (.loopmodSet p m) s = .next t ∧ Answered s t p ∧
      t = { s with pwr := { s.pwr with loopmod := m }, port := t.port, own := { s.own with timerAt := s.mono } } := by
  have hlow : ∀ i < 16, (0xFFFF#32).getLsbD i = true := by decide
  have hhigh : ∀ i < 16, (0xFFFF#32).getLsbD (16 + i) = false := by decide
  have hkeep : ∀ i < 16, ((pwrctlWord s &&& 0xFFFF#32) ||| place 16 m.toNat).getLsbD i = (pwrctlWord s).getLsbD i := fun i hi => by
    rw [BitVec.getLsbD_or, BitVec.getLsbD_and, hlow i hi, place_bit]
    simp [show ¬ 16 ≤ i by omega]
  obtain ⟨t, hx, hans, ht⟩ := hostWrite_pwrctl hq h fun e => by
    rw [bitOf, hkeep _ (by omega), ← pwrctlWord_power, bitOf]
  refine ⟨t, congrArg Host.Outcome.next hx, hans, ?_⟩
  have hl : ((pwrctlWord s &&& 0xFFFF#32) ||| place 16 m.toNat).extractLsb' 5 3 = s.pwr.lclk := by
    rw [← pwrctlWord_lclk]
    refine BitVec.eq_of_getLsbD_eq fun i hi => ?_
    rw [BitVec.getLsbD_extractLsb', BitVec.getLsbD_extractLsb', hkeep _ (by omega)]
  have hm : ((pwrctlWord s &&& 0xFFFF#32) ||| place 16 m.toNat).extractLsb' 16 16 = m := by
    refine BitVec.eq_of_getLsbD_eq fun i hi => ?_
    rw [BitVec.getLsbD_extractLsb', BitVec.getLsbD_or, BitVec.getLsbD_and, hhigh i hi, place_bit]
    simp [hi, show 16 + i < 32 by omega, BitVec.testBit_toNat]
  rw [hl, hm] at ht
  exact ht

theorem pwrhartSet_runs (hq : s.md.mode ≠ .quiet) (m : BitVec 16) (h : Accepted s p (writeOf 0 0x24 [place 0 m.toNat])) :
    ∃ t, exec (.pwrhartSet p m) s = .next t ∧ Answered s t p ∧
      t = { s with pwr := { s.pwr with modem := m }, port := t.port, own := { s.own with timerAt := s.mono } } := by
  have hm : BitVec.ofNat 16 (fieldOf (place 0 m.toNat) 0 16) = m := by
    rw [fieldOf_bits]
    refine BitVec.eq_of_getLsbD_eq fun i hi => ?_
    rw [BitVec.getLsbD_extractLsb', place_bit]
    simp [hi, show i < 32 by omega, BitVec.testBit_toNat]
  have hu : pwrhartWrite (sendEcho s p) (place 0 m.toNat) = { sendEcho s p with pwr := { s.pwr with modem := m } } := by
    unfold pwrhartWrite loopPowerQuiet
    rw [hm]
    exact if_neg hq
  obtain ⟨port, hx, hans⟩ := hostWrite_sys h (by decide) (by decide) hu rfl rfl rfl
  exact ⟨_, congrArg Host.Outcome.next hx, hans _ rfl, rfl⟩

/-- Settles O35: each is an accepted write of the owner, with its register's effect. -/
theorem powerCommands : Obligations.PowerCommands := by
  refine fun s p d viso lc m hq => ⟨fun h hoff => ?_, fun h hon => ?_, lclkSet_runs hq lc, loopmodSet_runs hq m, pwrhartSet_runs hq m⟩
  · obtain ⟨t, hx, hans, hbpwr, hload, hready, -, hdies, hfields, hlanes⟩ :=
      bpwrOn_runs (s := { s with pwr := { s.pwr with viso := viso } }) hq h hoff
    exact ⟨t, congrArg Host.Outcome.next hx, hans, hbpwr, hload, hready, hdies, hfields, hlanes⟩
  · obtain ⟨t, hx, hrest⟩ := bpwrOff_runs hq h hon
    exact ⟨t, congrArg Host.Outcome.next hx, hrest⟩
end
end Sys2Proof.Machine

namespace Sys2Proof.Machine

/-! ## What the rest of a commit leaves unchanged

`Clockwork` is the part of a state that a commit's head settles and its body reads: registers, mode, store and boot, and the cycle's own numbers. Every operation of the body leaves it as it is. -/

structure Clockwork where
  regs : RegMap
  md : ModeSt
  store : Memory
  boot : BootSt
  permits : BitVec 64
  n : Nat
  t0 : Nat
  nextT0 : Nat
  period : Nat
  running : Bool
  everRan : Bool
  closed : Bool
  staged : Nat
  acting : Bool

def clockwork (s : State) : Clockwork :=
  { regs := s.regs, md := s.md, store := s.store, boot := s.boot, permits := s.permits, n := s.cyc.n, t0 := s.cyc.t0
    nextT0 := s.cyc.nextT0, period := s.cyc.period, running := s.cyc.running, everRan := s.cyc.everRan, closed := s.cyc.closed
    staged := s.cyc.staged, acting := s.cyc.acting }

section
variable {s t : State} {d : Die} {f : FDie} {k : Chan} {l : Lane}

theorem clockwork_of_loops (h : sansLoops t = sansLoops s) : clockwork t = clockwork s := (congrArg clockwork h :)

theorem clockwork_of_field (h : sansField f t = sansField f s) : clockwork t = clockwork s := (congrArg clockwork h :)

/-! ### Time, ledger, arbiter and the updates in place -/

theorem timeTo_clock (s : State) (t : Nat) : clockwork (timeTo s t) = clockwork s := ite_same rfl rfl

theorem irq_clock (s : State) (b : Nat) : clockwork (irq s b) = clockwork s := rfl

theorem updLane_clock (s : State) (l : Lane) (g : LaneSt → LaneSt) : clockwork (updLane s l g) = clockwork s := rfl

theorem updDie_clock (s : State) (d : Die) (g : DieSt → DieSt) : clockwork (updDie s d g) = clockwork s := rfl

theorem updField_clock (s : State) (f : FDie) (g : FieldSt → FieldSt) : clockwork (updField s f g) = clockwork s := rfl

theorem updChan_clock (s : State) (f : FDie) (k : Chan) (g : ChanSt → ChanSt) : clockwork (updChan s f k g) = clockwork s := rfl

theorem svUpd_clock (s : State) (d : Die) (g : SurveySt → SurveySt) : clockwork (svUpd s d g) = clockwork s := rfl

theorem updLoop_clock (s : State) (k : Chan) (g : LoopSt → LoopSt) : clockwork (updLoop s k g) = clockwork s := rfl

theorem canUpd_clock (s : State) (c : Ctrl) (g : CanSt → CanSt) : clockwork (canUpd s c g) = clockwork s := rfl

theorem ledger_clock (s : State) (code unit inst arg : Nat) : clockwork (ledger s code unit inst arg) = clockwork s :=
  clockwork_of_loops (ledger_loops ..)

theorem dieLedger_clock (s : State) (d : Die) (code inst arg : Nat) : clockwork (dieLedger s d code inst arg) = clockwork s := by
  rw [dieLedger_frame]
  rfl

theorem mntEndOf_clock (s : State) (kind index e : Nat) : clockwork (mntEndOf s kind index e) = clockwork s :=
  clockwork_of_loops (mntEndOf_loops ..)

theorem mntStart_clock (s : State) (a : ActSt) : clockwork (mntStart s a) = clockwork s := by
  unfold mntStart
  split <;> rfl

theorem learnCause_clock (s : State) (l : Lane) (c : Nat) : clockwork (learnCause s l c) = clockwork s := ite_same rfl rfl

/-! ### Switches and slots -/

theorem turnOnNow_clock (s : State) (f : FDie) (k : Chan) : clockwork (turnOnNow s f k) = clockwork s := by
  unfold turnOnNow
  extract_lets load c wait s1 s2
  have h1 : clockwork s1 = clockwork s := ite_same rfl rfl
  clear_value s1
  exact h1

theorem serveQueue_clock (f : FDie) (q : List Nat) (s : State) : clockwork (serveQueue f q s) = clockwork s := by
  induction q generalizing s with
  | nil => rfl
  | cons j r ih =>
    unfold serveQueue
    split
    · exact (ih _).trans (turnOnNow_clock ..)
    · rfl

theorem serveSlots_clock (s : State) (f : FDie) : clockwork (serveSlots s f) = clockwork s := serveQueue_clock ..

theorem slotRequest_clock (f : FDie) (s : State) (k : Chan) : clockwork (slotRequest f s k) = clockwork s :=
  ite_same (turnOnNow_clock ..) rfl

theorem passChecks_clock (refill : Bool) (s : State) (f : FDie) (k : Chan) : clockwork (passChecks refill s f k) = clockwork s := by
  unfold passChecks
  extract_lets thermal tollCheck budget
  have hthermal : ∀ s, clockwork (thermal s) = clockwork s := fun s => ite_same rfl (ite_same rfl rfl)
  have htoll : ∀ s, clockwork (tollCheck s) = clockwork s := fun s => ite_same rfl (ite_same rfl (ite_same rfl (dieLedger_clock ..)))
  have hbudget : ∀ s, clockwork (budget s) = clockwork s := fun s => ite_same rfl (ite_same rfl (ite_same rfl rfl))
  exact (hbudget _).trans ((htoll _).trans (hthermal _))

theorem waitPass_clock (refill : Bool) (s : State) (f : FDie) : clockwork (waitPass refill s f) = clockwork s := by
  unfold waitPass
  extract_lets waiting s1 passed s2 s3 new s4
  have h1 : clockwork s1 = clockwork s := foldl_same (fun t k => passChecks_clock refill t f k) _ _
  have h2 : clockwork s2 = clockwork s1 := foldl_same (fun t k => turnOnNow_clock t f k) _ _
  have h3 : clockwork s3 = clockwork s2 := serveSlots_clock ..
  have h4 : clockwork s4 = clockwork s3 := foldl_same (slotRequest_clock f) _ _
  exact ite_same (h3.trans (h2.trans h1)) ((updField_clock ..).trans (h4.trans (h3.trans (h2.trans h1))))

theorem endConduction_clock (s : State) (f : FDie) (k : Chan) : clockwork (endConduction s f k) = clockwork s := serveSlots_clock ..

theorem openSwitch_clock (s : State) (f : FDie) (k : Chan) (i : Nat) (c : Bool) : clockwork (openSwitch s f k i c) = clockwork s :=
  endConduction_clock ..

theorem openFree_clock (s : State) (f : FDie) (k : Chan) : clockwork (openFree s f k) = clockwork s := openSwitch_clock (useFree s) ..

theorem withdraw_clock (s : State) (f : FDie) (k : Chan) : clockwork (withdraw s f k) = clockwork s := clockwork_of_field (withdraw_sans ..)

theorem settle_clock (s : State) (f : FDie) : clockwork (settle s f) = clockwork s := clockwork_of_field (settle_sans ..)

theorem dropBits_clock (s : State) (f : FDie) (k : Nat) : clockwork (dropBits s f k) = clockwork s := clockwork_of_field (dropBits_sans ..)

theorem setCauses_clock (s : State) (f : FDie) (k : Chan) (clear set : BitVec 8) : clockwork (setCauses s f k clear set) = clockwork s :=
  clockwork_of_field (setCauses_sans ..)

theorem rowTen_clock (s : State) (f : FDie) (k : Chan) : clockwork (rowTen s f k) = clockwork s := by
  unfold rowTen
  extract_lets s1 s2
  have h1 : clockwork s1 = clockwork s := ite_same (openFree_clock ..) rfl
  have h2 : clockwork s2 = clockwork s1 := withdraw_clock ..
  clear_value s2 s1
  exact h2.trans h1

theorem clrEdge_clock (s : State) (f : FDie) (k : Chan) : clockwork (clrEdge s f k) = clockwork s :=
  (updChan_clock ..).trans (foldl_same (fun t j => updChan_clock t f j _) _ _)

theorem endPermWait_clock (s : State) (f : FDie) (k : Chan) : clockwork (endPermWait s f k) = clockwork s := by
  unfold endPermWait
  split <;> rfl

theorem enterLimp_clock (f : FDie) (s : State) (k : Chan) : clockwork (enterLimp f s k) = clockwork s := by
  unfold enterLimp
  extract_lets s1 s2
  have h1 : clockwork s1 = clockwork s := ite_same rfl (ite_same (endConduction_clock ..) (openFree_clock ..))
  have h2 : clockwork s2 = clockwork s1 := (dropBits_clock ..).trans (withdraw_clock ..)
  clear_value s2 s1
  exact ite_same rfl (h2.trans h1)

theorem leaveLimp_clock (f : FDie) (s : State) (k : Chan) : clockwork (leaveLimp f s k) = clockwork s := ite_same rfl rfl

/-! ### The survey converters -/

theorem skipPairs_clock (d : Die) (n : Nat) (s : State) (i : SvItem) : clockwork (skipPairs d n s i).1 = clockwork s := by
  induction n generalizing s i with
  | zero => rfl
  | succ n ih =>
    unfold skipPairs
    split
    · split
      · extract_lets s1
        split
        · exact ih ..
        · rfl
      · rfl
    · rfl

theorem putOff_clock (s : State) (d : Die) : clockwork (putOff s d) = clockwork s := by
  unfold putOff
  extract_lets v
  split
  · refine ite_same rfl ?_
    split
    · exact (svUpd_clock ..).trans (skipPairs_clock ..)
    · exact (svUpd_clock ..).trans (skipPairs_clock ..)
  · rfl

theorem startRoutine_clock (s : State) (d : Die) : clockwork (startRoutine s d) = clockwork s := by
  unfold startRoutine
  extract_lets s0 v g s1
  have h1 : clockwork s1 = clockwork s := putOff_clock s d
  clear_value s1
  split
  · split
    · exact ite_same h1 h1
    · exact h1
  · exact h1

theorem startSurvey_clock (s : State) (d : Die) : clockwork (startSurvey s d) = clockwork s := startRoutine_clock ..

theorem closeSample_clock (f : FDie) (t : Nat) (s : State) (k : Chan) : clockwork (closeSample f t s k) = clockwork s := ite_same rfl rfl

/-! ### Loops -/

theorem churnSync_clock (s : State) (k : Chan) : clockwork (churnSync s k) = clockwork s := clockwork_of_loops (churnSync_loops ..)

theorem hartSync_clock (s : State) (k : Chan) : clockwork (hartSync s k) = clockwork s :=
  ite_same rfl (clockwork_of_loops (hartAbort_loops (updHart s k _) k))

theorem loopMode_clock (s : State) (k : Chan) : clockwork (loopMode s k) = clockwork s := hartSync_clock ..

theorem trimLoopFault_clock (s : State) (k : Chan) : clockwork (trimLoopFault s k) = clockwork s :=
  ite_same (clockwork_of_loops (trimFail_loops ..)) rfl

theorem ldDiscard_clock (s : State) : clockwork (ldDiscard s) = clockwork s := clockwork_of_loops (ldDiscard_loops s)

theorem loopPower_clock (s : State) : clockwork (loopPower s) = clockwork s := by
  unfold loopPower
  extract_lets pwr s1
  exact foldl_same (fun t k => (hartSync_clock (churnSync t k) k).trans (churnSync_clock t k)) chans16 s1

/-! ### Settings of a die -/

theorem takeMap_clock (new : RegMap) (f : FDie) (s : State) (k : Chan) : clockwork (takeMap new f s k) = clockwork s := by
  unfold takeMap
  extract_lets o m
  exact ite_same rfl (ite_same ((enterLimp_clock ..).trans ((updChan_clock ..).trans (leaveLimp_clock ..))) rfl)

theorem newMode_clock (s : State) (f : FDie) (k : Chan) : clockwork (newMode s f k) = clockwork s := by
  unfold newMode
  extract_lets s1
  have h1 : clockwork s1 = clockwork s := (updChan_clock ..).trans (rowTen_clock ..)
  clear_value s1
  exact ite_same ((setCauses_clock ..).trans h1) h1

theorem newSafe_clock (old new : RegMap) (f : FDie) (s : State) (k : Chan) : clockwork (newSafe old new f s k) = clockwork s :=
  ite_same rfl (ite_same rfl rfl)

theorem chanSettings_clock (old new : RegMap) (fresh applied : Bool) (f : FDie) (s : State) (k : Chan) :
    clockwork (chanSettings old new fresh applied f s k) = clockwork s := by
  unfold chanSettings
  extract_lets page b s0 s1 input enters cont s2
  have h0 : clockwork s0 = clockwork s := ite_same (newMode_clock ..) (newSafe_clock ..)
  clear_value s0
  have h2 : clockwork s2 = clockwork s := h0
  clear_value s2
  exact ite_same ((takeMap_clock ..).trans h2) h2

theorem fieldSettings_clock (s : State) (f : FDie) (old new : RegMap) (fresh applied : Bool) :
    clockwork (fieldSettings s f old new fresh applied) = clockwork s :=
  (updField_clock ..).trans ((foldl_same (chanSettings_clock old new fresh applied f) _ _).trans (updField_clock ..))

theorem loopSettings_clock (old new : RegMap) (s : State) (k : Chan) : clockwork (loopSettings old new s k) = clockwork s := by
  unfold loopSettings
  extract_lets b s1 s2 s3
  have h1 : clockwork s1 = clockwork s := loopMode_clock ..
  have h2 : clockwork s2 = clockwork s1 := ite_same rfl (trimLoopFault_clock ..)
  have h3 : clockwork s3 = clockwork s2 := ite_same rfl rfl
  exact (churnSync_clock ..).trans (h3.trans (h2.trans h1))

theorem takeSettings_clock (s : State) (d : Die) : clockwork (takeSettings s d) = clockwork s := by
  unfold takeSettings
  extract_lets x new applied s1 s2
  have h2 : clockwork s2 = clockwork s := by
    show clockwork (match asField d with | some f => _ | none => _) = _
    split
    · exact fieldSettings_clock s1 ..
    · exact foldl_same (loopSettings_clock x.settings new) chans16 s1
  clear_value s2
  exact ite_same rfl (ite_same ((startSurvey_clock ..).trans h2) h2)

/-! ### What a die does -/

theorem takeClr_clock (v : RecVote) (f : FDie) (s : State) (k : Chan) : clockwork (takeClr v f s k) = clockwork s := by
  unfold takeClr
  split
  · rfl
  · extract_lets s1
    have h1 : clockwork s1 = clockwork s := ite_same (clrEdge_clock ..) rfl
    clear_value s1
    exact h1

theorem noteNoMaj_clock (v : RecVote) (was : Bool) (f : FDie) (s : State) (k : Chan) : clockwork (noteNoMaj v was f s k) = clockwork s :=
  ite_same rfl (ite_same (dieLedger_clock ..) (dieLedger_clock ..))

theorem chanAct_clock (votes : Chan → RecVote) (f : FDie) (s : State) (k : Chan) : clockwork (chanAct votes f s k) = clockwork s := by
  unfold chanAct
  extract_lets v s1 was s2 s3 s4
  have h1 : clockwork s1 = clockwork s := (updChan_clock ..).trans (takeClr_clock ..)
  have h2 : clockwork s2 = clockwork s1 := (noteNoMaj_clock ..).trans (ite_same (dropBits_clock ..) rfl)
  have h3 : clockwork s3 = clockwork s2 := setCauses_clock ..
  have h4 : clockwork s4 = clockwork s3 := ite_same rfl (ite_same rfl (endPermWait_clock ..))
  exact ite_same h1 ((updChan_clock ..).trans (h4.trans (h3.trans (h2.trans h1))))

theorem chanRest_clock (kind : VoteKind) (votes : Chan → RecVote) (f : FDie) (s : State) (k : Chan) :
    clockwork (chanRest kind votes f s k) = clockwork s := by
  unfold chanRest
  extract_lets voted s1 lost s2 s3
  have h1 : clockwork s1 = clockwork s := ite_same rfl rfl
  have h3 : clockwork s3 = clockwork s2 := ite_same (noteNoMaj_clock ..) rfl
  have h2 : clockwork s2 = clockwork s1 := rfl
  exact ite_same h1 ((setCauses_clock ..).trans (h3.trans (h2.trans h1)))

theorem sampleHere_clock (group : List Entry) (now : Nat) (f : FDie) (s : State) (k : Chan) :
    clockwork (sampleHere group now f s k) = clockwork s := foldl_same (fun t _ => closeSample_clock f _ t k) _ _

theorem onMask_clock (f : FDie) (m : BitVec 16) (g : ChanSt → ChanSt) (s : State) : clockwork (onMask f m g s) = clockwork s :=
  foldl_same (fun t k => ite_same (updChan_clock t f k g) rfl) _ _

theorem pgSync_clock (f : FDie) (s : State) (e : Entry) : clockwork (pgSync f s e) = clockwork s := ite_same rfl rfl

theorem actGroup_clock (s : State) (f : FDie) (group : List Entry) : clockwork (actGroup s f group) = clockwork s := by
  unfold actGroup
  extract_lets now s1 cancels s2 rest lost s3 s4
  have h1 : clockwork s1 = clockwork s := foldl_same (sampleHere_clock group now f) _ _
  have h2 : clockwork s2 = clockwork s1 := (updField_clock ..).trans (foldl_same (fun t c => (onMask_clock f _ _ _).trans (updField_clock ..)) cancels s1)
  have h3 : clockwork s3 = clockwork s2 := updField_clock ..
  have h4 : clockwork s4 = clockwork s3 := foldl_same (pgSync_clock f) _ _
  refine (foldl_same (fun t k => ?_) _ _).trans (h4.trans (h3.trans (h2.trans h1)))
  split <;> rfl

theorem noteMan_clock (s : State) (d : Die) (bad full : Nat) : clockwork (noteMan s d bad full) = clockwork s := by
  unfold noteMan
  extract_lets s1
  have h1 : clockwork s1 = clockwork s := ite_same rfl (dieLedger_clock ..)
  clear_value s1
  exact ite_same h1 ((dieLedger_clock ..).trans h1)

theorem manAct_clock (s : State) (f : FDie) (es : List (List Byte)) : clockwork (manAct s f es) = clockwork s := by
  unfold manAct
  extract_lets t0 x group s1
  exact (actGroup_clock ..).trans (noteMan_clock s1 ..)

theorem fieldAct_clock (s : State) (f : FDie) : clockwork (fieldAct s f) = clockwork s := by
  unfold fieldAct
  extract_lets votes es s1 s2
  have h2 : clockwork s2 = clockwork s1 := foldl_same (chanAct_clock votes f) _ _
  clear_value s2
  exact (waitPass_clock ..).trans ((settle_clock ..).trans ((manAct_clock ..).trans h2))

theorem fieldRest_clock (s : State) (f : FDie) (kind : VoteKind) : clockwork (fieldRest s f kind) = clockwork s := by
  unfold fieldRest
  extract_lets votes s1
  exact (waitPass_clock ..).trans ((settle_clock ..).trans (foldl_same (chanRest_clock kind votes f) _ s1))

theorem ldAct_clock (s : State) : clockwork (ldAct s) = clockwork s := by
  unfold ldAct
  extract_lets l held x new ld s1
  have h1 : clockwork s1 = clockwork s := noteMan_clock ..
  clear_value s1
  exact (foldl_same (fun t e => foldl_same (fun u k => ite_same (updLoop_clock u k _) rfl) _ _) _ _).trans h1

theorem dieReports_clock (s : State) (shadow : Option Lane) (d : Die) : clockwork (dieReports s shadow d) = clockwork s := by
  unfold dieReports
  extract_lets s1
  split
  · exact ite_same rfl rfl
  · rfl

theorem dieCommit_clock (acts : Bool) (kind : VoteKind) (shadow : Option Lane) (s : State) (d : Die) :
    clockwork (dieCommit acts kind shadow s d) = clockwork s := by
  unfold dieCommit
  extract_lets s1 s2 s3
  have h1 : clockwork s1 = clockwork s := takeSettings_clock ..
  have h2 : clockwork s2 = clockwork s1 := ite_same (dieReports_clock ..) rfl
  have h3 : clockwork s3 = clockwork s2 := by
    show clockwork (match asField d with | some f => _ | none => _) = _
    split
    · extract_lets s4
      have h4 : clockwork s4 = clockwork s2 := ite_same (fieldAct_clock ..) (fieldRest_clock ..)
      clear_value s4
      exact ite_same h4 h4
    · exact ite_same (ldAct_clock ..) (ldDiscard_clock ..)
  exact ite_same rfl ((updDie_clock ..).trans (h3.trans (h2.trans h1)))

/-! ### CD and the hub -/

theorem cdVote_clock (s : State) (shadow : Option Lane) : clockwork (cdVote s shadow) = clockwork s := by
  unfold cdVote
  generalize page7Of s = out
  generalize cdNoMaj s = noMaj
  extract_lets min snap s1 s2
  have h1 : clockwork s1 = clockwork s := rfl
  have h2 : clockwork s2 = clockwork s1 := by
    show clockwork (match shadow with | some l => _ | none => _) = _
    split
    · exact ite_same (updLane_clock s1 _ _) rfl
    · rfl
  clear_value s2 s1
  exact (foldl_same (fun t l => ite_same (learnCause_clock t l 4) rfl) lanes3 s2).trans (h2.trans h1)

theorem fifoPut_clock (s : State) (c : Ctrl) (x : TxFrame) : clockwork (fifoPut s c x).1 = clockwork s := by
  unfold fifoPut
  extract_lets k
  split
  · rfl
  · split
    · rfl
    · split
      · rfl
      · split <;> rfl

theorem fifoPutAll_clock (s : State) (c : Ctrl) (l : List TxFrame) : clockwork (fifoPutAll s c l) = clockwork s := by
  unfold fifoPutAll
  extract_lets q
  have hq : clockwork q.1 = clockwork s :=
    foldl_same (π := fun x : State × Nat => clockwork x.1) (fun x e => fifoPut_clock x.1 c e) l (s, 0)
  exact ite_same hq ((ledger_clock ..).trans hq)

theorem hubPlace_clock (s : State) (l : List HubEntry) : clockwork (hubPlace s l) = clockwork s :=
  foldl_same (fun t c => fifoPutAll_clock t c _) _ _

theorem noteHub_clock (s : State) (bad full : Nat) : clockwork (noteHub s bad full) = clockwork s := by
  unfold noteHub
  extract_lets s1
  have h1 : clockwork s1 = clockwork s := ite_same rfl (ledger_clock ..)
  clear_value s1
  exact ite_same h1 ((ledger_clock ..).trans h1)

theorem hubAct_clock (s : State) : clockwork (hubAct s) = clockwork s := by
  unfold hubAct
  extract_lets x due s1 s2
  have h1 : clockwork s1 = clockwork s := noteHub_clock ..
  have h2 : clockwork s2 = clockwork s1 := foldl_same (fun t c => fifoPutAll_clock t c _) _ _
  exact (hubPlace_clock ..).trans (h2.trans h1)

theorem hubLimp_clock (s : State) : clockwork (hubLimp s) = clockwork s := by
  unfold hubLimp
  split
  · exact ite_same rfl (foldl_same (fun t c => (fifoPutAll_clock ..).trans (canUpd_clock ..)) _ _)
  · rfl

theorem dropHeld_clock (s : State) (c : Ctrl) : clockwork (dropHeld s c) = clockwork s := rfl

theorem canFlush_clock (s : State) (c : Ctrl) (bus : Bool) : clockwork (canFlush s c bus) = clockwork s := rfl

theorem flush_clock (l : List Ctrl) (s : State) : clockwork (l.foldl (fun s c => dropHeld (canFlush s c false) c) s) = clockwork s :=
  foldl_same (fun t c => (dropHeld_clock (canFlush t c false) c).trans (canFlush_clock t c false)) _ _

theorem hubCommit_clock (s : State) (was lanes : Bool) : clockwork (hubCommit s was lanes) = clockwork s := by
  unfold hubCommit
  extract_lets s1 s2
  have h2 : clockwork s2 = clockwork s := ite_same (flush_clock _ s1) rfl
  clear_value s2
  exact ite_same ((hubAct_clock ..).trans h2) (ite_same ((hubLimp_clock ..).trans h2) h2)

/-! ### Image, generation, lanes and journal -/

theorem makeImage_clock (s : State) (rb : BitVec 64) : clockwork (makeImage s rb) = clockwork s := rfl

theorem freezeTaken_clock (s : State) : clockwork (freezeTaken s) = clockwork s := by
  unfold freezeTaken
  extract_lets s1
  have h1 : clockwork s1 = clockwork s := by
    show clockwork (allChans.foldl _ s) = _
    generalize allChans = l
    exact foldl_same (π := clockwork) (fun t e => updChan_clock t e.1 e.2 _) l s
  clear_value s1
  exact foldl_same (π := clockwork) (fun t k => updLoop_clock t k _) chans16 s1 |>.trans h1

theorem publish_clock (s : State) : clockwork (publish s) = clockwork s := by
  unfold publish
  split <;> rfl

theorem adoptCopy_clock (donor l : Lane) (s : State) (d : Die) : clockwork (adoptCopy donor l s d) = clockwork s := rfl

theorem adoptStep_clock (s : State) : clockwork (adoptStep s) = clockwork s := by
  unfold adoptStep
  split
  · exact foldl_same (adoptCopy_clock _ _) _ _
  · rfl

theorem dieAfter_clock (s : State) (d : Die) : clockwork (dieAfter s d) = clockwork s := rfl

theorem laneNew_clock (s : State) (l : Lane) : clockwork (laneNew s l) = clockwork s :=
  ite_same (ite_same rfl rfl) rfl

theorem reintOut_clock (s : State) (l : Lane) : clockwork (reintOut s l) = clockwork s := mntEndOf_clock ..

theorem reintAttempts_clock (n : Nat) (s : State) (l : Lane) : clockwork (reintAttempts n s l) = clockwork s := by
  induction n generalizing s with
  | zero => exact reintOut_clock ..
  | succ n ih =>
    unfold reintAttempts
    exact ite_same rfl (ih _)

theorem reintFail_clock (s : State) (l : Lane) (code : Nat) : clockwork (reintFail s l code) = clockwork s := reintAttempts_clock ..

theorem autoReint_clock (s : State) (l : Lane) : clockwork (autoReint s l) = clockwork s :=
  ite_same ((reintAttempts_clock ..).trans (mntStart_clock ..)) rfl

theorem journalStep_clock (s : State) : clockwork (journalStep s) = clockwork s := ite_same rfl (ite_same rfl rfl)

theorem actCount_clock (s : State) : clockwork (actCount s) = clockwork s := by
  unfold actCount
  extract_lets n cyc s1 k
  have h1 : clockwork s1 = clockwork s := rfl
  clear_value s1
  exact ite_same h1 h1

/-- The body settles the permits and leaves the rest of the clockwork (R18, R101). -/
theorem commitBody_clock (s : State) (old : Mode) (was : Bool) (out : List Lane) (rb : BitVec 64) : ∃ permits,
    clockwork (commitBody s old was out rb) = { clockwork s with permits := permits } ∧ (s.cyc.acting = false → permits = 0) := by
  unfold commitBody
  extract_lets kind voted shadow s1 s2 s3 s4 s5 s6 s7
  have h1 : clockwork s1 = clockwork s := (freezeTaken_clock ..).trans ((makeImage_clock ..).trans (loopPower_clock s))
  have h2 : clockwork s2 = clockwork s1 := foldl_same (dieCommit_clock s.cyc.acting kind shadow) _ _
  have h3 : clockwork s3 = clockwork s := (ite_same (cdVote_clock ..) rfl : clockwork s3 = clockwork s2).trans (h2.trans h1)
  have h4 : clockwork s4 = clockwork (permitStep s3) := (publish_clock ..).trans (hubCommit_clock ..)
  have h5 : clockwork s5 = clockwork s4 := adoptStep_clock ..
  have h6 : clockwork s6 = clockwork s5 := (foldl_same laneNew_clock _ _).trans (foldl_same dieAfter_clock _ _)
  have h7 : clockwork s7 = clockwork (permitStep s3) :=
    (journalStep_clock ..).trans ((foldl_same autoReint_clock _ _).trans (h6.trans (h5.trans h4)))
  clear_value s7 s3
  have hpermit : clockwork (permitStep s3) = { clockwork s3 with permits := (permitStep s3).permits } := rfl
  refine ⟨(permitStep s3).permits, ?_, fun ha => ?_⟩
  · exact (ite_same (actCount_clock ..) rfl).trans (h7.trans (hpermit.trans (by rw [h3])))
  · have ha3 : s3.cyc.acting = false := (congrArg Clockwork.acting h3 :).trans ha
    exact if_neg (by simp [ha3])
end
end Sys2Proof.Machine

namespace Sys2Proof.Machine

/-! ## The head of a commit (R28, R85, R98 to R102, R111, R135, R191, R397) -/

/-- The clockwork but for mode and run of the cycle, which `modeStep` settles. -/
def sansMode (s : State) : Clockwork := { clockwork s with md := State.reset.md, running := false }

/-- The clockwork but for the registers, which an APPLY changes. -/
def sansRegs (s : State) : Clockwork := { clockwork s with regs := [] }

section
variable {s t : State} {l : Lane}

theorem sansMode_of_clock (h : clockwork t = clockwork s) : sansMode t = sansMode s :=
  congrArg (fun c : Clockwork => { c with md := State.reset.md, running := false }) h

theorem sansRegs_of_clock (h : clockwork t = clockwork s) : sansRegs t = sansRegs s :=
  congrArg (fun c : Clockwork => { c with regs := [] }) h

/-! ### The vote close before the commit -/

theorem laneClose_clock (s : State) (l : Lane) : clockwork (laneClose s l) = clockwork s := by
  unfold laneClose
  extract_lets x s2 s1
  have h1 : clockwork s1 = clockwork s := by
    show clockwork (match x.run with | .computing => _ | .waiting => _ | _ => _) = _
    split
    · exact learnCause_clock ..
    · exact ite_same (learnCause_clock ..) rfl
    · rfl
  clear_value s1
  exact ite_same h1 h1

theorem recopy_clock (s : State) (l : Lane) : clockwork (recopy s l) = clockwork s := by
  unfold recopy
  split <;> rfl

theorem catchup_clock (s : State) (l : Lane) : clockwork (catchup s l) = clockwork s := by
  unfold catchup
  extract_lets s1
  have h1 : clockwork s1 = clockwork s := recopy_clock ..
  clear_value s1
  exact ite_same rfl (ite_same h1 h1)

theorem voteClose_clock (s : State) : ∃ closed staged, clockwork (voteClose s) = { clockwork s with closed := closed, staged := staged } := by
  unfold voteClose
  split
  · exact ⟨s.cyc.closed, s.cyc.staged, rfl⟩
  · extract_lets s1 s2 cyc s3
    have h2 : clockwork s2 = clockwork s := (foldl_same (π := clockwork) laneClose_clock lanes3 s1).trans (timeTo_clock ..)
    clear_value s2
    have h3 : clockwork s3 = { clockwork s2 with closed := true, staged := stagedWords s2 } := rfl
    refine ⟨true, stagedWords s2, (foldl_same (π := clockwork) catchup_clock lanes3 s3).trans (h3.trans ?_)⟩
    rw [h2]

/-! ### The new cycle and its members -/

theorem newCycle_clock (s : State) : clockwork (newCycle s) =
    { clockwork s with n := nextCycle s, t0 := s.cyc.nextT0, everRan := true } := by
  have h := timeTo_clock s s.cyc.nextT0
  exact congrArg (fun c : Clockwork => { c with n := nextCycle s, t0 := s.cyc.nextT0, everRan := true }) h

theorem haltLane_clock (s : State) (l : Lane) : clockwork (haltLane s l) = clockwork s := rfl

theorem excludeLane_clock (s : State) (l : Lane) : clockwork (excludeLane s l) = clockwork s := by
  unfold excludeLane
  extract_lets c s1 cyc
  exact (irq_clock ..).trans (ledger_clock { s1 with cyc := { s1.cyc with member := s1.cyc.member &&& ~~~(bit3 l) } } 1 (6 + l.val) 0 c)

theorem mntEnds_clock (kind e : Nat) (ls : List Lane) (s : State) :
    clockwork (ls.foldl (fun s l => mntEndOf s kind l.val e) s) = clockwork s :=
  foldl_same (π := clockwork) (fun t l => mntEndOf_clock t kind l.val e) ls s

theorem exclusions_clock (s : State) (out : List Lane) : clockwork (exclusions s out) = clockwork s := by
  unfold exclusions
  extract_lets s1 s2
  have h1 : clockwork s1 = clockwork s := foldl_same excludeLane_clock _ _
  have h2 : clockwork s2 = clockwork s1 := rfl
  clear_value s2
  exact ite_same (h2.trans h1) ((mntEnds_clock ..).trans (h2.trans h1))

theorem learnLinks_clock (s : State) (l : Lane) : clockwork (learnLinks s l) = clockwork s := ite_same (learnCause_clock ..) rfl

theorem rejoin_clock (s : State) (l : Lane) : clockwork (rejoin s l) = clockwork s := by
  unfold rejoin
  extract_lets s1 cyc s2
  have h2 : clockwork s2 = clockwork s := learnLinks_clock { s1 with cyc := { s1.cyc with member := s1.cyc.member ||| bit3 l } } l
  exact (irq_clock ..).trans ((ledger_clock ..).trans ((mntEndOf_clock ..).trans h2))

theorem shadowEnd_clock (s : State) (l : Lane) : clockwork (shadowEnd s l) = clockwork s :=
  ite_same rfl (ite_same (reintFail_clock ..) (ite_same (ite_same (reintFail_clock ..) (rejoin_clock ..)) rfl))

/-! ### Modes -/

theorem reintStop_clock (s : State) (l : Lane) : clockwork (reintStop s l) = clockwork s := ite_same (mntEndOf_clock ..) rfl

theorem stopLanes_clock (s : State) : clockwork (stopLanes s) = clockwork s := by
  unfold stopLanes
  extract_lets s1 s2
  have h1 : clockwork s1 = clockwork s := foldl_same (fun t l => (haltLane_clock (reintStop t l) l).trans (reintStop_clock t l)) lanes3 s
  have h2 : clockwork s2 = clockwork s1 := mntEnds_clock ..
  clear_value s2
  exact h2.trans h1

theorem canLeaveQuiet_clock (s : State) (c : Ctrl) : clockwork (canLeaveQuiet s c) = clockwork s := ite_same rfl rfl

theorem wdSync_clock (s : State) : clockwork (wdSync s) = clockwork s := by
  rw [wdSync_frame]
  rfl

/-- The mode's own registers after a change to `m` by row `row`. -/
def modeTaken (s : State) (m : Mode) (row : Nat) : ModeSt :=
  { s.md with
    mode := m, lastCause := row, primeCnt := 0, primeLasted := 0, pairCnt := Vector.replicate 3 0
    row4 := if m = .hold then s.md.row4 else none
    laneStarted := false }

theorem setMode_clock (s : State) (m : Mode) (row : Nat) : ∃ running, clockwork (setMode s m row) =
    { clockwork s with md := modeTaken s m row, running := running } := by
  unfold setMode
  extract_lets md s1 s2 s3 cyc s4 s5
  have h1 : clockwork s1 = { clockwork s with md := modeTaken s m row } := rfl
  have h2 : clockwork s2 = clockwork s1 := ite_same rfl (stopLanes_clock ..)
  have h3 : clockwork s3 = clockwork s2 := ite_same (foldl_same reintStop_clock _ _) rfl
  have h4 : ∃ running, clockwork s4 = { clockwork s3 with running := running } := by
    show ∃ running, clockwork (if m = .quiet then _ else _) = _
    split
    · exact ⟨false, flush_clock ctrls2 { s3 with cyc := { s3.cyc with running := false } }⟩
    · exact ⟨s3.cyc.running, rfl⟩
  have h5 : clockwork s5 = clockwork s4 := ite_same (foldl_same canLeaveQuiet_clock _ _) rfl
  obtain ⟨running, h4⟩ := h4
  refine ⟨running, ((wdSync_clock ..).trans (ite_same (ledger_clock ..) (ite_same (ledger_clock ..) rfl))).trans (h5.trans (h4.trans ?_))⟩
  rw [h3, h2, h1]

theorem setMode_sans (s : State) (m : Mode) (row : Nat) : sansMode (setMode s m row) = sansMode s := by
  obtain ⟨running, h⟩ := setMode_clock s m row
  exact congrArg (fun c : Clockwork => { c with md := State.reset.md, running := false }) h

theorem setMode_md (s : State) (m : Mode) (row : Nat) : (setMode s m row).md = modeTaken s m row := by
  obtain ⟨running, h⟩ := setMode_clock s m row
  exact congrArg Clockwork.md h

theorem primeStep_sans (s : State) (before : BitVec 3) (out : Bool) : sansMode (primeStep s before out) = sansMode s := by
  unfold primeStep
  extract_lets ls agree md s1
  have h1 : sansMode s1 = sansMode s := rfl
  exact ite_same ((setMode_sans ..).trans h1) (ite_same (ite_same ((setMode_sans ..).trans h1) ((setMode_sans ..).trans h1)) h1)

theorem memberRows_sans (s : State) : sansMode (memberRows s) = sansMode s := by
  unfold memberRows
  extract_lets m
  split
  · exact ite_same (ite_same (setMode_sans ..) (setMode_sans ..)) (ite_same (setMode_sans ..) (ite_same (setMode_sans ..) rfl))
  · exact ite_same (ite_same (setMode_sans ..) (setMode_sans ..)) (ite_same (setMode_sans ..) (ite_same (setMode_sans ..) rfl))
  · exact ite_same (setMode_sans ..) rfl
  · rfl

theorem zeroCopies_clock (s : State) (d : Die) : clockwork (zeroCopies s d) = clockwork s := rfl

theorem beginPrime_sans (s : State) (row : Nat) : sansMode (beginPrime s row) = sansMode s := by
  unfold beginPrime
  extract_lets warm s1 md cyc s2
  have h1 : sansMode s1 = sansMode s :=
    (sansMode_of_clock (foldl_same (π := clockwork) zeroCopies_clock dies5 (setMode s .prime row))).trans (setMode_sans ..)
  clear_value s1
  have h2 : sansMode s2 = sansMode s1 := rfl
  clear_value s2
  exact (sansMode_of_clock (foldl_same (π := clockwork) learnLinks_clock lanes3 s2)).trans (h2.trans h1)

theorem laneStarted_sans (s : State) (retain : Option (List Byte)) : sansMode (laneStarted s retain) = sansMode s := rfl

theorem dropCmd_sans (s : State) : sansMode (dropCmd s) = sansMode s := rfl

theorem laneStart_sans (s : State) : sansMode (laneStart s) = sansMode s := by
  unfold laneStart
  refine ite_same rfl (ite_same (laneStarted_sans ..) ?_)
  split
  · refine ite_same (dropCmd_sans s) (ite_same (laneStarted_sans ..) ?_)
    split
    · exact laneStarted_sans ..
    · exact dropCmd_sans s
  · rfl

theorem row4Step_sans (s : State) : sansMode (row4Step s) = sansMode s := by
  unfold row4Step
  split
  · extract_lets s1
    have h1 : sansMode s1 = sansMode s := ite_same (laneStart_sans ..) rfl
    clear_value s1
    exact ite_same ((beginPrime_sans ..).trans h1) h1
  · rfl

theorem safeStep_sans (s : State) : sansMode (safeStep s) = sansMode s := ite_same (setMode_sans ..) rfl

theorem cmdPrime_sans (s : State) : sansMode (cmdPrime s) = sansMode s := by
  unfold cmdPrime
  extract_lets s1 md
  have h1 : sansMode s1 = sansMode s := laneStart_sans s
  exact ite_same ((beginPrime_sans { s1 with md := { s1.md with cmd := none } } 6).trans h1) ((dropCmd_sans s1).trans h1)

theorem ownerCmd_sans (s : State) : sansMode (ownerCmd s) = sansMode s := by
  unfold ownerCmd
  split
  · rfl
  · extract_lets md s1
    split
    · rfl
    · exact ite_same (cmdPrime_sans s) ((setMode_sans ..).trans rfl)

theorem startFlag_sans (old : Mode) (s : State) : sansMode (startFlag old s) = sansMode s := ite_same rfl rfl

theorem modeStep_sans (s : State) (before : BitVec 3) (out : Bool) : sansMode (modeStep s before out) = sansMode s := by
  unfold modeStep
  extract_lets s1
  have h1 : sansMode s1 = sansMode s := ite_same (primeStep_sans ..) (memberRows_sans ..)
  clear_value s1
  exact (startFlag_sans ..).trans ((ownerCmd_sans ..).trans ((safeStep_sans ..).trans ((row4Step_sans ..).trans h1)))

/-! ### APPLY -/

theorem canStart_clock (s : State) (c : Ctrl) : clockwork (canStart s c) = clockwork s := rfl

theorem canApplied_clock (old : RegMap) (s : State) (c : Ctrl) : clockwork (canApplied old s c) = clockwork s :=
  ite_same (ite_same (canStart_clock ..) rfl) (ite_same rfl rfl)

theorem canTables_clock (s : State) : clockwork (canTables s) = clockwork s := by
  refine foldl_same (fun t c => ?_) ctrls2 s
  split <;> rfl

theorem wdArmHost_clock (s : State) : clockwork (wdArmHost s) = clockwork s := wdSync_clock ..

theorem wdApplied_clock (old : RegMap) (s : State) : clockwork (wdApplied old s) = clockwork s := by
  unfold wdApplied
  extract_lets changed restart
  have hrestart : ∀ t i, clockwork (restart t i) = clockwork t := fun t i =>
    ite_same rfl (ite_same (ite_same rfl rfl) (ite_same rfl (ite_same (ite_same rfl (ite_same (wdArmHost_clock t) rfl)) rfl)))
  exact (wdSync_clock ..).trans (foldl_same hrestart _ s)

theorem setSync_clock (s : State) (y : SyncSt) : clockwork (setSync s y) = clockwork s := ite_same rfl rfl

theorem syncRestart_clock (s : State) : clockwork (syncRestart s) = clockwork s := setSync_clock ..

theorem tsyncOff_clock (s : State) : clockwork (tsyncOff s) = clockwork s := ite_same rfl rfl

theorem applyTake_sans (s : State) (n : Nat) : sansRegs (applyTake s n) = sansRegs s := by
  unfold applyTake
  extract_lets old new s1 app s2 s3
  have h2 : sansRegs s2 = sansRegs s := rfl
  have h3 : clockwork s3 = clockwork s2 := (tsyncOff_clock ..).trans (ite_same rfl (syncRestart_clock ..))
  clear_value s3 s2
  refine Eq.trans (sansRegs_of_clock ?_) h2
  exact (irq_clock ..).trans ((foldl_same (canApplied_clock old) ctrls2 _).trans ((canTables_clock ..).trans ((wdApplied_clock ..).trans h3)))

theorem applyStep_sans (s : State) (n : Nat) : sansRegs (applyStep s n) = sansRegs s := by
  unfold applyStep
  refine ite_same ?_ rfl
  split
  · rfl
  · exact applyTake_sans ..

/-! ### The head and the whole commit -/

theorem cfgPeriod_of_regs (h : t.regs = s.regs) : cfgPeriod t = cfgPeriod s :=
  congrArg (fun r : RegMap => fieldOf (rmGet r (regKey 4 0)) 0 20) h

theorem gridOrg_of_regs (h : t.regs = s.regs) : gridOrg t = gridOrg s :=
  congrArg (fun r : RegMap => (rmGet r (regKey 3 0x0A)).toNat * 2 ^ 32 + (rmGet r (regKey 3 9)).toNat) h

/-- What the head hands to the body: the new cycle on the grid of the registers that are active now. -/
structure Opened (s t : State) : Prop where
  store : t.store = s.store
  boot : t.boot = s.boot
  n : t.cyc.n = nextCycle s
  t0 : t.cyc.t0 = s.cyc.nextT0
  period : t.cyc.period = cfgPeriod t
  next : t.cyc.nextT0 = gridNext (gridOrg t) (cfgPeriod t * 1000) (s.cyc.nextT0 + cfgPeriod t * 1000)
  closed : t.cyc.closed = false
  staged : t.cyc.staged = 0
  acting : t.cyc.acting = actsIn t.md.mode

/-- T0 of the new cycle, with the delivery excess of the cycle before. -/
def cycleOpened (s : State) : State :=
  let x := if lanesRun s.md.mode then excess s.cyc.staged (guardNow s) else 0
  let s1 := newCycle s
  { s1 with cyc := { s1.cyc with delivx := min 0xFFFFFFFF (max s1.cyc.delivx x), late := x }, own := { s1.own with hostLost := s1.own.lapsed } }

/-- The lanes that are excluded at this commit. -/
def leavers (s : State) : List Lane := lanes3.filter (excluded (cycleOpened s))

/-- The members of the new cycle stand; the mode does not yet. -/
def membersSettled (s : State) : State := lanes3.foldl shadowEnd (exclusions (cycleOpened s) (leavers s))

/-- The modes of the new cycle. -/
def modesSettled (s : State) : State := modeStep (membersSettled s) s.cyc.member (decide (leavers s ≠ []))

theorem membersSettled_clock (s : State) : clockwork (membersSettled s) =
    { clockwork s with n := nextCycle s, t0 := s.cyc.nextT0, everRan := true } := by
  have h1 : clockwork (cycleOpened s) = clockwork (newCycle s) := by
    unfold cycleOpened
    generalize newCycle s = u
    generalize (if lanesRun s.md.mode = true then excess s.cyc.staged (guardNow s) else 0) = x
    rfl
  exact (foldl_same (π := clockwork) shadowEnd_clock lanes3 _).trans ((exclusions_clock ..).trans (h1.trans (newCycle_clock s)))

theorem commitHead_eq (s : State) :
    commitHead s = (setNext (applyStep (modesSettled s) (modesSettled s).cyc.n), leavers s) := by
  unfold commitHead modesSettled membersSettled leavers cycleOpened
  dsimp only

theorem commitHead_md (s : State) : (commitHead s).1.md = (modesSettled s).md := by
  rw [commitHead_eq]
  generalize modesSettled s = v
  have h := applyStep_sans v v.cyc.n
  generalize applyStep v v.cyc.n = w at h
  exact (congrArg Clockwork.md h :)

theorem commitHead_opened (s : State) : Opened s (commitHead s).1 := by
  rw [commitHead_eq]
  have h1 := membersSettled_clock s
  have h2 : sansMode (modesSettled s) = sansMode (membersSettled s) := modeStep_sans ..
  generalize membersSettled s = u at h1 h2
  generalize modesSettled s = v at h2
  have h3 := applyStep_sans v v.cyc.n
  generalize applyStep v v.cyc.n = w at h3
  have hstore : w.store = s.store := (congrArg Clockwork.store h3).trans ((congrArg Clockwork.store h2).trans (congrArg Clockwork.store h1))
  have hboot : w.boot = s.boot := (congrArg Clockwork.boot h3).trans ((congrArg Clockwork.boot h2).trans (congrArg Clockwork.boot h1))
  have hn : w.cyc.n = nextCycle s := (congrArg Clockwork.n h3).trans ((congrArg Clockwork.n h2).trans (congrArg Clockwork.n h1))
  have ht0 : w.cyc.t0 = s.cyc.nextT0 := (congrArg Clockwork.t0 h3).trans ((congrArg Clockwork.t0 h2).trans (congrArg Clockwork.t0 h1))
  refine ⟨hstore, hboot, hn, ht0, rfl, ?_, rfl, rfl, rfl⟩
  show gridNext (gridOrg w) (cfgPeriod w * 1000) (w.cyc.t0 + cfgPeriod w * 1000) = _
  rw [ht0]
  rfl

/-- A commit other than the entry into QUIET. -/
def commitOpen (s : State) (rb : BitVec 64) : State :=
  commitBody (commitHead (voteClose s)).1 (voteClose s).md.mode (voteClose s).cyc.acting (commitHead (voteClose s)).2 rb

theorem voteClose_md (s : State) : (voteClose s).md = s.md := by
  obtain ⟨closed, staged, h⟩ := voteClose_clock s
  exact congrArg Clockwork.md h

theorem commit_eq (rb : BitVec 64) (h : s.md.mode ≠ .hold) : commit s rb = commitOpen s rb := by
  unfold commit
  exact if_neg fun hh => h (voteClose_md s ▸ hh.1)

/-- The whole commit: the cycle of the head, and the couplers off when it does not act. -/
theorem commitOpen_opened (s : State) (rb : BitVec 64) : Opened s (commitOpen s rb) ∧
    ((commitOpen s rb).cyc.acting = false → (commitOpen s rb).permits = 0) ∧ (commitOpen s rb).md = (commitHead (voteClose s)).1.md := by
  obtain ⟨closed, staged, h0⟩ := voteClose_clock s
  obtain ⟨hstore, hboot, hn, ht0, hperiod, hnext, hclosed, hstaged, hacting⟩ := commitHead_opened (voteClose s)
  obtain ⟨permits, hbody, hoff⟩ := commitBody_clock (commitHead (voteClose s)).1 (voteClose s).md.mode (voteClose s).cyc.acting
    (commitHead (voteClose s)).2 rb
  unfold commitOpen
  generalize commitBody _ _ _ _ rb = t at hbody
  generalize (commitHead (voteClose s)).1 = u at *
  have hregs : t.regs = u.regs := congrArg Clockwork.regs hbody
  have hmd : t.md = u.md := congrArg Clockwork.md hbody
  have hcount : nextCycle (voteClose s) = nextCycle s :=
    congrArg (fun c : Clockwork => if c.everRan then c.n + 1 else c.boot.firstCycle) h0
  have hdue : (voteClose s).cyc.nextT0 = s.cyc.nextT0 := congrArg Clockwork.nextT0 h0
  refine ⟨⟨?_, ?_, ?_, ?_, ?_, ?_, ?_, ?_, ?_⟩, fun ha => ?_, hmd⟩
  · exact (congrArg Clockwork.store hbody).trans (hstore.trans (congrArg Clockwork.store h0))
  · exact (congrArg Clockwork.boot hbody).trans (hboot.trans (congrArg Clockwork.boot h0))
  · exact (congrArg Clockwork.n hbody).trans (hn.trans hcount)
  · exact (congrArg Clockwork.t0 hbody).trans (ht0.trans hdue)
  · exact (congrArg Clockwork.period hbody).trans (hperiod.trans (cfgPeriod_of_regs hregs).symm)
  · rw [gridOrg_of_regs hregs, cfgPeriod_of_regs hregs, ← hdue]
    exact (congrArg Clockwork.nextT0 hbody).trans hnext
  · exact (congrArg Clockwork.closed hbody).trans hclosed
  · exact (congrArg Clockwork.staged hbody).trans hstaged
  · rw [hmd]
    exact (congrArg Clockwork.acting hbody).trans hacting
  · exact (congrArg Clockwork.permits hbody).trans (hoff ((congrArg Clockwork.acting hbody).symm.trans ha))

/-! ### PRIME (R98, R100) -/

/-- Rows 7 to 9 at the commit that ends PRIME: RUN, DEGRADED or SAFE. -/
structure PrimeEnds (s t : State) : Prop where
  mode : t.md.mode = .safe ∨ t.md.mode = .degraded ∨ t.md.mode = .run
  cmd : t.md.cmd = s.md.cmd
  safePending : t.md.safePending = s.md.safePending
  disagree : cfgBit s 0 0x22 3 = false → s.md.primeCnt + 1 < primeN s → t.md.mode = .safe ∧ t.md.lastCause = 9

theorem primeStep_ends (before : BitVec 3) (out : Bool) (h0 : primeTmo s ≠ 0) (h : primeTmo s ≤ s.md.primeLasted + 1) :
    PrimeEnds s (primeStep s before out) := by
  unfold primeStep
  extract_lets ls agree md s1
  have hcnt : s1.md.primeCnt ≤ s.md.primeCnt + 1 := by
    show (if agree ∧ before = 7 then s.md.primeCnt + 1 else 0) ≤ _
    split <;> omega
  split
  · next hagreed =>
    refine ⟨.inr (.inr ?_), ?_, ?_, fun _ hlt => absurd hagreed.1 (by omega)⟩ <;> rw [setMode_md] <;> rfl
  · rw [if_pos ⟨h0, h⟩]
    split
    · next hpair =>
      refine ⟨.inr (.inl ?_), ?_, ?_, fun hc _ => absurd (hc.symm.trans hpair.1) (by decide)⟩ <;> rw [setMode_md] <;> rfl
    · refine ⟨.inl ?_, ?_, ?_, fun _ _ => ⟨?_, ?_⟩⟩ <;> rw [setMode_md] <;> rfl

/-- After PRIME has ended nothing else changes the mode at this commit, when no command and no watchdog asks for it. -/
theorem modeStep_prime (before : BitVec 3) (out : Bool) (hmode : s.md.mode = .prime) (h0 : primeTmo s ≠ 0)
    (h : primeTmo s ≤ s.md.primeLasted + 1) (hcmd : s.md.cmd = none) (hsafe : s.md.safePending = false) :
    ((modeStep s before out).md.mode = .safe ∨ (modeStep s before out).md.mode = .degraded ∨ (modeStep s before out).md.mode = .run) ∧
    (cfgBit s 0 0x22 3 = false → s.md.primeCnt + 1 < primeN s →
      (modeStep s before out).md.mode = .safe ∧ (modeStep s before out).md.lastCause = 9) := by
  obtain ⟨hm, hc, hp, hd⟩ := primeStep_ends before out h0 h
  unfold modeStep
  rw [if_pos hmode]
  generalize primeStep s before out = u at *
  have hrow4 : row4Step u = u := by
    unfold row4Step
    split
    · next hhold _ => rcases hm with h | h | h <;> exact absurd (h.symm.trans hhold) (by decide)
    · rfl
  have hstep : safeStep u = { u with md := { u.md with safePending := false } } := by
    unfold safeStep
    exact if_neg fun hh => absurd (hh.1.symm.trans (hp.trans hsafe)) (by decide)
  have hown : ownerCmd { u with md := { u.md with safePending := false } } = { u with md := { u.md with safePending := false } } := by
    unfold ownerCmd
    rw [show ({ u with md := { u.md with safePending := false } } : State).md.cmd = none from hc.trans hcmd]
  dsimp only
  rw [hrow4, hstep, hown]
  unfold startFlag
  split
  · exact ⟨hm, hd⟩
  · exact ⟨hm, hd⟩

theorem primeTimeout_runs (rb : BitVec 64) (hrun : s.cyc.running = true) (hmode : s.md.mode = .prime) (h0 : primeTmo s ≠ 0)
    (h : primeTmo s ≤ s.md.primeLasted + 1) (hcmd : s.md.cmd = none) (hsafe : s.md.safePending = false) :
    ∃ t, exec (.primeTimeout rb) s = .next t ∧ (t.md.mode = .safe ∨ t.md.mode = .degraded ∨ t.md.mode = .run) ∧
      (cfgBit s 0 0x22 3 = false → s.md.primeCnt + 1 < primeN s → t.md.mode = .safe ∧ t.md.lastCause = 9) ∧
      t.cyc.t0 = s.cyc.nextT0 ∧ t.store = s.store := by
  have hx : exec (.primeTimeout rb) s = .next (commitOpen s rb) := by
    show execPrimeTimeout rb s = _
    rw [execPrimeTimeout, if_pos ⟨hrun, hmode, h0, h⟩, commit_eq rb (by rw [hmode]; decide)]
  obtain ⟨hopen, -, hmd⟩ := commitOpen_opened s rb
  obtain ⟨closed, staged, hclose⟩ := voteClose_clock s
  have hbefore := membersSettled_clock (voteClose s)
  have hhead := commitHead_md (voteClose s)
  unfold modesSettled at hhead
  generalize leavers (voteClose s) = out at hhead
  generalize membersSettled (voteClose s) = u at hbefore hhead
  have hregs : u.regs = s.regs := (congrArg Clockwork.regs hbefore).trans (congrArg Clockwork.regs hclose)
  have humd : u.md = s.md := (congrArg Clockwork.md hbefore).trans (congrArg Clockwork.md hclose)
  have htmo : primeTmo u = primeTmo s := congrArg (fun r : RegMap => fieldOf (rmGet r (regKey 0 0x22)) 16 16) hregs
  have hn : primeN u = primeN s := congrArg (fun r : RegMap => fieldOf (rmGet r (regKey 0 0x22)) 8 8) hregs
  have hbit : cfgBit u 0 0x22 3 = cfgBit s 0 0x22 3 := congrArg (fun r : RegMap => bitOf (rmGet r (regKey 0 0x22)) 3) hregs
  obtain ⟨hm, hd⟩ := modeStep_prime (s := u) (voteClose s).cyc.member (decide (out ≠ [])) (by rw [humd]; exact hmode) (by rw [htmo]; exact h0)
    (by rw [htmo, humd]; exact h) (by rw [humd]; exact hcmd) (by rw [humd]; exact hsafe)
  rw [hbit, hn, humd] at hd
  refine ⟨_, hx, ?_, ?_, hopen.t0, hopen.store⟩
  · rw [hmd, hhead]; exact hm
  · rw [hmd, hhead]; exact hd

theorem commit_runs (rb : BitVec 64) (hrun : s.cyc.running = true) (hmode : s.md.mode ≠ .hold) :
    ∃ t, exec (.commit rb) s = .next t ∧ t.cyc.t0 = s.cyc.nextT0 ∧
      t.cyc.n = (if s.cyc.everRan then s.cyc.n + 1 else s.boot.firstCycle) ∧ t.cyc.period = cfgPeriod t ∧
      t.cyc.nextT0 = gridNext (gridOrg t) (cfgPeriod t * 1000) (s.cyc.nextT0 + cfgPeriod t * 1000) ∧
      t.cyc.closed = false ∧ t.cyc.staged = 0 ∧ t.cyc.acting = (decide (t.md.mode = .run) || decide (t.md.mode = .degraded)) ∧
      (t.cyc.acting = false → t.permits = 0) ∧ t.store = s.store ∧ t.vddio = s.vddio ∧ t.tap = s.tap ∧ t.pending = s.pending ∧ t.boot = s.boot := by
  have hx : exec (.commit rb) s = .next (commit s rb) := by
    show execCommit rb s = _
    rw [execCommit, if_pos hrun]
  obtain ⟨hpending, htap, hvddio, -⟩ := commit_kept (a1 := rb) (.refl s)
  rw [commit_eq rb hmode] at hx hpending htap hvddio
  obtain ⟨⟨hstore, hboot, hn, ht0, hperiod, hnext, hclosed, hstaged, hacting⟩, hoff, -⟩ := commitOpen_opened s rb
  exact ⟨_, hx, ht0, hn, hperiod, hnext, hclosed, hstaged, hacting, hoff, hstore, hvddio, htap, hpending, hboot⟩

/-- Settles O26: the head of the commit opens the cycle, and its body leaves the clockwork as it is. -/
theorem commitCycle : Obligations.CommitCycle :=
  ⟨fun _ rb hrun hhold _ => commit_runs rb hrun hhold,
    fun _ rb hrun hmode h0 h hcmd hsafe => primeTimeout_runs rb hrun hmode h0 h hcmd hsafe⟩
end
end Sys2Proof.Machine

namespace Sys2Proof.Machine

/-! ## Every command leaves the queue and the other pads (R50, R52) -/

/-- Settles O60: but for the two commands that write them, every command keeps the queue, the test access port and the rails. -/
theorem queueAndPads : Obligations.QueueAndPads := by
  intro c s
  by_cases htap : ∃ ins cells inputs, c = .tapInstruction ins cells inputs
  · obtain ⟨ins, cells, inputs, rfl⟩ := htap
    obtain ⟨y, t, ht, hk⟩ := execTapInstruction_keeps (s := s) (ins := ins) (cells := cells) (inputs := inputs)
    exact ⟨t, ht, hk.pending, fun h => absurd rfl (h ins cells inputs), fun _ => hk.vddio⟩
  by_cases hrail : ∃ rail present, c = .vddioAbsent rail present
  · obtain ⟨rail, present, rfl⟩ := hrail
    obtain ⟨y, t, ht, hk⟩ := execVddioAbsent_keeps (s := s) (rail := rail) (present := present)
    exact ⟨t, ht, hk.pending, fun _ => hk.tap, fun h => absurd rfl (h rail present)⟩
  obtain ⟨t, ht, hk⟩ := exec_keeps c s (fun a b d e => htap ⟨a, b, d, e⟩) fun a b e => hrail ⟨a, b, e⟩
  exact ⟨t, ht, hk.pending, fun _ => hk.tap, fun _ => hk.vddio⟩

end Sys2Proof.Machine

namespace Sys2Proof.Machine

/-! ## Reset release and the recovery state (R51, R55, R68, R70, R73 to R75) -/

section
variable {s t u : State} {sel : BitVec 2}

theorem porRelease_refused (te rn : Bool) (h : (s.boot.inReset && !s.boot.testHold && s.boot.sources.getLsbD 0 && s.vddio.getLsbD 0 && rn) = false) :
    exec (.porRelease sel te rn) s = .next s := by
  show execPorRelease sel te s rn = _
  rw [execPorRelease, h, if_neg (by decide)]

theorem porRelease_releases (te : Bool) (hr : s.boot.inReset = true) (hh : s.boot.testHold = false) (hp : s.boot.sources.getLsbD 0 = true)
    (hv : s.vddio.getLsbD 0 = true) : exec (.porRelease sel te true) s = .next (release s sel te) := by
  show execPorRelease sel te s true = _
  rw [execPorRelease, hr, hh, hp, hv, if_pos (by decide)]

theorem resetRelease_refused (te : Bool) (hh : s.boot.testHold = true) : exec (.resetRelease sel te) s = .next s := by
  show execResetRelease sel te s = _
  rw [execResetRelease, hh, if_neg (by simp)]

theorem resetRelease_releases (te : Bool) (hr : s.boot.inReset = true) (hh : s.boot.testHold = false) (hp : s.boot.sources.getLsbD 0 = false) :
    exec (.resetRelease sel te) s = .next (release s sel te) := by
  show execResetRelease sel te s = _
  rw [execResetRelease, hr, hh, hp, if_pos (by decide)]

/-- The state at the start of a release: out of reset, the boot counted (R68, R70). -/
def released (s : State) (sel : BitVec 2) : State :=
  { s with boot := { s.boot with
      inReset := false, testHold := false, sel := sel, mpRstLow := false, bootCnt := satAdd 65535 s.boot.bootCnt 1, phase := 2 } }

theorem release_test (s : State) (sel : BitVec 2) : release s sel true = { s with boot := { s.boot with testHold := true } } := rfl

theorem release_noStore (h : sel = 3) : release s sel false = enterRecovery (released s sel) 0 := by
  subst h; rfl

theorem release_store (h : sel ≠ 3) : release s sel false = bootPhase2 (released s sel) := by
  unfold release
  rw [if_neg (by decide)]
  exact if_neg h

/-- Phase 2 without the store's rail: the store does not respond. -/
theorem bootPhase2_unpowered (h : s.vddio.getLsbD 4 = false) : bootPhase2 s = enterRecovery (bootClock s) 5 := by
  unfold bootPhase2
  exact if_pos (congrArg (fun b => !b) h :)

/-- Phase 2 without a valid directory: code 1, or 5 where the store reads as blank (log entry 81). -/
theorem bootPhase2_noDirectory (h : s.vddio.getLsbD 4 = true) (hd : dirPick s.store = none) :
    ∃ free err, bootPhase2 s = enterRecovery { bootClock s with freeCtr := free } err ∧ (err = 1 ∨ storeBlank s = true ∧ err = 5) := by
  have hpowered : ¬ (!mpPowered (bootClock s)) = true := by
    show ¬ (!s.vddio.getLsbD 4) = true
    rw [h]; decide
  unfold bootPhase2
  dsimp only
  rw [if_neg hpowered]
  split
  · next hb =>
    refine ⟨_, _, rfl, ?_⟩
    split
    · exact .inl rfl
    · exact .inr ⟨hb, rfl⟩
  · rw [show (bootClock s).store = s.store from rfl, hd]
    exact ⟨_, 1, rfl, .inl rfl⟩

/-! ## The end of phase 8 (R79, R453) -/

/-- In `t` the boot of `s` has ended by row 1 of Table 4.2 in mode `m`, with the cycle running or not. -/
structure Booted (s t : State) (m : Mode) (running : Bool) : Prop where
  phase : t.boot.phase = 9
  mode : t.md.mode = m
  cause : t.md.lastCause = 1
  runs : t.cyc.running = running
  store : t.store = s.store
  regs : t.regs = s.regs
  power : t.pwr = s.pwr

theorem Booted.of_clock {m : Mode} {b : Bool} (h : Booted s t m b) (hc : clockwork u = clockwork t) (hp : u.pwr = t.pwr) : Booted s u m b where
  phase := (congrArg (fun c : Clockwork => c.boot.phase) hc).trans h.phase
  mode := (congrArg (fun c : Clockwork => c.md.mode) hc).trans h.mode
  cause := (congrArg (fun c : Clockwork => c.md.lastCause) hc).trans h.cause
  runs := (congrArg Clockwork.running hc).trans h.runs
  store := (congrArg Clockwork.store hc).trans h.store
  regs := (congrArg Clockwork.regs hc).trans h.regs
  power := hp.trans h.power

/-- The cycle starts, and besides it nothing changes. -/
theorem Booted.startCycle {m : Mode} {b : Bool} (h : Booted s t m b) : Booted s (startCycle t) m true :=
  ⟨h.phase, h.mode, h.cause, rfl, h.store, h.regs, h.power⟩

theorem Booted.with_md {m : Mode} {b : Bool} {x : ModeSt} (h : Booted s t m b) (hm : x.mode = t.md.mode) (hc : x.lastCause = t.md.lastCause) :
    Booted s { t with md := x } m b :=
  ⟨h.phase, hm.trans h.mode, hc.trans h.cause, h.runs, h.store, h.regs, h.power⟩

theorem mntEndOf_pwr (s : State) (kind index e : Nat) : (mntEndOf s kind index e).pwr = s.pwr :=
  (congrArg State.pwr (mntEndOf_loops s kind index e) :)

theorem mntEnds_pwr (kind e : Nat) (ls : List Lane) (s : State) : (ls.foldl (fun s l => mntEndOf s kind l.val e) s).pwr = s.pwr :=
  foldl_same (π := State.pwr) (fun t l => mntEndOf_pwr t kind l.val e) ls s

theorem reintStop_pwr (s : State) (l : Lane) : (reintStop s l).pwr = s.pwr := ite_same (π := State.pwr) (mntEndOf_pwr ..) rfl

theorem haltLane_pwr (s : State) (l : Lane) : (haltLane s l).pwr = s.pwr := rfl

theorem stopLanes_pwr (s : State) : (stopLanes s).pwr = s.pwr := by
  unfold stopLanes
  extract_lets s1 s2
  have h1 : s1.pwr = s.pwr := foldl_same (π := State.pwr) (fun t l => (haltLane_pwr (reintStop t l) l).trans (reintStop_pwr t l)) lanes3 s
  have h2 : s2.pwr = s1.pwr := mntEnds_pwr 1 endAborted lanes3 s1
  clear_value s2
  exact h2.trans h1

theorem wdSync_pwr (s : State) : (wdSync s).pwr = s.pwr := by rw [wdSync_frame]

theorem ledger_pwr (s : State) (code unit inst arg : Nat) : (ledger s code unit inst arg).pwr = s.pwr :=
  (congrArg State.pwr (ledger_loops s code unit inst arg) :)

theorem flush_pwr (l : List Ctrl) (s : State) : (l.foldl (fun s c => dropHeld (canFlush s c false) c) s).pwr = s.pwr :=
  foldl_same (π := State.pwr) (f := fun s c => dropHeld (canFlush s c false) c) (fun _ _ => rfl) l s

theorem canLeaveQuiet_pwr (s : State) (c : Ctrl) : (canLeaveQuiet s c).pwr = s.pwr := ite_same (π := State.pwr) rfl rfl

/-- A change of mode leaves the power registers. -/
theorem setMode_pwr (s : State) (m : Mode) (row : Nat) : (setMode s m row).pwr = s.pwr := by
  unfold setMode
  extract_lets md s1 s2 s3 cyc s4 s5
  have h1 : s1.pwr = s.pwr := rfl
  have h2 : s2.pwr = s1.pwr := ite_same (π := State.pwr) rfl (stopLanes_pwr s1)
  have h3 : s3.pwr = s2.pwr := ite_same (π := State.pwr) (foldl_same (π := State.pwr) reintStop_pwr _ _) rfl
  clear_value s3
  have h4 : s4.pwr = s3.pwr := ite_same (π := State.pwr) (flush_pwr ctrls2 { s3 with cyc := { s3.cyc with running := false } }) rfl
  clear_value s4
  have h5 : s5.pwr = s4.pwr := ite_same (π := State.pwr) (foldl_same (π := State.pwr) canLeaveQuiet_pwr _ _) rfl
  refine (wdSync_pwr _).trans (Eq.trans ?_ (h5.trans (h4.trans (h3.trans (h2.trans h1)))))
  exact ite_same (π := State.pwr) (ledger_pwr ..) (ite_same (π := State.pwr) (ledger_pwr ..) rfl)

/-- In QUIET the cycle stands (R108). -/
theorem setMode_quiet_stops (s : State) (row : Nat) : (setMode s .quiet row).cyc.running = false := by
  unfold setMode
  extract_lets md s1 s2 s3 cyc s4 s5
  clear_value s3
  have h4 : (clockwork s4).running = false := congrArg Clockwork.running (flush_clock ctrls2 { s3 with cyc := { s3.cyc with running := false } })
  have h5 : clockwork s5 = clockwork s4 := ite_same (foldl_same canLeaveQuiet_clock _ _) rfl
  exact (congrArg Clockwork.running ((wdSync_clock s5).trans h5)).trans h4

/-- The boot's last phase is done, with the time adopted (R91). -/
def phasesDone (s : State) : State := { adoptTime s with boot := { s.boot with phase := 9 } }

theorem phasesDone_clock (s : State) : clockwork (phasesDone s) = { clockwork s with boot := { s.boot with phase := 9 } } := rfl

/-- The mode is left by row 1 after the last phase. -/
theorem setMode_booted (s : State) (m : Mode) : Booted s (setMode (phasesDone s) m 1) m (setMode (phasesDone s) m 1).cyc.running := by
  obtain ⟨running, hc⟩ := setMode_clock (phasesDone s) m 1
  rw [phasesDone_clock] at hc
  exact ⟨congrArg (fun c : Clockwork => c.boot.phase) hc, congrArg (fun c : Clockwork => c.md.mode) hc,
    congrArg (fun c : Clockwork => c.md.lastCause) hc, rfl, congrArg Clockwork.store hc, congrArg Clockwork.regs hc, setMode_pwr ..⟩

/-- Nothing wakes a device that no source that is present calls. -/
theorem wakeAtEntry_none (hpad : padPresent s = false) (halarm : alarmPresent s = false) : wakeAtEntry s = s := by
  unfold wakeAtEntry
  rw [hpad, halarm]
  rfl

theorem canStart_pwr (s : State) (c : Ctrl) : (canStart s c).pwr = s.pwr := rfl

/-- The mode that the end of phase 8 chooses, and what the rest of it adds (R453). -/
theorem finishBoot_booted {m : Mode} {b : Bool}
    (hmode : Booted s (if cfgField s 0 0x22 0 2 = 2 then setMode (phasesDone s) .quiet 1 else startCycle (setMode (phasesDone s) .hold 1)) m b)
    (hwake : m ≠ .quiet ∨ s.pwr.wakeHigh = false ∧ s.pwr.alarmArmed = false) : Booted s (finishBoot s) m b := by
  unfold finishBoot
  extract_lets s1 boot s2 init s3 md s4 s5
  have h3 : Booted s s3 m b := hmode
  clear_value s3
  have h4 : Booted s s4 m b := by
    unfold s4
    split
    · split
      · exact h3.with_md rfl rfl
      · exact h3.with_md rfl rfl
    · exact h3
  clear_value s4
  have h5 : Booted s s5 m b := h4.of_clock (foldl_same (fun t c => ite_same (canStart_clock t c) rfl) ctrls2 s4)
    (foldl_same (π := State.pwr) (fun t c => ite_same (π := State.pwr) (canStart_pwr t c) rfl) ctrls2 s4)
  clear_value s5
  have h6 : Booted s (if wdEn s5 3 then wdArmHost s5 else s5) m b :=
    h5.of_clock (ite_same (wdArmHost_clock s5) rfl) (ite_same (π := State.pwr) (wdSync_pwr _) rfl)
  generalize (if wdEn s5 3 = true then wdArmHost s5 else s5) = s6 at h6
  have hpad : padPresent s6 = false := by
    unfold padPresent wakeOn
    rw [h6.mode, h6.power]
    rcases hwake with hq | ⟨hw, -⟩
    · simp [hq]
    · simp [hw]
  have halarm : alarmPresent s6 = false := by
    unfold alarmPresent wakeOn
    rw [h6.mode, h6.power]
    rcases hwake with hq | ⟨-, ha⟩
    · simp [hq]
    · simp [ha]
  rw [wakeAtEntry_none hpad halarm]
  exact h6

/-- A boot that has ended takes no further phase. -/
theorem bootSteps_ended (l : List Nat) (h : booting s = false) : l.foldl (fun s _ => if booting s then bootStep s else s) s = s := by
  induction l with
  | nil => rfl
  | cons a l ih => simpa [h] using ih

theorem bootComplete_last {m : Mode} {b : Bool} (hb : booting s = true) (h8 : s.boot.phase = 8) (hf : Booted s (finishBoot s) m b) :
    ∃ t, exec .bootComplete s = .next t ∧ t.boot.phase = 9 ∧ t.md.mode = m ∧ t.md.lastCause = 1 ∧ t.cyc.running = b ∧
      t.store = s.store ∧ t.regs = s.regs := by
  have hstep : bootStep s = finishBoot s := by
    unfold bootStep
    simp only [h8]
  have hend : booting (finishBoot s) = false := by
    unfold booting
    rw [hf.phase]
    simp
  refine ⟨finishBoot s, ?_, hf.phase, hf.mode, hf.cause, hf.runs, hf.store, hf.regs⟩
  show Host.Outcome.next ((0 :: [1, 2, 3, 4, 5]).foldl (fun s _ => if booting s then bootStep s else s) s) = _
  rw [List.foldl_cons, if_pos hb, hstep, bootSteps_ended _ hend]

theorem bootComplete_hold (hb : booting s = true) (h8 : s.boot.phase = 8) (hinit : cfgField s 0 0x22 0 2 ≠ 2) :
    ∃ t, exec .bootComplete s = .next t ∧ t.boot.phase = 9 ∧ t.md.mode = .hold ∧ t.md.lastCause = 1 ∧ t.cyc.running = true ∧
      t.store = s.store ∧ t.regs = s.regs := by
  refine bootComplete_last hb h8 (finishBoot_booted ?_ (.inl (by decide)))
  rw [if_neg hinit]
  exact (setMode_booted s .hold).startCycle

theorem bootComplete_quiet (hb : booting s = true) (h8 : s.boot.phase = 8) (hinit : cfgField s 0 0x22 0 2 = 2)
    (hw : s.pwr.wakeHigh = false) (ha : s.pwr.alarmArmed = false) :
    ∃ t, exec .bootComplete s = .next t ∧ t.boot.phase = 9 ∧ t.md.mode = .quiet ∧ t.md.lastCause = 1 ∧ t.cyc.running = false ∧
      t.store = s.store ∧ t.regs = s.regs := by
  refine bootComplete_last hb h8 (finishBoot_booted ?_ (.inr ⟨hw, ha⟩))
  rw [if_pos hinit]
  have h := setMode_booted s .quiet
  rwa [setMode_quiet_stops] at h

/-- Settles O33: the releases by BOOT_SEL, rail and directory, then the two ends of the boot. -/
theorem resetReleaseAndBoot : Obligations.ResetReleaseAndBoot := by
  refine fun s sel te rn => ⟨fun _ hh => ⟨porRelease_refused te rn (by simp [hh]), resetRelease_refused te hh⟩, fun hr hh hp hv => ?_,
    fun hv => porRelease_refused te rn (by rw [hv]; simp), fun hr hh hp => ?_, fun hr => ?_, bootComplete_hold, bootComplete_quiet⟩
  · have hrel (te : Bool) : exec (.porRelease sel te true) s = .next (release s sel te) := porRelease_releases te hr hh hp hv
    refine ⟨porRelease_refused te false (by simp), hrel true, fun h3 => ?_, fun h3 h4 => ?_, fun h3 h4 hd => ?_⟩
    · rw [hrel, release_noStore h3]
      exact ⟨_, rfl, rfl, rfl, rfl, rfl, rfl, rfl, rfl, rfl⟩
    · rw [hrel, release_store h3, bootPhase2_unpowered (s := released s sel) h4]
      exact ⟨_, rfl, rfl, rfl, rfl, rfl, rfl⟩
    · obtain ⟨free, err, hb, herr⟩ := bootPhase2_noDirectory (s := released s sel) h4 hd
      rw [hrel, release_store h3, hb]
      exact ⟨_, rfl, rfl, rfl, herr, rfl, rfl⟩
  · have hrel (te : Bool) : exec (.resetRelease sel te) s = .next (release s sel te) := resetRelease_releases te hr hh hp
    refine ⟨fun h3 => ?_, hrel true⟩
    rw [hrel, release_noStore h3]
    exact ⟨_, rfl, rfl, rfl, rfl, rfl, rfl, rfl⟩
  · show execRstoutRelease s = _
    rw [execRstoutRelease, hr, if_neg (by decide)]

end
end Sys2Proof.Machine

namespace Sys2Proof.Machine

/-! ## A field die without its supply, and its slot queue (R58, R241, R242) -/

/-- Out of reset, channel 0 of die F0 stands in the slot queue although it is off, and channel 1 conducts. -/
def queuedWhileOff : State :=
  { State.reset with
    boot := { bootReset with inReset := false }
    field := State.reset.field.set 0 { fieldReset with queue := [0], ch := fieldReset.ch.set 1 { chanReset with st := .on } } }

/-- The state of channel 0 of die F0 after a command. -/
def firstChannel : Out → OutSt
  | .next t => t.field[(0 : FDie)].ch[(0 : Chan)].st
  | _ => .off

/-- VBB_LOW has passed channel 0 when channel 1 opens and gives its slot to the head of the queue. -/
theorem vbbLow_queuedWhileOff : firstChannel (exec (.vbbLow 0 0) queuedWhileOff) = .on := by decide +kernel

/-- Refutes O36: its clause on VBB_LOW leaves every channel of the die off or tripped, but no hypothesis says that only waiting channels stand
in the slot queue; from `queuedWhileOff` channel 0 conducts after the fall of the supply. -/
theorem not_supplyEvents : ¬ Obligations.SupplyEvents := by
  intro h
  obtain ⟨-, -, -, -, -, hvbb, -, -⟩ := h queuedWhileOff 0 0 [] 0 rfl
  obtain ⟨t, ht, -, -, -, hst, -, -⟩ := hvbb
  have hon : t.field[(0 : FDie)].ch[(0 : Chan)].st = .on := (congrArg firstChannel ht).symm.trans vbbLow_queuedWhileOff
  have hoff := hst 0
  rw [hon] at hoff
  exact absurd hoff (by decide)

end Sys2Proof.Machine

namespace Sys2Proof.Machine

/-! ## The peer port (R350, R351) -/

section
variable {s t : State}

/-- An event of LEDGER_3: its sticky bit, and besides the ledger only the interrupt status changes (R414, R415). -/
theorem ledger_event3 (s : State) {code : Nat} (unit inst arg : Nat) (h : 96 ≤ code) (h' : code < 128) :
    ∃ led irqStat, led.bits[3].getLsbD (code - 96) = true ∧ ledger s code unit inst arg = { s with led := led, irqStat := irqStat } := by
  refine ⟨_, _, ?_, ledger_frame ..⟩
  have hb : (ledger s code unit inst arg).led.bits = vset s.led.bits 3 (vget s.led.bits 3 0 ||| place (code - 96) 1) := by
    have := ledgerAt_bit s s.time code (ledSrc unit inst) arg
    rwa [show code / 32 = 3 by omega, show code % 32 = code - 96 by omega] at this
  have hp : (place (code - 96) 1).getLsbD (code - 96) = true := by
    rw [place_bit]
    simp [show code - 96 < 32 by omega]
  simp [hb, vset, hp]

theorem peerPush_taken {ws : List Word} {coll : Nat} (reply : Byte) (hb : s.peer.busy = some ws) (hv : s.vddio.getLsbD 3 = true)
    (hc : coll ≤ cfgField s 17 0x10 4 3) : exec (.peerPush coll reply) s =
      .next { s with peer := { s.peer with busy := none, lastStat := reply, sent := pushFrames s ws } } := by
  show execPeerPush coll reply s = _
  unfold execPeerPush
  rw [hb, hv]
  exact congrArg Host.Outcome.next (if_neg (Nat.not_lt.mpr hc))

/-- A push that ends with a fault: counted, and recorded under its code in LEDGER_3. -/
theorem pushFault_runs (s : State) {code : Nat} (arg : Nat) (h : 96 ≤ code) (h' : code < 128) :
    (pushFault s code arg).peer = { s.peer with busy := none, faults := min 255 (s.peer.faults + 1) } ∧
    (pushFault s code arg).led.bits[3].getLsbD (code - 96) = true ∧
    pushFault s code arg = { s with
      peer := (pushFault s code arg).peer, led := (pushFault s code arg).led, irqStat := (pushFault s code arg).irqStat } := by
  obtain ⟨led, irqStat, hbit, he⟩ :=
    ledger_event3 { s with peer := { s.peer with busy := none, faults := satAdd 255 s.peer.faults 1 } } 9 2 arg h h'
  have hf : pushFault s code arg = _ := he
  rw [hf]
  exact ⟨rfl, hbit, rfl⟩

theorem peerPush_collides {coll : Nat} (reply : Byte) (hb : s.peer.busy.isSome = true) (hv : s.vddio.getLsbD 3 = true)
    (hc : cfgField s 17 0x10 4 3 < coll) : exec (.peerPush coll reply) s = .next (pushFault s 96 (cfgField s 17 0x10 4 3 + 1)) := by
  obtain ⟨ws, hws⟩ := Option.isSome_iff_exists.mp hb
  show execPeerPush coll reply s = _
  unfold execPeerPush
  rw [hws, hv]
  exact congrArg Host.Outcome.next (if_pos hc)

theorem peerPush_noRail (coll : Nat) (reply : Byte) (hv : s.vddio.getLsbD 3 = false) : exec (.peerPush coll reply) s = .next s := by
  show execPeerPush coll reply s = _
  unfold execPeerPush
  rw [hv, Option.filter_eq_none_iff.mpr (by simp)]

theorem ppStall_noRail (hv : s.vddio.getLsbD 3 = false) : exec .ppStall s = .next s := by
  show execPpStall s = _
  rw [execPpStall, hv, if_pos (by simp)]

theorem ppStall_faults (hb : s.peer.busy.isSome = true) (hv : s.vddio.getLsbD 3 = true) : exec .ppStall s = .next (pushFault s 97 0) := by
  show execPpStall s = _
  rw [execPpStall, hv, if_neg (by simpa using Option.isSome_iff_ne_none.mp hb)]

end

/-! ## Serving the memory port (R355, R356) -/

/-- The memory port without what serving its requests may touch. -/
def mpSteady (m : MpSt) : MpSt := { m with op := Vector.replicate 2 none, wait := [], stream := none, cont := 0 }

/-- What serving the port and ending activities leave of a state: all but the arbiter, the ledger and the port's queue; and LEDGER_3. -/
def unserved (s : State) : State × Word := ({ sansLoops s with mp := mpSteady s.mp }, s.led.bits[3])

section
variable {s t : State} {sel : Nat}

theorem mpServe_steady (s : State) (sel : Nat) : mpSteady (mpServe s sel).mp = mpSteady s.mp := by
  unfold mpServe
  split
  · rfl
  · split <;> rfl

/-- A select with an operation begins no other. -/
theorem mpServe_busy (h : (vget s.mp.op sel none).isSome = true) : mpServe s sel = s := by
  unfold mpServe
  rw [h, if_pos (by simp)]

theorem mpServe_unserved (s : State) (sel : Nat) : unserved (mpServe s sel) = unserved s := by
  have hs := mpServe_steady s sel
  rw [mpServe_frame] at hs ⊢
  exact congrArg (fun m => (({ sansLoops s with mp := m }, s.led.bits[3]) : State × Word)) hs

theorem mpDrop_unserved (s : State) (owner : Nat) : unserved (mpDrop s owner) = unserved s :=
  (mpServe_unserved ..).trans (mpServe_unserved ..)

/-- An event of another register leaves LEDGER_3 (R415). -/
theorem ledger_sticky3 (s : State) {code : Nat} (unit inst arg : Nat) (h : code < 96) :
    (ledger s code unit inst arg).led.bits[3] = s.led.bits[3] := by
  have hb : (ledger s code unit inst arg).led.bits = vset s.led.bits (code / 32) (vget s.led.bits (code / 32) 0 ||| place (code % 32) 1) :=
    ledgerAt_bit s s.time code (ledSrc unit inst) arg
  have hlt : code / 32 < 4 := by omega
  rw [hb, vset, dif_pos hlt]
  exact Vector.getElem_set_ne _ _ (by omega)

theorem mntEndOf_unserved (s : State) (kind index e : Nat) : unserved (mntEndOf s kind index e) = unserved s := by
  have hloops := mntEndOf_loops s kind index e
  have hmp : (mntEndOf s kind index e).mp = s.mp := (congrArg State.mp hloops :)
  have hbits : (mntEndOf s kind index e).led.bits[3] = s.led.bits[3] := by
    unfold mntEndOf mntEnd
    split
    · split
      · rfl
      · exact ledger_sticky3 _ 0 0 _ (by decide)
    · rfl
  unfold unserved
  rw [hloops, hmp, hbits]

/-- The end of an activity is the arbiter's and the ledger's. -/
theorem mntEndOf_frame (s : State) (kind index e : Nat) : mntEndOf s kind index e = { s with
    mnt := (mntEndOf s kind index e).mnt, led := (mntEndOf s kind index e).led, irqStat := (mntEndOf s kind index e).irqStat } := by
  unfold mntEndOf mntEnd
  split
  · split
    · rfl
    · dsimp only
      rw [ledger_frame]
      rfl
  · rfl

theorem mntStart_frame (s : State) (a : ActSt) : mntStart s a = { s with mnt := (mntStart s a).mnt } := by
  unfold mntStart
  split <;> rfl

theorem plFail_unserved (s : State) (err : Nat) :
    unserved (plFail s err) = unserved { s with pl := { s.pl with state := 6, err := err, loading := false } } :=
  (mntEndOf_unserved ..).trans ((ite_same rfl (mpDrop_unserved ..)).trans rfl)

/-! ## An operation past its limit (R359) -/

/-- The function that asked for an operation is told that it ran past its limit. -/
def timeoutTold (s : State) (sel : Fin 2) (owner : Nat) : State :=
  match owner with
  | 2 => { s with jrn := { s.jrn with writing := none } }
  | 4 =>
    if s.boot.confirming then mntEndOf { s with boot := { s.boot with confirming := false } } 4 0 endFail else plFail s (plTimeoutErr s)
  | 5 =>
    if s.mp.xop = 2 ∨ s.mp.xop = 3 then mntEndOf { s with mp := { s.mp with xstate := 3, xerr := 4 } } 5 sel.val endFail
    else { s with mp := { s.mp with xstate := 3, xerr := 4 } }
  | _ => s

theorem vget_op (s : State) (sel : Fin 2) : vget s.mp.op sel.val none = s.mp.op[sel] := dif_pos sel.isLt

theorem mpTimeout_told {sel : Fin 2} {o : MpOp} (ho : s.mp.op[sel] = some o) (hs : o.suspended = false)
    (ht : mpTimedOut { s with mp := { s.mp with op := s.mp.op.set sel none } } sel.val = t) (hx : t.mp.xop = s.mp.xop) :
    exec (.mpTimeout sel) s = .next (mpServe (timeoutTold t sel o.owner) sel.val) := by
  have hserve : mpServe s sel.val = s := mpServe_busy (by rw [vget_op, ho]; rfl)
  show execMpTimeout sel s = _
  unfold execMpTimeout timeoutTold
  dsimp only
  rw [hserve, ho]
  dsimp only
  rw [hs, if_neg (by decide), ht, ← hx] <;> rfl

/-- What is told touches neither the counts of the port nor the store, the registers and the lanes. -/
theorem timeoutTold_unserved (s : State) (sel : Fin 2) (owner : Nat) : ∃ u, unserved (timeoutTold s sel owner) = unserved u ∧
    u.mp.timeouts = s.mp.timeouts ∧ u.led = s.led ∧ (owner = 5 → u.mp.xstate = 3 ∧ u.mp.xerr = 4) ∧
    (owner = 4 → s.boot.confirming = false → u.pl.state = 6 ∧ u.pl.err = plTimeoutErr s) ∧
    u.store = s.store ∧ u.regs = s.regs ∧ u.lane = s.lane := by
  unfold timeoutTold
  split
  · exact ⟨_, rfl, rfl, rfl, by simp, by simp, rfl, rfl, rfl⟩
  · split
    · next hc => exact ⟨_, mntEndOf_unserved .., rfl, rfl, by simp, by simp [hc], rfl, rfl, rfl⟩
    · exact ⟨_, plFail_unserved .., rfl, rfl, by simp, fun _ _ => ⟨rfl, rfl⟩, rfl, rfl, rfl⟩
  · exact ⟨_, ite_same (mntEndOf_unserved ..) rfl, rfl, rfl, fun _ => ⟨rfl, rfl⟩, by simp, rfl, rfl, rfl⟩
  · next h4 h5 => exact ⟨s, rfl, rfl, rfl, fun h => absurd h h5, fun h => absurd h h4, rfl, rfl, rfl⟩

theorem mpTimeout_runs {sel : Fin 2} {o : MpOp} (ho : s.mp.op[sel] = some o) (hs : o.suspended = false) :
    ∃ t, exec (.mpTimeout sel) s = .next t ∧ t.mp.timeouts = min 255 (s.mp.timeouts + 1) ∧ t.led.bits[3].getLsbD 2 = true ∧
      (o.owner = 5 → t.mp.xstate = 3 ∧ t.mp.xerr = 4) ∧
      (o.owner = 4 → s.boot.confirming = false → t.pl.state = 6 ∧ t.pl.err = (if s.pl.state = 1 then 7 else if s.pl.state = 3 then 8 else 11)) ∧
      t.store = s.store ∧ t.regs = s.regs ∧ t.lane = s.lane := by
  obtain ⟨led, irqStat, hbit, he⟩ := ledger_event3 { s with
    mp := { s.mp with op := s.mp.op.set sel none, timeouts := satAdd 255 s.mp.timeouts 1 } } (code := 98) 12 sel.val 0 (by decide) (by decide)
  obtain ⟨u, hu, htimeouts, hled, hraw, hload, hstore, hregs, hlane⟩ := timeoutTold_unserved { s with
    mp := { s.mp with op := s.mp.op.set sel none, timeouts := satAdd 255 s.mp.timeouts 1 }, led := led, irqStat := irqStat } sel o.owner
  refine ⟨_, mpTimeout_told ho hs he rfl, ?_⟩
  have h := (mpServe_unserved (timeoutTold _ sel o.owner) sel.val).trans hu
  generalize mpServe (timeoutTold _ sel o.owner) sel.val = t at h
  refine ⟨(congrArg (fun q : State × Word => q.1.mp.timeouts) h).trans htimeouts, ?_,
    fun h5 => ⟨(congrArg (fun q : State × Word => q.1.mp.xstate) h).trans (hraw h5).1,
      (congrArg (fun q : State × Word => q.1.mp.xerr) h).trans (hraw h5).2⟩,
    fun h4 hc => ⟨(congrArg (fun q : State × Word => q.1.pl.state) h).trans (hload h4 hc).1,
      (congrArg (fun q : State × Word => q.1.pl.err) h).trans (hload h4 hc).2⟩,
    (congrArg (fun q : State × Word => q.1.store) h).trans hstore, (congrArg (fun q : State × Word => q.1.regs) h).trans hregs,
    (congrArg (fun q : State × Word => q.1.lane) h).trans hlane⟩
  have hsticky : t.led.bits[3] = u.led.bits[3] := congrArg Prod.snd h
  rw [hsticky, hled]
  exact hbit

theorem mpTimeout_suspended {sel : Fin 2} {o : MpOp} (ho : s.mp.op[sel] = some o) (hs : o.suspended = true) :
    exec (.mpTimeout sel) s = .next s := by
  have hserve : mpServe s sel.val = s := mpServe_busy (by rw [vget_op, ho]; rfl)
  show execMpTimeout sel s = _
  unfold execMpTimeout
  dsimp only
  rw [hserve, ho]
  dsimp only
  rw [hs, if_pos rfl]

/-! ## Suspension for a line (R357) -/

theorem mpSuspend_suspends {sel : Fin 2} {o : MpOp} {k : Lane} {ra : Nat} (ho : s.mp.op[sel] = some o) (hn : mpIsNor s sel.val = true)
    (hk : o.kind ≠ .read) (hl : s.lane[k].lineReq = some ra) (hr : selOf ra = sel.val) :
    exec (.mpSuspend sel) s = .next { s with mp := { s.mp with op := s.mp.op.set sel (some { o with suspended := true }) } } := by
  have hwait : lineWaitsOn s sel.val = true :=
    List.any_eq_true.mpr ⟨s.lane[k], by simp, by rw [hl]; simpa using hr⟩
  show execMpSuspend sel s = _
  unfold execMpSuspend
  rw [ho]
  exact congrArg Host.Outcome.next (if_pos ⟨hn, hwait, hk⟩)

theorem mpSuspend_noLine (sel : Fin 2) (h : ∀ j : Lane, s.lane[j].lineReq = none) : exec (.mpSuspend sel) s = .next s := by
  have hwait : lineWaitsOn s sel.val = false := by
    refine List.any_eq_false.mpr fun x hx => ?_
    obtain ⟨i, hi, rfl⟩ := List.mem_iff_getElem.mp hx
    have := h ⟨i, by simpa using hi⟩
    simp_all
  show execMpSuspend sel s = _
  unfold execMpSuspend
  rw [hwait]
  split
  · exact congrArg Host.Outcome.next (if_neg (by simp))
  · rfl

/-! ## A raw operation is asked for (R360) -/

/-- A request that joins the waiting ones, or begins, changes only the port's queue. -/
theorem mpAsk_runs (s : State) (sel owner : Nat) (kind : MpKind) :
    mpAsk s sel owner kind = { s with mp := (mpAsk s sel owner kind).mp } ∧ mpSteady (mpAsk s sel owner kind).mp = mpSteady s.mp :=
  ⟨mpServe_frame .., mpServe_steady ..⟩

/-- On an idle select a raw request begins at once: no other waits, and it calls for none. -/
theorem mpAsk_idle (kind : MpKind) (hsel : sel < 2) (h : MpIdle s sel) :
    vget (mpAsk s sel 5 kind).mp.op sel none = some { owner := 5, kind := kind, suspended := false } := by
  obtain ⟨hv, hl, hw, ho⟩ := h
  obtain ⟨hwait, hdue⟩ := List.append_eq_nil_iff.mp hw
  have hlines : lineWaits s = false := by
    refine List.any_eq_false.mpr fun x hx => ?_
    obtain ⟨i, hi, rfl⟩ := List.mem_iff_getElem.mp hx
    have := hl ⟨i, by simpa using hi⟩
    simp_all
  generalize hu : ({ s with mp := { s.mp with wait := s.mp.wait ++ [{ sel := sel, owner := 5, kind := kind }] } } : State) = u
  have hhas : ∀ c, c ≠ 5 → mpHas u c = mpHas s c := fun c hc => by
    subst hu
    simp [mpHas, Ne.symm hc]
  have hdue' : mpDue u = [] := by
    rw [← hdue]
    unfold mpDue
    rw [hhas 3 (by decide), hhas 6 (by decide)]
    subst hu
    rfl
  have hwaiting : mpWaiting u = [{ sel := sel, owner := 5, kind := kind }] := by
    rw [mpWaiting, hdue', ← hu, hwait]
    rfl
  have hask : mpAsk s sel 5 kind = mpStart u { sel := sel, owner := 5, kind := kind } := by
    unfold mpAsk
    rw [hu, mpServe, hwaiting, if_neg]
    · simp [mpBest]
    · subst hu
      simp only [mpPowered, hv, lineWaits] at hlines ⊢
      simp [hlines, ho]
  rw [hask, mpStart, vget, dif_pos hsel, vset, dif_pos hsel]
  exact Vector.getElem_set_self ..

/-- What MPXCTL starts. -/
def mpxKind (op : Nat) : MpKind := if op = 2 then .program else if op = 3 then .erase else .read

theorem mpxWrite_runs (s : State) (p : Port) {w : Word} {op n : Nat} (hop : fieldOf w 0 3 = op) (hn : fieldOf w 8 8 = n) :
    ∃ mp mnt, mpxWrite s p w = { s with mp := mp, mnt := mnt } ∧ (op ≠ 2 → op ≠ 3 → mnt = s.mnt) ∧
      mpSteady mp = mpSteady { s.mp with xstate := 1, xerr := 0, xop := op, xaddr := mpxAddr s, xn := n } ∧
      (MpIdle s (selOf (mpxAddr s)) →
        vget mp.op (selOf (mpxAddr s)) none = some { owner := 5, kind := mpxKind op, suspended := false }) := by
  have hstart : ∃ mnt, (if op = 2 ∨ op = 3 then mntStart s (mpxAct s p op n) else s) = { s with mnt := mnt } ∧
      (op ≠ 2 → op ≠ 3 → mnt = s.mnt) := by
    split
    · next h => exact ⟨_, mntStart_frame .., fun h2 h3 => absurd h (by simp [h2, h3])⟩
    · exact ⟨_, rfl, fun _ _ => rfl⟩
  obtain ⟨mnt, hmnt, hkeep⟩ := hstart
  have hsel : selOf (mpxAddr s) < 2 := by unfold selOf; split <;> decide
  have hx : mpxWrite s p w = mpAsk { s with mp := { s.mp with xstate := 1, xerr := 0, xop := op, xaddr := mpxAddr s, xn := n }, mnt := mnt }
      (selOf (mpxAddr s)) 5 (mpxKind op) := by
    unfold mpxWrite
    dsimp only
    rw [hop, hn, hmnt]
    rfl
  rw [hx]
  obtain ⟨hframe, hsteady⟩ := mpAsk_runs { s with mp := { s.mp with xstate := 1, xerr := 0, xop := op, xaddr := mpxAddr s, xn := n }, mnt := mnt }
      (selOf (mpxAddr s)) 5 (mpxKind op)
  exact ⟨_, mnt, hframe, hkeep, hsteady, fun h => mpAsk_idle (mpxKind op) hsel h⟩

/-! ## An accepted write of MPXCTL (R339, R360) -/

/-- An accepted write of a register of page 2 or above, which is the owner's: the register's effect, the port's record and the owner timer (R339, R386, R390). -/
theorem hostWrite_owned {p : Port} {page off : Nat} {w : Word} (h : Accepted s p (writeOf page off [w])) (hpage : 2 ≤ page) {u : State}
    (hu : regWrite (sendEcho s p) p page off w = u) (hport : u.port = (sendEcho s p).port) (hown : u.own = s.own) (hmono : u.mono = s.mono) :
    ∃ port, hostWrite s p page off [w] = { u with port := port, own := { s.own with timerAt := s.mono } } ∧
      ∀ t : State, t.port = port → Answered s t p := by
  have hser : hostWrite s p page off [w] = frameEnd u p (writeOf page off [w]) 0 false [0, 0] (writeOf page off [w]).words := by
    unfold hostWrite hostFrame
    rw [show portInert s p = false from h.1, if_neg (by simp), show frameCode s p (checkedFrame 1 page off [w]) = 0 from h.2, ← hu]
    show resetLast (frameEnd (mboxCount _ page _) ..) page _ = _
    rw [resetLast, if_neg (by omega), mboxCount, if_neg (by omega)]
    rfl
  have howner : isOwner u p = true := by
    have hm := mayWrite_of_accepted h
    rw [mayWrite, decide_eq_false (show ¬ page = 0 by omega), decide_eq_false (show ¬ page = 1 by omega)] at hm
    simpa [isOwner, hown] using hm
  obtain ⟨x, hx, hlast, hseq, hok, hrej, htmo⟩ := frameEnd_owner howner (writeOf page off [w]) [0, 0] (writeOf page off [w]).words
  have hp : u.port[p] = { s.port[p] with echo := portEcho s p } := (congrArg (fun v : Vector PortSt 3 => v[p]) hport).trans (vmod_same ..)
  rw [hp] at hseq hok hrej htmo
  refine ⟨_, hser.trans (by rw [hx, hown, hmono]), fun t ht => ?_⟩
  have htp : t.port[p] = x := by rw [ht]; exact Vector.getElem_set_self ..
  rw [Answered, htp]
  refine ⟨hlast, hseq, hok, hrej, htmo, fun q hq => ?_⟩
  have hset : t.port[q] = u.port[q] := by
    rw [ht]
    exact Vector.getElem_set_ne _ _ fun hv => hq (Fin.ext hv.symm)
  exact hset.trans ((congrArg (fun v : Vector PortSt 3 => v[q]) hport).trans (vmod_other _ _ hq))

/-! ## MPXCTL's fields -/

/-- The word of MPXCTL: its key in [31:24], the words in [15:8], the op in [2:0]. -/
theorem keyed_bit (op n : Nat) (key : Byte) (i : Nat) : (keyed key (place 0 op ||| place 8 n)).getLsbD i =
    (decide (i < 32) && (decide (24 ≤ i) && key.toNat.testBit (i - 24) || (op.testBit i || decide (8 ≤ i) && n.testBit (i - 8)))) := by
  rw [keyed, BitVec.getLsbD_or, BitVec.getLsbD_or, place_bit, place_bit, place_bit]
  cases decide (i < 32) <;> simp

theorem fieldOf_lt (w : Word) (lo n : Nat) : fieldOf w lo n < 2 ^ n := Nat.mod_lt _ (Nat.two_pow_pos n)

theorem mpxWord_op {op : Nat} (n key : Byte) (h : op < 8) : fieldOf (keyed key (place 0 op ||| place 8 n.toNat)) 0 3 = op := by
  have hbits : BitVec.ofNat 3 (fieldOf (keyed key (place 0 op ||| place 8 n.toNat)) 0 3) = BitVec.ofNat 3 op := by
    refine (fieldOf_bits ..).trans (BitVec.eq_of_getLsbD_eq fun i hi => ?_)
    rw [BitVec.getLsbD_extractLsb', keyed_bit, BitVec.getLsbD_ofNat]
    simp [hi, show i < 32 by omega, show ¬ 24 ≤ i by omega, show ¬ 8 ≤ i by omega]
  have := congrArg BitVec.toNat hbits
  rwa [BitVec.toNat_ofNat, BitVec.toNat_ofNat, Nat.mod_eq_of_lt (fieldOf_lt ..), Nat.mod_eq_of_lt h] at this

theorem mpxWord_count {op : Nat} (n key : Byte) (h : op < 8) : fieldOf (keyed key (place 0 op ||| place 8 n.toNat)) 8 8 = n.toNat := by
  have hbits : BitVec.ofNat 8 (fieldOf (keyed key (place 0 op ||| place 8 n.toNat)) 8 8) = n := by
    refine (fieldOf_bits ..).trans (BitVec.eq_of_getLsbD_eq fun i hi => ?_)
    have hop : op.testBit (8 + i) = false := Nat.testBit_lt_two_pow (h.trans_le (Nat.pow_le_pow_right (n := 2) (by decide) (show 3 ≤ 8 + i by omega)))
    rw [BitVec.getLsbD_extractLsb', keyed_bit, hop]
    simp [hi, show 8 + i < 32 by omega, show ¬ 24 ≤ 8 + i by omega, BitVec.testBit_toNat]
  have := congrArg BitVec.toNat hbits
  rwa [BitVec.toNat_ofNat, Nat.mod_eq_of_lt (fieldOf_lt ..)] at this

/-- What an accepted word of MPXCTL does: a raw operation of this op, with what its command names, waits or begins (R360). -/
theorem mpxctl_runs {p : Port} {w : Word} {op n : Nat} (h : Accepted s p (writeOf 21 0x11 [w])) (hop : fieldOf w 0 3 = op)
    (hn : fieldOf w 8 8 = n) : ∃ t, hostWrite s p 21 0x11 [w] = t ∧ Took s t p ∧
      (t.mp.xstate = 1 ∧ t.mp.xerr = 0 ∧ t.mp.xop = op ∧ t.mp.xaddr = mpxAddr s ∧ t.mp.xn = n) ∧
      (MpIdle s (selOf (mpxAddr s)) →
        vget t.mp.op (selOf (mpxAddr s)) none = some { owner := 5, kind := mpxKind op, suspended := false }) ∧
      t = { s with mp := t.mp, mnt := t.mnt, port := t.port, own := t.own } ∧ (op ≠ 2 → op ≠ 3 → t.mnt = s.mnt) := by
  obtain ⟨mp, mnt, hx, hmnt, hsteady, hidle⟩ := mpxWrite_runs (sendEcho s p) p hop hn
  obtain ⟨port, hrun, hans⟩ := hostWrite_owned h (by decide) (show regWrite (sendEcho s p) p 21 0x11 w = _ from hx) rfl rfl rfl
  exact ⟨_, hrun, ⟨hans _ rfl, rfl⟩,
    ⟨(congrArg MpSt.xstate hsteady :), (congrArg MpSt.xerr hsteady :), (congrArg MpSt.xop hsteady :), (congrArg MpSt.xaddr hsteady :),
      (congrArg MpSt.xn hsteady :)⟩, hidle, rfl, hmnt⟩

/-! ## A raw operation ends (R360) -/

theorem mpRuns_iff {owner : Nat} : mpRuns s sel owner = true ↔ MpBusy s sel owner := by
  unfold mpRuns MpBusy mpPowered
  cases vget s.mp.op sel none with
  | none => simp
  | some o =>
    obtain ⟨own, kind, suspended⟩ := o
    simp
    tauto

/-- What a raw operation that runs leaves at its end: the effect of its error, the port's result, and for a PROGRAM or an ERASE the end of its activity. -/
theorem mpxDone_runs {err : BitVec 3} {id : Word} {e : Nat} {u : State} (h1 : s.mp.xstate = 1) (hb : MpBusy s (selOf s.mp.xaddr) 5)
    (he : (if mpType s (selOf s.mp.xaddr) = 0 then 5 else err.toNat) = e)
    (hu : (if e = 0 then mpxApply s id else mpxCount s (selOf s.mp.xaddr) e) = u) : ∃ t, exec (.mpxDone err id) s = .next t ∧
      mpSteady t.mp = mpSteady { u.mp with xstate := if e = 0 then 2 else 3, xerr := e } ∧
      t = { u with mp := t.mp, mnt := t.mnt, led := t.led, irqStat := t.irqStat } ∧
      (s.mp.xop ≠ 2 → s.mp.xop ≠ 3 → t = { u with mp := t.mp }) := by
  have hserve : mpServe s (selOf s.mp.xaddr) = s := mpServe_busy (by obtain ⟨-, kind, hop⟩ := hb; rw [hop]; rfl)
  have hgo : ¬ (decide (s.mp.xstate ≠ 1) || !mpRuns s (selOf s.mp.xaddr) 5) = true := by simp [h1, mpRuns_iff.mpr hb]
  have hsteady := mpServe_steady { u with mp := { u.mp with
    xstate := if e = 0 then 2 else 3, xerr := e, op := vset u.mp.op (selOf s.mp.xaddr) none } } (selOf s.mp.xaddr)
  have hframe := mpServe_frame { u with mp := { u.mp with
    xstate := if e = 0 then 2 else 3, xerr := e, op := vset u.mp.op (selOf s.mp.xaddr) none } } (selOf s.mp.xaddr)
  show ∃ t, execMpxDone err id s = .next t ∧ _
  unfold execMpxDone
  dsimp only
  rw [hserve, if_neg hgo, he, hu]
  unfold mpFinish
  generalize mpServe _ _ = v at hsteady hframe ⊢
  have hv : v = { u with mp := v.mp } := hframe
  split
  · next hop =>
    have hend := mntEndOf_frame v 5 (selOf s.mp.xaddr) (if e = 0 then endPass else endFail)
    generalize mntEndOf v 5 _ _ = t at hend ⊢
    refine ⟨t, rfl, ?_, ?_, fun h2 h3 => absurd hop (by simp [h2, h3])⟩
    · rw [hend]
      exact hsteady
    · rw [hend, hv]
  · exact ⟨v, rfl, hsteady, by rw [hv], fun _ _ => hv⟩

/-- The words of a range of store bytes. -/
theorem wordsBe_memTake (m : Memory) (a n : Nat) :
    wordsBe (memTake 0xFF m a (4 * n)) = (List.range n).map fun i => BitVec.ofNat 32 (beAt m (a + 4 * i) 4) := by
  induction n generalizing a with
  | zero => rfl
  | succ n ih =>
    have hfirst : wordsBe (memTake 0xFF m a (4 * (n + 1))) = BitVec.ofNat 32 (beAt m a 4) :: wordsBe (memTake 0xFF m (a + 4) (4 * n)) := rfl
    rw [hfirst, ih, List.range_succ_eq_map, List.map_cons, List.map_map]
    refine congrArg (_ :: ·) (List.map_congr_left fun i _ => ?_)
    rw [Function.comp, show a + 4 * i.succ = a + 4 + 4 * i by omega]

/-- A register below those put keeps its word. -/
theorem rmGet_putWords_below (ws : List Word) {m : RegMap} {key j : Nat} (hm : amWf 0 m = true) (h : j < key) :
    rmGet (putWords m key ws) j = rmGet m j := by
  induction ws generalizing m key with
  | nil => rfl
  | cons w ws ih => exact (ih (amWf_amSet key w hm) (by omega)).trans (amGet_amSet_other (by omega) w hm)

/-- The words put are read back. -/
theorem rmGet_putWords (ws : List Word) {m : RegMap} {key i : Nat} (hm : amWf 0 m = true) (h : i < ws.length) :
    rmGet (putWords m key ws) (key + i) = ws[i] := by
  induction ws generalizing m key i with
  | nil => simp at h
  | cons w ws ih =>
    have hw := amWf_amSet key w hm
    cases i with
    | zero => exact (rmGet_putWords_below ws hw (by omega)).trans (amGet_amSet_same key w hm)
    | succ i =>
      have := ih (key := key + 1) (i := i) hw (by simpa using h)
      rwa [show key + 1 + i = key + (i + 1) by omega] at this

/-- A READ that succeeds puts the store's words in the buffer (R360). -/
theorem mpxApply_read (s : State) (id : Word) (h : s.mp.xop = 1) : mpxApply s id = { s with
    regs := putWords s.regs (regKey 21 0x100) ((List.range s.mp.xn).map fun i => BitVec.ofNat 32 (beAt s.store (s.mp.xaddr + 4 * i) 4)) } := by
  rw [← wordsBe_memTake]
  unfold mpxApply
  rw [h]
  rfl

theorem mpxApply_erase (s : State) (id : Word) (h : s.mp.xop = 3) :
    mpxApply s id = storeErase s s.mp.xaddr (s.mp.xaddr + eraseUnit s (selOf s.mp.xaddr)) := by
  unfold mpxApply
  rw [h]
  rfl

theorem mpxApply_readid (s : State) (id : Word) (h : s.mp.xop = 4) : mpxApply s id = { s with regs := rmSet s.regs (regKey 21 0x100) id } := by
  unfold mpxApply
  rw [h]
  rfl

/-- An erased range reads as nothing written, and every other address as before. -/
theorem memGet_amErase {m : Memory} (hm : Memory.wf 0xFF m = true) (lo hi j : Nat) :
    memGet 0xFF (amErase m lo hi) j = if lo ≤ j ∧ j < hi then 0xFF else memGet 0xFF m j := by
  split
  · next h => exact amGet_filter_out _ (by simpa using h) m
  · next h => exact amGet_filter_in _ (by simp; omega) hm

/-- An uncorrectable read counts, and MP_READ_ERROR is recorded in LEDGER_3 (R359). -/
theorem mpReadError_runs (s : State) (sel addr : Nat) : ∃ led irqStat, led.bits[3].getLsbD 3 = true ∧
    mpReadError s sel addr = { s with mp := { s.mp with readErr := min 255 (s.mp.readErr + 1) }, led := led, irqStat := irqStat } := by
  obtain ⟨led, irqStat, hbit, he⟩ := ledger_event3 { s with mp := { s.mp with readErr := satAdd 255 s.mp.readErr 1 } } (code := 99) 12 sel addr
    (by decide) (by decide)
  exact ⟨led, irqStat, hbit, he⟩

theorem mpxDone_readid (id : Word) (hregs : amWf 0 s.regs = true) (h1 : s.mp.xstate = 1) (hb : MpBusy s (selOf s.mp.xaddr) 5)
    (ht : mpType s (selOf s.mp.xaddr) ≠ 0) (hop : s.mp.xop = 4) : ∃ t, exec (.mpxDone 0 id) s = .next t ∧ cfgWord t 21 0x100 = id ∧
      t.mp.xstate = 2 ∧ t.mp.xerr = 0 ∧ (∀ k, k ≠ regKey 21 0x100 → rmGet t.regs k = rmGet s.regs k) ∧
      t = { s with regs := t.regs, mp := t.mp } := by
  obtain ⟨t, hrun, hsteady, -, hframe⟩ := mpxDone_runs (err := 0) (e := 0) h1 hb (if_neg ht) ((if_pos rfl).trans (mpxApply_readid s id hop))
  have hf := hframe (by simp [hop]) (by simp [hop])
  have hr : t.regs = rmSet s.regs (regKey 21 0x100) id := (congrArg State.regs hf :)
  refine ⟨t, hrun, ?_, (congrArg MpSt.xstate hsteady :), (congrArg MpSt.xerr hsteady :), fun k hk => ?_, ?_⟩
  · rw [cfgWord, hr]
    exact amGet_amSet_same _ id hregs
  · rw [hr]
    exact amGet_amSet_other hk id hregs
  · rw [hr]
    exact hf

theorem mpxDone_read (id : Word) (i : Nat) (hregs : amWf 0 s.regs = true) (h1 : s.mp.xstate = 1) (hb : MpBusy s (selOf s.mp.xaddr) 5)
    (ht : mpType s (selOf s.mp.xaddr) ≠ 0) (hop : s.mp.xop = 1) : ∃ t, exec (.mpxDone 0 id) s = .next t ∧ t.mp.xstate = 2 ∧ t.mp.xerr = 0 ∧
      (i < s.mp.xn → cfgWord t 21 (0x100 + i) = BitVec.ofNat 32 (beAt s.store (s.mp.xaddr + 4 * i) 4)) ∧
      t = { s with regs := t.regs, mp := t.mp } := by
  obtain ⟨t, hrun, hsteady, -, hframe⟩ := mpxDone_runs (err := 0) (e := 0) h1 hb (if_neg ht) ((if_pos rfl).trans (mpxApply_read s id hop))
  have hf := hframe (by simp [hop]) (by simp [hop])
  have hr : t.regs = _ := (congrArg State.regs hf :)
  refine ⟨t, hrun, (congrArg MpSt.xstate hsteady :), (congrArg MpSt.xerr hsteady :), fun hi => ?_, ?_⟩
  · rw [cfgWord, hr, show regKey 21 (0x100 + i) = regKey 21 0x100 + i from (Nat.add_assoc ..).symm,
      rmGet_putWords _ hregs (by simpa using hi), List.getElem_map, List.getElem_range]
  · rw [hr]
    exact hf

theorem mpxDone_uncorrectable (id : Word) (h1 : s.mp.xstate = 1) (hb : MpBusy s (selOf s.mp.xaddr) 5)
    (ht : mpType s (selOf s.mp.xaddr) ≠ 0) (hop : s.mp.xop = 1) : ∃ t, exec (.mpxDone 3 id) s = .next t ∧
      t.mp.readErr = min 255 (s.mp.readErr + 1) ∧ t.mp.xstate = 3 ∧ t.mp.xerr = 3 ∧ t.led.bits[3].getLsbD 3 = true ∧
      t = { s with mp := t.mp, led := t.led, irqStat := t.irqStat } := by
  obtain ⟨led, irqStat, hbit, he⟩ := mpReadError_runs s (selOf s.mp.xaddr) s.mp.xaddr
  obtain ⟨t, hrun, hsteady, -, hframe⟩ := mpxDone_runs (err := 3) (id := id) (e := 3) h1 hb (if_neg ht) ((if_neg (by decide)).trans he)
  have hf := hframe (by simp [hop]) (by simp [hop])
  have hled : t.led = led := (congrArg State.led hf :)
  have hirq : t.irqStat = irqStat := (congrArg State.irqStat hf :)
  refine ⟨t, hrun, (congrArg MpSt.readErr hsteady :), (congrArg MpSt.xstate hsteady :), (congrArg MpSt.xerr hsteady :), ?_, ?_⟩
  · rw [hled]
    exact hbit
  · rw [hled, hirq]
    exact hf

theorem mpxDone_erase (id : Word) (i : Nat) (hstore : Memory.wf 0xFF s.store = true) (h1 : s.mp.xstate = 1)
    (hb : MpBusy s (selOf s.mp.xaddr) 5) (ht : mpType s (selOf s.mp.xaddr) ≠ 0) (hop : s.mp.xop = 3) :
    ∃ t, exec (.mpxDone 0 id) s = .next t ∧ t.mp.xstate = 2 ∧
      (s.mp.xaddr ≤ i → i < s.mp.xaddr + eraseUnit s (selOf s.mp.xaddr) → memGet 0xFF t.store i = 0xFF) ∧
      ((i < s.mp.xaddr ∨ s.mp.xaddr + eraseUnit s (selOf s.mp.xaddr) ≤ i) → memGet 0xFF t.store i = memGet 0xFF s.store i) ∧
      t = { s with store := t.store, mp := t.mp, mnt := t.mnt, led := t.led, irqStat := t.irqStat } := by
  obtain ⟨t, hrun, hsteady, hf, -⟩ := mpxDone_runs (err := 0) (e := 0) h1 hb (if_neg ht) ((if_pos rfl).trans (mpxApply_erase s id hop))
  have hs : t.store = amErase s.store s.mp.xaddr (s.mp.xaddr + eraseUnit s (selOf s.mp.xaddr)) := (congrArg State.store hf :)
  refine ⟨t, hrun, (congrArg MpSt.xstate hsteady :), fun hlo hhi => ?_, fun hout => ?_, ?_⟩
  · rw [hs, memGet_amErase hstore, if_pos ⟨hlo, hhi⟩]
  · rw [hs, memGet_amErase hstore, if_neg (by omega)]
  · rw [hs]
    exact hf

/-- An absent select fails with NO_STORE. -/
theorem mpxDone_noStore (id : Word) (h1 : s.mp.xstate = 1) (hb : MpBusy s (selOf s.mp.xaddr) 5)
    (ht : mpType s (selOf s.mp.xaddr) = 0) (hop : s.mp.xop = 1) : ∃ t, exec (.mpxDone 0 id) s = .next t ∧ t.mp.xstate = 3 ∧ t.mp.xerr = 5 ∧
      t = { s with mp := t.mp } := by
  obtain ⟨t, hrun, hsteady, -, hframe⟩ := mpxDone_runs (err := 0) (id := id) (e := 5) h1 hb (if_pos ht) (if_neg (by decide))
  exact ⟨t, hrun, (congrArg MpSt.xstate hsteady :), (congrArg MpSt.xerr hsteady :), hframe (by simp [hop]) (by simp [hop])⟩

/-- Another's operation on the select, or one that does not run, is not the raw one's end. -/
theorem mpxDone_notRunning (id : Word) (hb : ¬ MpBusy s (selOf s.mp.xaddr) 5) (ho : (vget s.mp.op (selOf s.mp.xaddr) none).isSome = true) :
    exec (.mpxDone 0 id) s = .next s := by
  have hnot : mpRuns s (selOf s.mp.xaddr) 5 = false := Bool.eq_false_iff.mpr fun h => hb (mpRuns_iff.mp h)
  show execMpxDone 0 id s = _
  unfold execMpxDone
  dsimp only
  rw [mpServe_busy ho, hnot, if_pos (by simp)]

/-- Settles O39: the clauses one by one; a raw operation's start is `mpxctl_runs` and its end `mpxDone_runs`. -/
theorem peerAndMemoryPort : Obligations.PeerAndMemoryPort := by
  intro s p sel coll i reply n id o ws k ra x hregs hstore hx
  subst hx
  refine ⟨peerPush_taken reply, fun hb hv hc => ⟨_, peerPush_collides reply hb hv hc, pushFault_runs s _ (by decide) (by decide)⟩,
    fun hv => ⟨peerPush_noRail coll reply hv, ppStall_noRail hv⟩,
    fun hb hv => ⟨_, ppStall_faults hb hv, pushFault_runs s _ (by decide) (by decide)⟩,
    mpTimeout_runs, mpTimeout_suspended, mpSuspend_suspends, mpSuspend_noLine sel, fun h => ?_, fun h => ?_, fun h => ?_, fun h => ?_,
    fun h1 hb ht => ⟨mpxDone_readid id hregs h1 hb ht, fun hop _ => mpxDone_read id i hregs h1 hb ht hop, mpxDone_uncorrectable id h1 hb ht,
      mpxDone_erase id i hstore h1 hb ht⟩,
    mpxDone_noStore id, mpxDone_notRunning id⟩
  · obtain ⟨t, hrun, htook, ⟨hstate, herr, hop, haddr, hn⟩, hidle, hframe, hmnt⟩ := mpxctl_runs h (mpxWord_op n _ (by decide)) (mpxWord_count n _ (by decide))
    rw [hmnt (by decide) (by decide)] at hframe
    exact ⟨t, congrArg Host.Outcome.next hrun, htook, hstate, herr, hop, haddr, hn, hidle, hframe⟩
  · obtain ⟨t, hrun, htook, ⟨hstate, -, hop, haddr, hn⟩, hidle, hframe, -⟩ := mpxctl_runs h (mpxWord_op n _ (by decide)) (mpxWord_count n _ (by decide))
    exact ⟨t, congrArg Host.Outcome.next hrun, htook, hstate, hop, haddr, hn, hidle, hframe⟩
  · obtain ⟨t, hrun, htook, ⟨hstate, -, hop, haddr, -⟩, hidle, hframe, -⟩ := mpxctl_runs (op := 3) (n := 0) h (by decide) (by decide)
    exact ⟨t, congrArg Host.Outcome.next hrun, htook, hstate, hop, haddr, hidle, hframe⟩
  · obtain ⟨t, hrun, htook, ⟨hstate, herr, hop, haddr, hn⟩, hidle, hframe, hmnt⟩ := mpxctl_runs (op := 4) (n := 0) h (by decide) (by decide)
    rw [hmnt (by decide) (by decide)] at hframe
    exact ⟨t, congrArg Host.Outcome.next hrun, htook, hstate, herr, hop, haddr, hn, hidle, hframe⟩
end
end Sys2Proof.Machine

namespace Sys2Proof.Machine

/-! ## Entering reset (R66, R68, R71, R85, R421) -/

section
variable {s : State} {p : Port} {src : Nat} {w : Word}

theorem dieClear_pwr (s : State) (d : Die) (b : Bool) : (dieClear s d b).pwr = s.pwr := by
  unfold dieClear
  generalize chans16 = ks
  split
  · rfl
  · exact (congrArg State.pwr (foldl_same loopReset_loops ks _) :)

/-- A die that loses barrier power clears its bit of BPWR, and nothing else of the power registers. -/
theorem diePowerOff_pwr (s : State) (d : Die) : (diePowerOff s d).pwr = { s.pwr with bpwr := s.pwr.bpwr &&& ~~~(bit5 d) } := by
  have habort : (abortOnDie s d).pwr = s.pwr := (congrArg State.pwr (sansDie_frame (abortOnDie_sans s d)) :)
  rw [← habort]
  exact dieClear_pwr _ d false

theorem diesOff_bit (l : List Die) (s : State) (e : Die) :
    (l.foldl diePowerOff s).pwr.bpwr.getLsbD e.val = (powered s e && decide (e ∉ l)) := by
  induction l generalizing s with
  | nil => simp [powered]
  | cons d l ih =>
    have hd : powered (diePowerOff s d) e = (powered s e && decide (e ≠ d)) := by
      rw [powered, diePowerOff_pwr, BitVec.getLsbD_and, BitVec.getLsbD_not, bit5_bit]
      simp [powered]
    rw [List.foldl_cons, ih, hd]
    simp [Bool.and_assoc]

/-- A POR takes barrier power from every die that has it (R68). -/
theorem diesOff_bpwr (s : State) : ((dies5.filter (powered s)).foldl diePowerOff s).pwr.bpwr = 0 := by
  refine BitVec.eq_of_getLsbD_eq fun i hi => ?_
  have hbit := diesOff_bit (dies5.filter (powered s)) s ⟨i, hi⟩
  cases hp : powered s ⟨i, hi⟩ with
  | false => simpa [hp] using hbit
  | true => simpa [hp, mem_dies5] using hbit

theorem endChainTest_led (s : State) (k : Chan) : (endChainTest s k).led = s.led :=
  ite_same (π := State.led) (ite_same (π := State.led) rfl rfl) rfl

/-- What LD keeps of itself in a reset is not the ledger's. -/
theorem ldKept_led (s : State) : (ldKept s).led = s.led := by
  unfold ldKept
  generalize chans16 = ks
  exact (foldl_same (π := State.led) endChainTest_led ks _).trans (foldl_same
    (fun t k => ite_same (π := State.led) (show (owSwitch t k (dieTime t ldDie)).led = t.led from rfl) rfl) ks s)

/-- The control die at its reset values, with what LD keeps (R66): barrier power, the ledger and what the boot registers keep. -/
theorem ldKept_reset (u : State) (src : Nat) : (ldKept (controlReset u src)).pwr.bpwr = u.pwr.bpwr ∧
    (ldKept (controlReset u src)).led = ledKept (decide (src = 0)) u.led ∧ (ldKept (controlReset u src)).boot = (controlReset u src).boot := by
  have hled := ldKept_led (controlReset u src)
  have hloops := sansLoops_frame (ldKept_loops (controlReset u src))
  generalize ldKept (controlReset u src) = t at hled hloops
  exact ⟨by rw [hloops]; rfl, hled, by rw [hloops]⟩

/-- A POR: barrier power and the ledger stand at their reset values, and no boot has been counted (R68, R421). -/
theorem enterReset_por (s : State) : (enterReset s 0).boot.cause = 1 ∧ (enterReset s 0).boot.bootCnt = 0 ∧
    (enterReset s 0).led = ledReset ∧ (enterReset s 0).pwr.bpwr = 0 := by
  have hoff := diesOff_bpwr s
  unfold enterReset
  rw [if_pos rfl]
  generalize (dies5.filter (powered s)).foldl diePowerOff s = u at hoff
  obtain ⟨hbpwr, hled, hboot⟩ := ldKept_reset u 0
  rw [hbpwr, hled, hboot]
  exact ⟨rfl, rfl, rfl, hoff⟩

/-- Any other reset leaves barrier power, the count of boots, and the ledger's ring and sticky bits (R66, R421). -/
theorem enterReset_keeps (s : State) (h : src ≠ 0) : (enterReset s src).pwr.bpwr = s.pwr.bpwr ∧ (enterReset s src).led.ring = s.led.ring ∧
    (enterReset s src).led.bits = s.led.bits ∧ (enterReset s src).boot.bootCnt = s.boot.bootCnt := by
  unfold enterReset
  rw [if_neg h]
  obtain ⟨hbpwr, hled, hboot⟩ := ldKept_reset s src
  rw [hbpwr, hled, hboot, decide_eq_false h]
  exact ⟨rfl, rfl, rfl, if_neg (by simpa using h)⟩

/-- A write of plain fields changes the register maps alone (R344). -/
theorem plainWrite_maps (s : State) (page off : Nat) (w : Word) :
    ∃ shadow regs, plainWrite s page off w = { s with shadow := shadow, regs := regs } := by
  unfold plainWrite
  split
  · exact ⟨_, _, rfl⟩
  · exact ⟨_, _, rfl⟩

/-- An accepted write of one register of page 0: its effect, the frame's end, and RSTCTL's reset last (R71, R344). -/
theorem hostWrite_page0 {off : Nat} (h : Accepted s p (writeOf 0 off [w])) : hostWrite s p 0 off [w] = resetLast
    (frameEnd (writeSys (sendEcho s p) p off w) p (writeOf 0 off [w]) 0 false [0, 0] (writeOf 0 off [w]).words) 0 [(off, w)] := by
  unfold hostWrite hostFrame
  rw [show portInert s p = false from h.1, if_neg (by simp), show frameCode s p (checkedFrame 1 0 off [w]) = 0 from h.2]
  rfl

/-- What the frame that writes RSTCTL leaves before the reset: all but the register maps, its port and the owner timer. -/
def sansFrame (s : State) : State :=
  { s with shadow := State.reset.shadow, regs := State.reset.regs, port := State.reset.port, own := State.reset.own }

theorem rstctl_enters (h : Accepted s p (writeOf 0 0x11 [w])) :
    ∃ u, sansFrame u = sansFrame s ∧ hostWrite s p 0 0x11 [w] = rstctlWrite u w := by
  have hser := hostWrite_page0 h
  have hsys : writeSys (sendEcho s p) p 0x11 w = plainWrite (sendEcho s p) 0 0x11 w := by simp only [writeSys]
  obtain ⟨shadow, regs, hplain⟩ := plainWrite_maps (sendEcho s p) 0 0x11 w
  rw [resetLast, if_pos rfl, List.find?_cons_of_pos (by simp), hsys, hplain] at hser
  refine ⟨_, ?_, hser⟩
  unfold frameEnd ownerRestart
  exact ite_same rfl rfl

theorem InReset.of_frame {u t : State} (h : InReset u t src) (hu : sansFrame u = sansFrame s) : InReset s t src := by
  obtain ⟨h1, h2, h3, h4, h5, h6, h7, h8, h9, h10, h11, h12, h13, hstore, hvddio, htap, hpending⟩ := h
  exact ⟨h1, h2, h3, h4, h5, h6, h7, h8, h9, h10, h11, h12, h13, hstore.trans (congrArg State.store hu :),
    hvddio.trans (congrArg State.vddio hu :), htap.trans (congrArg State.tap hu :), hpending.trans (congrArg State.pending hu :)⟩

/-- RSTCTL's word names the source of the reset; its effect is that of the source (R71). -/
theorem rstctl_runs (h : Accepted s p (writeOf 0 0x11 [w])) (hw : (if fieldOf w 0 2 = 1 then 2 else 3) = src) (hsrc : src < 6) (h0 : src ≠ 0) :
    InReset s (hostWrite s p 0 0x11 [w]) src ∧ (hostWrite s p 0 0x11 [w]).pwr.bpwr = s.pwr.bpwr ∧
      (hostWrite s p 0 0x11 [w]).led.ring = s.led.ring := by
  obtain ⟨u, hu, hx⟩ := rstctl_enters h
  obtain ⟨hbpwr, hring, -⟩ := enterReset_keeps u h0
  rw [hx, rstctlWrite, hw]
  exact ⟨(enterReset_inReset u hsrc).of_frame hu, hbpwr.trans (congrArg (fun v : State => v.pwr.bpwr) hu :),
    hring.trans (congrArg (fun v : State => v.led.ring) hu :)⟩

/-- Settles O32: what every reset does is `enterReset_inReset`; a POR clears what the others keep. -/
theorem resetEntries : Obligations.ResetEntries := by
  intro s p
  obtain ⟨hbpwr, hring, -⟩ := enterReset_keeps (src := 5) s (by decide)
  exact ⟨⟨_, rfl, enterReset_inReset s (by decide), enterReset_por s⟩,
    ⟨_, rfl, enterReset_inReset s (by decide), enterReset_keeps s (by decide)⟩,
    ⟨_, rfl, enterReset_inReset s (by decide), hbpwr, hring⟩,
    fun h => ⟨_, rfl, rstctl_runs h (by decide) (by decide) (by decide)⟩,
    fun h => ⟨_, rfl, rstctl_runs h (by decide) (by decide) (by decide)⟩⟩
end
end Sys2Proof.Machine

namespace Sys2Proof.Machine

/-! ## ENDCYC (R88, R127, R161, R162) -/

section
variable {s : State} {l k : Lane}

/-- A lane that fetches ENDCYC ends its cycle. -/
theorem endcyc_runs (h : Runs s l (0x28#6 ++ 0#26)) : exec (.endcyc l) s = .next (endCycle s l) := by
  obtain ⟨hrun, hfetch⟩ := h
  show execEndcyc l s = _
  unfold execEndcyc
  dsimp only
  rw [hrun, if_neg (by decide), hfetch]
  exact congrArg Host.Outcome.next (if_pos (by decide))

/-- A lane that has not ended its cycle by vote close (R127). -/
def overruns (m : Bool) (x : LaneSt) : LaneSt :=
  { x with
    run := .halted
    shadowDiff := x.shadowDiff || decide (x.state = 6)
    pendCause := if m = true ∧ x.pendCause = 0 then 2 else x.pendCause }

theorem endCycle_late (h : voteCloseAt s ≤ s.time) :
    endCycle s l = updLane (wdOff s (laneWd l)) l (overruns (memberOf s l)) := by
  unfold endCycle
  dsimp only
  rw [if_pos h, learnCause_eq]
  exact updLane_updLane (wdOff s (laneWd l)) l _ _

/-- In time, only the lane and its capture change (R88, R161). -/
theorem endCycle_inTime (h : s.time < voteCloseAt s) : ∃ cap, endCycle s l = { s with
      lane := vmod s.lane l fun y => { y with run := .done, slack := min y.slack (voteCloseAt s - s.time) }, jrn := { s.jrn with cap := cap } } ∧
    cap[l] = if s.jrn.active ∧ s.jrn.cycle = s.cyc.n then some (memTake 0 s.lane[l].mem 0x20100000 s.boot.retainLen.toNat) else s.jrn.cap[l] := by
  unfold endCycle
  dsimp only
  rw [if_neg (by omega)]
  split
  · exact ⟨_, rfl, Vector.getElem_set_self ..⟩
  · exact ⟨_, rfl, rfl⟩

/-! ## A lane traps (R135, R141, R169) -/

/-- What a trap of a lane at its own PC leaves. -/
theorem laneTrap_trapState (s : State) (l : Lane) (cause code : Nat) (addr : Word) :
    laneTrap s l cause code s.lane[l].pc addr = trapState s l cause code addr := by
  unfold laneTrap
  rw [learnCause_eq]
  exact updLane_updLane (wdOff s (laneWd l)) l _ _

theorem trapState_lane (s : State) (l : Lane) (cause code : Nat) (addr : Word) : (trapState s l cause code addr).lane[l].run = .halted ∧
    (trapState s l cause code addr).lane[l].trap.cause = cause ∧ (trapState s l cause code addr).lane[l].pf = s.lane[l].pf := by
  simp [trapState]

theorem trapState_other (cause code : Nat) (addr : Word) (h : k ≠ l) : (trapState s l cause code addr).lane[k] = s.lane[k] :=
  Vector.getElem_set_ne l.isLt k.isLt fun hv => h (Fin.ext hv.symm)

/-! ## The lines of the window (R173 to R176) -/

/-- A lane that traps because the line that it requests fails its check (R175). -/
def checkTrap (s : State) (l : Lane) : State := laneTrap s l trapXipCheck 0 s.lane[l].pc s.lane[l].lineData

theorem checkTraps_led (ls : List Lane) (s : State) : (ls.foldl checkTrap s).led = s.led :=
  foldl_same (π := State.led) (fun t l => (congrArg State.led (laneTrap_trapState t l ..) :)) ls s

/-- The trapped lanes stand halted with XIP_CHECK, the others as before; no buffer changes. -/
theorem checkTraps_lane (ls : List Lane) (s : State) (k : Lane) : (ls.foldl checkTrap s).lane[k].pf = s.lane[k].pf ∧
    (k ∈ ls ∨ (s.lane[k].run = .halted ∧ s.lane[k].trap.cause = 7) →
      (ls.foldl checkTrap s).lane[k].run = .halted ∧ (ls.foldl checkTrap s).lane[k].trap.cause = 7) ∧
    (k ∉ ls → (ls.foldl checkTrap s).lane[k] = s.lane[k]) := by
  induction ls generalizing s with
  | nil => simp
  | cons l ls ih =>
    obtain ⟨hpf, htrap, hkeep⟩ := ih (checkTrap s l)
    have hstep : checkTrap s l = trapState s l 7 0 s.lane[l].lineData := laneTrap_trapState ..
    rw [hstep] at hpf htrap hkeep
    rw [List.foldl_cons, hstep]
    by_cases hk : k = l
    · subst hk
      obtain ⟨hrun, hcause, hbuf⟩ := trapState_lane s k 7 0 s.lane[k].lineData
      exact ⟨hpf.trans hbuf, fun _ => htrap (.inr ⟨hrun, hcause⟩), fun h => absurd List.mem_cons_self h⟩
    · rw [trapState_other _ _ _ hk] at hpf htrap hkeep
      exact ⟨hpf, fun h => htrap (h.imp_left fun hm => (List.mem_cons.mp hm).resolve_left hk),
        fun h => hkeep fun hm => h (List.mem_cons_of_mem _ hm)⟩

theorem mem_lineWanters {a : Nat} : k ∈ lineWanters s a ↔ s.lane[k].lineReq = some a := by
  have hk : k ∈ lanes3 := by revert k; decide
  simp [lineWanters, hk]

theorem lineWanters_none {a : Nat} (h : ∀ k : Lane, s.lane[k].lineReq ≠ some a) : lineWanters s a = [] :=
  List.eq_nil_iff_forall_not_mem.mpr fun k hk => h k (mem_lineWanters.mp hk)

theorem lineWaits_none (h : ∀ k : Lane, s.lane[k].lineReq = none) : lineWaits s = false := by
  refine List.any_eq_false.mpr fun x hx => ?_
  obtain ⟨i, hi, rfl⟩ := List.mem_iff_getElem.mp hx
  have := h ⟨i, by simpa using hi⟩
  simp_all

/-! ### Buffers (R174) -/

/-- The line delivered stands in the buffer: a full one drops its first line, never the one that has come. -/
theorem bufPut_line (x : LaneSt) (a : Nat) (bs : List Byte) : lineBytes (bufPut x a bs) a = some bs := by
  have hfind : ∀ ls : List (Nat × List Byte), (∀ e ∈ ls, e.1 ≠ a) →
      ((ls ++ [(a, bs)]).find? fun e => decide (e.1 = a)).map (fun e => e.2) = some bs := fun ls h => by
    rw [List.find?_append, List.find?_eq_none.mpr fun e he => by simpa using h e he]
    simp
  have hkeep : ∀ e ∈ x.pf.filter fun e => decide (e.1 ≠ a), e.1 ≠ a := fun e he => of_decide_eq_true (List.mem_filter.mp he).2
  unfold lineBytes bufPut
  dsimp only
  split
  · next h =>
    rw [List.length_append, List.length_singleton] at h
    rw [List.drop_append_of_le_length (by omega)]
    exact hfind _ fun e he => hkeep e (List.mem_of_mem_drop he)
  · exact hfind _ hkeep

theorem bufPut_length (a : Nat) (bs : List Byte) {x : LaneSt} (h : x.pf.length ≤ 64) : (bufPut x a bs).pf.length ≤ 64 := by
  have hkeep := List.length_filter_le (fun e : Nat × List Byte => decide (e.1 ≠ a)) x.pf
  unfold bufPut
  dsimp only
  split
  · rw [List.length_drop, List.length_append, List.length_singleton]
    omega
  · omega

/-! ### The end of a fill (R355 to R357) -/

theorem mpServes_frame (s : State) : mpServe (mpServe s 0) 1 = { s with mp := (mpServe (mpServe s 0) 1).mp } :=
  (mpServe_frame ..).trans (congrArg (fun u : State => { u with mp := (mpServe (mpServe s 0) 1).mp }) (mpServe_frame s 0))

theorem fillEnds_frame (s : State) (sel : Nat) : fillEnds s sel = { s with mp := (fillEnds s sel).mp } := mpServes_frame _

/-- With nothing waiting the port begins nothing. -/
theorem mpServe_nothing (sel : Nat) (h : mpWaiting s = []) : mpServe s sel = s := by
  unfold mpServe
  rw [h]
  exact ite_self s

/-- An entry put back under a view that it does not change leaves the view of the vector. -/
theorem map_vset_vget {α β : Type} {n : Nat} (v : Vector α n) (i : Nat) (d : α) (f : α → α) (p : α → β) (h : ∀ x, p (f x) = p x) :
    (vset v i (f (vget v i d))).map p = v.map p := by
  unfold vset vget
  split
  · rw [Vector.map_set, h, ← Vector.getElem_map p, Vector.set_getElem_self]
  · rfl

/-- Whether a class has an operation depends on the classes that wait and the classes on the selects. -/
theorem mpHas_owners (s : State) (owner : Nat) : mpHas s owner = ((s.mp.wait.any fun r => decide (r.owner = owner)) ||
    (s.mp.op.map (Option.map MpOp.owner)).toList.any fun o => decide (o = some owner)) := by
  unfold mpHas
  rw [Vector.toList_map, List.any_map]
  refine congrArg (_ || s.mp.op.toList.any ·) (funext fun o => ?_)
  cases o with
  | none => rfl
  | some o => simp

/-- An operation whose suspension ends is of its class as before. -/
theorem mpHas_resumed {u : State} (sel owner : Nat) (f : MpOp → MpOp) (hf : ∀ o, (f o).owner = o.owner) (hwait : u.mp.wait = s.mp.wait)
    (hop : u.mp.op = vset s.mp.op sel ((vget s.mp.op sel none).map f)) : mpHas u owner = mpHas s owner := by
  rw [mpHas_owners, mpHas_owners, hwait, hop, map_vset_vget _ _ _ (Option.map f) _ fun o => by cases o <;> simp [hf]]

/-- After a fill with nothing waiting, the stream stands where the fill left it. -/
theorem fillEnds_stream (s : State) (sel : Nat) (h : mpWaiting s = []) : (fillEnds s sel).mp.stream = s.mp.stream := by
  unfold fillEnds
  extract_lets op bit free mp s1
  have hhas : ∀ owner, mpHas s1 owner = mpHas s owner := fun owner =>
    mpHas_resumed sel owner (fun o => { o with suspended := o.suspended && lineWaitsOn s sel }) (fun _ => rfl) rfl rfl
  have hwait : mpWaiting s1 = [] := by
    rw [← h]
    unfold mpWaiting mpDue
    rw [hhas, hhas]
    rfl
  rw [mpServe_nothing 0 hwait, mpServe_nothing 1 hwait]

/-! ### A fill (R174, R175) -/

theorem xipLineFill_runs {addr : Word} {n : Nat} (ok1 ok2 : Bool) (hv : s.vddio.getLsbD 4 = true) (hb : selBlocked s (selOf addr.toNat) = false)
    (hn : lineFetched s addr.toNat = some n) :
    exec (.xipLineFill addr ok1 ok2) s = .next (fillEnds (lineArrives s addr.toNat n (ok1 || ok2)) (selOf addr.toNat)) := by
  show execXipLineFill addr ok1 ok2 s = _
  unfold execXipLineFill
  dsimp only
  rw [hn]
  exact congrArg Host.Outcome.next (if_neg (by simp [mpPowered, hv, hb]))

/-- The line that may be fetched: one that a lane waits for, or the stream's when nothing waits. -/
theorem lineFetched_of {a n : Nat} (h : (∃ w rest, lineWanters s a = w :: rest ∧ n = lineNum s.lane[w] a) ∨
    ((∀ k : Lane, s.lane[k].lineReq = none) ∧ mpWaiting s = [] ∧ s.mp.stream = some (a, n))) : lineFetched s a = some n := by
  unfold lineFetched
  rcases h with ⟨w, rest, hw, rfl⟩ | ⟨hnone, hwait, hstream⟩
  · rw [hw]
  · rw [lineWanters_none fun k => by rw [hnone k]; simp, hstream, lineWaits_none hnone]
    exact if_pos ⟨rfl, rfl, hwait⟩

theorem xipLineFill_good {addr : Word} {n : Nat} {ok1 ok2 : Bool} (hv : s.vddio.getLsbD 4 = true) (hb : selBlocked s (selOf addr.toNat) = false)
    (hn : lineFetched s addr.toNat = some n) (hgood : lineGood s addr.toNat n = true) (hok : (ok1 || ok2) = true)
    (hlen : ∀ k : Lane, s.lane[k].pf.length ≤ 64) : ∃ t, exec (.xipLineFill addr ok1 ok2) s = .next t ∧
      (∀ k : Lane, lineBytes t.lane[k] addr.toNat = some (storeBytes s addr.toNat 32) ∧ t.lane[k].pf.length ≤ 64 ∧
        t.lane[k] = { s.lane[k] with
          pf := t.lane[k].pf
          lineReq := if s.lane[k].lineReq = some addr.toNat then none else s.lane[k].lineReq }) ∧
      (mpWaiting s = [] → t.mp.stream = some ((addr.toNat + 36) % 2 ^ 32, n + 1)) ∧
      t = { s with lane := t.lane, mp := t.mp } := by
  have hrun := xipLineFill_runs ok1 ok2 hv hb hn
  have hstream := fillEnds_stream (lineArrives s addr.toNat n (ok1 || ok2)) (selOf addr.toNat)
  have hframe := fillEnds_frame (lineArrives s addr.toNat n (ok1 || ok2)) (selOf addr.toNat)
  rw [lineArrives, hgood, hok, if_pos (by rfl)] at hrun hstream hframe
  generalize fillEnds _ _ = t at hrun hstream hframe
  refine ⟨t, hrun, fun k => ?_, hstream, by rw [hframe]⟩
  have hk : t.lane[k] = bufPut s.lane[k] addr.toNat (storeBytes s addr.toNat 32) := by
    rw [hframe]
    simp
  rw [hk]
  exact ⟨bufPut_line .., bufPut_length _ _ (hlen k), rfl⟩

theorem xipLineFill_bad {addr : Word} {n : Nat} {ok1 ok2 : Bool} (hv : s.vddio.getLsbD 4 = true) (hb : selBlocked s (selOf addr.toNat) = false)
    (hn : lineFetched s addr.toNat = some n) (hbad : (lineGood s addr.toNat n && (ok1 || ok2)) = false) :
    ∃ t, exec (.xipLineFill addr ok1 ok2) s = .next t ∧ t.led.bits[0].getLsbD 15 = true ∧
      ∀ k : Lane, t.lane[k].pf = s.lane[k].pf ∧
        (s.lane[k].lineReq = some addr.toNat → t.lane[k].run = .halted ∧ t.lane[k].trap.cause = 7) ∧
        (s.lane[k].lineReq ≠ some addr.toNat → t.lane[k] = s.lane[k]) := by
  obtain ⟨led, irqStat, hbit, he⟩ := ledger_event { s with mp := { s.mp with stream := none } } (code := 15) 12 (selOf addr.toNat) addr.toNat
    (by decide)
  have harrive : lineArrives s addr.toNat n (ok1 || ok2) = (lineWanters s addr.toNat).foldl checkTrap
      { s with mp := { s.mp with stream := none }, led := led, irqStat := irqStat } := by
    rw [lineArrives, hbad, if_neg (by decide), he]
    rfl
  have hrun := xipLineFill_runs ok1 ok2 hv hb hn
  rw [harrive] at hrun
  refine ⟨_, hrun, ?_, fun k => ?_⟩
  · rw [fillEnds_frame, checkTraps_led]
    exact hbit
  · obtain ⟨hpf, htrap, hkeep⟩ := checkTraps_lane (lineWanters s addr.toNat)
      { s with mp := { s.mp with stream := none }, led := led, irqStat := irqStat } k
    rw [fillEnds_frame]
    exact ⟨hpf, fun h => htrap (.inl (mem_lineWanters.mpr h)), fun h => hkeep fun hm => h (mem_lineWanters.mp hm)⟩

/-- A line that nobody asks for and that the stream does not stand at is not delivered. -/
theorem xipLineFill_unasked {addr : Word} (ok1 ok2 : Bool) (h : ∀ k : Lane, s.lane[k].lineReq ≠ some addr.toNat) (hs : s.mp.stream = none) :
    exec (.xipLineFill addr ok1 ok2) s = .next s := by
  have hn : lineFetched s addr.toNat = none := by
    rw [lineFetched, lineWanters_none h, hs]
  show execXipLineFill addr ok1 ok2 s = _
  unfold execXipLineFill
  dsimp only
  rw [hn]

/-- Settles O18: ENDCYC by whether vote close has come, a fill by whether its line passes the check. -/
theorem lynEndcycXip : Obligations.LynEndcycXip := by
  refine ⟨fun s l x hx hruns => ⟨fun h => ?_, fun h => ?_⟩, fun s addr ok1 ok2 n hv hb hn => ⟨fun hgood hok hlen => ?_, fun hbad => ?_⟩,
    fun s addr ok1 ok2 h hs => xipLineFill_unasked ok1 ok2 h hs⟩
  · subst hx
    obtain ⟨cap, hend, hcap⟩ := endCycle_inTime (l := l) h
    exact ⟨_, (endcyc_runs hruns).trans (congrArg Host.Outcome.next hend), vmod_same .., hcap, fun k hk => vmod_other _ _ hk, rfl⟩
  · subst hx
    exact ⟨_, (endcyc_runs hruns).trans (congrArg Host.Outcome.next (endCycle_late h)), vmod_same .., fun k hk => vmod_other _ _ hk, rfl⟩
  · exact xipLineFill_good hv hb (lineFetched_of hn) hgood hok hlen
  · exact xipLineFill_bad hv hb (lineFetched_of hn) hbad
end
end Sys2Proof.Machine

namespace Sys2Proof.Machine

/-! ## An accepted frame that any port may send (R335, R339, R390) -/

section
variable {s : State} {p : Port}

/-- A port's record after an accepted frame (R339). -/
def recorded (f : Frame) (so sent : List Word) (x : PortSt) : PortSt :=
  { x with
    last := 0, seq := nextSeq x.seq, crc := checkWord f.cmd f.page f.off sent, count := min 65535 sent.length
    so := so, hold := none, selected := false, okCnt := (x.okCnt + 1) % 65536 }

/-- An accepted frame ends with its record, and the owner's restarts the owner timer (R390). -/
theorem frameEnd_record (u : State) (p : Port) (f : Frame) (so sent : List Word) : frameEnd u p f 0 false so sent =
    { u with
      port := vmod u.port p (recorded f so sent)
      own := { u.own with timerAt := if isOwner u p = true then u.mono else u.own.timerAt } } := by
  have hend : frameEnd u p f 0 false so sent = ownerRestart { u with port := vmod u.port p (recorded f so sent) } p 0 := rfl
  rw [hend, ownerRestart]
  by_cases hown : isOwner u p = true
  · rw [if_pos hown]
    exact if_pos ⟨hown, by decide, by decide⟩
  · rw [if_neg hown]
    exact if_neg fun h => hown h.1

theorem answered_of_recorded {u t : State} {f : Frame} {so sent : List Word} (hport : u.port = (sendEcho s p).port)
    (ht : t.port = vmod u.port p (recorded f so sent)) : Answered s t p := by
  have hecho : u.port[p] = { s.port[p] with echo := portEcho s p } := (congrArg (fun v : Vector PortSt 3 => v[p]) hport).trans (vmod_same ..)
  have hp : t.port[p] = recorded f so sent { s.port[p] with echo := portEcho s p } := by rw [ht, vmod_same, hecho]
  rw [Answered, hp]
  refine ⟨rfl, rfl, rfl, rfl, rfl, fun q hq => ?_⟩
  rw [ht, vmod_other _ _ hq]
  exact (congrArg (fun v : Vector PortSt 3 => v[q]) hport).trans (vmod_other _ _ hq)

/-! ## QUOTE (R83, R84) -/

theorem quoteNext_noneWaits (h : s.attest.waiting = []) : quoteNext s = s := by
  unfold quoteNext
  rw [h]
  split
  · next heq => exact absurd heq (List.cons_ne_nil _ _).symm
  · rfl

/-- A free engine quotes at once. -/
theorem quoteStart_free (nonce : List Word) (hw : s.attest.waiting = []) (ha : s.attest.active = none) : quoteStart s p nonce =
    { s with attest := { s.attest with
      qstate := s.attest.qstate.set p 1, qbuf := s.attest.qbuf.set p [], active := some (p, quoteBody s nonce) } } := by
  unfold quoteStart quoteNext
  dsimp only
  rw [ha, hw]
  rfl

/-- A busy engine quotes it later. -/
theorem quoteStart_busy (nonce : List Word) (hw : s.attest.waiting = []) (ha : s.attest.active.isSome = true) : quoteStart s p nonce =
    { s with attest := { s.attest with
      qstate := s.attest.qstate.set p 1, qbuf := s.attest.qbuf.set p [], waiting := [(p, nonce)] } } := by
  obtain ⟨a, ha⟩ := Option.isSome_iff_exists.mp ha
  unfold quoteStart quoteNext
  dsimp only
  rw [ha, hw]
  rfl

theorem quoteStart_frame (s : State) (p : Port) (nonce : List Word) :
    quoteStart s p nonce = { s with attest := (quoteStart s p nonce).attest } := by
  unfold quoteStart quoteNext
  split <;> rfl

theorem quote_runs {nonce : List Word} (h : Accepted s p { cmd := 6, page := 20, off := 0, words := nonce, part := false })
    (hw : s.attest.waiting = []) : ∃ t, exec (.quote p 20 0 nonce false) s = .next t ∧ Answered s t p ∧
      (s.attest.active = none → t.attest = { s.attest with
        qstate := s.attest.qstate.set p 1, qbuf := s.attest.qbuf.set p [], active := some (p, quoteBody s nonce) }) ∧
      (s.attest.active.isSome = true → t.attest = { s.attest with
        qstate := s.attest.qstate.set p 1, qbuf := s.attest.qbuf.set p [], waiting := [(p, nonce)] }) ∧
      t = { s with attest := t.attest, port := t.port, own := { s.own with timerAt := t.own.timerAt } } := by
  have hser : exec (.quote p 20 0 nonce false) s = .next (frameEnd (quoteStart (sendEcho s p) p nonce) p
      { cmd := 6, page := 20, off := 0, words := nonce, part := false } 0 false (List.replicate nonce.length 0) nonce) := by
    show Host.Outcome.next (hostFrame s p { cmd := 6, page := 20, off := 0, words := nonce, part := false }) = _
    rw [hostFrame, h.1, h.2]
    rfl
  have hframe := quoteStart_frame (sendEcho s p) p nonce
  have hfree := quoteStart_free (s := sendEcho s p) (p := p) nonce hw
  have hbusy := quoteStart_busy (s := sendEcho s p) (p := p) nonce hw
  generalize quoteStart (sendEcho s p) p nonce = u at hser hframe hfree hbusy
  rw [frameEnd_record] at hser
  refine ⟨_, hser, answered_of_recorded (congrArg State.port hframe :) rfl, fun ha => (congrArg State.attest (hfree ha) :),
    fun ha => (congrArg State.attest (hbusy ha) :), ?_⟩
  rw [hframe]
  rfl

/-- A frame that ends inside a word is refused with BAD_LENGTH (row 1 of Table 12.6). -/
theorem quote_part {nonce : List Word} (h : portInert s p = false) :
    ∃ t, exec (.quote p 20 0 nonce true) s = .next t ∧ t.port[p].last = 0x01#8 ∧ t.attest = s.attest := by
  have hser : exec (.quote p 20 0 nonce true) s = .next (frameEnd (sendEcho s p) p
      { cmd := 6, page := 20, off := 0, words := nonce, part := true } 1 false (List.replicate nonce.length 0) nonce) := by
    show Host.Outcome.next (hostFrame s p { cmd := 6, page := 20, off := 0, words := nonce, part := true }) = _
    rw [hostFrame, h]
    rfl
  refine ⟨_, hser, ?_, ?_⟩
  · unfold frameEnd ownerRestart
    dsimp only
    rw [if_neg fun h => h.2.1 rfl, updPort]
    exact congrArg PortSt.last (vmod_same ..)
  · unfold frameEnd ownerRestart
    exact ite_same (π := State.attest) rfl rfl

/-! ## QUOTE_COMPLETE (R9, R84) -/

theorem curveScalar_range (x : Nat) : 0 < curveScalar x ∧ curveScalar x < curveN := by
  have hn : 1 < curveN := by decide
  have hlt := Nat.mod_lt x (show curveN - 1 > 0 by omega)
  unfold curveScalar
  omega

/-- Whatever secret is drawn, it lies in range, and the result is the signature with it. -/
theorem ecdsaDraw_signs (d z n c : Nat) : ∃ k c', 0 < k ∧ k < curveN ∧ ecdsaDraw d z n c = (ecdsaSign d k z, c') := by
  induction n generalizing c with
  | zero => exact ⟨_, _, (curveScalar_range _).1, (curveScalar_range _).2, rfl⟩
  | succ n ih =>
    unfold ecdsaDraw
    dsimp only
    split
    · exact ih (c + 1)
    · exact ⟨_, _, (curveScalar_range _).1, (curveScalar_range _).2, rfl⟩

theorem signature_signs (c : Nat) (msg : List Byte) : ∃ k c', 0 < k ∧ k < curveN ∧ signature c msg =
    (natBe 32 (ecdsaSign privKey k (beNat (sha256 msg))).1 ++ natBe 32 (ecdsaSign privKey k (beNat (sha256 msg))).2, c') := by
  obtain ⟨k, c', h0, hn, hdraw⟩ := ecdsaDraw_signs privKey (beNat (sha256 msg)) 3 c
  refine ⟨k, c', h0, hn, ?_⟩
  unfold signature
  rw [hdraw]

theorem quoteComplete_run {body sig : List Byte} {c : Nat} (ha : s.attest.active = some (p, body)) (hw : s.attest.waiting = [])
    (hsig : signature s.freeCtr body = (sig, c)) : exec (.quoteComplete true) s = .next (irqQuote { s with
      freeCtr := c
      attest := { s.attest with
        active := none, qstate := s.attest.qstate.set p 2, qbuf := s.attest.qbuf.set p (wordsBe (body ++ sig)) } } p) := by
  show execQuoteComplete true s = _
  unfold execQuoteComplete
  rw [ha]
  dsimp only
  rw [hsig]
  exact congrArg Host.Outcome.next (quoteNext_noneWaits hw)

theorem quoteComplete_signed {body : List Byte} (ha : s.attest.active = some (p, body)) (hw : s.attest.waiting = []) :
    ∃ t k, exec (.quoteComplete true) s = .next t ∧ 0 < k ∧ k < curveN ∧
      t.attest = { s.attest with
        active := none, qstate := s.attest.qstate.set p 2
        qbuf := s.attest.qbuf.set p (wordsBe (body ++
          (natBe 32 (ecdsaSign privKey k (beNat (sha256 body))).1 ++ natBe 32 (ecdsaSign privKey k (beNat (sha256 body))).2))) } ∧
      t = { s with attest := t.attest, irqStat := t.irqStat, freeCtr := t.freeCtr } := by
  obtain ⟨k, c, h0, hn, hsig⟩ := signature_signs s.freeCtr body
  exact ⟨_, k, quoteComplete_run ha hw hsig, h0, hn, rfl, rfl⟩

/-- Without random numbers there is no signature: QUOTE_FAIL is recorded (R84). -/
theorem quoteComplete_failed {body : List Byte} (ha : s.attest.active = some (p, body)) (hw : s.attest.waiting = []) :
    ∃ t, exec (.quoteComplete false) s = .next t ∧ t.attest = { s.attest with active := none, qstate := s.attest.qstate.set p 3 } ∧
      t.led.bits[0].getLsbD 18 = true ∧ t = { s with attest := t.attest, led := t.led, irqStat := t.irqStat, freeCtr := t.freeCtr } := by
  obtain ⟨led, irqStat, hbit, he⟩ := ledger_event { s with
    freeCtr := (signature s.freeCtr body).2, attest := { s.attest with active := none, qstate := s.attest.qstate.set p 3 } } (code := 18) 9 p.val 0
    (by decide)
  have hrun : exec (.quoteComplete false) s = .next (irqQuote { s with
      freeCtr := (signature s.freeCtr body).2, attest := { s.attest with active := none, qstate := s.attest.qstate.set p 3 }
      led := led, irqStat := irqStat } p) := by
    show execQuoteComplete false s = _
    unfold execQuoteComplete
    rw [ha]
    refine congrArg Host.Outcome.next ((congrArg (fun u => quoteNext (irqQuote u p)) he).trans ?_)
    exact quoteNext_noneWaits hw
  exact ⟨_, hrun, rfl, hbit, rfl⟩

end
end Sys2Proof.Machine

namespace Sys2Proof.Machine

/-! ## Blocks of bytes in a memory -/

section
variable {d : Byte} {m : Memory} {bs : List Byte} {a j : Nat}

/-- Bytes listed one after another from `a + n` on, the default ones left out: each is read at its place. -/
theorem amGet_zip (d : Byte) (bs : List Byte) (a n i : Nat) (h : i < bs.length) :
    amGet d (((bs.zipIdx n).map fun e => (a + e.2, e.1)).filter fun e => decide (e.2 ≠ d)) (a + n + i) = bs[i] := by
  induction bs generalizing n i with
  | nil => exact absurd h (Nat.not_lt_zero i)
  | cons b bs ih =>
    have hrest := amWfFrom_zip d bs a (n + 1)
    rw [List.zipIdx_cons, List.map_cons, List.filter_cons]
    cases i with
    | zero =>
      split
      · simp [amGet]
      · next hb =>
        have hb : b = d := by simpa using hb
        exact (amGet_below (by omega) hrest).trans hb.symm
    | succ i =>
      have hi := ih (n + 1) i (by simpa using h)
      rw [show a + (n + 1) + i = a + n + (i + 1) by omega] at hi
      split
      · rw [amGet, if_neg (by omega), if_neg (by omega), hi, List.getElem_cons_succ]
      · rw [hi, List.getElem_cons_succ]

theorem zip_below (d : Byte) (bs : List Byte) (a : Nat) :
    ∀ e ∈ (bs.zipIdx.map fun e => (a + e.2, e.1)).filter fun e => decide (e.2 ≠ d), e.1 < a + bs.length := by
  intro e he
  obtain ⟨x, hx, rfl⟩ := List.mem_map.mp (List.mem_filter.mp he).1
  have := List.snd_lt_of_mem_zipIdx hx
  dsimp only
  omega

/-- A block's bytes are read back. -/
theorem memGet_memBlock_inside (hm : Memory.wf d m = true) (i : Nat) (h : i < bs.length) : memGet d (memBlock d m a bs) (a + i) = bs[i] := by
  unfold memGet memBlock
  rw [List.append_assoc, amGet_append_high (b := a) (by omega) (by simp),
    amGet_append_low (b := a + bs.length) (by omega) (amWfFrom_above _ (by simp) hm)]
  exact amGet_zip d bs a 0 i h

/-- Every address outside a block reads as before. -/
theorem memGet_memBlock_outside (hm : Memory.wf d m = true) (h : j < a ∨ a + bs.length ≤ j) :
    memGet d (memBlock d m a bs) j = memGet d m j := by
  have hmid : amWfFrom d a ((bs.zipIdx.map fun e => (a + e.2, e.1)).filter fun e => decide (e.2 ≠ d)) = true := amWfFrom_zip d bs a 0
  have htop : amWfFrom d (a + bs.length) (m.filter fun e => decide (a + bs.length ≤ e.1)) = true := amWfFrom_above _ (by simp) hm
  unfold memGet memBlock
  rw [List.append_assoc]
  rcases h with h | h
  · rw [amGet_append_low h (amWfFrom_append hmid (zip_below d bs a) (by omega) htop)]
    exact amGet_filter_in _ (fun _ => decide_eq_true h) hm
  · rw [amGet_append_high (b := a) (by omega) (by simp), amGet_append_high h (zip_below d bs a)]
    exact amGet_filter_in _ (fun _ => decide_eq_true h) hm
end

section
variable {s : State} {p : Port}

/-! ## CONFIRM (R69, R74, R76) -/

theorem bootctlWrite_confirm (s : State) (p : Port) : ∃ mnt mp, bootctlWrite s p 1#32 =
    { s with boot := { s.boot with confirming := s.boot.confirming || s.boot.trial }, mnt := mnt, mp := mp } := by
  unfold bootctlWrite
  have hbit : bitOf 1#32 0 = true := by decide
  cases htrial : s.boot.trial with
  | false => exact ⟨s.mnt, s.mp, by rw [if_neg (by simp), Bool.or_false]⟩
  | true =>
    rw [hbit, if_pos (show (true && true) = true from rfl), (mpAsk_runs ..).1, mntStart_frame, Bool.or_true]
    exact ⟨_, _, rfl⟩

theorem confirm_runs (h : Accepted s p (writeOf 0 0x13 [1#32])) : ∃ t, exec (.confirm p) s = .next t ∧ Took s t p ∧
    t.boot = { s.boot with confirming := s.boot.confirming || s.boot.trial } ∧
    t = { s with boot := t.boot, mnt := t.mnt, mp := t.mp, port := t.port, own := t.own } := by
  obtain ⟨mnt, mp, hboot⟩ := bootctlWrite_confirm (sendEcho s p) p
  obtain ⟨port, hx, hans⟩ := hostWrite_sys h (by decide) (by decide) (show writeSys (sendEcho s p) p 0x13 1#32 = _ from hboot) rfl rfl rfl
  exact ⟨_, congrArg Host.Outcome.next hx, ⟨hans _ rfl, rfl⟩, rfl, rfl⟩

theorem dirMake_length (gen active tries : Nat) (es : List DirEntry) : (dirMake gen active tries es).length ≤ 0x1000 := by
  unfold dirMake
  extract_lets head body all
  have hall : all.length ≤ 0xFFC := List.length_take_le ..
  clear_value all
  rw [List.length_append, show (beBytes (crc32c all)).length = 4 from rfl]
  omega

/-- A new directory generation stands in one of the two copies: nothing past them changes (R74). -/
theorem dirWrite_low (hm : Memory.wf 0xFF s.store = true) (active tries : Nat) (es : List DirEntry) :
    ∃ store, dirWrite s active tries es = { s with store := store } ∧ ∀ a, 0x2000 ≤ a → memGet 0xFF store a = memGet 0xFF s.store a := by
  refine ⟨_, rfl, fun a ha => memGet_memBlock_outside hm (.inr ?_)⟩
  refine le_trans (Nat.add_le_add (?_ : _ ≤ 0x1000) (dirMake_length ..)) ha
  split <;> decide

theorem mpFinish_frame (s : State) (sel : Nat) : mpFinish s sel = { s with mp := (mpFinish s sel).mp } := mpServe_frame ..

theorem mpFinish_steady (s : State) (sel : Nat) : mpSteady (mpFinish s sel).mp = mpSteady s.mp := mpServe_steady ..

/-- A write of CONFIRM that runs comes to its end: its flags, what it has written or counted, and the end of its activity. -/
theorem confirmWriteDone_runs {ok : Bool} {u : State} (hc : s.boot.confirming = true) (hb : MpBusy s 0 4)
    (hu : (if ok then dirWrite { s with boot := { s.boot with confirming := false, trial := s.boot.trial && !ok } } (if s.boot.bank then 1 else 0) 0
      (dirNow s).2.2 else mpCount { s with boot := { s.boot with confirming := false, trial := s.boot.trial && !ok } } false) = u) :
    ∃ t, exec (.confirmWriteDone ok) s = .next t ∧ mpSteady t.mp = mpSteady u.mp ∧
      t = { u with mnt := t.mnt, mp := t.mp, led := t.led, irqStat := t.irqStat } := by
  have hserve : mpServe s 0 = s := mpServe_busy (by obtain ⟨-, kind, hop⟩ := hb; rw [hop]; rfl)
  have hend := mntEndOf_frame u 4 0 (if ok then endPass else endFail)
  have hsteady := mpFinish_steady (mntEndOf u 4 0 (if ok then endPass else endFail)) 0
  have hframe := mpFinish_frame (mntEndOf u 4 0 (if ok then endPass else endFail)) 0
  have hrun : exec (.confirmWriteDone ok) s = .next (mpFinish (mntEndOf u 4 0 (if ok then endPass else endFail)) 0) := by
    show execConfirmWriteDone ok s = _
    unfold execConfirmWriteDone
    dsimp only
    rw [hserve, if_neg (by simp [hc, mpRuns_iff.mpr hb]), hu]
  generalize mntEndOf u 4 0 (if ok then endPass else endFail) = v at *
  refine ⟨_, hrun, ?_, ?_⟩
  · rw [hsteady, hend]
  · rw [hframe, hend]

theorem confirmWriteDone_ok (hm : Memory.wf 0xFF s.store = true) (hc : s.boot.confirming = true) (hb : MpBusy s 0 4) :
    ∃ t, exec (.confirmWriteDone true) s = .next t ∧ t.boot = { s.boot with confirming := false, trial := false } ∧
      (∀ a, 0x2000 ≤ a → memGet 0xFF t.store a = memGet 0xFF s.store a) ∧
      t = { s with boot := t.boot, store := t.store, mnt := t.mnt, mp := t.mp, led := t.led, irqStat := t.irqStat } := by
  obtain ⟨store, hdir, hlow⟩ := dirWrite_low (s := { s with boot := { s.boot with confirming := false, trial := s.boot.trial && !true } }) hm
    (if s.boot.bank then 1 else 0) 0 (dirNow s).2.2
  obtain ⟨t, hrun, -, hframe⟩ := confirmWriteDone_runs hc hb ((if_pos rfl).trans hdir)
  have hboot : t.boot = { s.boot with confirming := false, trial := false } := by
    rw [hframe]
    simp
  refine ⟨t, hrun, hboot, fun a ha => ?_, ?_⟩
  · rw [hframe]
    exact hlow a ha
  · rw [hframe]

theorem confirmWriteDone_fails (hc : s.boot.confirming = true) (hb : MpBusy s 0 4) :
    ∃ t, exec (.confirmWriteDone false) s = .next t ∧ t.boot = { s.boot with confirming := false } ∧ t.store = s.store ∧
      t.mp.progFail = min 255 (s.mp.progFail + 1) := by
  obtain ⟨t, hrun, hsteady, hframe⟩ := confirmWriteDone_runs (ok := false) hc hb rfl
  refine ⟨t, hrun, ?_, (congrArg State.store hframe :), (congrArg MpSt.progFail hsteady :)⟩
  rw [hframe]
  simp [mpCount]

/-! ## The retain journal (R87 to R89) -/

theorem jrnctlNow_runs (h : Accepted s p (writeOf 0 0x16 [1#32])) : ∃ t, exec (.jrnctlNow p) s = .next t ∧ Took s t p ∧
    t.jrn = { s.jrn with now := true } ∧ t = { s with jrn := t.jrn, port := t.port, own := t.own } := by
  have hnow : jrnctlWrite (sendEcho s p) 1#32 = { sendEcho s p with jrn := { s.jrn with now := true } } := if_pos (by decide)
  obtain ⟨port, hx, hans⟩ := hostWrite_sys h (by decide) (by decide) (show writeSys (sendEcho s p) p 0x16 1#32 = _ from hnow) rfl rfl rfl
  exact ⟨_, congrArg Host.Outcome.next hx, ⟨hans _ rfl, rfl⟩, rfl, rfl⟩

/-- Once the journal cycle is over its captures are compared: without a good copy the disagreement is recorded (R88). -/
theorem journalCaptureDone_none (ha : s.jrn.active = true) (hr : s.cyc.running = false) (hg : goodCapture s = none) :
    exec .journalCaptureDone s = .next (ledger { s with
      jrn := { s.jrn with active := false, cap := Vector.replicate 3 none, disagree := true } } 14 0 0 (s.jrn.cycle % 2 ^ 32)) := by
  show execJournalCaptureDone s = _
  unfold execJournalCaptureDone
  rw [if_neg (by simp [ha, hr]), hg]

/-- A good copy's record begins. -/
theorem journalCaptureDone_some {c : List Byte} (ha : s.jrn.active = true) (hr : s.cyc.running = false) (hg : goodCapture s = some c) :
    exec .journalCaptureDone s = .next (journalBegin { s with jrn := { s.jrn with active := false, cap := Vector.replicate 3 none } } c) := by
  show execJournalCaptureDone s = _
  unfold execJournalCaptureDone
  rw [if_neg (by simp [ha, hr]), hg]

/-- Of captures without a good copy nothing is written. -/
theorem journalCaptureDone_disagrees (ha : s.jrn.active = true) (hr : s.cyc.running = false) (hg : goodCapture s = none) :
    ∃ t, exec .journalCaptureDone s = .next t ∧ t.jrn.active = false ∧ t.jrn.disagree = true ∧ t.led.bits[0].getLsbD 14 = true ∧
      t = { s with jrn := t.jrn, led := t.led, irqStat := t.irqStat } := by
  obtain ⟨led, irqStat, hbit, he⟩ := ledger_event { s with
    jrn := { s.jrn with active := false, cap := Vector.replicate 3 none, disagree := true } } (code := 14) 0 0 (s.jrn.cycle % 2 ^ 32) (by decide)
  have hrun : exec .journalCaptureDone s = .next _ := (journalCaptureDone_none ha hr hg).trans (congrArg Host.Outcome.next he)
  exact ⟨_, hrun, rfl, rfl, hbit, rfl⟩

theorem journalBegin_asks {c : List Byte} {e : DirEntry} (he : slotRegion s (freeSlot s) c.length = some e) : ∃ mp, journalBegin s c =
    { s with jrn := { s.jrn with writing := some (freeSlot s, retainRecord s c) }, mp := mp } := by
  unfold journalBegin
  dsimp only
  rw [he]
  exact ⟨_, (mpAsk_runs ..).1⟩

/-- The record of a good copy goes to the slot that does not hold the newest one. -/
theorem journalCaptureDone_begins {c : List Byte} {e : DirEntry} (ha : s.jrn.active = true) (hr : s.cyc.running = false)
    (hg : goodCapture s = some c) (he : slotRegion s (freeSlot s) c.length = some e) : ∃ t, exec .journalCaptureDone s = .next t ∧
      t.jrn.active = false ∧ t.jrn.writing = some (freeSlot s, retainRecord s c) ∧ t.jrn.disagree = s.jrn.disagree ∧
      t = { s with jrn := t.jrn, mp := t.mp } := by
  obtain ⟨mp, hbegin⟩ := journalBegin_asks (s := { s with jrn := { s.jrn with active := false, cap := Vector.replicate 3 none } }) he
  have hrun : exec .journalCaptureDone s = .next _ := (journalCaptureDone_some ha hr hg).trans (congrArg Host.Outcome.next hbegin)
  exact ⟨_, hrun, rfl, rfl, rfl, rfl⟩

theorem journalShow_frame (s : State) : ∃ slot gen, journalShow s = { s with jrn := { s.jrn with slot := slot, gen := gen } } := by
  unfold journalShow
  split
  · exact ⟨_, _, rfl⟩
  · exact ⟨s.jrn.slot, _, rfl⟩

/-- A record's write that runs comes to its end: the slot was erased, then written, or the failure is counted (R89). -/
theorem journalWriteDone_runs {ok slot : Bool} {bs : List Byte} {e : DirEntry} (hw : s.jrn.writing = some (slot, bs))
    (he : dirEntryOf s (if slot then 0x31 else 0x30) = some e) (hb : MpBusy s (selOf e.base) 2) : exec (.journalWriteDone ok) s = .next
      (mpFinish (if ok then journalShow (storePut (storeErase { s with jrn := { s.jrn with writing := none } } e.base (e.base + e.len)) e.base bs)
        else mpCount (storeErase { s with jrn := { s.jrn with writing := none } } e.base (e.base + e.len)) false) (selOf e.base)) := by
  have hsel : regionSel s (if slot then 0x31 else 0x30) = selOf e.base := by
    unfold regionSel
    rw [he]
  have hserve : mpServe s (selOf e.base) = s := mpServe_busy (by obtain ⟨-, kind, hop⟩ := hb; rw [hop]; rfl)
  show execJournalWriteDone ok s = _
  unfold execJournalWriteDone
  rw [hw]
  dsimp only
  rw [hsel, hserve, he]
  dsimp only
  rw [if_neg (by simp [mpRuns_iff.mpr hb])]

theorem journalWriteDone_ok {slot : Bool} {bs : List Byte} {e : DirEntry} (hm : Memory.wf 0xFF s.store = true)
    (hw : s.jrn.writing = some (slot, bs)) (he : dirEntryOf s (if slot then 0x31 else 0x30) = some e) (hlen : bs.length ≤ e.len)
    (hb : MpBusy s (selOf e.base) 2) : ∃ t, exec (.journalWriteDone true) s = .next t ∧ t.jrn.writing = none ∧
      (∀ i (h : i < bs.length), memGet 0xFF t.store (e.base + i) = bs[i]) ∧
      (∀ a, a < e.base ∨ e.base + e.len ≤ a → memGet 0xFF t.store a = memGet 0xFF s.store a) ∧
      t = { s with jrn := t.jrn, mp := t.mp, store := t.store } := by
  have herased : Memory.wf 0xFF (amErase s.store e.base (e.base + e.len)) = true := amWf_amErase _ _ hm
  obtain ⟨slot', gen, hshow⟩ := journalShow_frame (storePut (storeErase { s with jrn := { s.jrn with writing := none } } e.base (e.base + e.len)) e.base bs)
  have hrun := journalWriteDone_runs (ok := true) hw he hb
  rw [if_pos rfl, hshow, mpFinish_frame] at hrun
  refine ⟨_, hrun, rfl, fun i h => memGet_memBlock_inside herased i h, fun a ha => ?_, rfl⟩
  exact (memGet_memBlock_outside herased (by omega)).trans ((memGet_amErase hm _ _ _).trans (if_neg (by omega)))

theorem journalWriteDone_fails {slot : Bool} {bs : List Byte} {e : DirEntry} (hm : Memory.wf 0xFF s.store = true)
    (hw : s.jrn.writing = some (slot, bs)) (he : dirEntryOf s (if slot then 0x31 else 0x30) = some e) (hb : MpBusy s (selOf e.base) 2) :
    ∃ t, exec (.journalWriteDone false) s = .next t ∧ t.jrn = { s.jrn with writing := none } ∧
      (∀ a, e.base ≤ a → a < e.base + e.len → memGet 0xFF t.store a = 0xFF) ∧
      (∀ a, a < e.base ∨ e.base + e.len ≤ a → memGet 0xFF t.store a = memGet 0xFF s.store a) := by
  have hrun := journalWriteDone_runs (ok := false) hw he hb
  rw [if_neg (by decide), mpFinish_frame] at hrun
  exact ⟨_, hrun, rfl, fun a hlo hhi => (memGet_amErase hm _ _ _).trans (if_pos ⟨hlo, hhi⟩),
    fun a ha => (memGet_amErase hm _ _ _).trans (if_neg (by omega))⟩

/-! ## TSET (R188) -/

/-- A step of the time base: its time, the residual correction dropped, TIME_STEP recorded; the running cycle keeps its number and start. -/
theorem timeStep_runs (s : State) (t : Nat) : ∃ time cyc led irqStat, timeStep s t = { s with
      time := time, tm := { s.tm with residual := 0, far := false, haveLast := false }, cyc := cyc, led := led, irqStat := irqStat } ∧
    time = t % 2 ^ 64 / 4 * 4 ∧ cyc.n = s.cyc.n ∧ cyc.t0 = s.cyc.t0 ∧ led.bits[0].getLsbD 6 = true := by
  have hstep : ∃ cyc size, timeStep s t = ledger { s with
        time := t % 2 ^ 64 / 4 * 4, tm := { s.tm with residual := 0, far := false, haveLast := false }, cyc := cyc } 6 0 0 size ∧
      cyc.n = s.cyc.n ∧ cyc.t0 = s.cyc.t0 := by
    unfold timeStep
    dsimp only
    split
    · exact ⟨_, _, rfl, rfl, rfl⟩
    · exact ⟨s.cyc, _, rfl, rfl, rfl⟩
  obtain ⟨cyc, size, hstep, hn, h0⟩ := hstep
  obtain ⟨led, irqStat, hbit, he⟩ := ledger_event { s with
    time := t % 2 ^ 64 / 4 * 4, tm := { s.tm with residual := 0, far := false, haveLast := false }, cyc := cyc } (code := 6) 0 0 size (by decide)
  exact ⟨_, cyc, led, irqStat, hstep.trans he, rfl, hn, h0, hbit⟩

/-- A write of TSET_LO stands in the register whole (Table 7.3). -/
theorem plainWrite_tsetLo (s : State) (w : Word) : plainWrite s 3 6 w = { s with regs := rmSet s.regs (regKey 3 6) w } := by
  have hrow : regAt 3 6 = some ⟨3, 1, 0x6, 0x1, 1, 0x0, 0xFFFFFFFF, 0x0, 0x0, 0x0, 0x0⟩ := by decide
  have hword : (rmGet s.regs (regKey 3 6) &&& ~~~0xFFFFFFFF#32) ||| (w &&& 0xFFFFFFFF#32) = w := by
    rw [show 0xFFFFFFFF#32 = BitVec.allOnes 32 from rfl, BitVec.not_allOnes, BitVec.and_zero, BitVec.zero_or, BitVec.and_allOnes]
  unfold plainWrite
  rw [hrow]
  dsimp only
  rw [if_pos rfl, if_neg (by decide)]
  exact congrArg (fun v => { s with regs := rmSet s.regs (regKey 3 6) v }) hword

/-- Every register that an accepted frame writes may be written by its port (R386). -/
theorem mayWrite_of_writes {page off : Nat} {ws : List Word} (h : Accepted s p (writeOf page off ws)) {e : Nat × Word}
    (he : e ∈ writes (writeOf page off ws)) : mayWrite s p page e.1 = true := by
  have hcode := h.2
  have hframe : frameCode s p (writeOf page off ws) = if lengthBad (writeOf page off ws) then stBadLength
      else if earlyCode s p (writeOf page off ws) ≠ 0 then earlyCode s p (writeOf page off ws) else writeCode s p (writeOf page off ws) := rfl
  rw [hframe] at hcode
  by_contra hno
  have hany : (writes (writeOf page off ws)).any (fun e => !mayWrite s p (writeOf page off ws).page e.1) = true :=
    List.any_eq_true.mpr ⟨e, he, by simpa [writeOf, checkedFrame] using hno⟩
  split at hcode
  · exact absurd hcode (by decide)
  · split at hcode
    · contradiction
    · unfold writeCode at hcode
      dsimp only at hcode
      rw [hany, if_pos rfl] at hcode
      split_ifs at hcode <;> exact absurd hcode (by decide)

/-- TSET_HI takes effect after TSET_LO: the time base steps to the pair. -/
theorem tset_writes (u : State) (p : Port) (lo hi : Word) : regWrites p 3 u [(6, lo), (7, hi)] =
    timeStep (plainWrite (plainWrite u 3 6 lo) 3 7 hi) (hi.toNat * 2 ^ 32 + (cfgWord (plainWrite u 3 6 lo) 3 6).toNat) := by
  rw [regWrites, List.foldl_cons, List.foldl_cons, List.foldl_nil]
  simp only [regWrite, writeTime]

/-- An accepted frame that writes TSET_LO and TSET_HI: their effect, and the frame's end. -/
theorem tset_serves {lo hi : Word} (h : Accepted s p (writeOf 3 6 [lo, hi])) : hostWrite s p 3 6 [lo, hi] = frameEnd
    (regWrites p 3 (sendEcho s p) [(6, lo), (7, hi)]) p (writeOf 3 6 [lo, hi]) 0 false [0, 0, 0] (writeOf 3 6 [lo, hi]).words := by
  unfold hostWrite hostFrame
  rw [show portInert s p = false from h.1, if_neg (by simp), show frameCode s p (checkedFrame 1 3 6 [lo, hi]) = 0 from h.2]
  show resetLast (frameEnd (mboxCount (regWrites p 3 _ [(6, lo), (7, hi)]) 3 [(6, lo), (7, hi)]) ..) 3 [(6, lo), (7, hi)] = _
  rw [resetLast, if_neg (by decide), mboxCount, if_neg (by simp)]
  rfl

theorem tset_runs {lo hi : Word} (hregs : amWf 0 s.regs = true) (h : Accepted s p (writeOf 3 6 [lo, hi])) :
    ∃ t, exec (.tset p lo hi) s = .next t ∧ Took s t p ∧
      t.time = (hi.toNat * 2 ^ 32 + lo.toNat) / 4 * 4 ∧ t.mono = s.mono ∧ t.tm.residual = 0 ∧ t.led.bits[0].getLsbD 6 = true ∧
      t.cyc.n = s.cyc.n ∧ t.cyc.t0 = s.cyc.t0 ∧ t.lane = s.lane ∧ t.store = s.store := by
  have hser := tset_serves h
  rw [tset_writes] at hser
  have hrange : hi.toNat * 2 ^ 32 + lo.toNat < 2 ^ 64 := by
    have := lo.isLt
    have := hi.isLt
    omega
  have hlo : cfgWord (plainWrite (sendEcho s p) 3 6 lo) 3 6 = lo := by
    rw [plainWrite_tsetLo]
    exact amGet_amSet_same _ lo hregs
  rw [hlo, plainWrite_tsetLo] at hser
  generalize hi.toNat * 2 ^ 32 + lo.toNat = n at hser hrange ⊢
  obtain ⟨shadow, regs, hplain⟩ := plainWrite_maps { sendEcho s p with regs := rmSet s.regs (regKey 3 6) lo } 3 7 hi
  have hplain' : plainWrite { sendEcho s p with regs := rmSet (sendEcho s p).regs (regKey 3 6) lo } 3 7 hi = _ := hplain
  rw [hplain'] at hser
  obtain ⟨time, cyc, led, irqStat, hstep, htime, hn, h0, hbit⟩ := timeStep_runs { sendEcho s p with shadow := shadow, regs := regs } n
  rw [show timeStep _ n = _ from hstep, frameEnd_record] at hser
  have howner : isOwner s p = true := by
    have hm := mayWrite_of_writes h (e := (6, lo)) List.mem_cons_self
    rw [mayWrite, decide_eq_false (show ¬ 3 = 0 by decide), decide_eq_false (show ¬ 3 = 1 by decide)] at hm
    simpa [isOwner] using hm
  refine ⟨_, congrArg Host.Outcome.next hser, ⟨answered_of_recorded (u := sendEcho s p) rfl rfl, ?_⟩, ?_, rfl, rfl, hbit, hn, h0,
    rfl, rfl⟩
  · exact congrArg (fun n => { s.own with timerAt := n }) (if_pos howner)
  · rw [← Nat.mod_eq_of_lt hrange]
    exact htime

/-- Settles O42: the clauses one by one, each command by the lemma that says what it does. -/
theorem quotesJournalsTimeSet : Obligations.QuotesJournalsTimeSet := by
  intro s p nonce body c bs slot e lo hi hstore hregs
  exact ⟨quote_runs, quote_part, fun ha hw => ⟨quoteComplete_signed ha hw, quoteComplete_failed ha hw⟩, confirm_runs,
    fun hc hb => ⟨confirmWriteDone_ok hstore hc hb, confirmWriteDone_fails hc hb⟩, jrnctlNow_runs, journalCaptureDone_disagrees,
    journalCaptureDone_begins, fun hw he hlen hb => ⟨journalWriteDone_ok hstore hw he hlen hb, journalWriteDone_fails hstore hw he hb⟩,
    tset_runs hregs⟩

end
end Sys2Proof.Machine

namespace Sys2Proof.Machine

/-! ## The lane start (R104, R110, R153) -/

section
variable {s : State} {m : Memory} {bs : List Byte}

/-- A start keeps the code as it is. -/
theorem startMem_code (r : Option (List Byte)) (hm : Memory.wf 0 m = true) {a : Nat} (ha : a < 0x80000) :
    memGet 0 (startMem m r) a = memGet 0 m a := by
  have hkept : memGet 0 (startMem m none) a = memGet 0 m a := amGet_filter_in _ (fun _ => decide_eq_true ha) hm
  cases r with
  | none => exact hkept
  | some bs => exact (memGet_memBlock_outside (startMem_wf none hm) (.inl (by omega))).trans hkept

/-- Without a retain record all that is not code is zero. -/
theorem startMem_none_zero (m : Memory) {a : Nat} (ha : 0x80000 ≤ a) : memGet 0 (startMem m none) a = 0 :=
  amGet_filter_out _ (fun _ => decide_eq_false (Nat.not_lt.mpr ha)) m

theorem startMem_retain (hm : Memory.wf 0 m = true) (i : Nat) (h : i < bs.length) :
    memGet 0 (startMem m (some bs)) (0x20100000 + i) = bs[i] :=
  memGet_memBlock_inside (startMem_wf none hm) i h

/-- With a retain record all that is neither code nor the record's bytes is zero. -/
theorem startMem_some_zero (hm : Memory.wf 0 m = true) {a : Nat} (ha : 0x80000 ≤ a) (hout : a < 0x20100000 ∨ 0x20100000 + bs.length ≤ a) :
    memGet 0 (startMem m (some bs)) a = 0 :=
  (memGet_memBlock_outside (startMem_wf none hm) hout).trans (startMem_none_zero m ha)

theorem laneStarted_lane (s : State) (r : Option (List Byte)) (l : Lane) : (laneStarted s r).lane[l] = startLane s r s.lane[l] :=
  Vector.getElem_map ..

theorem laneStarted_mem (s : State) (r : Option (List Byte)) (l : Lane) : (laneStarted s r).lane[l].mem = startMem s.lane[l].mem r :=
  congrArg LaneSt.mem (laneStarted_lane s r l)

/-- Row 4 after a wake, or a pending cold PRIME, starts the lanes cold. -/
theorem laneStart_cold (hmode : s.md.mode = .hold) (hnot : s.md.laneStarted = false) (hready : primeReady s = true)
    (hwhy : s.md.row4 = some true ∨ s.md.row4 = none ∧ s.md.cmd = some (.prime false)) : laneStart s = laneStarted s none := by
  rcases hwhy with hrow | ⟨hrow, hcmd⟩
  · simp [laneStart, hmode, hnot, hready, hrow]
  · simp [laneStart, hmode, hnot, hready, hrow, hcmd]

/-- A pending warm PRIME starts the lanes with the newest record that fits. -/
theorem laneStart_warm (hmode : s.md.mode = .hold) (hnot : s.md.laneStarted = false) (hready : primeReady s = true)
    (hrow : s.md.row4 = none) (hcmd : s.md.cmd = some (.prime true)) {r : RetainRec} (hrec : (retainNewest s).filter (retainFits s) = some r) :
    laneStart s = laneStarted s (some r.data) := by
  simp [laneStart, hmode, hnot, hready, hrow, hcmd, hrec]

/-- A pending PRIME is dropped when the device is not ready, and a warm one when no record fits. -/
theorem laneStart_drops (hmode : s.md.mode = .hold) (hnot : s.md.laneStarted = false) (hrow : s.md.row4 = none) {warm : Bool}
    (hcmd : s.md.cmd = some (.prime warm))
    (hwhy : primeReady s = false ∨ warm = true ∧ (retainNewest s).filter (retainFits s) = none) : laneStart s = dropCmd s := by
  rcases hwhy with hready | ⟨rfl, hrec⟩
  · simp [laneStart, hmode, hnot, hrow, hcmd, hready]
  · simp [laneStart, hmode, hnot, hrow, hcmd, hrec]

end
end Sys2Proof.Machine

namespace Sys2Proof
section
open Machine

/-- Settles O31: what a start makes of the memories, read off the lane that it leaves, and the two drops. -/
theorem laneStart : Obligations.LaneStart := by
  intro s l r hmode hnot
  refine ⟨fun hwhy hready hm => ?_, fun hrow hcmd hready hnew hfits hm => ?_, fun hrow hcmd hrec => ?_, fun hrow hcmd hready => ?_⟩
  · refine ⟨laneStarted s none, congrArg Host.Outcome.next (laneStart_cold hmode hnot hready hwhy), rfl, rfl, rfl, hmode, ?_⟩
    rw [laneStarted_lane]
    exact ⟨fun a ha => startMem_code none hm ha, fun a ha => startMem_none_zero _ ha, rfl, rfl, rfl, rfl, rfl, rfl⟩
  · have hrec : (retainNewest s).filter (retainFits s) = some r := by rw [hnew, Option.filter_some, if_pos hfits]
    refine ⟨laneStarted s (some r.data), congrArg Host.Outcome.next (laneStart_warm hmode hnot hready hrow hcmd hrec), rfl, rfl, ?_⟩
    refine ⟨fun a ha => ?_, fun i h => ?_, fun a ha hout => ?_, rfl⟩ <;> rw [laneStarted_mem]
    · exact startMem_code _ hm ha
    · exact startMem_retain hm i h
    · exact startMem_some_zero hm ha hout
  · exact ⟨dropCmd s, congrArg Host.Outcome.next (laneStart_drops hmode hnot hrow hcmd (.inr ⟨rfl, hrec⟩)), rfl, rfl, rfl⟩
  · exact ⟨dropCmd s, congrArg Host.Outcome.next (laneStart_drops hmode hnot hrow hcmd (.inl hready)), rfl, rfl, rfl⟩

end
end Sys2Proof

namespace Sys2Proof.Machine

/-! ## HOLD out of QUIET by row 3 (R102, R109, R110) -/

/-- The state without what a change of mode may touch: the mode, the lanes with their watchdogs, the cycle, the controllers and the hub, the arbiter and the ledger. -/
def sansSwitch (s : State) : State :=
  { sansLoops s with
    md := State.reset.md, lane := State.reset.lane, wd := State.reset.wd, cyc := State.reset.cyc, can := State.reset.can, hub := State.reset.hub }

section
variable {s s' t u : State} {p : Port}

theorem sansSwitch_of_loops (h : sansLoops t = sansLoops s) : sansSwitch t = sansSwitch s := (congrArg sansSwitch h :)

theorem reintStop_switch (s : State) (l : Lane) : sansSwitch (reintStop s l) = sansSwitch s :=
  ite_same (sansSwitch_of_loops (mntEndOf_loops (updLane s l _) ..) :) rfl

theorem haltLane_switch (s : State) (l : Lane) : sansSwitch (haltLane s l) = sansSwitch s := rfl

theorem stopLanes_switch (s : State) : sansSwitch (stopLanes s) = sansSwitch s := by
  unfold stopLanes
  extract_lets s1 s2
  have h1 : sansSwitch s1 = sansSwitch s := foldl_same (fun t l => (haltLane_switch (reintStop t l) l).trans (reintStop_switch t l)) lanes3 s
  have h2 : sansSwitch s2 = sansSwitch s1 := foldl_same (fun t (l : Lane) => sansSwitch_of_loops (mntEndOf_loops t 1 l.val endAborted)) lanes3 s1
  clear_value s2
  exact h2.trans h1

theorem canLeaveQuiet_switch (s : State) (c : Ctrl) : sansSwitch (canLeaveQuiet s c) = sansSwitch s := ite_same rfl rfl

theorem wdSync_switch (s : State) : sansSwitch (wdSync s) = sansSwitch s := by
  rw [wdSync_frame]
  rfl

/-- A change of mode leaves time, ports and ownership, and all else but what it may touch. -/
theorem setMode_switch (s : State) (m : Mode) (row : Nat) : sansSwitch (setMode s m row) = sansSwitch s := by
  unfold setMode
  extract_lets md s1 s2 s3 cyc s4 s5
  have h1 : sansSwitch s1 = sansSwitch s := rfl
  have h2 : sansSwitch s2 = sansSwitch s1 := ite_same rfl (stopLanes_switch s1)
  have h3 : sansSwitch s3 = sansSwitch s2 := ite_same (foldl_same reintStop_switch _ _) rfl
  clear_value s3
  have h4 : sansSwitch s4 = sansSwitch s3 := ite_same (foldl_same (f := fun s c => dropHeld (canFlush s c false) c) (fun _ _ => rfl) ctrls2 _) rfl
  clear_value s4
  have h5 : sansSwitch s5 = sansSwitch s4 := ite_same (foldl_same canLeaveQuiet_switch _ _) rfl
  refine (wdSync_switch _).trans (Eq.trans ?_ (h5.trans (h4.trans (h3.trans (h2.trans h1)))))
  exact ite_same (sansSwitch_of_loops (ledger_loops ..)) (ite_same (sansSwitch_of_loops (ledger_loops ..)) rfl)

theorem resume_switch (s : State) : sansSwitch (resumeCycle (setMode s .hold 3)) = sansSwitch s := setMode_switch s .hold 3

/-- In `t` the device of `s` has entered HOLD by row 3, and the cycle runs to its first T0. -/
structure Resumed (s t : State) : Prop where
  mode : t.md.mode = .hold
  cause : t.md.lastCause = 3
  runs : t.cyc.running = true
  period : t.cyc.period = cfgPeriod s
  nextT0 : t.cyc.nextT0 = gridNext (gridOrg s) (cfgPeriod s * 1000) (s.time + 1)
  regs : t.regs = s.regs
  store : t.store = s.store
  time : t.time = s.time

theorem resumeCycle_resumed (s : State) : Resumed s (resumeCycle (setMode s .hold 3)) := by
  obtain ⟨running, hc⟩ := setMode_clock s .hold 3
  have hmd := setMode_md s .hold 3
  have hregs : (setMode s .hold 3).regs = s.regs := (congrArg Clockwork.regs hc :)
  have htime : (setMode s .hold 3).time = s.time := (congrArg State.time (setMode_switch s .hold 3) :)
  refine ⟨congrArg ModeSt.mode hmd, congrArg ModeSt.lastCause hmd, rfl, cfgPeriod_of_regs hregs, ?_, hregs, congrArg Clockwork.store hc, htime⟩
  show gridNext (gridOrg (setMode s .hold 3)) (cfgPeriod (setMode s .hold 3) * 1000) ((setMode s .hold 3).time + 1) = _
  rw [gridOrg_of_regs hregs, cfgPeriod_of_regs hregs, htime]

/-- Only the registers, the store and the time of the state before the entry count. -/
theorem Resumed.of_start (h : Resumed s' t) (hregs : s'.regs = s.regs) (hstore : s'.store = s.store) (htime : s'.time = s.time) : Resumed s t := by
  have hgrid := gridOrg_of_regs hregs
  have hperiod := cfgPeriod_of_regs hregs
  exact ⟨h.mode, h.cause, h.runs, h.period.trans hperiod, by rw [h.nextT0, hgrid, hperiod, htime], h.regs.trans hregs, h.store.trans hstore,
    h.time.trans htime⟩

theorem Resumed.of_far (h : Resumed s t) (hu : sansFar u = sansFar t) : Resumed s u where
  mode := (congrArg (fun x : State => x.md.mode) hu).trans h.mode
  cause := (congrArg (fun x : State => x.md.lastCause) hu).trans h.cause
  runs := (congrArg (fun x : State => x.cyc.running) hu).trans h.runs
  period := (congrArg (fun x : State => x.cyc.period) hu).trans h.period
  nextT0 := (congrArg (fun x : State => x.cyc.nextT0) hu).trans h.nextT0
  regs := (congrArg State.regs hu).trans h.regs
  store := (congrArg State.store hu).trans h.store
  time := (congrArg State.time hu).trans h.time

theorem Resumed.with_md {x : ModeSt} (h : Resumed s t) (hm : x.mode = t.md.mode) (hc : x.lastCause = t.md.lastCause) :
    Resumed s { t with md := x } :=
  ⟨hm.trans h.mode, hc.trans h.cause, h.runs, h.period, h.nextT0, h.regs, h.store, h.time⟩

theorem Resumed.drop (h : Resumed s t) : Resumed s (setDrop t) := h.with_md rfl rfl

/-! ### MODECMD -/

theorem modeCode_injective : Function.Injective modeCode := by
  intro a b h
  cases a <;> cases b <;> simp [modeCode] at h ⊢

theorem ne_of_lanesRun {m k : Mode} (hm : lanesRun m = true) (hk : lanesRun k = false) : m ≠ k := by
  rintro rfl
  exact Bool.false_ne_true (hk.symm.trans hm)

/-- The mode's own part once a command is written: an earlier one is gone, and with it its lane start. -/
def modeAsked (s : State) (c : Option ModeCmd) : ModeSt :=
  { s.md with laneStarted := s.md.laneStarted && s.md.row4.isSome, cmd := c }

/-- The command that a word of MODECMD names. -/
def commandOf (w : Word) : ModeCmd :=
  if fieldOf w 0 3 = 1 then .quiet else if fieldOf w 0 3 = 2 then .hold else if fieldOf w 0 3 = 3 then .prime (bitOf w 3) else .safe

/-- Outside QUIET a command for another mode waits. -/
theorem modecmdWrite_waits {w : Word} (hq : s.md.mode ≠ .quiet) (ht : fieldOf w 0 3 ≠ modeCode s.md.mode) :
    modecmdWrite s w = { s with md := modeAsked s (some (commandOf w)) } := by
  unfold modecmdWrite
  extract_lets t c s1
  rw [if_neg ht, if_neg hq]
  rfl

/-- In QUIET a command for another mode is carried out at once. -/
theorem modecmdWrite_quiet {w : Word} (hq : s.md.mode = .quiet) (ht : fieldOf w 0 3 ≠ 1) :
    modecmdWrite s w = resumeCycle (setMode { s with md := modeAsked s none } .hold 3) := by
  have hne : fieldOf w 0 3 ≠ modeCode s.md.mode := by rw [hq]; exact ht
  unfold modecmdWrite
  extract_lets t c s1
  rw [if_neg hne, if_pos hq]
  rfl

/-- The accepted frame of a command that waits. -/
theorem modecmd_waits {w : Word} {c : ModeCmd} {m : Mode} (h : Accepted s p (writeOf 0 0x21 [w])) (hc : commandOf w = c)
    (ht : fieldOf w 0 3 = modeCode m) (hq : s.md.mode ≠ .quiet) (hm : s.md.mode ≠ m) :
    ∃ t, hostWrite s p 0 0x21 [w] = t ∧ Answered s t p ∧ t.md = modeAsked s (some c) ∧
      t = { s with md := t.md, port := t.port, own := { s.own with timerAt := s.mono } } := by
  subst hc
  have hne : fieldOf w 0 3 ≠ modeCode s.md.mode := fun e => hm (modeCode_injective (e.symm.trans ht))
  obtain ⟨port, hx, hans⟩ := hostWrite_sys h (by decide) (by decide) (modecmdWrite_waits (s := sendEcho s p) hq hne) rfl rfl rfl
  exact ⟨_, hx, hans _ rfl, rfl, rfl⟩

/-- The accepted frame that leaves QUIET. -/
theorem modecmd_resumes {w : Word} (h : Accepted s p (writeOf 0 0x21 [w])) (hq : s.md.mode = .quiet) (ht : fieldOf w 0 3 ≠ 1) :
    ∃ t, hostWrite s p 0 0x21 [w] = t ∧ Answered s t p ∧ Resumed s t := by
  have hu := modecmdWrite_quiet (s := sendEcho s p) hq ht
  have hsans := resume_switch { sendEcho s p with md := modeAsked (sendEcho s p) none }
  have hres := resumeCycle_resumed { sendEcho s p with md := modeAsked (sendEcho s p) none }
  generalize resumeCycle (setMode { sendEcho s p with md := modeAsked (sendEcho s p) none } .hold 3) = u at hu hsans hres
  replace hres : Resumed s u := hres.of_start rfl rfl rfl
  obtain ⟨port, hx, hans⟩ := hostWrite_sys h (by decide) (by decide) hu
    (congrArg State.port hsans :) (congrArg State.own hsans :) (congrArg State.mono hsans :)
  exact ⟨_, hx, hans _ rfl, hres.mode, hres.cause, hres.runs, hres.period, hres.nextT0, hres.regs, hres.store, hres.time⟩

/-- Settles O34: every command but HOLD in QUIET waits for the next T0. -/
theorem modeCommands : Obligations.ModeCommands := by
  rintro s p warm md rfl
  refine ⟨fun h hm => ?_, fun h hq hm => ?_, fun h hq => ?_, fun h hm => ?_, fun h hm => ?_⟩
  · obtain ⟨t, hx, hans⟩ := modecmd_waits (c := .quiet) (m := .quiet) h (by decide) (by decide) (by simp [hm]) (by simp [hm])
    exact ⟨t, congrArg Host.Outcome.next hx, hans⟩
  · obtain ⟨t, hx, hans⟩ := modecmd_waits (c := .hold) (m := .hold) h (by decide) (by decide) hq hm
    exact ⟨t, congrArg Host.Outcome.next hx, hans⟩
  · obtain ⟨t, hx, hans, hres⟩ := modecmd_resumes h hq (by decide)
    exact ⟨t, congrArg Host.Outcome.next hx, hans, hres.mode, hres.cause, hres.runs, hres.period, hres.nextT0, hres.regs, hres.store⟩
  · have hw : keyed 0xA5#8 (place 0 3 ||| placeB 3 warm) = if warm then 0xA500000B#32 else 0xA5000003#32 := by
      cases warm <;> decide
    rw [← hw] at h
    obtain ⟨t, hx, hans⟩ := modecmd_waits (c := .prime warm) (m := .prime) h (by cases warm <;> decide) (by cases warm <;> decide)
      (by simp [hm]) (by simp [hm])
    exact ⟨t, congrArg Host.Outcome.next hx, hans⟩
  · obtain ⟨t, hx, hans⟩ := modecmd_waits (c := .safe) (m := .safe) h (by decide) (by decide) (ne_of_lanesRun hm rfl) (ne_of_lanesRun hm rfl)
    exact ⟨t, congrArg Host.Outcome.next hx, hans⟩

/-! ### Wake -/

theorem diePowerOn_far (s : State) (d : Die) : sansFar (diePowerOn s d) = sansFar s := dieClear_far _ d true

theorem diesOn_far (l : List Die) (s : State) : sansFar (l.foldl diePowerOn s) = sansFar s := foldl_same diePowerOn_far l s

theorem diePowerOn_wakeStat (s : State) (d : Die) : (diePowerOn s d).pwr.wakeStat = s.pwr.wakeStat :=
  (congrArg PwrSt.wakeStat (dieClear_pwr { s with pwr := { s.pwr with bpwr := s.pwr.bpwr ||| bit5 d } } d true) :)

/-- A wake enters HOLD with its sources in WAKESTAT, whatever dies and row 4 it asks for besides. -/
theorem wake_resumed (s : State) (srcs : BitVec 4) (viso : Nat) :
    Resumed s (wake s srcs viso) ∧ (wake s srcs viso).pwr.wakeStat = s.pwr.wakeStat ||| srcs := by
  unfold wake
  extract_lets pwr s1 s2 on s3
  have hres2 : Resumed s s2 := (resumeCycle_resumed (irq s1 10)).of_start rfl rfl rfl
  have hstat2 : s2.pwr.wakeStat = s.pwr.wakeStat ||| srcs := congrArg PwrSt.wakeStat (setMode_pwr (irq s1 10) .hold 3)
  clear_value s2
  obtain ⟨hres3, hstat3⟩ : Resumed s s3 ∧ s3.pwr.wakeStat = s.pwr.wakeStat ||| srcs := by
    unfold s3
    split
    · exact ⟨hres2, hstat2⟩
    · split
      · exact ⟨hres2.drop, hstat2⟩
      · exact ⟨hres2.of_far (diesOn_far on s2), (foldl_same (π := fun x : State => x.pwr.wakeStat) diePowerOn_wakeStat on s2).trans hstat2⟩
  clear_value s3
  split
  · split
    · exact ⟨hres3.with_md rfl rfl, hstat3⟩
    · exact ⟨hres3.drop, hstat3⟩
  · exact ⟨hres3, hstat3⟩

theorem wake_woken (s : State) {srcs : BitVec 4} {src : Nat} (viso : Nat) (h : srcs.getLsbD src = true) : Woken s (wake s srcs viso) src := by
  obtain ⟨hres, hstat⟩ := wake_resumed s srcs viso
  exact ⟨hres.mode, hres.cause, by rw [hstat, BitVec.getLsbD_or, h, Bool.or_true], hres.runs, hres.regs, hres.store⟩

theorem wakePad_wakes (h : wakeOn s 0 = true) (viso : Nat) : ∃ t, exec (.wakePad viso true) s = .next t ∧ Woken s t 0 ∧
    t.cyc.nextT0 = gridNext (gridOrg s) (cfgPeriod s * 1000) (s.time + 1) := by
  have hpad : padPresent { s with pwr := { s.pwr with wakeHigh := true } } = true := Bool.and_eq_true_iff.mpr ⟨h, rfl⟩
  have hwoken := wake_woken { s with pwr := { s.pwr with wakeHigh := true } } (srcs := 1) (src := 0) viso (by decide)
  have hres := (wake_resumed { s with pwr := { s.pwr with wakeHigh := true } } 1 viso).1
  exact ⟨_, congrArg Host.Outcome.next (if_pos hpad), hwoken, hres.nextT0⟩

theorem wakePad_ignored {high : Bool} (h : high = false ∨ wakeOn s 0 = false) (viso : Nat) :
    exec (.wakePad viso high) s = .next { s with pwr := { s.pwr with wakeHigh := high } } := by
  have hpad : padPresent { s with pwr := { s.pwr with wakeHigh := high } } = false := Bool.and_eq_false_iff.mpr h.symm
  exact congrArg Host.Outcome.next (if_neg (by rw [hpad]; decide))

theorem wakeCan_wakes {c : Ctrl} {f : CanFrame} (hon : wakeOn s (1 + c.val) = true) (hears : canHears s c = true)
    (hfd : f.fdf = true → canFd s c = true) (hrtr : f.rtr = false)
    (hit : filterHit s c (frameIdw f.ide f.fdf f.brs f.id.toNat) 0 = true) (viso : Nat) :
    ∃ t, exec (.wakeCan c f viso) s = .next t ∧ Woken s t (1 + c.val) := by
  have hfd' : (!f.fdf || canFd s c) = true := by
    cases hf : f.fdf with
    | false => rfl
    | true => exact hfd hf
  have hsrc : ∀ c : Ctrl, (BitVec.ofNat 4 (2 ^ (1 + c.val))).getLsbD (1 + c.val) = true := by decide
  exact ⟨_, congrArg Host.Outcome.next (if_pos (by simp [hon, hears, hfd', hrtr, hit])), wake_woken s viso (hsrc c)⟩

theorem wakeCan_ignored {c : Ctrl} {f : CanFrame}
    (h : wakeOn s (1 + c.val) = false ∨ canHears s c = false ∨ f.rtr = true ∨ (f.fdf = true ∧ canFd s c = false)) (viso : Nat) :
    exec (.wakeCan c f viso) s = .next s := by
  refine congrArg Host.Outcome.next (if_neg fun hall => ?_)
  simp only [Bool.and_eq_true, Bool.or_eq_true, Bool.not_eq_true'] at hall
  obtain ⟨⟨⟨⟨hon, hears⟩, hfd⟩, hrtr⟩, -⟩ := hall
  rcases h with h | h | h | ⟨hf, h⟩
  · simp [h] at hon
  · simp [h] at hears
  · simp [h] at hrtr
  · simp [hf, h] at hfd

/-- The alarm wakes at its instant, if that is one of device time. -/
theorem wakeAlarm_wakes (hon : wakeOn s 3 = true) (harm : s.pwr.alarmArmed = true) (viso : Nat) :
    ∃ t, exec (.wakeAlarm viso) s = .next t ∧ Woken s t 3 ∧ (wakeTime s ≤ 2 ^ 64 - 8 → wakeTime s ≤ t.time) := by
  obtain ⟨time, mono, tm, hu, hreach, -, -⟩ := timeTo_event s (wakeTime s)
  have hrun : exec (.wakeAlarm viso) s = .next (wake (timeTo s (wakeTime s)) 8 viso) :=
    congrArg Host.Outcome.next (if_pos (Bool.and_eq_true_iff.mpr ⟨hon, harm⟩))
  rw [hu] at hrun
  have hres := (wake_resumed { s with time := time, mono := mono, tm := tm } 8 viso).1
  exact ⟨_, hrun, wake_woken { s with time := time, mono := mono, tm := tm } viso (by decide), fun h => (hreach h).trans_eq hres.time.symm⟩

theorem wakeAlarm_ignored (h : wakeOn s 3 = false ∨ s.pwr.alarmArmed = false) (viso : Nat) : exec (.wakeAlarm viso) s = .next s :=
  congrArg Host.Outcome.next (if_neg (by rw [Bool.and_eq_false_iff.mpr h]; decide))

theorem wakeOn_awake (h : s.md.mode ≠ .quiet) (src : Nat) : wakeOn s src = false := by
  rw [wakeOn, decide_eq_false h, Bool.false_and]

/-- Settles O37: each source, enabled and not. -/
theorem wakeSources : Obligations.WakeSources :=
  fun _ _ _ _ viso => ⟨fun h => wakePad_wakes h viso, fun h => wakePad_ignored h viso,
    fun hon hears hfd hrtr hit => wakeCan_wakes hon hears hfd hrtr hit viso, fun h => wakeCan_ignored h viso,
    fun hon harm => wakeAlarm_wakes hon harm viso, fun h => wakeAlarm_ignored h viso,
    fun h => ⟨wakeOn_awake h _, wakeOn_awake h _, wakeOn_awake h _⟩⟩

end
end Sys2Proof.Machine

namespace Sys2Proof.Machine

/-! ## The majority rule (R126, R130, Table 5.12) -/

section
variable {α : Type} [DecidableEq α] {m : Nat} {l : List (Sent α)} {v w : α}

theorem agreeing_cons (e : Sent α) (l : List (Sent α)) (v : α) : agreeing (e :: l) v = agreeing l v + if e.2 = v then 1 else 0 := by
  by_cases h : e.2 = v <;> simp [agreeing, h]

/-- Two values are sent by different lanes. -/
theorem agreeing_add_le (l : List (Sent α)) (h : v ≠ w) : agreeing l v + agreeing l w ≤ l.length := by
  induction l with
  | nil => rfl
  | cons e r ih =>
    have hone : ¬ (e.2 = v ∧ e.2 = w) := fun hb => h (hb.1.symm.trans hb.2)
    rw [agreeing_cons, agreeing_cons, List.length_cons]
    split_ifs with hv hw
    · exact absurd ⟨hv, hw⟩ hone
    all_goals omega

/-- The outcome is a value that two lanes sent. -/
theorem voted_agreeing (h : voted m l = some v) : 2 ≤ m ∧ 2 ≤ agreeing l v := by
  unfold voted at h
  split at h
  · contradiction
  · next hm =>
    obtain ⟨e, he, rfl⟩ := Option.map_eq_some_iff.mp h
    exact ⟨Nat.not_lt.mp hm, by simpa using List.find?_some he⟩

/-- Among at most three lanes, the value that two of them sent is the outcome. -/
theorem voted_of_agreeing (hl : l.length ≤ 3) (hm : 2 ≤ m) (h : 2 ≤ agreeing l v) : voted m l = some v := by
  obtain ⟨e, he⟩ := List.exists_mem_of_length_pos (show 0 < (l.filter fun e => decide (e.2 = v)).length from Nat.lt_of_lt_of_le Nat.two_pos h)
  obtain ⟨hmem, hev⟩ := List.mem_filter.mp he
  have hfound : (l.find? fun e => decide (2 ≤ agreeing l e.2)).isSome = true :=
    List.find?_isSome.mpr ⟨e, hmem, by rw [of_decide_eq_true hev]; exact decide_eq_true h⟩
  obtain ⟨q, hq⟩ := Option.isSome_iff_exists.mp hfound
  have hvote : voted m l = some q.2 := by rw [voted, if_neg (Nat.not_lt.mpr hm), hq]; rfl
  have hqv : q.2 = v := by
    by_contra hne
    have := agreeing_add_le l hne
    have := (voted_agreeing hvote).2
    omega
  exact hqv ▸ hvote

/-- Settles O25: of two values that two lanes each send, four lanes would be needed. -/
theorem voteMajority : Obligations.VoteMajority :=
  fun _ _ _ hl => ⟨voted_of_agreeing hl, voted_agreeing, fun hm => if_pos hm⟩
end
end Sys2Proof.Machine

namespace Sys2Proof.Machine

/-! ## The events of a die and its time link (R113, R187, R190) -/

section
variable {s : State} {d : Die} {offset : Int} {m : Nat}

/-- Each correction takes 4 ns from the offset's size, down to none (R187, R190). -/
theorem nearer_natAbs (o : Int) (n : Nat) : (nearer o n).natAbs = o.natAbs - 4 * n := by
  unfold nearer
  split <;> omega

/-- The approach of a die's time to an instant passes time, and nothing else. -/
theorem dieApproach_frame (n : Nat) (s : State) (d : Die) (t : Nat) : ∃ time mono tm,
    dieApproach n s d t = { s with time := time, mono := mono, tm := tm } := by
  induction n generalizing s with
  | zero => exact ⟨_, _, _, rfl⟩
  | succ n ih =>
    unfold dieApproach
    split
    · exact ⟨_, _, _, rfl⟩
    · obtain ⟨time, mono, tm, h⟩ := ih (timeTo s (s.time + max 1 ((t - dieTime s d) * 3999 / 4000)))
      rw [h, timeTo_frame]
      exact ⟨time, mono, tm, rfl⟩

theorem dieTimeTo_frame (s : State) (d : Die) (t : Nat) : ∃ time mono tm,
    dieTimeTo s d t = { s with time := time, mono := mono, tm := tm } := by
  unfold dieTimeTo
  split
  · exact ⟨_, _, _, timeTo_frame s t⟩
  · exact dieApproach_frame 8 s d t

/-- An instant of the die's time that has passed lets no time pass. -/
theorem dieTimeTo_past {t : Nat} (h : t ≤ dieTime s d) : dieTimeTo s d t = s := by
  unfold dieTimeTo
  split
  · next h0 =>
    have : dieTime s d = s.time := by rw [dieTime, h0]; simp
    exact timeTo_past (this ▸ h)
  · exact if_pos h

/-! ### INPUT_EVENT_FRAME -/

/-- A change is stamped once the die's time has come to the instant given. -/
theorem inputEventFrame_changed (t : Nat) (hr : ready s d = true) (h : dieContent s d ≠ s.die[d].told) : exec (.inputEventFrame d t) s =
    .next (stampEvent (dieTimeTo s d t) d (max (dieTimeTo s d t).die[d].evAt (dieTime (dieTimeTo s d t) d))) :=
  congrArg Host.Outcome.next (if_pos (by rw [hr, Bool.true_and, bne_iff_ne]; exact h))

theorem inputEventFrame_same (t : Nat) (h : dieContent s d = s.die[d].told) : exec (.inputEventFrame d t) s = .next s :=
  congrArg Host.Outcome.next (if_neg (by rw [h, bne_self_eq_false, Bool.and_false]; decide))

/-- The event has the next number, and a stamp on the grid of 4 ns (R113). -/
theorem inputEventFrame_runs (t : Nat) (hr : ready s d = true) (h : dieContent s d ≠ s.die[d].told) :
    ∃ u, exec (.inputEventFrame d t) s = .next u ∧ u.die[d].evSeq = s.die[d].evSeq + 1 ∧ u.die[d].evAt % 4 = 0 ∧
      (∀ e : Die, e ≠ d → u.die[e] = s.die[e]) ∧
      u.die[d] = { s.die[d] with evSeq := u.die[d].evSeq, evAt := u.die[d].evAt, told := u.die[d].told } ∧
      u = { s with die := u.die, time := u.time, mono := u.mono, tm := u.tm } := by
  have hrun := inputEventFrame_changed t hr h
  obtain ⟨time, mono, tm, hto⟩ := dieTimeTo_frame s d t
  rw [hto] at hrun
  refine ⟨_, hrun, ?_, ?_, fun e he => vmod_other _ _ he, ?_, rfl⟩ <;> simp only [stampEvent, updDie_die, vmod_same]
  exact Nat.mul_mod_left ..

/-- A die whose time has come stamps the event now. -/
theorem inputEventFrame_now {t : Nat} (hr : ready s d = true) (h : dieContent s d ≠ s.die[d].told) (ht : t ≤ dieTime s d)
    (hat : s.die[d].evAt ≤ dieTime s d) (hlt : dieTime s d < 2 ^ 64) :
    exec (.inputEventFrame d t) s = .next { s with die := s.die.set d { s.die[d] with
      evSeq := s.die[d].evSeq + 1, evAt := dieTime s d / 4 * 4, told := dieContent s d } } := by
  have hstamp : stampOf (dieTime s d) = dieTime s d / 4 * 4 := by rw [stampOf, Nat.mod_eq_of_lt hlt]
  rw [inputEventFrame_changed t hr h, dieTimeTo_past ht, Nat.max_eq_right hat, stampEvent, hstamp]
  rfl

/-! ### TIME_FRAME -/

/-- A frame of the time link that fails its CRC is counted and not used. -/
theorem timeFrame_bad (offset : Int) (hr : ready s d = true) : ∃ t, exec (.timeFrame d false offset) s = .next t ∧
    t.die[d].linkErr = s.die[d].linkErr + 1 ∧ t.die[d].offset = s.die[d].offset ∧ t.die[d].lock = s.die[d].lock ∧
    t = { s with die := t.die } := by
  have hrun : exec (.timeFrame d false offset) s =
      .next (updDie (updLink s (.time d) linkBad) d fun x => { x with linkErr := x.linkErr + 1 }) := by
    show execTimeFrame d false offset s = _
    simp only [execTimeFrame, linkFrame, linkDie, hr, spoilFrame_other s (.time d) (show FrameKind.idle ≠ .event by decide),
      Bool.not_true, Bool.not_false, Bool.and_false, Bool.false_and, Bool.false_eq_true, if_false, if_true]
  refine ⟨_, hrun, ?_, ?_, ?_, rfl⟩ <;> simp only [updLink, updDie_die, vmod_same]

/-- On a time link that is up, of a device past its boot, a good frame is followed. -/
theorem timeFrame_good (offset : Int) (hr : ready s d = true) (hup : s.die[d].time.up = true) (hp : s.boot.phase = 9) :
    exec (.timeFrame d true offset) s = .next (dieLock s d offset) := by
  have hframe : linkFrame s (.time d) true .idle = s := linkFrame_up hr hup
  exact congrArg Host.Outcome.next ((if_pos (by rw [hr, hup, hp]; rfl)).trans (congrArg (dieLock · d offset) hframe))

/-- An event of a die is kept there, or recorded; the die's own state stays (R414). -/
theorem dieLedger_die (s : State) (d : Die) (code inst arg : Nat) :
    ∃ kept, (dieLedger s d code inst arg).die = s.die.set d { s.die[d] with kept := kept } := by
  have hsame : s.die = s.die.set d { s.die[d] with kept := s.die[d].kept } := (Vector.set_getElem_self ..).symm
  unfold dieLedger
  split
  · dsimp only
    split
    · exact ⟨_, rfl⟩
    · exact ⟨_, hsame⟩
  · rw [ledgerAt_frame]
    exact ⟨_, hsame⟩

/-- With an uplink up the event is in the ledger (R414, R415). -/
theorem dieLedger_bit0 {code : Nat} (inst arg : Nat) (h : code < 32) (hu : uplinksDown s d = false) :
    (dieLedger s d code inst arg).led.bits[0].getLsbD code = true := by
  rw [dieLedger, if_neg (by rw [hu]; decide)]
  exact ledger_bit0 (unit := d.val + 1) h

/-- The offset measured is taken, locked within 10 ns (R190). -/
theorem dieLock_takes (hc : s.die[d].corrFrom = none) (ho : offset.natAbs ≤ 100000) : dieLock s d offset =
    { s with die := s.die.set d { s.die[d] with offset := offset, corrFrom := some s.mono, lock := decide (offset.natAbs ≤ 10) } } := by
  simp only [dieLock, hc, Option.isNone_none, if_true, if_neg (Nat.not_lt.mpr ho), updDie, vmod]

/-- A die whose time steps to its link's, at tick count `at_` (R190). -/
def timeStepped (at_ : Nat) (x : DieSt) : DieSt := { x with offset := 0, corrFrom := some at_, lock := true }

/-- Beyond 100 µs the die steps, with TIME_STEP in the ledger while an uplink carries it (R190). -/
theorem dieLock_steps (hc : s.die[d].corrFrom = none) (ho : 100000 < offset.natAbs) : (dieLock s d offset).die[d].offset = 0 ∧
    (dieLock s d offset).die[d].lock = true ∧ (dieLock s d offset).die[d].corrFrom = some s.mono ∧
    (uplinksDown s d = false → (dieLock s d offset).led.bits[0].getLsbD 6 = true) ∧
    dieLock s d offset = { s with
      die := (dieLock s d offset).die, led := (dieLock s d offset).led, irqStat := (dieLock s d offset).irqStat } := by
  have hrun : dieLock s d offset = dieLedger (updDie s d (timeStepped s.mono)) d 6 0 (codeOf 32 (satInt 32 (-offset))) := by
    simp only [dieLock, hc, Option.isNone_none, if_true, if_pos ho]
    rfl
  have hup : uplinksDown (updDie s d (timeStepped s.mono)) d = uplinksDown s d := by
    simp only [uplinksDown, updDie_die, vmod_same, timeStepped]
  have hframe := dieLedger_frame (updDie s d (timeStepped s.mono)) d 6 0 (codeOf 32 (satInt 32 (-offset)))
  obtain ⟨kept, hdie⟩ := dieLedger_die (updDie s d (timeStepped s.mono)) d 6 0 (codeOf 32 (satInt 32 (-offset)))
  have hd : (dieLock s d offset).die[d] = { timeStepped s.mono s.die[d] with kept := kept } := by
    rw [hrun, hdie]
    refine (Vector.getElem_set_self ..).trans ?_
    rw [updDie_die, vmod_same]
  rw [hd]
  refine ⟨rfl, rfl, rfl, fun h => hrun ▸ dieLedger_bit0 _ _ (by decide) (hup.trans h), ?_⟩
  rw [hrun]
  exact hframe

/-- A die that corrects its offset is locked once that is within 10 ns (R190). -/
theorem dieLock_corrects (hc : s.die[d].corrFrom = some m) (ho : s.die[d].offset.natAbs ≤ 100000) : dieLock s d offset =
    { s with die := s.die.set d { s.die[d] with
      lock := s.die[d].lock || decide (s.die[d].offset.natAbs - 4 * ((s.mono - m) / 16000) ≤ 10) } } := by
  have hcur : (curOffset s d).natAbs = s.die[d].offset.natAbs - 4 * ((s.mono - m) / 16000) := by
    rw [curOffset, hc]
    exact nearer_natAbs ..
  have hnot : ¬ 100000 < s.die[d].offset.natAbs - 4 * ((s.mono - m) / 16000) := by omega
  simp only [dieLock, hc, Option.isNone_some, Bool.false_eq_true, if_false, hcur, hnot, updDie, vmod]

/-- Settles O20: the events of a die, and the frames of its time link. -/
theorem dieEventsAndTime : Obligations.DieEventsAndTime :=
  fun _ _ t0 offset _ hr => ⟨fun h ht hat hlt => inputEventFrame_now hr h ht hat hlt, inputEventFrame_runs t0 hr, inputEventFrame_same t0,
    timeFrame_bad offset hr, fun hup hp =>
    ⟨fun hc ho => (timeFrame_good offset hr hup hp).trans (congrArg _ (dieLock_takes hc ho)),
      fun hc ho => ⟨_, timeFrame_good offset hr hup hp, dieLock_steps hc ho⟩,
      fun hc ho => (timeFrame_good offset hr hup hp).trans (congrArg _ (dieLock_corrects hc ho))⟩⟩
end
end Sys2Proof.Machine

namespace Sys2Proof.Machine

/-! ## The vote close (R112, R117, R126, R127) -/

/-- The state without what the lanes' close and the final pass of a joining lane may change. -/
def sansClose (s : State) : State := { s with lane := State.reset.lane, wd := State.reset.wd, cyc := { s.cyc with finalPass := none } }

/-- A lane halted at vote close, as a member (`m`) or not (R127). -/
def haltedAtClose (m : Bool) (x : LaneSt) : LaneSt :=
  learns 2 m { x with run := .halted, lineReq := none, shadowDiff := x.shadowDiff || decide (x.state = 6), close := closeReset }

/-- A lane whose image never came, as a member (`m`) among three or not (R127). -/
def absentAtClose (m : Bool) (x : LaneSt) : LaneSt :=
  learns 3 m { x with shadowDiff := x.shadowDiff || decide (x.state = 6), close := closeReset }

/-- A lane whose outputs count sends them (R117, R126). -/
def sentAtClose (x : LaneSt) : LaneSt := { x with close := closeOf x, closedCopy := closedOf x }

/-- A lane without what the compute window and CATCHUP count and copy (R139, R140). -/
def sansCatchup (x : LaneSt) : LaneSt := { x with mem := [], dirty := [], copyAt := 0, shadowEnds := 0, convCnt := 0, winUsed := 0 }

section
variable {s t u : State} {l k : Lane}

/-! ### One lane -/

theorem learnCause_same (s : State) (l : Lane) (c : Nat) : sansClose (learnCause s l c) = sansClose s := ite_same rfl rfl

theorem learnCause_other (s : State) {l k : Lane} (c : Nat) (h : k ≠ l) : (learnCause s l c).lane[k] = s.lane[k] := by
  rw [learnCause_eq]
  exact vmod_other _ _ h

theorem laneClose_same (s : State) (l : Lane) : sansClose (laneClose s l) = sansClose s := by
  unfold laneClose
  extract_lets x s2 s1
  have h1 : sansClose s1 = sansClose s := by
    show sansClose (match x.run with | .computing => _ | .waiting => _ | _ => _) = _
    split
    · exact (learnCause_same ..).trans rfl
    · exact ite_same ((learnCause_same ..).trans rfl) rfl
    · rfl
  clear_value s1
  exact ite_same h1 h1

theorem laneClose_other (s : State) {l k : Lane} (h : k ≠ l) : (laneClose s l).lane[k] = s.lane[k] := by
  unfold laneClose
  extract_lets x s2 s1
  have h1 : s1.lane[k] = s.lane[k] := by
    show (match x.run with | .computing => _ | .waiting => _ | _ => _ : State).lane[k] = _
    split
    · exact (learnCause_other _ _ h).trans (vmod_other _ _ h)
    · exact ite_same (π := fun t : State => t.lane[k]) ((learnCause_other _ _ h).trans (vmod_other _ _ h)) (vmod_other _ _ h)
    · rfl
  clear_value s1
  exact ite_same (π := fun t : State => t.lane[k]) ((vmod_other _ _ h).trans h1) ((vmod_other _ _ h).trans h1)

theorem wdOff_updLane (s : State) (l : Lane) (i : Fin 4) (f : LaneSt → LaneSt) : wdOff (updLane s l f) i = updLane (wdOff s i) l f := rfl

theorem laneClose_computing (h : s.lane[l].run = .computing) : (laneClose s l).lane[l] = haltedAtClose (memberOf s l) s.lane[l] := by
  have hv : voteReady s.lane[l] = false := by rw [voteReady, h]; rfl
  unfold laneClose
  dsimp only
  rw [hv, h]
  simp only [Bool.false_eq_true, if_false, wdOff_updLane, learnCause_eq, updLane_updLane, updLane_lane, vmod_same]
  rfl

theorem laneClose_waiting (h : s.lane[l].run = .waiting) (hd : s.lane[l].delivered = false) (hm : memberCount s.cyc.member = 3) :
    (laneClose s l).lane[l] = absentAtClose (memberOf s l) s.lane[l] := by
  have hv : voteReady s.lane[l] = false := by rw [voteReady, h]; rfl
  unfold laneClose
  dsimp only
  rw [hv, h]
  simp only [hd, hm, Bool.not_false, and_self, Bool.false_eq_true, if_true, if_false, learnCause_eq, updLane_updLane, updLane_lane, vmod_same]
  rfl

theorem laneClose_done (h : s.lane[l].run = .done) (ht : s.lane[l].trapped = false) (hi : s.lane[l].imgValid = true) :
    (laneClose s l).lane[l] = sentAtClose s.lane[l] := by
  have hv : voteReady s.lane[l] = true := by rw [voteReady, h, ht, hi]; rfl
  unfold laneClose
  dsimp only
  rw [hv, h]
  simp only [if_true, updLane_lane, vmod_same]
  rfl

/-! ### A lane in CATCHUP -/

theorem recopy_same (s : State) (l : Lane) : sansClose (recopy s l) = sansClose s := by
  unfold recopy
  split <;> rfl

theorem recopy_other (s : State) {l k : Lane} (h : k ≠ l) : (recopy s l).lane[k] = s.lane[k] := by
  unfold recopy
  split
  · rfl
  · exact vmod_other _ _ h

theorem recopy_lane (s : State) (l : Lane) : sansCatchup (recopy s l).lane[l] = sansCatchup s.lane[l] := by
  unfold recopy
  split
  · rfl
  · rw [updLane_lane, vmod_same]
    rfl

theorem catchup_idle (h : s.lane[l].state ≠ 5) : catchup s l = s := if_pos (.inl h)

theorem catchup_same (s : State) (l : Lane) : sansClose (catchup s l) = sansClose s := by
  have h1 := recopy_same s l
  unfold catchup
  generalize recopy s l = u at h1
  exact ite_same rfl (ite_same h1 h1)

theorem catchup_other (s : State) {l k : Lane} (h : k ≠ l) : (catchup s l).lane[k] = s.lane[k] := by
  have h1 := recopy_other s h
  unfold catchup
  generalize recopy s l = u at h1
  exact ite_same (π := fun t : State => t.lane[k]) rfl
    (ite_same (π := fun t : State => t.lane[k]) ((vmod_other _ _ h).trans h1) ((vmod_other _ _ h).trans h1))

theorem catchup_lane (s : State) (l : Lane) : sansCatchup (catchup s l).lane[l] = sansCatchup s.lane[l] := by
  have h1 := recopy_lane s l
  unfold catchup
  generalize recopy s l = u at h1
  refine ite_same (π := fun t : State => sansCatchup t.lane[l]) rfl (ite_same (π := fun t : State => sansCatchup t.lane[l]) ?_ ?_)
  · rw [updLane_lane, vmod_same]
    exact h1
  · rw [updLane_lane, vmod_same]
    exact h1

/-! ### The three lanes -/

/-- Time does not go back (R184). -/
theorem timeTo_forward (s : State) (t : Nat) : s.time ≤ (timeTo s t).time := by
  by_cases h : s.time < t ∧ t ≤ lastInstant
  · exact h.1.le.trans (timeTo_reaches h.2)
  · rw [timeTo, if_neg h]


/-- A pass over the lanes that changes a lane only in its own step: lane `l` stands after it as after that step, taken in a state where it stood as before. -/
theorem lanes_pass {f : State → Lane → State} (hsame : ∀ t k, sansClose (f t k) = sansClose t)
    (hother : ∀ t (k j : Lane), j ≠ k → (f t k).lane[j] = t.lane[j]) (s : State) (l : Lane) :
    ∃ u, u.lane[l] = s.lane[l] ∧ sansClose u = sansClose s ∧ (lanes3.foldl f s).lane[l] = (f u l).lane[l] := by
  have hfold : lanes3.foldl f s = f (f (f s 0) 1) 2 := rfl
  rw [hfold]
  match l with
  | 0 => exact ⟨s, rfl, rfl, (hother _ 2 0 (by decide)).trans (hother _ 1 0 (by decide))⟩
  | 1 => exact ⟨f s 0, hother _ 0 1 (by decide), hsame _ _, hother _ 2 1 (by decide)⟩
  | 2 => exact ⟨f (f s 0) 1, (hother _ 1 2 (by decide)).trans (hother _ 0 2 (by decide)), (hsame _ _).trans (hsame _ _), rfl⟩

/-- The vote close of a cycle in which lanes run and which is not closed yet. -/
structure AtClose (s : State) : Prop where
  running : s.cyc.running = true
  mode : lanesRun s.md.mode = true
  isOpen : s.cyc.closed = false

/-- Each lane after a vote close stands as after its own close, but for CATCHUP. -/
theorem voteClose_lane (h : AtClose s) (l : Lane) : ∃ u, u.lane[l] = s.lane[l] ∧ u.cyc.member = s.cyc.member ∧
    sansCatchup (voteClose s).lane[l] = sansCatchup (laneClose u l).lane[l] ∧
    ((laneClose u l).lane[l].state ≠ 5 → (voteClose s).lane[l].mem = (laneClose u l).lane[l].mem) := by
  obtain ⟨hr, hm, hc⟩ := h
  unfold voteClose
  rw [hr, hm, hc, if_neg (by decide)]
  extract_lets s1 s2 cyc s3
  obtain ⟨u, hul, hu, hclose⟩ := lanes_pass laneClose_same (fun t k j => laneClose_other t) s1 l
  obtain ⟨v, hvl, -, hcatch⟩ := lanes_pass catchup_same (fun t k j => catchup_other t) s3 l
  have hs1 : s1 = _ := timeTo_frame s (voteCloseAt s)
  have h3 : ∃ w, s3.lane[l] = { (laneClose u l).lane[l] with winUsed := w } :=
    ⟨_, (Vector.getElem_map _ l.isLt).trans (by rw [← hclose]; rfl)⟩
  obtain ⟨w, h3⟩ := h3
  refine ⟨u, hul.trans (by rw [hs1]), (congrArg (fun t : State => t.cyc.member) hu).trans (by rw [hs1]; rfl), ?_, fun h5 => ?_⟩
  · rw [hcatch, catchup_lane, hvl, h3]
    rfl
  · have hv5 : v.lane[l].state ≠ 5 := by rw [hvl, h3]; exact h5
    rw [hcatch, catchup_idle hv5, hvl, h3]

theorem voteClose_same (h : AtClose s) : ∃ staged, sansClose (voteClose s) =
    sansClose { timeTo s (voteCloseAt s) with cyc := { s.cyc with closed := true, staged := staged } } := by
  obtain ⟨hr, hm, hc⟩ := h
  have hs1 := timeTo_frame s (voteCloseAt s)
  unfold voteClose
  rw [hr, hm, hc, if_neg (by decide)]
  extract_lets s1 s2 cyc s3
  have h2 : sansClose s2 = sansClose s1 := foldl_same laneClose_same lanes3 s1
  have h3 : sansClose (lanes3.foldl catchup s3) = sansClose s3 := foldl_same catchup_same lanes3 s3
  refine ⟨stagedWords s2, h3.trans ?_⟩
  refine (congrArg (fun t : State => { t with cyc := { t.cyc with closed := true, staged := stagedWords s2 } }) h2).trans ?_
  rw [show s1 = _ from hs1]
  rfl

/-! ### The statement -/

/-- A member that still computes is halted with cause 2, and sends nothing (R127). -/
theorem voteClose_halts (h : AtClose s) (hr : s.lane[l].run = .computing) (hm : memberOf s l = true) (hp : s.lane[l].pendCause = 0) :
    (voteClose s).lane[l].run = .halted ∧ (voteClose s).lane[l].pendCause = 2 ∧ (voteClose s).lane[l].close.present = false := by
  obtain ⟨u, hul, hum, hlane, -⟩ := voteClose_lane h l
  have hmu : memberOf u l = true := by rw [memberOf, hum]; exact hm
  rw [laneClose_computing (hul ▸ hr), hmu, hul] at hlane
  exact ⟨(congrArg LaneSt.run hlane :), (congrArg LaneSt.pendCause hlane).trans (if_pos ⟨rfl, hp⟩),
    (congrArg (fun x : LaneSt => x.close.present) hlane :)⟩

/-- Among three members a lane without its image learns cause 3 (R127). -/
theorem voteClose_absent (h : AtClose s) (hr : s.lane[l].run = .waiting) (hd : s.lane[l].delivered = false) (hm : s.cyc.member = 7)
    (hp : s.lane[l].pendCause = 0) : (voteClose s).lane[l].pendCause = 3 ∧ (voteClose s).lane[l].close.present = false := by
  obtain ⟨u, hul, hum, hlane, -⟩ := voteClose_lane h l
  rw [laneClose_waiting (hul ▸ hr) (hul ▸ hd) (by rw [hum, hm]; rfl), memberOf_all (hum.trans hm) l, hul] at hlane
  exact ⟨(congrArg LaneSt.pendCause hlane).trans (if_pos ⟨rfl, hp⟩), (congrArg (fun x : LaneSt => x.close.present) hlane :)⟩

/-- A lane whose outputs count sends its permit word and its report words (R117, R126). -/
theorem voteClose_sends (h : AtClose s) (hr : s.lane[l].run = .done) (ht : s.lane[l].trapped = false) (hi : s.lane[l].imgValid = true) :
    (voteClose s).lane[l].close = closeOf s.lane[l] ∧ (s.lane[l].state ≠ 5 → (voteClose s).lane[l].mem = s.lane[l].mem) ∧
    (voteClose s).lane[l].x = s.lane[l].x := by
  obtain ⟨u, hul, -, hlane, hmem⟩ := voteClose_lane h l
  rw [laneClose_done (hul ▸ hr) (hul ▸ ht) (hul ▸ hi), hul] at hlane hmem
  exact ⟨(congrArg LaneSt.close hlane :), hmem, (congrArg LaneSt.x hlane :)⟩

theorem closeOf_reports (x : LaneSt) {i : Nat} (h : i < 64) :
    (closeOf x).reports.getD i 0 = BitVec.ofNat 32 (leAt x.mem (0x31000800 + 4 * i) 4) := by
  simp [closeOf, List.getD, h]

end
end Sys2Proof.Machine

namespace Sys2Proof
section
open Machine

/-- Settles O28: time and the frame of a vote close, and its three kinds of lane. -/
theorem voteClose : Obligations.VoteClose := by
  intro s l hrun hmode hopen
  have h : AtClose s := ⟨hrun, hmode, hopen⟩
  obtain ⟨time, mono, tm, hto, hreach, -, -⟩ := timeTo_event s (voteCloseAt s)
  have hpast : s.time ≤ time := (timeTo_forward s (voteCloseAt s)).trans_eq (congrArg State.time hto :)
  obtain ⟨staged, hsame⟩ := voteClose_same h
  rw [hto] at hsame
  refine ⟨Machine.voteClose s, rfl, (congrArg (fun t : State => t.cyc.closed) hsame :),
    fun ht => (hreach ht).trans_eq (congrArg State.time hsame).symm,
    hpast.trans_eq (congrArg State.time hsame).symm, (congrArg (fun t : State => t.cyc.n) hsame :), voteClose_halts h, voteClose_absent h,
    fun hr ht hi => ?_, (congrArg State.store hsame :), (congrArg State.regs hsame :), (congrArg State.field hsame :), (congrArg State.die hsame :)⟩
  obtain ⟨hclose, hmem, hx⟩ := voteClose_sends h hr ht hi
  rw [hclose]
  exact ⟨rfl, rfl, fun i hi => closeOf_reports _ hi, hmem, hx⟩
end
end Sys2Proof

namespace Sys2Proof.Machine

/-! ## An attempt of a lane fails (R138, R139, R143) -/

section
variable {s : State} {l : Lane} {n : Nat}

theorem mntEndOf_lane (s : State) (kind index e : Nat) : (mntEndOf s kind index e).lane = s.lane := by rw [mntEndOf_frame]

/-- Without attempts left the lane is OUT (R138). -/
theorem reintOut_lane (s : State) (l : Lane) : (reintOut s l).lane =
    vmod s.lane l fun x => { x with state := 1, triesLeft := 0, dirty := [], convCnt := 0 } := mntEndOf_lane ..

/-- A lane in RESET, its next attempt begun at tick count `at_` with `n` left after it (R138). -/
def attemptBegun (n at_ : Nat) (x : LaneSt) : LaneSt :=
  { x with
    state := 2, triesLeft := n, attempts := satAdd 65535 x.attempts 1, dirty := [], convCnt := 0, stageAt := at_
    shadowDiff := false, run := .halted, copyAt := 0, winUsed := 0 }

/-- A lane whose clock runs begins its next attempt (R138, R143). -/
theorem reintAttempts_begins (n : Nat) (h : s.lane[l].clockOk = true) :
    reintAttempts (n + 1) s l = updLane s l (attemptBegun n s.mono) := by
  rw [reintAttempts, h]
  rfl

/-- In `t` an attempt of lane `l` has failed with `code`, `n` being left before it: it is in RESET with one fewer, or OUT. -/
structure AttemptFailed (s t : State) (l : Lane) (code n : Nat) : Prop where
  reason : t.lane[l].rfail = code
  left : t.lane[l].triesLeft = n - 1
  stage : t.lane[l].state = if n = 0 then 1 else 2
  others : ∀ k : Lane, k ≠ l → t.lane[k] = s.lane[k]
  now : t.mono = s.mono

theorem reintAttempts_fails (n : Nat) (hclk : n = 0 ∨ s.lane[l].clockOk = true) :
    AttemptFailed s (reintAttempts n s l) l s.lane[l].rfail n := by
  cases n with
  | zero =>
    have hl := reintOut_lane s l
    have hnow : (reintOut s l).mono = s.mono := by rw [reintOut, mntEndOf_frame]; rfl
    refine ⟨?_, ?_, ?_, fun k hk => ?_, hnow⟩ <;> simp only [reintAttempts, hl, vmod_same]
    · rfl
    · exact vmod_other _ _ hk
  | succ n =>
    rw [reintAttempts_begins n (hclk.resolve_left (Nat.succ_ne_zero n))]
    refine ⟨?_, ?_, ?_, fun k hk => vmod_other _ _ hk, rfl⟩ <;> rw [updLane_lane, vmod_same] <;> rfl

/-- An attempt fails, and the next one starts while attempts remain (R139). -/
theorem reintFail_fails (code : Nat) (hclk : s.lane[l].triesLeft = 0 ∨ s.lane[l].clockOk = true) (hgo : reintAllowed s = true) :
    AttemptFailed s (reintFail s l code) l code s.lane[l].triesLeft := by
  have hl : (updLane s l fun x => { x with rfail := code }).lane[l] = { s.lane[l] with rfail := code } := vmod_same ..
  have hrun : reintFail s l code = reintAttempts s.lane[l].triesLeft { updLane s l fun x => { x with rfail := code } with
      cyc := { s.cyc with finalPass := if s.cyc.finalPass = some l then none else s.cyc.finalPass } } l := by rw [reintFail, if_pos hgo]
  obtain ⟨hreason, hleft, hstage, hothers, hnow⟩ := reintAttempts_fails (s := { updLane s l fun x => { x with rfail := code } with
      cyc := { s.cyc with finalPass := if s.cyc.finalPass = some l then none else s.cyc.finalPass } }) (l := l) s.lane[l].triesLeft
    (by rw [hl]; exact hclk)
  rw [hrun]
  exact ⟨hreason.trans (congrArg LaneSt.rfail hl), hleft, hstage, fun k hk => (hothers k hk).trans (vmod_other _ _ hk), hnow⟩

/-! ## The maximum of a stage (R139, R140, Table 5.14) -/

/-- The instant `e` at which the stage of lane `l` reaches its maximum; that of BULK falls in the compute window or never (R139). -/
def StageOver (s : State) (l : Lane) (e : Nat) : Prop :=
  s.lane[l].state = 2 ∧ e = s.lane[l].stageAt + 200000 ∨ s.lane[l].state = 3 ∧ e = s.lane[l].stageAt + 524288 ∨
    s.lane[l].state = 4 ∧ s.cyc.running = true ∧ s.cyc.closed = false ∧ e ≤ (windowOf s).2 ∧
      e = max (windowOf s).1 (s.lane[l].stageAt + 360448) + (131072 - s.lane[l].winUsed)

theorem lanesRun_of_reintAllowed (h : reintAllowed s = true) : lanesRun s.md.mode = true := by
  obtain ⟨hm, -⟩ := Bool.and_eq_true_iff.mp h
  rw [lanesRun, hm, Bool.true_or]

theorem reintStageTime_over {e : Nat} (hgo : reintAllowed s = true) (h : StageOver s l e) :
    exec (.reintStageTime l) s = .next (reintFail (monoTo s e) l 7) := by
  show execReintStageTime l s = _
  unfold execReintStageTime
  dsimp only
  rcases h with ⟨hst, rfl⟩ | ⟨hst, rfl⟩ | ⟨hst, hrun, hopen, hle, he⟩
  · simp only [hst]
  · simp only [hst]
  · have hend : bulkEnd s s.lane[l] = some e := by
      subst he
      exact if_pos ⟨hrun, lanesRun_of_reintAllowed hgo, by rw [hopen]; rfl, hle⟩
    simp only [hst, hend]

/-- Outside the compute window nothing ends BULK. -/
theorem reintStageTime_closed (hst : s.lane[l].state = 4) (hc : s.cyc.closed = true) : exec (.reintStageTime l) s = .next s := by
  have hend : bulkEnd s s.lane[l] = none := if_neg fun h => by simp [hc] at h
  show execReintStageTime l s = _
  unfold execReintStageTime
  dsimp only
  simp only [hst, hend]

/-- Settles O30: each failure ends the attempt, at its instant. -/
theorem reintegrationFailures : Obligations.ReintegrationFailures := by
  rintro s l n e hclk rfl hgo
  refine ⟨fun h => ?_, reintStageTime_closed, fun hst hpass hconv => ?_⟩
  · obtain ⟨time, mono, tm, hto, hreach, -, -⟩ := monoTo_event s e
    have hrun := reintStageTime_over hgo h
    rw [hto] at hrun
    obtain ⟨hreason, hleft, hstage, hothers, hnow⟩ := reintFail_fails
      (s := { s with time := time, mono := mono, tm := tm }) (l := l) 7 (.inr hclk) hgo
    exact ⟨_, hrun, hreach.trans_eq hnow.symm, hreason, hleft, hstage, hothers⟩
  · obtain ⟨hreason, hleft, hstage, hothers, -⟩ := reintFail_fails 3 (.inr hclk) hgo
    exact ⟨_, congrArg Host.Outcome.next (if_pos ⟨hst, hpass, hconv⟩), hreason, hleft, hstage, hothers⟩
end
end Sys2Proof.Machine

namespace Sys2Proof.Machine

/-! ## Copies of memory (R139, R140) -/

section
variable {m n : Memory} {k : Nat}

/-- After the copy of ranges an address in one of them reads from the source, every other as before. -/
theorem memGet_copyRanges (hn : amWf 0 n = true) {rs : List (Nat × Nat)} (hrs : ∀ r ∈ rs, r.1 ≤ r.2) (hm : amWf 0 m = true) (k : Nat) :
    memGet 0 (copyRanges m n rs) k = if ∃ r ∈ rs, r.1 ≤ k ∧ k < r.2 then memGet 0 n k else memGet 0 m k := by
  induction rs generalizing m with
  | nil => simp [copyRanges]
  | cons r rs ih =>
    obtain ⟨hr, hrs⟩ := List.forall_mem_cons.mp hrs
    have hstep : memGet 0 (amCopy m n r.1 r.2) k = if r.1 ≤ k ∧ k < r.2 then memGet 0 n k else memGet 0 m k := amGet_amCopy hr hm hn k
    refine (ih hrs (amWf_amCopy hr hm hn)).trans ?_
    rw [hstep]
    simp only [List.exists_mem_cons_iff]
    by_cases h1 : r.1 ≤ k ∧ k < r.2 <;> by_cases h2 : ∃ r ∈ rs, r.1 ≤ k ∧ k < r.2 <;> simp [h1, h2]

theorem copyBlocks_eq (m n : Memory) (bs : List Nat) :
    copyBlocks m n bs = copyRanges m n (bs.map fun b => (256 * b, 256 * b + 256)) := by
  rw [copyBlocks, copyRanges, List.foldl_map]

/-- After the copy of blocks an address in one of them reads from the source, every other as before. -/
theorem memGet_copyBlocks (hn : amWf 0 n = true) (hm : amWf 0 m = true) (bs : List Nat) (k : Nat) :
    memGet 0 (copyBlocks m n bs) k = if k / 256 ∈ bs then memGet 0 n k else memGet 0 m k := by
  have hin : (∃ r ∈ bs.map fun b => (256 * b, 256 * b + 256), r.1 ≤ k ∧ k < r.2) ↔ k / 256 ∈ bs := by
    simp only [List.mem_map, exists_exists_and_eq_and]
    constructor
    · rintro ⟨b, hb, h1, h2⟩
      rwa [show k / 256 = b by omega]
    · exact fun h => ⟨_, h, by omega, by omega⟩
  rw [copyBlocks_eq, memGet_copyRanges hn (by simp) hm]
  simp only [hin]
end

/-! ## The stages of an attempt (R139 to R141, Table 5.14) -/

section
variable {s : State} {l a c : Lane}

theorem reintResetDone_runs (h : s.lane[l].state = 2) : exec (.reintResetDone l) s = .next (laneAt s l { s.lane[l] with
    x := Vector.replicate 16 0, flN := false, flZ := false, flC := false, flV := false, pc := 0, mem := [], closedCopy := [], pf := []
    lineReq := none, trapped := false, close := closeReset, serve := [], state := 3, stageAt := s.mono }) :=
  congrArg Host.Outcome.next (if_pos h)

/-- Code SRAM is copied when donor and checker agree. -/
theorem reintCodeDone_copies (hd : donorChecker s = some (a, c)) (h : s.lane[l].state = 3)
    (heq : memRange s.lane[a].mem 0 0x80000 = memRange s.lane[c].mem 0 0x80000) : exec (.reintCodeDone l) s = .next (updLane s l fun x =>
      { x with mem := amCopy x.mem s.lane[a].mem 0 0x80000, state := 4, dirty := [], stageAt := s.mono, winUsed := 0 }) := by
  show execReintCodeDone l s = _
  simp only [execReintCodeDone, h, hd, if_pos heq]

theorem reintCodeDone_fails (hd : donorChecker s = some (a, c)) (h : s.lane[l].state = 3)
    (hne : memRange s.lane[a].mem 0 0x80000 ≠ memRange s.lane[c].mem 0 0x80000) :
    exec (.reintCodeDone l) s = .next (reintFail s l 1) := by
  show execReintCodeDone l s = _
  simp only [execReintCodeDone, h, hd, if_neg hne]

/-- Donor and checker agree outside the blocks that are not clean. -/
def CleanAgree (s : State) (l a c : Lane) : Prop :=
  ∀ r ∈ bulkRanges, cleanPart s.lane[l].dirty s.lane[a].mem r = cleanPart s.lane[l].dirty s.lane[c].mem r

/-- The ranges that BULK copies, IMAGE_IN first. -/
theorem reintBulkDone_copies (hd : donorChecker s = some (a, c)) (h : s.lane[l].state = 4) (heq : CleanAgree s l a c) :
    exec (.reintBulkDone l) s = .next (updLane s l fun x => { x with
      mem := copyRanges x.mem s.lane[a].mem ((0x30000000, 0x30020000) :: bulkRanges), state := 5, convCnt := 0, stageAt := s.mono
      copyAt := s.mono, evLost := s.lane[a].evLost }) := by
  show execReintBulkDone l s = _
  simp only [execReintBulkDone, h, hd]
  rw [if_pos (List.all_eq_true.mpr fun r hr => decide_eq_true (heq r hr))]

theorem reintBulkDone_fails (hd : donorChecker s = some (a, c)) (h : s.lane[l].state = 4) (hne : ¬ CleanAgree s l a c) :
    exec (.reintBulkDone l) s = .next (reintFail s l 2) := by
  show execReintBulkDone l s = _
  simp only [execReintBulkDone, h, hd]
  rw [if_neg fun hall => hne fun r hr => of_decide_eq_true (List.all_eq_true.mp hall r hr)]

/-- The final pass hands over to the shadow cycle when the blocks that are not clean agree (R140, R141). -/
theorem finalPassDone_copies (hd : donorChecker s = some (a, c)) (h : s.cyc.finalPass = some l)
    (heq : ∀ b ∈ s.lane[l].dirty, blockEq s.lane[a].mem s.lane[c].mem b = true) :
    exec .finalPassDone s = .next { updLane s l fun x =>
      { x with
        mem := copyBlocks x.mem s.lane[a].mem s.lane[l].dirty, xipBase := s.lane[a].xipBase, xipSpan := s.lane[a].xipSpan
        closedCopy := s.lane[a].closedCopy, dirty := [], state := 6, stageAt := s.mono, shadowDiff := false
        run := .waiting, delivered := false, trapped := false } with
      cyc := { s.cyc with finalPass := none } } := by
  show execFinalPassDone s = _
  simp only [execFinalPassDone, h, hd]
  rw [if_pos (List.all_eq_true.mpr heq)]

/-- The last attempt fails: the lane is OUT. -/
theorem reintFail_last (code : Nat) (hgo : reintAllowed s = true) (htries : s.lane[l].triesLeft = 0) :
    (reintFail s l code).lane[l].state = 1 ∧ (reintFail s l code).lane[l].rfail = code ∧
      ∀ k : Lane, k ≠ l → (reintFail s l code).lane[k] = s.lane[k] := by
  obtain ⟨hreason, -, hstage, hothers, -⟩ := reintFail_fails code (.inl htries) hgo
  exact ⟨hstage.trans (if_pos htries), hreason, hothers⟩

/-- Settles O29: the stages one by one, each with its copy and its failure. -/
theorem reintegrationStages : Obligations.ReintegrationStages := by
  refine ⟨fun s l h => reintResetDone_runs h, fun s l a c hd _ _ => ⟨fun h heq hm ha => ?_, fun h hne hgo htries => ?_,
    fun h heq hm ha => ?_, fun h hne hgo htries => ?_, fun h heq hm ha => ?_⟩⟩
  · have hcopy (b : Nat) := amGet_amCopy (d := (0 : Byte)) (show 0 ≤ 0x80000 by decide) hm ha b
    refine ⟨_, reintCodeDone_copies hd h heq, ?_⟩
    rw [updLane_lane, vmod_same]
    exact ⟨rfl, rfl, fun b hb => (hcopy b).trans (if_pos ⟨Nat.zero_le b, hb⟩), fun b hb => (hcopy b).trans (if_neg (by omega)),
      fun k hk => vmod_other _ _ hk, rfl⟩
  · exact ⟨_, reintCodeDone_fails hd h hne, reintFail_last 1 hgo htries⟩
  · refine ⟨_, reintBulkDone_copies hd h heq, ?_⟩
    rw [updLane_lane, vmod_same]
    refine ⟨rfl, rfl, fun b hb => (memGet_copyRanges ha (by decide) hm b).trans (if_pos ?_), fun k hk => vmod_other _ _ hk, rfl⟩
    simp only [bulkRanges, List.exists_mem_cons_iff]
    tauto
  · exact ⟨_, reintBulkDone_fails hd h fun hall => hne.elim fun r hr => hr.2 (hall r hr.1), reintFail_last 2 hgo htries⟩
  · refine ⟨_, finalPassDone_copies hd h heq, rfl, ?_⟩
    have hcopy (i : Nat) := memGet_copyBlocks ha hm s.lane[l].dirty i
    rw [updLane_lane, vmod_same]
    exact ⟨rfl, rfl, fun i hi => (hcopy i).trans (if_pos hi), fun i hi => (hcopy i).trans (if_neg hi), rfl, rfl, rfl,
      fun k hk => vmod_other _ _ hk, rfl⟩
end
end Sys2Proof.Machine

namespace Sys2Proof.Machine

/-! ## What an accepted write of a home chapter's register has passed (R342, Table 12.6) -/

section
variable {s : State} {p : Port}

theorem firstFail_zero {a b : Nat} (h : firstFail a b = 0) : a = 0 ∧ b = 0 := by
  unfold firstFail at h
  split_ifs at h <;> omega

/-- The register's own check answers 0. -/
theorem homeCheck_of_accepted {page off : Nat} {w : Word} (h : Accepted s p (writeOf page off [w])) : homeCheck s p page off w = 0 := by
  have hcode := h.2
  rw [frameCode_writeOf] at hcode
  split at hcode
  · contradiction
  · unfold writeCode at hcode
    rw [writes_writeOf] at hcode
    dsimp only at hcode
    split_ifs at hcode
    · exact absurd hcode (by decide)
    · exact absurd hcode (by decide)
    · exact absurd hcode (by decide)
    · exact absurd hcode (by decide)
    · have hreg : regCheck s p page off w = 0 := by
        by_contra hne
        rw [show (writeOf page off [w]).page = page from rfl, regsFail, if_pos hne] at hcode
        exact hne hcode
      exact (firstFail_zero hreg).2

/-! ## Fields of a keyed word -/

theorem fieldOf_or (a b : Word) (lo n : Nat) : fieldOf (a ||| b) lo n = fieldOf a lo n ||| fieldOf b lo n := by
  simp only [fieldOf, BitVec.toNat_or, Nat.shiftRight_or_distrib, Nat.or_mod_two_pow]

theorem fieldOf_testBit (w : Word) (lo n i : Nat) : (fieldOf w lo n).testBit i = (decide (i < n) && w.getLsbD (lo + i)) := by
  rw [fieldOf, Nat.testBit_mod_two_pow, Nat.testBit_shiftRight]
  rfl

/-- A value reads back from the field that it is placed in. -/
theorem fieldOf_place_same {lo n v : Nat} (hv : v < 2 ^ n) (hn : lo + n ≤ 32) : fieldOf (place lo v) lo n = v := by
  refine Nat.eq_of_testBit_eq fun i => ?_
  rw [fieldOf_testBit, place_bit]
  by_cases hi : i < n
  · simp [hi, show lo + i < 32 by omega]
  · simp [hi, Nat.testBit_lt_two_pow (hv.trans_le (Nat.pow_le_pow_right Nat.two_pos (Nat.not_lt.mp hi)))]

/-- A field above the value reads zero. -/
theorem fieldOf_place_below {at_ lo n m v : Nat} (hv : v < 2 ^ m) (h : at_ + m ≤ lo) : fieldOf (place at_ v) lo n = 0 := by
  refine Nat.eq_of_testBit_eq fun i => ?_
  rw [fieldOf_testBit, place_bit,
    Nat.testBit_lt_two_pow (hv.trans_le (Nat.pow_le_pow_right Nat.two_pos (show m ≤ lo + i - at_ by omega)))]
  simp

/-- A field below the place reads zero. -/
theorem fieldOf_place_above {at_ lo n : Nat} (v : Nat) (h : lo + n ≤ at_) : fieldOf (place at_ v) lo n = 0 := by
  refine Nat.eq_of_testBit_eq fun i => ?_
  rw [fieldOf_testBit, place_bit]
  by_cases hi : i < n
  · simp [show ¬ at_ ≤ lo + i by omega]
  · simp [hi]

/-! ## The arbiter's slots (R422 to R424) -/

/-- A request that no rule of the arbiter refuses finds an empty slot (R423). -/
theorem room_of_mntStatus {a : ActSt} (h : mntStatus s a = 0) : (mntRunning s).length < 32 := by
  by_contra hfull
  unfold mntStatus mntDecide at h
  dsimp only at h
  rw [if_neg hfull] at h
  split at h
  · next heq =>
    split at heq
    · contradiction
    · split at heq <;> contradiction
  · next r heq =>
    have hr : r.code ≠ 0 := by
      split at heq
      · cases heq; exact Nat.succ_ne_zero _
      · split at heq <;> cases heq <;> exact Nat.succ_ne_zero _
    exact hr h

/-- The running activities are as many as the slots that are not empty. -/
theorem mntRunning_length (s : State) : (mntRunning s).length = (s.mnt.slot.toList.filter Option.isSome).length := by
  have hcount (l : List (Option ActSt)) (n : Nat) :
      ((l.zipIdx n).filterMap fun e => e.1.map fun a => (e.2, a)).length = (l.filter Option.isSome).length := by
    induction l generalizing n with
    | nil => rfl
    | cons e l ih => cases e <;> simp [List.zipIdx_cons, ih]
  exact hcount _ 0

/-- The first empty slot takes the activity. -/
theorem mntStart_takes (a : ActSt) (h : (mntRunning s).length < 32) : ∃ j : Fin 32,
    mntStart s a = { s with mnt := { s.mnt with slot := s.mnt.slot.set j (some a) } } := by
  have hfree : ∃ e ∈ s.mnt.slot.toList, e.isNone = true := by
    by_contra hall
    have hsome : ∀ e ∈ s.mnt.slot.toList, e.isSome = true := fun e he => by
      cases e with
      | none => exact absurd ⟨none, he, rfl⟩ hall
      | some x => rfl
    rw [mntRunning_length, List.filter_eq_self.mpr hsome, Vector.length_toList] at h
    exact lt_irrefl 32 h
  obtain ⟨j, hj⟩ := Option.isSome_iff_exists.mp ((List.findIdx?_isSome ..).trans (List.any_eq_true.mpr hfree))
  have hlt : j < 32 := by
    have := (List.findIdx?_eq_some_iff_findIdx_eq.mp hj).1
    rwa [Vector.length_toList] at this
  refine ⟨⟨j, hlt⟩, ?_⟩
  unfold mntStart
  rw [hj]
  simp only [vset, dif_pos hlt]

theorem mem_slots {α : Type} {n : Nat} (v : Vector (Option α) n) (j : Fin n) (a : α) : a ∈ (v.set j (some a)).toList.filterMap id := by
  rw [List.mem_filterMap]
  exact ⟨some a, by rw [Vector.mem_toList_iff]; exact Vector.mem_set .., rfl⟩
end

/-! ## LANECMD (R144) -/

section
variable {s : State} {p : Port} {l : Lane} {w : Word}

/-- What a named lane's word of LANECMD says. -/
structure LaneWord (w : Word) (op : Nat) (l : Lane) : Prop where
  op_eq : fieldOf w 0 2 = op
  lane_eq : laneOfWord w = l

theorem laneWord {op : Nat} (hop : op < 4) {lb : BitVec 2} (hl : lb.toNat = l.val) :
    LaneWord (keyed 0x3C#8 (place 0 op ||| place 4 lb.toNat)) op l := by
  have hlane : fieldOf (keyed 0x3C#8 (place 0 op ||| place 4 lb.toNat)) 4 2 = l.val := by
    rw [keyed, fieldOf_or, fieldOf_or, fieldOf_place_above _ (by decide), fieldOf_place_below (m := 2) hop (by decide),
      fieldOf_place_same lb.isLt (by decide), Nat.zero_or, Nat.zero_or, hl]
  refine ⟨?_, Fin.ext ((congrArg (· % 3) hlane).trans (Nat.mod_eq_of_lt l.isLt))⟩
  rw [keyed, fieldOf_or, fieldOf_or, fieldOf_place_above _ (by decide), fieldOf_place_same hop (by decide),
    fieldOf_place_above _ (by decide), Nat.zero_or, Nat.or_zero]

/-- An accepted LANECMD is allowed by its mode, and by the arbiter unless it resets the slack (R144, R423). -/
theorem lanecmd_checked (h : Accepted s p (writeOf 4 0x20 [w])) :
    lanecmdMode s w = true ∧ (fieldOf w 0 2 ≠ 3 → (mntRunning s).length < 32) := by
  have hc : lanecmdCheck s p w = 0 := homeCheck_of_accepted h
  unfold lanecmdCheck at hc
  dsimp only at hc
  split_ifs at hc with hmode hval hslack
  · exact absurd hc (by decide)
  · exact absurd hc (by decide)
  · exact ⟨by simpa using hmode, fun h => absurd hslack h⟩
  · exact ⟨by simpa using hmode, fun _ => room_of_mntStatus hc⟩

/-- With three members every lane is one. -/
theorem memberOf_of_count (h : memberCount s.cyc.member = 3) (l : Lane) : memberOf s l = true := by
  have hall : ∀ m : BitVec 3, memberCount m = 3 → m = 7 := by decide
  exact memberOf_all (hall _ h) l

theorem lanecmd_excludes (h : Accepted s p (writeOf 4 0x20 [w])) (hw : LaneWord w 1 l) (hp : s.lane[l].pendCause = 0) :
    ∃ t, hostWrite s p 4 0x20 [w] = t ∧ Took s t p ∧ t.lane = s.lane.set l { s.lane[l] with pendCause := 9 } ∧
      laneAct p w ∈ t.mnt.slot.toList.filterMap id ∧ t = { s with lane := t.lane, mnt := t.mnt, port := t.port, own := t.own } := by
  obtain ⟨hop, hlane⟩ := hw
  obtain ⟨hmode, hroom⟩ := lanecmd_checked h
  have hthree : memberCount s.cyc.member = 3 := by
    simp only [lanecmdMode, hop, Bool.and_eq_true, decide_eq_true_eq] at hmode
    exact hmode.2
  obtain ⟨j, hstart⟩ := mntStart_takes (s := sendEcho s p) (laneAct p w) (hroom (by rw [hop]; decide))
  have hu : lanecmdWrite (sendEcho s p) p w = { sendEcho s p with
      mnt := { s.mnt with slot := s.mnt.slot.set j (some (laneAct p w)) }, lane := s.lane.set l { s.lane[l] with pendCause := 9 } } := by
    rw [lanecmdWrite, hop, hlane, hstart]
    exact learnCause_member 9 (by exact memberOf_of_count hthree l) hp
  obtain ⟨port, hrun, hans⟩ := hostWrite_owned h (by decide) (show regWrite (sendEcho s p) p 4 0x20 w = _ from hu) rfl rfl rfl
  exact ⟨_, hrun, ⟨hans _ rfl, rfl⟩, rfl, mem_slots .., rfl⟩

theorem reintStart_begins (n : Nat) (port : Nat) (hclk : s.lane[l].clockOk = true) :
    ∃ mnt, reintStart s l port (n + 1) = { s with mnt := mnt, lane := vmod s.lane l (attemptBegun n s.mono) } := by
  obtain ⟨mnt, hstart⟩ : ∃ mnt, mntStart s { kind := 2, port := port, index := l.val, mask := 0, lo := 0, hi := 0, dir := false } =
      { s with mnt := mnt } := ⟨_, mntStart_frame ..⟩
  refine ⟨mnt, ?_⟩
  rw [reintStart, hstart]
  exact reintAttempts_begins n hclk

/-- The series of attempts begins, one fewer being left than REINTCFG gives (R138, R144). -/
theorem lanecmd_reintegrates (h : Accepted s p (writeOf 4 0x20 [w])) (hw : LaneWord w 2 l) (hclk : s.lane[l].clockOk = true) :
    ∃ t, hostWrite s p 4 0x20 [w] = t ∧ Took s t p ∧ t.lane[l].state = 2 ∧
      t.lane[l].attempts = min 65535 (s.lane[l].attempts + 1) ∧ t.lane[l].triesLeft + 1 = max 1 (cfgField s 4 2 0 4) ∧
      t.lane[l].mem = s.lane[l].mem ∧ (∀ k : Lane, k ≠ l → t.lane[k] = s.lane[k]) ∧
      t = { s with lane := t.lane, mnt := t.mnt, port := t.port, own := t.own } := by
  obtain ⟨hop, hlane⟩ := hw
  obtain ⟨n, hn⟩ := Nat.exists_eq_add_of_le' (Nat.le_max_left 1 (cfgField s 4 2 0 4))
  obtain ⟨mnt, hstart⟩ := reintStart_begins (s := sendEcho s p) (l := l) n p hclk
  have hu : lanecmdWrite (sendEcho s p) p w = { sendEcho s p with mnt := mnt, lane := vmod s.lane l (attemptBegun n s.mono) } := by
    rw [lanecmdWrite, hop, hlane]
    exact (congrArg (reintStart (sendEcho s p) l p.val) hn).trans hstart
  obtain ⟨port, hrun, hans⟩ := hostWrite_owned h (by decide) (show regWrite (sendEcho s p) p 4 0x20 w = _ from hu) rfl rfl rfl
  refine ⟨_, hrun, ⟨hans _ rfl, rfl⟩, ?_⟩
  rw [vmod_same, hn]
  exact ⟨rfl, rfl, rfl, rfl, fun k hk => vmod_other _ _ hk, rfl⟩

theorem lanecmd_resetsSlack (h : Accepted s p (writeOf 4 0x20 [w])) (hop : fieldOf w 0 2 = 3) : ∃ t, hostWrite s p 4 0x20 [w] = t ∧
    Took s t p ∧ (∀ k : Lane, t.lane[k] = { s.lane[k] with slack := 0xFFFFFFFF }) ∧
    t = { s with lane := t.lane, port := t.port, own := t.own } := by
  have hu : lanecmdWrite (sendEcho s p) p w =
      { sendEcho s p with lane := s.lane.map fun x => { x with slack := 0xFFFFFFFF } } := by
    rw [lanecmdWrite, hop]
    rfl
  obtain ⟨port, hrun, hans⟩ := hostWrite_owned h (by decide) (show regWrite (sendEcho s p) p 4 0x20 w = _ from hu) rfl rfl rfl
  exact ⟨_, hrun, ⟨hans _ rfl, rfl⟩, fun k => Vector.getElem_map _ k.isLt, rfl⟩
end
end Sys2Proof.Machine

namespace Sys2Proof.Machine

/-! ## What the tests of MNTCMD set in motion (R425) -/

section
variable {s : State} {d : Die} {f : FDie} {m : BitVec 16}

/-! ### Requests of a converter test -/

theorem insertUrg_length (x : UrgItem × Nat × Nat) (l : List (UrgItem × Nat × Nat)) : (insertUrg x l).length = l.length + 1 := by
  induction l with
  | nil => rfl
  | cons y r ih =>
    unfold insertUrg
    split
    · rfl
    · simp [ih]

theorem urgPut_length (s : State) (d : Die) (i : UrgItem) (t : Nat) :
    (urgPut s d i t).survey[d].queue.length = s.survey[d].queue.length + 1 := by
  have hd : (urgPut s d i t).survey[d] = _ := vmod_same ..
  rw [hd]
  dsimp only
  split
  · rw [List.length_append, insertUrg_length, ← Nat.add_assoc, ← List.length_append, List.take_append_drop]
  · exact insertUrg_length ..

/-- Requests to a converter lengthen its queue, and nothing else changes. -/
theorem urgPuts_run (is : List UrgItem) (s : State) : ∃ survey,
    is.foldl (fun s i => urgPut s d i (dieTime s d)) s = { s with survey := survey } ∧
    survey[d].queue.length = s.survey[d].queue.length + is.length ∧ ∀ c : Die, c ≠ d → survey[c] = s.survey[c] := by
  induction is generalizing s with
  | nil => exact ⟨_, rfl, rfl, fun _ _ => rfl⟩
  | cons i is ih =>
    obtain ⟨survey, hrun, hlen, hoth⟩ := ih (urgPut s d i (dieTime s d))
    refine ⟨survey, hrun, ?_, fun c hc => (hoth c hc).trans (vmod_other _ _ hc)⟩
    rw [hlen, urgPut_length, List.length_cons]
    omega

/-- 64 conversions are asked for (log entry 68). -/
theorem testRequests_run (s : State) (d : Die) : ∃ survey, testRequests s d = { s with survey := survey } ∧
    survey[d].queue.length = s.survey[d].queue.length + 64 ∧ ∀ c : Die, c ≠ d → survey[c] = s.survey[c] := by
  obtain ⟨survey, hrun, hlen, hoth⟩ := urgPuts_run (d := d) (List.replicate 32 UrgItem.testRef ++ List.replicate 32 UrgItem.testGnd) s
  rw [List.length_append, List.length_replicate, List.length_replicate] at hlen
  exact ⟨survey, hrun, hlen, hoth⟩

/-! ### Sinks of an input test -/

/-- A channel with its sink off where the mask says so. -/
def sinkOff (on : Bool) (c : ChanSt) : ChanSt := if on then { c with sink := false } else c

theorem testChan_eq (s : State) (k : Chan) : testChan m f s k = updChan s f k (sinkOff (m.getLsbD k.val)) := by
  unfold testChan
  split
  · next h => simp only [updChan, updField, vmod, sinkOff, if_pos h]
  · next h =>
    have hch : vmod s.field[f].ch k (sinkOff (m.getLsbD k.val)) = s.field[f].ch := vmod_fixed (if_neg h)
    exact (congrArg (fun v => { s with field := v }) (vmod_fixed (f := fun x : FieldSt => { x with ch := vmod x.ch k (sinkOff (m.getLsbD k.val)) })
      (congrArg (fun v => { s.field[f] with ch := v }) hch))).symm

/-- The masked channels have their sinks off, and nothing else changes. -/
theorem testChans_run (ks : List Chan) (s : State) : ∃ field, ks.foldl (testChan m f) s = { s with field := field } ∧
    (∀ k : Chan, field[f].ch[k] = sinkOff (decide (k ∈ ks) && m.getLsbD k.val) s.field[f].ch[k]) ∧
    ∀ g : FDie, g ≠ f → field[g] = s.field[g] := by
  induction ks generalizing s with
  | nil => exact ⟨_, rfl, fun _ => by simp [sinkOff], fun _ _ => rfl⟩
  | cons j ks ih =>
    obtain ⟨field, hrun, hch, hoth⟩ := ih (updChan s f j (sinkOff (m.getLsbD j.val)))
    refine ⟨field, ?_, fun k => ?_, fun g hg => (hoth g hg).trans (vmod_other _ _ hg)⟩
    · rw [List.foldl_cons, testChan_eq, hrun]
      rfl
    · rw [hch, updChan, updField_at]
      by_cases hk : k = j
      · subst hk
        dsimp only
        rw [vmod_same]
        unfold sinkOff
        cases m.getLsbD k.val <;> cases decide (k ∈ ks) <;> simp
      · dsimp only
        rw [vmod_other _ _ hk]
        simp [hk]

/-- The largest FILT of the masked channels is as large as each of them. -/
theorem le_maxFilt {k : Chan} (h : m.getLsbD k.val = true) : chField s f k.val 0x0C 8 8 ≤ maxFilt s f m := by
  have hfold (ks : List Chan) (n : Nat) :
      n ≤ ks.foldl (fun n k => if m.getLsbD k.val then max n (chField s f k.val 0x0C 8 8) else n) n ∧
      (k ∈ ks → chField s f k.val 0x0C 8 8 ≤ ks.foldl (fun n k => if m.getLsbD k.val then max n (chField s f k.val 0x0C 8 8) else n) n) := by
    induction ks generalizing n with
    | nil => exact ⟨le_rfl, fun h => absurd h List.not_mem_nil⟩
    | cons j ks ih =>
      obtain ⟨hle, hmem⟩ := ih (if m.getLsbD j.val then max n (chField s f j.val 0x0C 8 8) else n)
      refine ⟨le_trans ?_ hle, fun hk => ?_⟩
      · split <;> omega
      · rcases List.mem_cons.mp hk with rfl | hk
        · refine le_trans ?_ hle
          rw [if_pos h]
          omega
        · exact hmem hk
  exact (hfold chans16 0).2 (mem_chans16 k)

/-! ### Channels that a probe leaves out -/

/-- A mask made of the channels of which `c` holds. -/
theorem chanMask_bit (c : Chan → Bool) (k : Chan) :
    (chans16.foldl (fun m k => if c k then m ||| BitVec.ofNat 16 (2 ^ k.val) else m) (0 : BitVec 16)).getLsbD k.val = c k := by
  have hone : ∀ j k : Chan, (BitVec.ofNat 16 (2 ^ j.val)).getLsbD k.val = decide (k = j) := by decide
  have hstep (j : Chan) (m : BitVec 16) :
      (if c j then m ||| BitVec.ofNat 16 (2 ^ j.val) else m).getLsbD k.val = (m.getLsbD k.val || (decide (k = j) && c k)) := by
    by_cases hk : k = j
    · subst hk
      cases hc : c k
      · rw [if_neg (by decide), Bool.and_false, Bool.or_false]
      · rw [if_pos rfl, BitVec.getLsbD_or, hone, Bool.and_true]
    · rw [decide_eq_false hk, Bool.false_and, Bool.or_false]
      split
      · rw [BitVec.getLsbD_or, hone, decide_eq_false hk, Bool.or_false]
      · rfl
  have hfold (ks : List Chan) (m : BitVec 16) :
      (ks.foldl (fun m k => if c k then m ||| BitVec.ofNat 16 (2 ^ k.val) else m) m).getLsbD k.val =
        (m.getLsbD k.val || (decide (k ∈ ks) && c k)) := by
    induction ks generalizing m with
    | nil => simp
    | cons j ks ih =>
      rw [List.foldl_cons, ih, hstep]
      cases c k <;> simp [Bool.or_assoc]
  rw [hfold, decide_eq_true (mem_chans16 k), Bool.true_and]
  simp

/-- A masked channel that conducts is left out (R425). -/
theorem probeSkips_on {a : ActSt} {k : Chan} (h : stageOn s f k = true) : (probeSkips s f a).getLsbD k.val = a.mask.getLsbD k.val := by
  refine (chanMask_bit _ k).trans ?_
  rw [h, Bool.true_or, Bool.true_or, Bool.and_true]

theorem probeFails_bit (mV : List Nat) (k : Chan) : (probeFails mV).getLsbD k.val = decide (4000 < mV.getD k.val 0) := by
  refine Eq.trans ?_ (chanMask_bit (fun k => decide (4000 < mV.getD k.val 0)) k)
  simp only [decide_eq_true_eq]
  rfl
end
end Sys2Proof.Machine

namespace Sys2Proof.Machine

/-! ## MNTCMD (R425, R426) -/

section
variable {s : State} {p : Port} {d : Die} {f : FDie} {m : BitVec 16} {w : Word}

/-- What a word of MNTCMD names: its op and its unit. -/
structure MntWord (w : Word) (op unit : Nat) : Prop where
  op_eq : fieldOf w 0 3 = op
  unit_eq : fieldOf w 3 3 = unit

theorem mntWord_unit {op unit : Nat} (hop : op < 8) (hu : unit < 8) : MntWord (keyed 0xD2#8 (place 0 op ||| place 3 unit)) op unit := by
  refine ⟨?_, ?_⟩ <;> rw [keyed, fieldOf_or, fieldOf_or, fieldOf_place_above _ (by decide), Nat.zero_or]
  · rw [fieldOf_place_same hop (by decide), fieldOf_place_above _ (by decide), Nat.or_zero]
  · rw [fieldOf_place_below (m := 3) hop (by decide), fieldOf_place_same hu (by decide), Nat.zero_or]

theorem mntWord_masked {op unit : Nat} (hop : op < 8) (hu : unit < 8) (m : BitVec 16) :
    MntWord (keyed 0xD2#8 (place 0 op ||| place 3 unit ||| place 8 m.toNat)) op unit ∧
      fieldOf (keyed 0xD2#8 (place 0 op ||| place 3 unit ||| place 8 m.toNat)) 8 16 = m.toNat := by
  refine ⟨⟨?_, ?_⟩, ?_⟩ <;> rw [keyed, fieldOf_or, fieldOf_or, fieldOf_or, fieldOf_place_above _ (by decide), Nat.zero_or]
  · rw [fieldOf_place_same hop (by decide), fieldOf_place_above _ (by decide), fieldOf_place_above _ (by decide), Nat.or_zero, Nat.or_zero]
  · rw [fieldOf_place_below (m := 3) hop (by decide), fieldOf_place_same hu (by decide), fieldOf_place_above _ (by decide), Nat.zero_or,
      Nat.or_zero]
  · rw [fieldOf_place_below (m := 3) hop (by decide), fieldOf_place_below (m := 3) hu (by decide), fieldOf_place_same m.isLt (by decide),
      Nat.zero_or, Nat.zero_or]

/-- A test that MNTCMD may start finds an empty slot. -/
theorem mntcmd_room (h : Accepted s p (writeOf 19 0 [w])) (hop : fieldOf w 0 3 ≠ 4) : (mntRunning (sendEcho s p)).length < 32 := by
  have hc : mntCheck s p w = 0 := homeCheck_of_accepted h
  unfold mntCheck at hc
  dsimp only at hc
  split_ifs at hc
  · exact absurd hc (by decide)
  · exact absurd hc (by decide)
  · exact (room_of_mntStatus hc :)

/-- The state with test `a` of unit `d` in slot `j`, reported running. -/
def testBegun (s : State) (j : Fin 32) (a : ActSt) (d : Die) : State :=
  { s with mnt := { s.mnt with
      slot := s.mnt.slot.set j (some a), res := s.mnt.res.set d { state := 1, kind := a.kind, fail := 0, skip := 0 } } }

theorem setRes_die (s : State) {u : Nat} (g : MntRes → MntRes) (hu : u = d.val) :
    setRes s u g = { s with mnt := { s.mnt with res := s.mnt.res.set d (g s.mnt.res[d]) } } := by
  subst hu
  exact dif_pos d.isLt

theorem mntStart_reported {a : ActSt} (h : (mntRunning s).length < 32) (ha : a.index = d.val) :
    ∃ j, setRes (mntStart s a) a.index (fun _ => { state := 1, kind := a.kind, fail := 0, skip := 0 }) = testBegun s j a d := by
  obtain ⟨j, hj⟩ := mntStart_takes a h
  exact ⟨j, (setRes_die _ _ ha).trans (by rw [hj]; rfl)⟩

/-- The state with a test reported running, before what it does to its unit. -/
def testReported (s : State) (a : ActSt) : State :=
  setRes (mntStart s a) a.index fun _ => { state := 1, kind := a.kind, fail := 0, skip := 0 }

theorem testStart_sv (hk : (testAct s p w).kind = 9) (hi : (testAct s p w).index = d.val) :
    testStart s p w = testRequests (testReported s (testAct s p w)) d := by
  unfold testStart
  dsimp only
  rw [dif_neg fun h => absurd (hk.symm.trans h.1) (by decide), dif_pos ⟨hk, by omega⟩]
  exact congrArg (testRequests _) (Fin.ext hi)

theorem testStart_in (hk : (testAct s p w).kind = 10) (hi : (testAct s p w).index = f.val) :
    testStart s p w = chans16.foldl (testChan (testAct s p w).mask f) (testReported s (testAct s p w)) := by
  unfold testStart
  dsimp only
  rw [dif_pos ⟨hk, by omega⟩]
  exact congrArg (fun f => chans16.foldl (testChan _ f) _) (Fin.ext hi)

theorem testStart_ol (hk : (testAct s p w).kind = 11) : testStart s p w = testReported s (testAct s p w) := by
  unfold testStart
  dsimp only
  rw [dif_neg fun h => absurd (hk.symm.trans h.1) (by decide), dif_neg fun h => absurd (hk.symm.trans h.1) (by decide)]
  rfl

/-! ### Converter test -/

/-- A test of the converter of die `d`, asked for by port `p` at tick count `at_`. -/
def svTestAct (p : Port) (d : Die) (at_ : Nat) : ActSt :=
  { kind := 9, port := p.val, index := d.val, mask := 0, lo := 0, hi := 0, dir := false, start := at_, total := 64 }

theorem testAct_sv (hw : MntWord w 1 d.val) : testAct s p w = svTestAct p d s.mono := by
  simp [testAct, mntAct, hw.op_eq, hw.unit_eq, svTestAct]

theorem mntcmd_svTest (h : Accepted s p (writeOf 19 0 [w])) (hw : MntWord w 1 d.val) : ∃ t, hostWrite s p 19 0 [w] = t ∧ Took s t p ∧
    t.mnt.res = s.mnt.res.set d { state := 1, kind := 9, fail := 0, skip := 0 } ∧
    svTestAct p d s.mono ∈ t.mnt.slot.toList.filterMap id ∧
    t.survey[d].queue.length = s.survey[d].queue.length + 64 ∧ (∀ c : Die, c ≠ d → t.survey[c] = s.survey[c]) ∧
    t = { s with mnt := t.mnt, survey := t.survey, port := t.port, own := t.own } := by
  have hop : fieldOf w 0 3 ≠ 4 := by rw [hw.op_eq]; decide
  have hact : testAct (sendEcho s p) p w = svTestAct p d s.mono := testAct_sv hw
  obtain ⟨j, hbegun⟩ := mntStart_reported (a := svTestAct p d s.mono) (d := d) (mntcmd_room h hop) rfl
  obtain ⟨survey, hreq, hlen, hoth⟩ := testRequests_run (testBegun (sendEcho s p) j (svTestAct p d s.mono) d) d
  have hu : mntWrite (sendEcho s p) p w = { testBegun (sendEcho s p) j (svTestAct p d s.mono) d with survey := survey } := by
    rw [mntWrite, if_neg hop, testStart_sv (d := d) (by rw [hact]; rfl) (by rw [hact]; rfl), hact, ← hreq]
    exact congrArg (testRequests · d) hbegun
  obtain ⟨port, hrun, hans⟩ := hostWrite_owned h (by decide) (show regWrite (sendEcho s p) p 19 0 w = _ from hu) rfl rfl rfl
  exact ⟨_, hrun, ⟨hans _ rfl, rfl⟩, rfl, mem_slots .., hlen, hoth, rfl⟩

/-! ### Input test and open-load probe -/

/-- A test of the masked inputs of die `f`. -/
def inTestAct (s : State) (p : Port) (f : FDie) (m : BitVec 16) : ActSt :=
  { kind := 10, port := p.val, index := f.val, mask := m, lo := 0, hi := 0, dir := false, start := s.mono, total := 2 * maxFilt s f m }

theorem testAct_in (hw : MntWord w 2 f.val) (hm : fieldOf w 8 16 = m.toNat) : testAct s p w = inTestAct s p f m := by
  simp [testAct, mntAct, hw.op_eq, hw.unit_eq, hm, inTestAct, f.isLt]

theorem mntcmd_inTest (h : Accepted s p (writeOf 19 0 [w])) (hw : MntWord w 2 f.val) (hm : fieldOf w 8 16 = m.toNat) :
    ∃ t, hostWrite s p 19 0 [w] = t ∧ Took s t p ∧ t.mnt.res = s.mnt.res.set (toDie f) { state := 1, kind := 10, fail := 0, skip := 0 } ∧
      inTestAct s p f m ∈ t.mnt.slot.toList.filterMap id ∧
      (∀ k : Chan, t.field[f].ch[k] = if m.getLsbD k.val then { s.field[f].ch[k] with sink := false } else s.field[f].ch[k]) ∧
      (∀ g : FDie, g ≠ f → t.field[g] = s.field[g]) ∧ t = { s with mnt := t.mnt, field := t.field, port := t.port, own := t.own } := by
  have hop : fieldOf w 0 3 ≠ 4 := by rw [hw.op_eq]; decide
  have hact : testAct (sendEcho s p) p w = inTestAct s p f m := testAct_in hw hm
  obtain ⟨j, hbegun⟩ := mntStart_reported (a := inTestAct s p f m) (d := toDie f) (mntcmd_room h hop) rfl
  obtain ⟨field, hsink, hch, hoth⟩ := testChans_run (m := m) (f := f) chans16 (testBegun (sendEcho s p) j (inTestAct s p f m) (toDie f))
  have hu : mntWrite (sendEcho s p) p w = { testBegun (sendEcho s p) j (inTestAct s p f m) (toDie f) with field := field } := by
    rw [mntWrite, if_neg hop, testStart_in (f := f) (by rw [hact]; rfl) (by rw [hact]; rfl), hact, ← hsink]
    exact congrArg (fun u => chans16.foldl (testChan m f) u) hbegun
  obtain ⟨port, hrun, hans⟩ := hostWrite_owned h (by decide) (show regWrite (sendEcho s p) p 19 0 w = _ from hu) rfl rfl rfl
  refine ⟨_, hrun, ⟨hans _ rfl, rfl⟩, rfl, mem_slots .., fun k => (hch k).trans ?_, hoth, rfl⟩
  rw [decide_eq_true (mem_chans16 k), Bool.true_and]
  rfl

/-- An open-load probe of the masked channels of die `f`. -/
def olProbeAct (s : State) (p : Port) (f : FDie) (m : BitVec 16) : ActSt :=
  { kind := 11, port := p.val, index := f.val, mask := m, lo := 0, hi := 0, dir := false, start := s.mono }

theorem testAct_ol (hw : MntWord w 3 f.val) (hm : fieldOf w 8 16 = m.toNat) :
    testAct s p w = { olProbeAct s p f m with skip := probeSkips s f (olProbeAct s p f m) } := by
  simp [testAct, mntAct, hw.op_eq, hw.unit_eq, hm, olProbeAct, f.isLt]

theorem mntcmd_olProbe (h : Accepted s p (writeOf 19 0 [w])) (hw : MntWord w 3 f.val) (hm : fieldOf w 8 16 = m.toNat) :
    ∃ t, hostWrite s p 19 0 [w] = t ∧ Took s t p ∧ t.mnt.res = s.mnt.res.set (toDie f) { state := 1, kind := 11, fail := 0, skip := 0 } ∧
      { olProbeAct s p f m with skip := probeSkips s f (olProbeAct s p f m) } ∈ t.mnt.slot.toList.filterMap id ∧
      t = { s with mnt := t.mnt, port := t.port, own := t.own } := by
  have hop : fieldOf w 0 3 ≠ 4 := by rw [hw.op_eq]; decide
  have hact : testAct (sendEcho s p) p w = { olProbeAct s p f m with skip := probeSkips s f (olProbeAct s p f m) } := testAct_ol hw hm
  obtain ⟨j, hbegun⟩ := mntStart_reported (a := testAct (sendEcho s p) p w) (d := toDie f) (mntcmd_room h hop) (by rw [hact]; rfl)
  have hu : mntWrite (sendEcho s p) p w = testBegun (sendEcho s p) j (testAct (sendEcho s p) p w) (toDie f) := by
    rw [mntWrite, if_neg hop, testStart_ol (by rw [hact]; rfl)]
    exact hbegun
  rw [hact] at hu
  obtain ⟨port, hrun, hans⟩ := hostWrite_owned h (by decide) (show regWrite (sendEcho s p) p 19 0 w = _ from hu) rfl rfl rfl
  exact ⟨_, hrun, ⟨hans _ rfl, rfl⟩, rfl, mem_slots .., rfl⟩
end
end Sys2Proof.Machine

namespace Sys2Proof.Machine

/-! ## The end of a test (R424, R425) -/

section
variable {s : State} {p : Port} {d : Die} {f : FDie} {j : Fin 32} {a : ActSt} {w : Word}

/-- The slot is empty again, and MAINT_END is recorded. -/
theorem mntEnd_runs (e : Nat) (h : s.mnt.slot[j] = some a) : ∃ led irqStat, led.bits[0].getLsbD 22 = true ∧
    mntEnd s j.val e = { s with mnt := { s.mnt with slot := s.mnt.slot.set j none }, led := led, irqStat := irqStat } := by
  obtain ⟨led, irqStat, hb, hl⟩ := ledger_event { s with mnt := { s.mnt with slot := s.mnt.slot.set j none } } 0 0
    (a.kind + e * 16 + a.index * 256) (show 22 < 32 by decide)
  have hget : vget s.mnt.slot j.val none = some a := (dif_pos j.isLt).trans h
  have hset : vset s.mnt.slot j.val none = s.mnt.slot.set j none := dif_pos j.isLt
  unfold mntEnd
  rw [hget]
  dsimp only
  rw [hset, hl]
  exact ⟨_, _, hb, rfl⟩

/-! ### ABORT -/

theorem mem_mntRunning {i : Nat} (h : (i, a) ∈ mntRunning s) : s.mnt.slot.toList[i]? = some (some a) := by
  obtain ⟨⟨o, q⟩, hmem, hmap⟩ := List.mem_filterMap.mp h
  obtain ⟨b, rfl, heq⟩ := Option.map_eq_some_iff.mp hmap
  obtain ⟨rfl, rfl⟩ := Prod.mk.inj heq
  exact List.mk_mem_zipIdx_iff_getElem?.mp hmem

/-- The test of a unit stands in its slot, and is a test of that unit. -/
theorem unitTests_one (h : unitTests s d.val = [(j.val, a)]) : s.mnt.slot[j] = some a ∧ 9 ≤ a.kind ∧ a.index = d.val := by
  obtain ⟨hrun, hk⟩ := List.mem_filter.mp (show (j.val, a) ∈ unitTests s d.val from h ▸ List.mem_singleton_self _)
  simp only [Bool.and_eq_true, decide_eq_true_eq] at hk
  obtain ⟨⟨h9, -⟩, hi⟩ := hk
  have hget := mem_mntRunning hrun
  refine ⟨?_, h9, hi⟩
  simpa using hget

/-- What is undone of a test that did not finish: the requests of a converter test, the sinks of an input test. -/
theorem testOver_run (s : State) (a : ActSt) : ∃ survey field, testOver s a = { s with survey := survey, field := field } ∧
    (a.kind ≠ 9 → survey = s.survey) ∧ ((a.kind ≠ 10 ∨ a.total ≤ a.count) → field = s.field) := by
  unfold testOver
  split
  · split
    · next _ hk => exact ⟨_, _, rfl, fun h => absurd hk h, fun _ => rfl⟩
    · next f hk _ =>
      split
      · next hlt =>
        refine ⟨_, _, sansField_frame (foldl_same (inRestore_sans a.mask f) chans16 s), fun _ => rfl, fun h => ?_⟩
        rcases h with h | h
        · exact absurd hk h
        · omega
      · exact ⟨_, _, rfl, fun _ => rfl, fun _ => rfl⟩
    · exact ⟨_, _, rfl, fun _ => rfl, fun _ => rfl⟩
  · exact ⟨_, _, rfl, fun _ => rfl, fun _ => rfl⟩

theorem abortAct_test (s : State) (i : Nat) (h : 9 ≤ a.kind) :
    abortAct s i a = mntEnd (setRes (testOver s a) a.index fun r => { r with state := 4 }) i endAborted := by
  unfold abortAct
  dsimp only
  split
  · omega
  · omega
  · omega
  · rfl

theorem mntcmd_aborts (h : Accepted s p (writeOf 19 0 [w])) (hw : MntWord w 4 d.val) (ht : unitTests s d.val = [(j.val, a)]) :
    ∃ t, hostWrite s p 19 0 [w] = t ∧ Took s t p ∧ t.mnt.slot = s.mnt.slot.set j none ∧
      t.mnt.res = s.mnt.res.set d { s.mnt.res[d] with state := 4 } ∧ t.led.bits[0].getLsbD 22 = true ∧
      (a.kind ≠ 9 → t.survey = s.survey) ∧ ((a.kind ≠ 10 ∨ a.total ≤ a.count) → t.field = s.field) ∧
      t = { s with mnt := t.mnt, led := t.led, irqStat := t.irqStat, survey := t.survey, field := t.field, port := t.port, own := t.own } := by
  obtain ⟨hslot, h9, hi⟩ := unitTests_one ht
  obtain ⟨survey, field, hover, hsurvey, hfield⟩ := testOver_run (sendEcho s p) a
  have hres := setRes_die (testOver (sendEcho s p) a) (fun r => { r with state := 4 }) hi
  rw [hover] at hres
  obtain ⟨led, irqStat, hb, hend⟩ := mntEnd_runs (s := { sendEcho s p with
    survey := survey, field := field, mnt := { s.mnt with res := s.mnt.res.set d { s.mnt.res[d] with state := 4 } } }) endAborted hslot
  have hu : mntWrite (sendEcho s p) p w = { sendEcho s p with
      survey := survey, field := field, led := led, irqStat := irqStat
      mnt := { s.mnt with res := s.mnt.res.set d { s.mnt.res[d] with state := 4 }, slot := s.mnt.slot.set j none } } := by
    rw [mntWrite, if_pos hw.op_eq, hw.unit_eq, show unitTests (sendEcho s p) d.val = [(j.val, a)] from ht, List.foldl_cons, List.foldl_nil,
      abortAct_test _ _ h9, hover]
    exact (congrArg (mntEnd · j.val endAborted) hres).trans hend
  obtain ⟨port, hrun, hans⟩ := hostWrite_owned h (by decide) (show regWrite (sendEcho s p) p 19 0 w = _ from hu) rfl rfl rfl
  exact ⟨_, hrun, ⟨hans _ rfl, rfl⟩, rfl, rfl, hb, hsurvey, hfield, rfl⟩

/-! ### MAINT_END -/

/-- The SKIP and FAIL bits that a test ends with, and its result. -/
def testSkips (a : ActSt) (skip : BitVec 16) : BitVec 16 := if a.kind = 11 then skip &&& a.mask else 0
def testFails (a : ActSt) (fail skip : BitVec 16) : BitVec 16 := fail &&& testMask a &&& ~~~(testSkips a skip)
def testVerdict (a : ActSt) (fail skip : BitVec 16) : MntRes :=
  { state := if testFails a fail skip = 0 then 2 else 3, kind := a.kind, fail := testFails a fail skip, skip := testSkips a skip }

/-- A test of unit `d` ends with its result. -/
theorem testEnd_runs (fail skip : BitVec 16) (h : s.mnt.slot[j] = some a) (hi : a.index = d.val) : ∃ led irqStat,
    led.bits[0].getLsbD 22 = true ∧ testEnd s j.val a fail skip = { s with
      mnt := { s.mnt with slot := s.mnt.slot.set j none, res := s.mnt.res.set d (testVerdict a fail skip) }
      led := led, irqStat := irqStat } := by
  have hres := setRes_die s (fun _ => testVerdict a fail skip) hi
  obtain ⟨led, irqStat, hb, hend⟩ := mntEnd_runs (s := { s with mnt := { s.mnt with res := s.mnt.res.set d (testVerdict a fail skip) } })
    (testVerdict a fail skip).state h
  exact ⟨led, irqStat, hb, (congrArg (mntEnd · j.val (testVerdict a fail skip).state) hres).trans hend⟩

variable {mV : List Nat} {cd cl : BitVec 16}

/-- A converter test or an input test goes on until it has its last result. -/
theorem maintEnd_waits (h : s.mnt.slot[j] = some a) (hk : a.kind = 9 ∨ a.kind = 10) (hc : a.count < a.total) :
    exec (.maintEnd j mV cd cl) s = .next s := by
  show execMaintEnd j mV cd cl s = _
  simp only [execMaintEnd, h, if_pos hk, if_neg (Nat.not_le.mpr hc)]

/-- It ends with the FAIL bits found of what it judges. -/
theorem maintEnd_counted (h : s.mnt.slot[j] = some a) (hi : a.index = d.val) (hk : a.kind = 9 ∨ a.kind = 10) (hc : a.total ≤ a.count) :
    ∃ t, exec (.maintEnd j mV cd cl) s = .next t ∧ t.mnt.slot = s.mnt.slot.set j none ∧
      t.mnt.res = s.mnt.res.set d
        { state := if a.fail &&& testMask a = 0 then 2 else 3, kind := a.kind, fail := a.fail &&& testMask a, skip := 0 } ∧
      t.led.bits[0].getLsbD 22 = true ∧ t = { s with mnt := t.mnt, led := t.led, irqStat := t.irqStat } := by
  have hskip : testSkips a 0 = 0 := if_neg (by omega)
  have hfail : testFails a a.fail 0 = a.fail &&& testMask a := by rw [testFails, hskip]; exact BitVec.and_allOnes
  obtain ⟨led, irqStat, hb, hend⟩ := testEnd_runs a.fail 0 h hi
  have hrun : exec (.maintEnd j mV cd cl) s = .next (testEnd s j.val a a.fail 0) := by
    show execMaintEnd j mV cd cl s = _
    simp only [execMaintEnd, h, if_pos hk, if_pos hc]
  rw [hend, testVerdict, hfail, hskip] at hrun
  exact ⟨_, hrun, rfl, rfl, hb, rfl⟩

/-- What a probe leaves out at its end: what it left out at its start, and what conducted or clamped since (R425). -/
def probeOut (s : State) (f : FDie) (a : ActSt) (cd cl : BitVec 16) : BitVec 16 := a.skip ||| probeSkips s f a ||| cd ||| cl

/-- An open-load probe ends 10 ms after its start. -/
theorem maintEnd_probe (h : s.mnt.slot[j] = some a) (hi : a.index = f.val) (hk : a.kind = 11) :
    ∃ t, exec (.maintEnd j mV cd cl) s = .next t ∧ t.mnt.slot = s.mnt.slot.set j none ∧ a.start + 10000000 ≤ t.mono ∧
      t.mnt.res[toDie f].kind = 11 ∧ (t.mnt.res[toDie f].state = if t.mnt.res[toDie f].fail = 0 then 2 else 3) ∧
      (∀ k : Chan, t.mnt.res[toDie f].fail.getLsbD k.val =
        (a.mask.getLsbD k.val && !t.mnt.res[toDie f].skip.getLsbD k.val && decide (4000 < mV.getD k.val 0))) ∧
      (∀ k : Chan, stageOn s f k = true → t.mnt.res[toDie f].skip.getLsbD k.val = a.mask.getLsbD k.val) ∧
      t.led.bits[0].getLsbD 22 = true ∧
      t = { s with mnt := t.mnt, led := t.led, irqStat := t.irqStat, mono := t.mono, time := t.time, tm := t.tm } := by
  obtain ⟨time, mono, tm, hto, hreach, -, -⟩ := monoTo_event s (a.start + 10000000)
  obtain ⟨led, irqStat, hb, hend⟩ := testEnd_runs (s := { s with time := time, mono := mono, tm := tm }) (d := toDie f) (probeFails mV)
    (probeOut { s with time := time, mono := mono, tm := tm } f a cd cl) h hi
  have hrun : exec (.maintEnd j mV cd cl) s = .next (testEnd { s with time := time, mono := mono, tm := tm } j.val a (probeFails mV)
      (probeOut { s with time := time, mono := mono, tm := tm } f a cd cl)) := by
    have hlt : a.index < 4 := hi ▸ f.isLt
    have hf : (⟨a.index, hlt⟩ : FDie) = f := Fin.ext hi
    show execMaintEnd j mV cd cl s = _
    simp only [execMaintEnd, h, if_neg (show ¬(a.kind = 9 ∨ a.kind = 10) by omega), if_pos hk, hto, dif_pos hlt, hf, probeOut]
  rw [hend] at hrun
  refine ⟨_, hrun, rfl, hreach, ?_⟩
  have hres : ∀ r : MntRes, (s.mnt.res.set (toDie f) r)[toDie f] = r := fun r => Vector.getElem_set_self ..
  dsimp only
  rw [hres]
  have hskip : (testVerdict a (probeFails mV) (probeOut { s with time := time, mono := mono, tm := tm } f a cd cl)).skip =
      probeOut { s with time := time, mono := mono, tm := tm } f a cd cl &&& a.mask := if_pos hk
  refine ⟨hk, rfl, fun k => ?_, fun k hon => ?_, hb, rfl⟩
  · have hmask : testMask a = a.mask := if_neg (by omega)
    show (testFails a _ _).getLsbD k.val = (_ && !(testSkips a _).getLsbD k.val && _)
    rw [testFails, hmask, BitVec.getLsbD_and, BitVec.getLsbD_and, BitVec.getLsbD_not, probeFails_bit, decide_eq_true (show k.val < 16 from k.isLt)]
    cases a.mask.getLsbD k.val <;> simp [Bool.and_comm]
  · rw [hskip, probeOut, BitVec.getLsbD_and, BitVec.getLsbD_or, BitVec.getLsbD_or, BitVec.getLsbD_or, probeSkips_on (by exact hon)]
    cases a.mask.getLsbD k.val <;> simp

/-! ### The statement -/

/-- A unit's number fits its operand, so MNTCMD's word names the unit itself. -/
theorem mntcmd_unit (s : State) (p : Port) (body : Nat → Word) {unit : Nat} (h : unit < 8) :
    (.next (hostWrite s p 19 0 [keyed 0xD2#8 (body (BitVec.ofNat 3 unit).toNat)]) : Out) =
      .next (hostWrite s p 19 0 [keyed 0xD2#8 (body unit)]) := by
  rw [BitVec.toNat_ofNat, Nat.mod_eq_of_lt h]

/-- Settles O44: the writes of LANECMD and MNTCMD through the frame checks and the arbiter, and the ends of the tests. -/
theorem maintenance : Obligations.Maintenance := by
  refine fun s p l lb d f m j a mV cd cl => ⟨fun hl h hp => ?_, fun hl h hclk => ?_, fun h => ?_, fun h => ?_, fun h => ?_, fun h => ?_,
    fun h ht => ?_, fun h _ hk hc => maintEnd_waits h hk hc, fun h hi hk hc => ?_, fun h hi hk hc => ?_, maintEnd_probe⟩
  · obtain ⟨t, hrun, ht⟩ := lanecmd_excludes h (laneWord (by decide) hl) hp
    exact ⟨t, congrArg _ hrun, ht⟩
  · obtain ⟨t, hrun, ht⟩ := lanecmd_reintegrates h (laneWord (by decide) hl) hclk
    exact ⟨t, congrArg _ hrun, ht⟩
  · obtain ⟨t, hrun, ht⟩ := lanecmd_resetsSlack h (by decide)
    exact ⟨t, congrArg _ hrun, ht⟩
  · obtain ⟨t, hrun, ht⟩ := mntcmd_svTest h (mntWord_unit (by decide) (by omega))
    exact ⟨t, (mntcmd_unit s p (fun u => place 0 1 ||| place 3 u) (by omega)).trans (congrArg _ hrun), ht⟩
  · obtain ⟨hw, hm⟩ := mntWord_masked (op := 2) (unit := f.val) (by decide) (by omega) m
    obtain ⟨t, hrun, htook, hres, hslot, hsink, hoth, ht⟩ := mntcmd_inTest h hw hm
    exact ⟨t, (mntcmd_unit s p (fun u => place 0 2 ||| place 3 u ||| place 8 m.toNat) (by omega)).trans (congrArg _ hrun), htook, hres,
      hslot, fun k hk => le_maxFilt hk, hsink, hoth, ht⟩
  · obtain ⟨hw, hm⟩ := mntWord_masked (op := 3) (unit := f.val) (by decide) (by omega) m
    obtain ⟨t, hrun, htook, hres, hslot, ht⟩ := mntcmd_olProbe h hw hm
    exact ⟨t, (mntcmd_unit s p (fun u => place 0 3 ||| place 3 u ||| place 8 m.toNat) (by omega)).trans (congrArg _ hrun), htook, hres,
      ⟨_, hslot, fun k hon => probeSkips_on hon⟩, ht⟩
  · obtain ⟨t, hrun, haborted⟩ := mntcmd_aborts h (mntWord_unit (by decide) (by omega)) ht
    exact ⟨t, (mntcmd_unit s p (fun u => place 0 4 ||| place 3 u) (by omega)).trans (congrArg _ hrun), haborted⟩
  · have hmask : testMask a = a.mask := if_neg (by omega)
    have hend := maintEnd_counted (mV := mV) (cd := cd) (cl := cl) h hi (.inr hk) hc
    rwa [hmask, hk] at hend
  · have hmask : testMask a = 3 := if_pos hk
    have hend := maintEnd_counted (mV := mV) (cd := cd) (cl := cl) h hi (.inl hk) hc
    rwa [hmask, hk] at hend
end
end Sys2Proof.Machine

namespace Sys2Proof.Machine

/-! ## Accepted measurements (R187, R188, R192, R195) -/

section
variable {s : State}

/-- A value that fits its bits stays when it is saturated to them. -/
theorem satInt_of_fits {n : Nat} {i : Int} (h : i.natAbs < 2 ^ (n - 1)) : satInt n i = i := by
  unfold satInt
  omega

/-- Where SYNC changes or stays, only it, the count of good offsets and the interrupt status may differ. -/
theorem setSync_if (c : Prop) [Decidable c] (s : State) (y : SyncSt) : ∃ sync good irqStat,
    (if c then setSync s y else s) = { s with tm := { s.tm with sync := sync, good := good }, irqStat := irqStat } := by
  split
  · exact ⟨_, _, _, setSync_frame s y⟩
  · exact ⟨_, _, _, rfl⟩

/-- In a running mode an accepted offset is taken for correction by single ticks, without a step of the time base (R187, R188). -/
theorem accept_running (own ref lim : Nat) {off : Int} (hs : stepAllowed s.md.mode = false) (ho : off.natAbs < 2 ^ 31) : ∃ tm irqStat,
    accept s off own ref lim = { s with tm := tm, irqStat := irqStat } ∧ tm.toffset = off ∧ tm.residual = off ∧
      tm.tsOk = s.tm.tsOk ∧ tm.wsOk = s.tm.wsOk := by
  unfold accept
  rw [satInt_of_fits ho]
  extract_lets thr big rate good tm1 s1 s2 tm2 s3 s4
  obtain ⟨sync2, good2, irq2, h2⟩ : ∃ sync good irqStat, s2 = { s1 with tm := { s1.tm with sync := sync, good := good }, irqStat := irqStat } :=
    setSync_if _ s1 _
  obtain ⟨sync4, good4, irq4, h4⟩ : ∃ sync good irqStat, s4 = { s3 with tm := { s3.tm with sync := sync, good := good }, irqStat := irqStat } :=
    setSync_if _ s3 _
  rw [if_neg (by simp [hs]), h4]
  simp only [s3, tm2, h2]
  exact ⟨_, _, rfl, rfl, rfl, rfl, rfl⟩

/-! ## TSYNC_IN edges (R192, Table 7.2) -/

/-- The expected edge nearest to an instant, for a period that is not 0. -/
theorem expectedEdge_eq (t : Nat) (h : 0 < tsyncPeriod s) : expectedEdge s t =
    ((cfgWord s 3 0x0C).toNat : Int) + (((t : Int) - (cfgWord s 3 0x0C).toNat + tsyncPeriod s / 2) / tsyncPeriod s) * tsyncPeriod s :=
  if_neg (Nat.ne_of_gt h)

/-- Outside the window an edge is counted as rejected, and corrects nothing. -/
theorem tsyncInEdge_rejected {t0 : Nat} (hsrc : timeSrc s = 1) (ht : t0 ≤ s.time) (hw : tsyncWin s < ((t0 : Int) - expectedEdge s t0).natAbs) :
    exec (.tsyncInEdge t0) s = .next { s with tm := { s.tm with tsRej := min 255 (s.tm.tsRej + 1) } } := by
  show execTsyncInEdge t0 s = _
  simp only [execTsyncInEdge, hsrc, ne_eq, not_true_eq_false, if_false, timeTo_past ht, if_neg (Nat.not_le.mpr hw), satAdd]

/-- The first edge inside a window is measured against the expected instant. -/
theorem tsyncInEdge_measured {t0 : Nat} (hsrc : timeSrc s = 1) (ht : t0 ≤ s.time) (hw : ((t0 : Int) - expectedEdge s t0).natAbs ≤ tsyncWin s)
    (hfirst : s.tm.haveLast = false) : exec (.tsyncInEdge t0) s = .next (accept
      { s with tm := { s.tm with
        tsOk := (s.tm.tsOk + 1) % 65536, lastExp := (expectedEdge s t0).toNat, missFrom := (expectedEdge s t0).toNat } }
      ((t0 : Int) - expectedEdge s t0) t0 (expectedEdge s t0).toNat 40) := by
  show execTsyncInEdge t0 s = _
  simp only [execTsyncInEdge, hsrc, ne_eq, not_true_eq_false, if_false, timeTo_past ht, if_pos hw, hfirst, Bool.false_eq_true, false_and]

theorem tsyncInEdge_accepted {t0 : Nat} {off : Int} (hsrc : timeSrc s = 1) (ht : t0 ≤ s.time) (hoff : off = (t0 : Int) - expectedEdge s t0)
    (hw : off.natAbs ≤ tsyncWin s) (hfirst : s.tm.haveLast = false) (hs : stepAllowed s.md.mode = false) (hp : tsyncPeriod s ≤ 2 ^ 30) :
    ∃ t, exec (.tsyncInEdge t0) s = .next t ∧ t.tm.tsOk = (s.tm.tsOk + 1) % 65536 ∧ t.tm.toffset = off ∧ t.tm.residual = off ∧
      t.time = s.time ∧ t.cyc = s.cyc ∧ t = { s with tm := t.tm, irqStat := t.irqStat } := by
  have hlt : off.natAbs < 2 ^ 31 := by
    unfold tsyncWin at hw
    split at hw <;> omega
  subst hoff
  obtain ⟨tm, irqStat, hacc, htoff, hres, htsOk, -⟩ := accept_running (s := { s with tm := { s.tm with
    tsOk := (s.tm.tsOk + 1) % 65536, lastExp := (expectedEdge s t0).toNat, missFrom := (expectedEdge s t0).toNat } })
    t0 (expectedEdge s t0).toNat 40 hs hlt
  exact ⟨_, (tsyncInEdge_measured hsrc ht hw hfirst).trans (congrArg _ hacc), htsOk, htoff, hres, rfl, rfl, rfl⟩

/-- Settles O23: the edge outside the window, and the first edge inside it. -/
theorem tsyncInEdge : Obligations.TsyncInEdge := by
  intro s t0 per ph e hsrc ht hper hpos hph he
  subst hper hph
  obtain rfl : e = expectedEdge s t0 := he.trans (expectedEdge_eq t0 hpos).symm
  exact ⟨tsyncInEdge_rejected hsrc ht, fun hw hfirst hs _ hp => tsyncInEdge_accepted hsrc ht rfl hw hfirst hs hp⟩
end
end Sys2Proof.Machine

namespace Sys2Proof.Machine

/-! ## Waystations (R195, R196, Table 7.3) -/

section
variable {s : State} {dom seq q : Byte} {t0 m ts : Nat} {y : WsSync} {rest : List WsFrame}

/-! ### The source -/

/-- A SYNC falls due: it is ready with the next sequence number, unless the controller is bus-off or recovering (R196, R383). -/
theorem wsSyncDue_eq (hr : wsRole s = 2) (ht : s.time % wsPeriod s = 0) : exec .wsSyncDue s = .next (
    let u := { s with ws := { s.ws with
      syncReady := some (s.ws.nextSeq, s.mono), nextSeq := s.ws.nextSeq + 1, followReady := none, awaiting := false, stamped := none } }
    if s.can[wsCtrl s].state = 4 ∨ s.can[wsCtrl s].state = 5 then abandonSync u else u) := by
  show execWsSyncDue s = _
  simp only [execWsSyncDue, if_pos hr, gridNext_of_mod ht, timeTo_past (Nat.le_refl s.time)]

theorem wsSyncDue_ready (hr : wsRole s = 2) (ht : s.time % wsPeriod s = 0) (hc : s.can[wsCtrl s].state < 4) :
    exec .wsSyncDue s = .next { s with ws := { s.ws with
      syncReady := some (s.ws.nextSeq, s.mono), nextSeq := s.ws.nextSeq + 1, followReady := none, awaiting := false, stamped := none } } :=
  (wsSyncDue_eq hr ht).trans (congrArg Host.Outcome.next (if_neg (by omega)))

theorem wsSyncDue_off (hr : wsRole s = 2) (ht : s.time % wsPeriod s = 0) (hc : s.can[wsCtrl s].state = 4 ∨ s.can[wsCtrl s].state = 5) :
    exec .wsSyncDue s = .next { s with
      ws := { s.ws with syncReady := none, nextSeq := s.ws.nextSeq + 1, followReady := none, awaiting := false, stamped := none }
      tm := { s.tm with wsRej := min 255 (s.tm.wsRej + 1) } } :=
  (wsSyncDue_eq hr ht).trans (congrArg Host.Outcome.next (if_pos hc))

/-- The stamp of a SYNC that was sent makes FOLLOW ready. -/
theorem wsOwnSyncStamp_sent (ht : t0 ≤ s.time) (hlt : t0 < 2 ^ 64) (h : s.ws.awaiting = true) : exec (.wsOwnSyncStamp t0) s = .next { s with
    ws := { s.ws with syncReady := none, awaiting := false, stamped := none, followReady := some (t0 / 4 * 4) } } := by
  show execWsOwnSyncStamp t0 s = _
  simp only [execWsOwnSyncStamp, if_pos h, timeTo_past ht, stampOf_of_lt hlt, followWith]

/-- The stamp of a SYNC whose end of transmission is still to come is kept. -/
theorem wsOwnSyncStamp_unsent (ht : t0 ≤ s.time) (hlt : t0 < 2 ^ 64) (h : s.ws.awaiting = false) (hr : s.ws.syncReady.isSome = true) :
    exec (.wsOwnSyncStamp t0) s = .next { s with ws := { s.ws with stamped := some (t0 / 4 * 4) } } := by
  show execWsOwnSyncStamp t0 s = _
  simp only [execWsOwnSyncStamp, h, Bool.false_eq_true, if_false, if_pos hr, timeTo_past ht, stampOf_of_lt hlt]

theorem wsSyncAbandon_counts (h : s.ws.syncReady = some (seq, m)) (hm : m + wsPeriod s / 2 ≤ s.mono) : exec .wsSyncAbandon s = .next { s with
    ws := { s.ws with syncReady := none, stamped := none }, tm := { s.tm with wsRej := min 255 (s.tm.wsRej + 1) } } := by
  show execWsSyncAbandon s = _
  simp only [execWsSyncAbandon, h, monoTo_past hm, abandonSync, Option.isSome_some, if_true, satAdd]

/-! ### The receiver -/

/-- A SYNC of its domain is kept for pairing by a receiver. -/
theorem wsSyncRx_receiver (hr : wsRole s = 1) (hg : s.ws.given = .sync seq t0 m :: rest) (hd : dom.toNat = wsDomain s) :
    exec (.wsSyncRx dom seq t0) s = .next { s with
      ws := { s.ws with given := rest, sync := some { seq := seq, stamp := t0, at_ := m, twice := s.ws.sync.isSome } } } := by
  show execWsSyncRx dom seq t0 s = _
  simp only [execWsSyncRx, hg, ne_eq, not_true_eq_false, or_self, if_false, hd, hr, if_true]

/-- A source that hears a SYNC of its domain records WS_CONFLICT. -/
theorem wsSyncRx_source (hr : wsRole s = 2) (hg : s.ws.given = .sync seq t0 m :: rest) (hd : dom.toNat = wsDomain s) :
    ∃ t, exec (.wsSyncRx dom seq t0) s = .next t ∧ t.led.bits[0].getLsbD 10 = true ∧ t.ws = { s.ws with given := rest } ∧
      t = { s with ws := t.ws, led := t.led, irqStat := t.irqStat } := by
  obtain ⟨led, irqStat, hb, hl⟩ := ledger_event { s with ws := { s.ws with given := rest } } 0 0 seq.toNat (show 10 < 32 by decide)
  have hrun : exec (.wsSyncRx dom seq t0) s = .next (ledger { s with ws := { s.ws with given := rest } } 10 0 0 seq.toNat) := by
    show execWsSyncRx dom seq t0 s = _
    simp [execWsSyncRx, hg, hd, hr]
  exact ⟨_, hrun.trans (congrArg _ hl), hb, rfl, rfl⟩

/-- The state that a receiver leaves behind when it takes a FOLLOW after a SYNC, before it judges the pair. -/
def followTaken (s : State) (rest : List WsFrame) : State := { s with ws := { s.ws with given := rest, sync := none } }

/-- A complete pair: counted, its sequence number and its instant remembered (R195). -/
def pairTaken (s : State) (rest : List WsFrame) (y : WsSync) : State :=
  { s with
    ws := { s.ws with given := rest, sync := none, lastSeq := some (y.seq, s.mono), since := s.mono }
    tm := { s.tm with wsOk := (s.tm.wsOk + 1) % 65536 } }

/-- A FOLLOW after one SYNC is judged: an accepted pair, measured when TIMECFG.SRC asks for it, or a rejected one (R195). -/
theorem wsFollowRx_eq (hr : wsRole s = 1) (hg : s.ws.given = .follow ts m :: rest) (hy : s.ws.sync = some y) :
    exec (.wsFollowRx ts m) s = .next (
      if m ≤ y.at_ + 10000000 ∧ y.twice = false ∧ wsSeqOk s y.seq = true then
        if timeSrc s = 2 then accept (pairTaken s rest y) ((y.stamp : Int) - ts - cfgField s 3 0x12 0 16) y.stamp ts 1000
        else pairTaken s rest y
      else { followTaken s rest with tm := { s.tm with wsRej := min 255 (s.tm.wsRej + 1) } }) := by
  show execWsFollowRx ts m s = _
  simp only [execWsFollowRx, hg, ne_eq, not_true_eq_false, or_self, if_false, hr, if_true, hy, satAdd]
  rfl

/-- The sequence number is the next one after the last accepted pair's, or there was no pair. -/
theorem wsSeqOk_next {j : Nat} (h : s.ws.lastSeq = none ∨ s.ws.lastSeq = some (q - 1, j)) : wsSeqOk s q = true := by
  unfold wsSeqOk
  obtain h | h := h <;> rw [h]
  simp

theorem wsSeqOk_gap {j : Nat} (h : s.ws.lastSeq = some (q, j)) (hne : seq ≠ q + 1) (hlast : s.mono < j + wsLostMax s * wsPeriod s) :
    wsSeqOk s seq = false := by
  unfold wsSeqOk
  rw [h]
  exact Bool.or_eq_false_iff.mpr ⟨decide_eq_false hne, decide_eq_false (Nat.not_le.mpr hlast)⟩

theorem wsFollowRx_rejects (hr : wsRole s = 1) (hg : s.ws.given = .follow ts m :: rest) (hy : s.ws.sync = some y)
    (hbad : ¬(m ≤ y.at_ + 10000000 ∧ y.twice = false ∧ wsSeqOk s y.seq = true)) : exec (.wsFollowRx ts m) s = .next { s with
      ws := { s.ws with given := rest, sync := none }, tm := { s.tm with wsRej := min 255 (s.tm.wsRej + 1) } } :=
  (wsFollowRx_eq hr hg hy).trans (congrArg Host.Outcome.next (if_neg hbad))

/-- With another source, an accepted pair is only counted. -/
theorem wsFollowRx_pairs (hr : wsRole s = 1) (hg : s.ws.given = .follow ts m :: rest) (hy : s.ws.sync = some y)
    (hok : m ≤ y.at_ + 10000000 ∧ y.twice = false ∧ wsSeqOk s y.seq = true) (hsrc : timeSrc s ≠ 2) :
    exec (.wsFollowRx ts m) s = .next (pairTaken s rest y) :=
  (wsFollowRx_eq hr hg hy).trans (congrArg Host.Outcome.next ((if_pos hok).trans (if_neg hsrc)))

/-- With TIMECFG.SRC 2, the offset of an accepted pair is the receiver's stamp less the source's and DELAY_NS (R195). -/
theorem wsFollowRx_measures {o : Int} (hr : wsRole s = 1) (hg : s.ws.given = .follow ts m :: rest) (hy : s.ws.sync = some y)
    (hok : m ≤ y.at_ + 10000000 ∧ y.twice = false ∧ wsSeqOk s y.seq = true) (hsrc : timeSrc s = 2) (hs : stepAllowed s.md.mode = false)
    (ho : o = (y.stamp : Int) - ts - cfgField s 3 0x12 0 16) (hlt : o.natAbs < 2 ^ 31) :
    ∃ t, exec (.wsFollowRx ts m) s = .next t ∧ t.ws = (pairTaken s rest y).ws ∧ t.tm.wsOk = (s.tm.wsOk + 1) % 65536 ∧
      t.tm.toffset = o ∧ t.tm.residual = o ∧ t = { s with ws := t.ws, tm := t.tm, irqStat := t.irqStat } := by
  subst ho
  obtain ⟨tm, irqStat, hacc, htoff, hres, -, hok'⟩ := accept_running (s := pairTaken s rest y) y.stamp ts 1000 hs hlt
  have hrun := (wsFollowRx_eq hr hg hy).trans (congrArg Host.Outcome.next ((if_pos hok).trans (if_pos hsrc)))
  exact ⟨_, hrun.trans (congrArg _ hacc), rfl, hok', htoff, hres, rfl⟩

/-- Settles O24: the source's clauses, then the receiver's. -/
theorem waystation : Obligations.Waystation := by
  intro s dom seq q t0 m j ts y rest o ht hlt
  refine ⟨wsSyncDue_ready, wsSyncDue_off, wsOwnSyncStamp_sent ht hlt, wsOwnSyncStamp_unsent ht hlt, wsSyncAbandon_counts, wsSyncRx_receiver,
    wsSyncRx_source, fun hr hg hy hm htw hseq => ?_, fun hr hg hy hbad => wsFollowRx_rejects hr hg hy ?_⟩
  · have hok := And.intro hm (And.intro htw (wsSeqOk_next hseq))
    exact ⟨wsFollowRx_pairs hr hg hy hok, wsFollowRx_measures hr hg hy hok⟩
  · rintro ⟨hm, htw, hseq⟩
    obtain hlate | htwice | ⟨hl, hne, hlast⟩ := hbad
    · omega
    · simp [htw] at htwice
    · simp [wsSeqOk_gap hl hne hlast] at hseq
end
end Sys2Proof.Machine

namespace Sys2Proof.Machine

/-! ## What the examination of a die's channels does (R220, Table 8.4 rows 1 and 3)

`sansRows` blanks out what those rows write; the examination is invisible there, and so is what a channel's demand rests on. -/

/-- A channel without what rows 1 and 3 of Table 8.4 write. -/
def rowsBlank (c : ChanSt) : ChanSt :=
  { c with
    st := .off, retry := false, stage := 0, queued := false, bhold := false, thold := false, toll := false, resv := 0, demandAt := 0
    demand := false, demandEdge := 0 }

/-- A field die without it. -/
def fieldBlank (f : FieldSt) : FieldSt := { f with ch := f.ch.map rowsBlank, queue := [], bqueue := [], reserved := 0 }

/-- The state without it at die `d`. -/
def sansRows (d : FDie) (s : State) : State := updField s d fieldBlank

section
variable {s t : State} {d : FDie} {k j : Chan}

theorem updChan_at (s : State) (d : FDie) (k : Chan) (g : ChanSt → ChanSt) : (updChan s d k g).field[d].ch[k] = g s.field[d].ch[k] := by
  rw [updChan, updField_at]
  exact vmod_same ..

theorem updChan_other (s : State) (d : FDie) (g : ChanSt → ChanSt) (h : j ≠ k) : (updChan s d k g).field[d].ch[j] = s.field[d].ch[j] := by
  rw [updChan, updField_at]
  exact vmod_other _ _ h

theorem updField_rows {g : FieldSt → FieldSt} (h : ∀ f, fieldBlank (g f) = fieldBlank f) : sansRows d (updField s d g) = sansRows d s := by
  have hcomp : fieldBlank ∘ g = fieldBlank := funext h
  have hv : vmod (vmod s.field d g) d fieldBlank = vmod s.field d fieldBlank := by rw [vmod_vmod, hcomp]
  exact congrArg (fun v => { s with field := v }) hv

theorem map_vmod {α β : Type} {n : Nat} (v : Vector α n) (i : Fin n) {f : α → α} {g : α → β} (h : ∀ x, g (f x) = g x) :
    (vmod v i f).map g = v.map g := by
  rw [vmod, Vector.map_set, h]
  have hi : g v[i] = (v.map g)[i] := (Vector.getElem_map ..).symm
  rw [hi]
  exact Vector.set_getElem_self ..

theorem updChan_rows {g : ChanSt → ChanSt} (h : ∀ c, rowsBlank (g c) = rowsBlank c) : sansRows d (updChan s d k g) = sansRows d s :=
  updField_rows fun f => congrArg (fun v => { f with ch := v, queue := [], bqueue := [], reserved := 0 }) (map_vmod f.ch k h)

theorem withdraw_rows (s : State) (d : FDie) (k : Chan) : sansRows d (withdraw s d k) = sansRows d s := by
  unfold withdraw
  extract_lets c s1
  have h1 : sansRows d s1 = sansRows d s := updField_rows (s := s) fun f => rfl
  clear_value s1
  refine (updChan_rows ?_).trans h1
  exact fun _ => rfl

theorem settleChan_rows (d : FDie) (s : State) (k : Chan) : sansRows d (settleChan d s k) = sansRows d s := by
  unfold settleChan
  extract_lets dm c s1
  have h1 : sansRows d s1 = sansRows d s := by
    refine ite_same rfl (updChan_rows ?_)
    exact fun _ => rfl
  clear_value s1
  split_ifs
  · rfl
  · refine (updChan_rows ?_).trans h1
    exact fun _ => rfl
  · refine (withdraw_rows ..).trans ((updChan_rows ?_).trans h1)
    exact fun _ => rfl
  · exact h1

theorem settle_rows (s : State) (d : FDie) : sansRows d (settle s d) = sansRows d s := foldl_same (settleChan_rows d) _ _

/-! ### What is read off -/

theorem sansRows_field (h : sansRows d t = sansRows d s) : fieldBlank t.field[d] = fieldBlank s.field[d] := by
  have := congrArg (fun u : State => u.field[d]) h
  simpa only [sansRows, updField_at] using this

theorem fieldBlank_chan (f : FieldSt) (k : Chan) : (fieldBlank f).ch[k] = rowsBlank f.ch[k] := Vector.getElem_map ..

theorem fld_sansRows (s : State) (d : FDie) : fld (sansRows d s) d = fieldBlank (fld s d) := updField_at ..

theorem chan_sansRows (s : State) (d : FDie) (k : Chan) : chan (sansRows d s) d k = rowsBlank (chan s d k) := by
  show (fld (sansRows d s) d).ch[k] = _
  rw [fld_sansRows]
  exact fieldBlank_chan ..

theorem sansRows_chan (h : sansRows d t = sansRows d s) (k : Chan) : rowsBlank t.field[d].ch[k] = rowsBlank s.field[d].ch[k] := by
  rw [← fieldBlank_chan, ← fieldBlank_chan, sansRows_field h]

theorem rowsBlank_commands {c c' : ChanSt} (h : rowsBlank c' = rowsBlank c) : c'.repl = c.repl ∧ c'.pulseEnd = c.pulseEnd :=
  ⟨(congrArg ChanSt.repl h :), (congrArg ChanSt.pulseEnd h :)⟩

theorem fieldBlank_origins {f f' : FieldSt} (h : fieldBlank f' = fieldBlank f) : f'.pend = f.pend ∧ f'.pgOrg = f.pgOrg ∧ f'.dutyOrg = f.dutyOrg :=
  ⟨(congrArg FieldSt.pend h :), (congrArg FieldSt.pgOrg h :), (congrArg FieldSt.dutyOrg h :)⟩

/-- A channel's demand rests on nothing that the examination writes. -/
theorem demandOf_sansRows (s : State) (d : FDie) (k : Chan) : demandOf (sansRows d s) d k = demandOf s d k := by
  simp only [demandOf, chan_sansRows, cmdDemand, fld_sansRows]
  rfl

theorem demandOf_of_rows (h : sansRows d t = sansRows d s) (k : Chan) : demandOf t d k = demandOf s d k := by
  rw [← demandOf_sansRows t, h, demandOf_sansRows]

/-- The examination passes over a channel that Table 8.4 does not govern, that limp-home drives, or that stands still (R21, R275). -/
def passedOver (s : State) (d : FDie) (k : Chan) : Bool := !isGov s d k.val || inLimp s d k || (fld s d).stopped.getLsbD k.val

theorem passedOver_sansRows (s : State) (d : FDie) (k : Chan) : passedOver (sansRows d s) d k = passedOver s d k := by
  simp only [passedOver, inLimp, chan_sansRows, fld_sansRows]
  rfl

theorem passedOver_of_rows (h : sansRows d t = sansRows d s) (k : Chan) : passedOver t d k = passedOver s d k := by
  rw [← passedOver_sansRows t, h, passedOver_sansRows]

/-! ### The demand taken -/

theorem withdraw_demand (s : State) (d : FDie) (k : Chan) : (withdraw s d k).field[d].ch[k].demand = s.field[d].ch[k].demand := by
  unfold withdraw
  rw [updChan_at, updField_at]

/-- A channel examined takes the demand of the instant. -/
theorem settleChan_demand (h : passedOver s d k = false) : (settleChan d s k).field[d].ch[k].demand = demandOf s d k := by
  unfold passedOver at h
  unfold settleChan
  extract_lets dm c s1
  have h1 : s1.field[d].ch[k].demand = dm := by
    by_cases hd : c.demand = dm
    · exact (congrArg (fun u : State => u.field[d].ch[k].demand) (if_pos hd)).trans hd
    · exact (congrArg (fun u : State => u.field[d].ch[k].demand) (if_neg hd)).trans (by rw [updChan_at])
  clear_value s1
  rw [h, if_neg Bool.false_ne_true]
  split_ifs
  · rw [updChan_at]; exact h1
  · rw [withdraw_demand, updChan_at]; exact h1
  · exact h1

theorem withdraw_other (d : FDie) (s : State) (h : j ≠ k) : (withdraw s d k).field[d].ch[j] = s.field[d].ch[j] := by
  unfold withdraw
  rw [updChan_other _ _ _ h, updField_at]

/-- The examination of another channel leaves this one. -/
theorem settleChan_other (d : FDie) (s : State) (h : j ≠ k) : (settleChan d s k).field[d].ch[j] = s.field[d].ch[j] := by
  unfold settleChan
  extract_lets dm c s1
  have h1 : s1.field[d].ch[j] = s.field[d].ch[j] := ite_same (π := fun u => u.field[d].ch[j]) rfl (updChan_other _ _ _ h)
  clear_value s1
  split_ifs
  · rfl
  · exact (updChan_other _ _ _ h).trans h1
  · exact (withdraw_other d _ h).trans ((updChan_other _ _ _ h).trans h1)
  · exact h1

/-- A channel's demand as last examined is the demand of the instant. -/
def Examined (s : State) (d : FDie) (k : Chan) : Prop := s.field[d].ch[k].demand = demandOf s d k

theorem Examined.settleChan (h : passedOver s d k = false) (hx : j = k ∨ Examined s d k) : Examined (settleChan d s j) d k := by
  unfold Examined
  rw [demandOf_of_rows (settleChan_rows d s j)]
  by_cases hj : j = k
  · subst hj
    exact settleChan_demand h
  · rw [settleChan_other d s (Ne.symm hj)]
    exact hx.resolve_left hj

theorem examined_foldl (l : List Chan) (s : State) (h : passedOver s d k = false) (hx : k ∈ l ∨ Examined s d k) :
    Examined (l.foldl (settleChan d) s) d k := by
  induction l generalizing s with
  | nil => exact hx.resolve_left List.not_mem_nil
  | cons j l ih =>
    refine ih _ ((passedOver_of_rows (settleChan_rows d s j) k).trans h) ?_
    obtain hk | hk := hx
    · obtain rfl | hk := List.mem_cons.mp hk
      · exact .inr (.settleChan h (.inl rfl))
      · exact .inl hk
    · exact .inr (.settleChan h (.inr hk))

theorem settle_examined (h : passedOver s d k = false) : Examined (settle s d) d k := examined_foldl chans16 s h (.inl (mem_chans16 k))

theorem settle_frame (s : State) (d : FDie) : settle s d = { s with field := (settle s d).field } := sansField_frame (settle_sans s d)
end

/-! ## A die's time comes to an instant (R187, R190) -/

section
variable {s t : State} {d : Die}

theorem passTo_mono_le (fuel i : Nat) (c : Clock) : c.mono ≤ (passTo fuel c i).mono := by
  induction fuel generalizing c with
  | zero => exact Nat.le_add_right ..
  | succ f ih =>
    unfold passTo
    split
    · exact Nat.le_add_right ..
    · next n _ =>
      split
      · exact Nat.le_add_right ..
      · have h := ih (tickClock (plainTicks c n))
        rw [tickClock_mono, plainTicks_mono] at h
        omega

theorem timeTo_mono_le (s : State) (i : Nat) : s.mono ≤ (timeTo s i).mono := by
  unfold timeTo
  split
  · rw [withClock_mono, tsyncFall_mono]
    exact passTo_mono_le _ i (clockOf s)
  · exact Nat.le_refl _

theorem tsyncFall_time (c : Clock) : (tsyncFall c).time = c.time := by
  unfold tsyncFall
  split <;> rfl

/-- Without a correction due, device time comes to a multiple of 4 ns exactly (R184). -/
theorem timeTo_exact {i : Nat} (hc : corrWait (clockOf s) = none) (hs : s.time % 4 = 0) (hi : i % 4 = 0) (hle : s.time ≤ i) (hlast : i ≤ lastInstant) :
    (timeTo s i).time = i := by
  obtain rfl | hlt := Nat.eq_or_lt_of_le hle
  · rw [timeTo_past (Nat.le_refl _)]
  have hpass (n : Nat) : passTo (n + 1) (clockOf s) i = plainTicks (clockOf s) (ticksFor (i - s.time)) := by
    rw [passTo, hc]
    rfl
  have hl : lastInstant = 2 ^ 64 - 8 := rfl
  rw [timeTo, if_pos ⟨hlt, hlast⟩, withClock_time, tsyncFall_time, hpass]
  show (s.time + 4 * ticksFor (i - s.time)) % 2 ^ 64 = i
  unfold ticksFor
  omega

theorem nearer_zero_of_le {o : Int} {n m : Nat} (h : nearer o n = 0) (hm : n ≤ m) : nearer o m = 0 := by
  have hn := nearer_natAbs o n
  have hm' := nearer_natAbs o m
  omega

/-- A die that has its link's time keeps it. -/
theorem curOffset_zero_later (h : curOffset s d = 0) (hdie : t.die = s.die) (hmono : s.mono ≤ t.mono) : curOffset t d = 0 := by
  unfold curOffset at *
  rw [hdie]
  split at h
  · exact nearer_zero_of_le h (Nat.div_le_div_right (Nat.sub_le_sub_right hmono _))
  · exact h

theorem dieTime_of_zero (h : curOffset s d = 0) : dieTime s d = s.time := by
  simp [dieTime, h]

theorem timeTo_die (s : State) (i : Nat) : (timeTo s i).die = s.die := by rw [timeTo_frame]

/-- The time of a die that has its link's time comes to an instant short of the wrap. -/
theorem dieTimeTo_reaches {i : Nat} (h : curOffset s d = 0) (hi : i ≤ lastInstant) : i ≤ dieTime (dieTimeTo s d i) d := by
  rw [dieTimeTo, if_pos h, dieTime_of_zero (curOffset_zero_later h (timeTo_die s i) (timeTo_mono_le s i))]
  exact timeTo_reaches hi
end

/-! ## Edges of the pattern generators and of the duty carrier (R217, R219) -/

section
variable {s : State} {d : FDie} {k : Chan}

theorem Governed.not_passedOver (h : Governed s d k) (hs : s.field[d].stopped.getLsbD k.val = false) : passedOver s d k = false := by
  obtain ⟨hgov, -, hlimp⟩ := h
  have hstopped : (fld s d).stopped.getLsbD k.val = false := hs
  rw [passedOver, hgov, hlimp, hstopped]
  rfl

/-- The state in which the channels of die `d` are examined at the instant `i` of the die's time. -/
def examinedAt (s : State) (d : FDie) (i : Nat) : State := settle (dieTimeTo s (toDie d) i) d

theorem examinedAt_chansOnly (s : State) (d : FDie) (i : Nat) : ChansOnly s (examinedAt s d i) d := by
  obtain ⟨time, mono, tm, hto⟩ := dieTimeTo_frame s (toDie d) i
  have hsans := settle_sans (dieTimeTo s (toDie d) i) d
  rw [← examinedAt, hto] at hsans
  refine ⟨fun f hf => sansField_field hsans hf, ?_⟩
  rw [sansField_frame hsans]

theorem examinedAt_origins (s : State) (d : FDie) (i : Nat) :
    (examinedAt s d i).field[d].pgOrg = s.field[d].pgOrg ∧ (examinedAt s d i).field[d].dutyOrg = s.field[d].dutyOrg := by
  obtain ⟨time, mono, tm, hto⟩ := dieTimeTo_frame s (toDie d) i
  have hblank := sansRows_field (settle_rows (dieTimeTo s (toDie d) i) d)
  rw [← examinedAt, hto] at hblank
  exact (fieldBlank_origins hblank).2

theorem settle_dieTime (s : State) (d : FDie) (x : Die) : dieTime (settle s d) x = dieTime s x := by
  rw [settle_frame]
  generalize (settle s d).field = field
  rfl

/-- The examination at an instant: the die's time has come to it, and every channel that Table 8.4 examines has the demand of then. -/
theorem examinedAt_runs (s : State) (d : FDie) (k : Chan) (i : Nat) :
    (curOffset s (toDie d) = 0 → i ≤ 2 ^ 64 - 8 → i ≤ dieTime (examinedAt s d i) (toDie d)) ∧
      (Governed s d k → s.field[d].stopped.getLsbD k.val = false → Examined (examinedAt s d i) d k) := by
  refine ⟨fun h hi => ?_, fun hg hs => settle_examined ?_⟩
  · rw [examinedAt, settle_dieTime]
    exact dieTimeTo_reaches h hi
  · obtain ⟨time, mono, tm, hto⟩ := dieTimeTo_frame s (toDie d) i
    rw [hto]
    exact hg.not_passedOver hs

theorem pgEdge_eq {j : Fin 4} {i : Nat} (hon : dieOn s d = true) (h : minOpt (chans16.map (pgNext s d j.val)) = some i) :
    exec (.pgEdge d j) s = .next (examinedAt s d i) := by
  show execPgEdge d j s = _
  simp only [execPgEdge, hon, h, Bool.not_true, Bool.false_eq_true, if_false, examinedAt]

theorem dutyEdge_eq {i : Nat} (hon : dieOn s d = true) (h : minOpt (chans16.map (dutyNext s d)) = some i) :
    exec (.dutyEdge d) s = .next (examinedAt s d i) := by
  show execDutyEdge d s = _
  simp only [execDutyEdge, hon, h, Bool.not_true, Bool.false_eq_true, if_false, examinedAt]

theorem pgEdge_runs {j : Fin 4} {i : Nat} (k : Chan) (hon : dieOn s d = true) (h : minOpt (chans16.map (pgNext s d j.val)) = some i) :
    ∃ t, exec (.pgEdge d j) s = .next t ∧ (curOffset s (toDie d) = 0 → i ≤ 2 ^ 64 - 8 → i ≤ dieTime t (toDie d)) ∧
      (Governed s d k → s.field[d].stopped.getLsbD k.val = false → t.field[d].ch[k].demand = demandOf t d k) ∧
      t.field[d].pgOrg = s.field[d].pgOrg ∧ ChansOnly s t d := by
  obtain ⟨hreach, hdemand⟩ := examinedAt_runs s d k i
  exact ⟨_, pgEdge_eq hon h, hreach, hdemand, (examinedAt_origins s d i).left, examinedAt_chansOnly s d i⟩

theorem dutyEdge_runs {i : Nat} (k : Chan) (hon : dieOn s d = true) (h : minOpt (chans16.map (dutyNext s d)) = some i) :
    ∃ t, exec (.dutyEdge d) s = .next t ∧ (curOffset s (toDie d) = 0 → i ≤ 2 ^ 64 - 8 → i ≤ dieTime t (toDie d)) ∧
      (Governed s d k → s.field[d].stopped.getLsbD k.val = false → t.field[d].ch[k].demand = demandOf t d k) ∧
      t.field[d].dutyOrg = s.field[d].dutyOrg ∧ ChansOnly s t d := by
  obtain ⟨hreach, hdemand⟩ := examinedAt_runs s d k i
  exact ⟨_, dutyEdge_eq hon h, hreach, hdemand, (examinedAt_origins s d i).right, examinedAt_chansOnly s d i⟩

/-! ### The end of a pulse (R203, Table 7.5) -/

/-- A channel whose pulse has ended: OFF replaces its command. -/
def pulseOver (c : ChanSt) : ChanSt :=
  { c with pulseEnd := none, repl := some { effCmd c with act := 0 }, lastNon4 := { effCmd c with act := 0 } }

theorem pulseEnd_runs {tt : Nat} (h : s.field[d].ch[k].pulseEnd = some tt) : ∃ t, exec (.pulseEnd d k) s = .next t ∧
    t.field[d].ch[k].pulseEnd = none ∧ t.field[d].ch[k].repl = some { effCmd s.field[d].ch[k] with act := 0 } ∧ tt ≤ t.mono := by
  obtain ⟨time, mono, tm, hto, hreach, -, -⟩ := monoTo_event s tt
  have hrun : exec (.pulseEnd d k) s = .next (settle (updChan { s with time := time, mono := mono, tm := tm } d k pulseOver) d) := by
    show execPulseEnd d k s = _
    simp only [execPulseEnd, chan, h, hto]
    rfl
  have hch := sansRows_chan (settle_rows (updChan { s with time := time, mono := mono, tm := tm } d k pulseOver) d) k
  rw [updChan_at] at hch
  obtain ⟨hrepl, hend⟩ := rowsBlank_commands hch
  refine ⟨_, hrun, hend, hrepl, ?_⟩
  rw [settle_frame]
  exact hreach
end
end Sys2Proof.Machine

namespace Sys2Proof.Machine

/-! ## A manifest entry falls due at a field die (R202 to R204, Table 7.5) -/

/-- A fold that changes what `π` shows at the steps of one element only changes it once for each time that the element stands in the list. -/
theorem foldl_count {σ α β : Type} [DecidableEq α] {π : σ → β} {f : σ → α → σ} {g : β → β} {a : α} (hat : ∀ s, π (f s a) = g (π s))
    (hother : ∀ s b, b ≠ a → π (f s b) = π s) (l : List α) (s : σ) : π (l.foldl f s) = g^[l.count a] (π s) := by
  induction l generalizing s with
  | nil => rfl
  | cons b l ih =>
    rw [List.foldl_cons, ih]
    by_cases hb : b = a
    · subst hb
      rw [hat, List.count_cons_self, Function.iterate_succ_apply]
    · rw [hother _ _ hb, List.count_cons_of_ne hb]

theorem count_chans16 (k : Chan) : chans16.count k = 1 := by
  revert k
  decide

section
variable {s u : State} {d : FDie} {k : Chan} {e : Entry}

theorem updField_congr {f g : FieldSt → FieldSt} (h : f s.field[d] = g s.field[d]) : updField s d f = updField s d g := by
  unfold updField vmod
  rw [h]

/-- The entry of a group that acts on channel `k`, the reach being judged in `u`, switches it. -/
def takeSwitch (u : State) (d : FDie) (group : List Entry) (s : State) (k : Chan) : State :=
  match (switchesOn u d group k).getLast? with
  | some e => switchChan d e s k
  | none => s

/-- A die's store emptied by the one entry that falls due, with the count of its conflicts. -/
def storeEmptied (n : Nat) (f : FieldSt) : FieldSt := { f with pend := [], man := { f.man with conflict := n } }

/-- The state in which the one entry of a die's store acts: at its instant, the store empty. -/
def entryTaken (s : State) (d : FDie) (e : Entry) (n : Nat) : State := updField (dieTimeTo s (toDie d) (dueAt e)) d (storeEmptied n)

/-- An entry alone that is neither a SAMPLE nor a CANCEL acts on its generator, then on its channels. -/
theorem actGroup_one (h7 : e.action ≠ 7) (h9 : e.action ≠ 9) (u : State) (d : FDie) : ∃ n,
    actGroup (updField u d fun f => { f with pend := [] }) d [e] =
      chans16.foldl (takeSwitch (pgSync d (updField u d (storeEmptied n)) e) d [e]) (pgSync d (updField u d (storeEmptied n)) e) := by
  have hcancel : [e].filter (fun e => decide (e.action = 9)) = [] := by simp [h9]
  have hsample (now : Nat) (w : State) : chans16.foldl (sampleHere [e] now d) w = w :=
    foldl_same (π := id) (fun t k => by simp [sampleHere, h7]) _ _
  have hsweep (w : State) (g : FieldSt → FieldSt) : updField (sweepStore (updField w d fun f => { f with pend := [] }) d) d g =
      updField w d fun f => g { f with pend := [] } := by
    simp only [sweepStore, updField, vmod_vmod]
    rfl
  unfold actGroup
  rw [hcancel]
  simp only [hsample, List.foldl_nil, List.foldl_cons, hsweep]
  exact ⟨_, rfl⟩

theorem dieDue_one (hp : s.field[d].pend = [e]) (h7 : e.action ≠ 7) (h9 : e.action ≠ 9) : ∃ n, dieDue s d =
    settle (chans16.foldl (takeSwitch (pgSync d (entryTaken s d e n) e) d [e]) (pgSync d (entryTaken s d e n) e)) d := by
  obtain ⟨time, mono, tm, hto⟩ := dieTimeTo_frame s (toDie d) (dueAt e)
  have hpend : (fld s d).pend = [e] := hp
  have hkeep : updField (dieTimeTo s (toDie d) (dueAt e)) d (fun f => { f with pend := f.pend.filter fun x => !decide (dueAt x ≤ dueAt e) }) =
      updField (dieTimeTo s (toDie d) (dueAt e)) d fun f => { f with pend := [] } := by
    have hlist : (dieTimeTo s (toDie d) (dueAt e)).field[d].pend.filter (fun x => !decide (dueAt x ≤ dueAt e)) = [] := by
      rw [hto]
      simp only [hp, List.filter_cons, List.filter_nil, Nat.le_refl, decide_true, Bool.not_true, Bool.false_eq_true, if_false]
    exact updField_congr (congrArg (fun l => { (dieTimeTo s (toDie d) (dueAt e)).field[d] with pend := l }) hlist)
  obtain ⟨n, hact⟩ := actGroup_one h7 h9 (dieTimeTo s (toDie d) (dueAt e)) d
  refine ⟨n, ?_⟩
  unfold dieDue
  rw [hpend]
  simp only [nextDue, List.foldl_cons, List.foldl_nil, hkeep]
  rw [show [e].filter (fun x => decide (dueAt x ≤ dueAt e)) = [e] by simp, hact]
  rfl

theorem manifestEntryDue_die (hp : powered s (toDie d) = true) : exec (.manifestEntryDue (toDie d)) s = .next (dieDue s d) := by
  show execManifestEntryDue (toDie d) s = _
  simp only [execManifestEntryDue, asField_toDie, hp, if_true]

theorem entryTaken_at (s : State) (d : FDie) (e : Entry) (n : Nat) : (entryTaken s d e n).field[d] = storeEmptied n s.field[d] := by
  obtain ⟨time, mono, tm, hto⟩ := dieTimeTo_frame s (toDie d) (dueAt e)
  rw [entryTaken, updField_at, hto]

theorem entryTaken_die (s : State) (d : FDie) (e : Entry) (n : Nat) : (entryTaken s d e n).die = s.die := by
  obtain ⟨time, mono, tm, hto⟩ := dieTimeTo_frame s (toDie d) (dueAt e)
  rw [entryTaken, hto]
  rfl

/-! ### Switch actions -/

/-- A channel that a switch action other than PULSE reaches (Table 7.5, R203). -/
def switchedBy (e : Entry) (c : ChanSt) : ChanSt :=
  { c with repl := some (switchCmd (effCmd c) e), lastNon4 := switchCmd (effCmd c) e, pulseEnd := none }

theorem switchChan_at (h : e.action ≠ 5) : (switchChan d e s k).field[d].ch[k] = switchedBy e s.field[d].ch[k] := by
  rw [switchChan, updChan_at, if_neg h]
  rfl

theorem switchesOn_one (hk : e.mask.getLsbD k.val = true) (hs : isSwitch e = true) (hr : switchReach u d k = true) : switchesOn u d [e] k = [e] := by
  rw [switchesOn, if_pos hr]
  simp [hk, hs]

theorem takeSwitch_at (hk : e.mask.getLsbD k.val = true) (hs : isSwitch e = true) (h5 : e.action ≠ 5) (hr : switchReach u d k = true) (s : State) :
    (takeSwitch u d [e] s k).field[d].ch[k] = switchedBy e s.field[d].ch[k] := by
  rw [takeSwitch, switchesOn_one hk hs hr]
  exact switchChan_at h5

theorem takeSwitch_other (u : State) (group : List Entry) (s : State) {j : Chan} (h : j ≠ k) :
    (takeSwitch u d group s j).field[d].ch[k] = s.field[d].ch[k] := by
  unfold takeSwitch
  split
  · exact updChan_other _ _ _ (Ne.symm h)
  · rfl

theorem takeSwitch_pend (u : State) (group : List Entry) (s : State) (k : Chan) : (takeSwitch u d group s k).field[d].pend = s.field[d].pend := by
  unfold takeSwitch
  split
  · rw [switchChan, updChan, updField_at]
  · rfl

/-- A channel's reach rests on the die's configuration, its own causes and permits, and limp-home. -/
theorem switchReach_of_same (hch : u.field[d].ch = s.field[d].ch) (hlh : u.field[d].lhEn = s.field[d].lhEn) (hdie : u.die = s.die) :
    switchReach u d k = switchReach s d k := by
  have hlow : isLower u d k.val = isLower s d k.val := by simp only [isLower, chBit, fdBit, fdSet, hdie]
  have hgov : isGov u d k.val = isGov s d k.val := by
    unfold isGov isOutput isUpper chMode chField chBit fdField fdBit fdSet
    rw [hdie]
  have hown (j : Chan) : permOwn u d j = permOwn s d j := by simp only [permOwn, chan, hch]
  have hperm : permOf u d k = permOf s d k := by
    by_cases h : isLower s d k.val = true ∧ k.val + 1 < 16
    · rw [permOf, permOf, dif_pos h, dif_pos (by rwa [hlow]), hown, hown]
    · rw [permOf, permOf, dif_neg h, dif_neg (by rwa [hlow]), hown]
  unfold switchReach inLimp chan fld
  rw [hgov, hperm, hch, hlh]

/-- An ON reaches its channel (R203, R204). -/
theorem manifestEntryDue_on (hpow : powered s (toDie d) = true) (hp : s.field[d].pend = [e]) (he : e.action = 1)
    (hk : e.mask.getLsbD k.val = true) (hr : switchReach s d k = true) : ∃ t, exec (.manifestEntryDue (toDie d)) s = .next t ∧
      t.field[d].pend = [] ∧ t.field[d].ch[k].repl = some { effCmd s.field[d].ch[k] with act := 1 } ∧ t.field[d].ch[k].pulseEnd = none := by
  obtain ⟨n, hdue⟩ := dieDue_one hp (show e.action ≠ 7 by omega) (show e.action ≠ 9 by omega)
  have hpg : pgSync d (entryTaken s d e n) e = entryTaken s d e n := if_neg (by omega)
  have hs : isSwitch e = true := by simp [isSwitch, he]
  have hfield := entryTaken_at s d e n
  have hreach : switchReach (entryTaken s d e n) d k = true :=
    (switchReach_of_same (congrArg FieldSt.ch hfield :) (congrArg FieldSt.lhEn hfield :) (entryTaken_die ..)).trans hr
  rw [hpg] at hdue
  have hchan := foldl_count (π := fun t : State => t.field[d].ch[k]) (takeSwitch_at hk hs (by omega) hreach)
    (fun t j hj => takeSwitch_other _ _ t hj) chans16 (entryTaken s d e n)
  have hpend := foldl_same (π := fun t : State => t.field[d].pend) (takeSwitch_pend (d := d) (entryTaken s d e n) [e]) chans16 (entryTaken s d e n)
  rw [count_chans16, Function.iterate_one, hfield] at hchan
  rw [hfield] at hpend
  obtain ⟨hrepl, hend⟩ := rowsBlank_commands (sansRows_chan (settle_rows (chans16.foldl (takeSwitch (entryTaken s d e n) d [e]) (entryTaken s d e n)) d) k)
  obtain ⟨hempty, -, -⟩ := fieldBlank_origins (sansRows_field (settle_rows (chans16.foldl (takeSwitch (entryTaken s d e n) d [e]) (entryTaken s d e n)) d))
  refine ⟨_, manifestEntryDue_die hpow, ?_, ?_, ?_⟩ <;> rw [hdue]
  · exact hempty.trans hpend
  · rw [hrepl, hchan]
    simp only [switchedBy, switchCmd, he, storeEmptied]
  · rw [hend, hchan]
    rfl

/-! ### PGSYNC -/

/-- An entry that is no switch action reaches no channel. -/
theorem takeSwitch_none (hs : isSwitch e = false) (u s : State) (k : Chan) : takeSwitch u d [e] s k = s := by
  have hnone : switchesOn u d [e] k = [] := by
    unfold switchesOn
    split <;> simp [hs]
  rw [takeSwitch, hnone]
  rfl

theorem dueAt_mod (e : Entry) : dueAt e % 4 = 0 := Nat.mul_mod_left ..

/-- PGSYNC restarts its generator at the entry's instant (Table 7.5). -/
theorem manifestEntryDue_pgSync (hpow : powered s (toDie d) = true) (hp : s.field[d].pend = [e]) (he : e.action = 6)
    (ho : curOffset s (toDie d) = 0) (hahead : s.time ≤ dueAt e) (hlast : dueAt e ≤ 2 ^ 64 - 8) :
    ∃ t, exec (.manifestEntryDue (toDie d)) s = .next t ∧ t.field[d].pend = [] ∧ dueAt e ≤ t.time ∧
      t.field[d].pgOrg = vset s.field[d].pgOrg (e.arg % 4) (dieTime t (toDie d)) ∧
      (s.time % 4 = 0 → corrWait (clockOf s) = none → t.time = dueAt e) := by
  obtain ⟨n, hdue⟩ := dieDue_one hp (show e.action ≠ 7 by omega) (show e.action ≠ 9 by omega)
  have hs : isSwitch e = false := by simp [isSwitch, he]
  have hfold (u v : State) : chans16.foldl (takeSwitch u d [e]) v = v := foldl_same (π := id) (fun t k => takeSwitch_none hs u t k) _ _
  have hpg : pgSync d (entryTaken s d e n) e = updField (entryTaken s d e n) d fun f =>
    { f with pgOrg := vset f.pgOrg (e.arg % 4) (dieTime (entryTaken s d e n) (toDie d)) } := if_pos he
  rw [hfold, hpg] at hdue
  obtain ⟨hempty, horg, -⟩ := fieldBlank_origins (sansRows_field (settle_rows (updField (entryTaken s d e n) d fun f =>
    { f with pgOrg := vset f.pgOrg (e.arg % 4) (dieTime (entryTaken s d e n) (toDie d)) }) d))
  rw [updField_at, entryTaken_at] at hempty horg
  have htime : (dieDue s d).time = (timeTo s (dueAt e)).time := by
    rw [hdue, settle_frame, entryTaken, dieTimeTo, if_pos ho]
    rfl
  have hdie : dieTime (dieDue s d) (toDie d) = dieTime (entryTaken s d e n) (toDie d) := by
    rw [hdue, settle_dieTime]
    rfl
  refine ⟨_, manifestEntryDue_die hpow, ?_, ?_, ?_, fun h4 hc => ?_⟩
  · rw [hdue]; exact hempty
  · rw [htime]; exact timeTo_reaches hlast
  · rw [hdie, hdue]; exact horg
  · rw [htime]; exact timeTo_exact hc h4 (dueAt_mod e) hahead hlast
end

/-! ## A held request falls due at the bus hub (R206, R378) -/

section
variable {s : State} {c : Ctrl} {h : HubEntry}

/-- A frame enters the FIFO of a controller on the bus: behind the frames there, when REPLACE is off and there is room (Table 13.3). -/
theorem fifoPut_appends (f : TxFrame) (hen : canEn s c = true) (hl : canListen s c = false) (hfd : canFd s c = true) (hq : s.md.mode ≠ .quiet)
    (hst : s.can[c].state = 2) (hrepl : canBit s c 0 5 = false) (hroom : s.can[c].fifo.length < 32) : fifoPut s c f =
      (canUpd s c fun k => { k with fifo := k.fifo ++ [f], onWs := k.onWs || (k.fifo.isEmpty && wsReady s c) }, false) := by
  unfold fifoPut
  extract_lets k
  have hon : ¬(k.state = 4 ∨ k.state = 5) := by
    show ¬(s.can[c].state = 4 ∨ s.can[c].state = 5)
    omega
  have hfree : ¬32 ≤ k.fifo.length := Nat.not_le.mpr hroom
  rw [if_neg (by simp [hen, hl, hfd, hq]), if_neg hon]
  simp only [hrepl, Bool.false_eq_true, if_false, if_neg hfree]

theorem fifoPutAll_nil (s : State) (c : Ctrl) : fifoPutAll s c [] = s := rfl

/-- A frame that is taken makes no CAN_TXDROP. -/
theorem fifoPutAll_one {f : TxFrame} {t : State} (h : fifoPut s c f = (t, false)) : fifoPutAll s c [f] = t := by
  simp [fifoPutAll, h]

/-- One held request reaches its own controller. -/
theorem hubPlace_one (s : State) (hc : h.ctrl = c.val) : hubPlace s [h] = fifoPutAll s c [reqFrame h.req] := by
  have hsort : sortPos [h] = [h] := rfl
  unfold hubPlace
  rw [hsort]
  match c with
  | 0 => simp [ctrls2, hc, fifoPutAll_nil]
  | 1 => simp [ctrls2, hc, fifoPutAll_nil]

theorem hubDue_one (hp : s.hub.pend = [h]) (hc : h.ctrl = c.val) : hubDue s =
    fifoPutAll { timeTo s (dueAt h.e) with hub := { s.hub with pend := [] } } c [reqFrame h.req] := by
  have hhub : (timeTo s (dueAt h.e)).hub = s.hub := by rw [timeTo_frame]
  unfold hubDue
  simp only [hp, hhub, nextDue, List.map_cons, List.map_nil, List.foldl_cons, List.foldl_nil, List.filter_cons, List.filter_nil, Nat.le_refl,
    decide_true, Bool.not_true, Bool.false_eq_true, if_true, if_false]
  exact hubPlace_one _ hc

theorem manifestEntryDue_hub (hp : s.hub.pend = [h]) (hc : h.ctrl = c.val) (hen : canEn s c = true) (hl : canListen s c = false)
    (hfd : canFd s c = true) (hq : s.md.mode ≠ .quiet) (hst : s.can[c].state = 2) (hrepl : canBit s c 0 5 = false)
    (hroom : s.can[c].fifo.length < 32) (hlast : dueAt h.e ≤ 2 ^ 64 - 8) : ∃ t, exec (.manifestEntryDue 4) s = .next t ∧ t.hub.pend = [] ∧
      t.can[c].fifo = s.can[c].fifo ++ [reqFrame h.req] ∧ dueAt h.e ≤ t.time ∧
      t = { s with hub := t.hub, can := t.can, mono := t.mono, time := t.time, tm := t.tm } := by
  obtain ⟨time, mono, tm, hto, hreach, -, -⟩ := timeTo_event s (dueAt h.e)
  have hrun : exec (.manifestEntryDue 4) s = .next (hubDue s) := rfl
  rw [hubDue_one hp hc, hto] at hrun
  have hput := fifoPutAll_one (fifoPut_appends (s := { s with time := time, mono := mono, tm := tm, hub := { s.hub with pend := [] } })
    (reqFrame h.req) hen hl hfd hq hst hrepl hroom)
  exact ⟨_, hrun.trans (congrArg _ hput), rfl, congrArg CanSt.fifo (vmod_same ..), hreach hlast, rfl⟩
end

/-- Settles O46: entries that fall due at a die and at the hub, the end of a pulse, and the edges. -/
theorem manifestsAndEdges : Obligations.ManifestsAndEdges :=
  fun _ _ k _ _ _ _ _ =>
    ⟨fun hpow hp => ⟨manifestEntryDue_on hpow hp, manifestEntryDue_pgSync hpow hp⟩, manifestEntryDue_hub, pulseEnd_runs, pgEdge_runs k, dutyEdge_runs k⟩

end Sys2Proof.Machine

namespace Sys2Proof.Machine

-- One proof after the other: elaborated side by side, the proofs take the memory that saving the whole text needs.
set_option Elab.async false

/-! ## The checks of R221 and the slots: what they leave unchanged (R221, R239 to R244)

`sansPass` blanks out what turn-ons, the queue of slots and a pass of the checks write; every other part of the state is read off an equation between two blanked states. -/

/-- A channel without what the rows of Table 8.4, the checks of R221 and a turn-on write. -/
def switchBlank (c : ChanSt) : ChanSt :=
  { rowsBlank c with onAt := 0, condAt := 0, olFrom := 0, load := 0, slot := false, retries := 0, defers := 0, locks := 0 }

/-- A field die without it. -/
def slotsBlank (f : FieldSt) : FieldSt :=
  { f with ch := f.ch.map switchBlank, queue := [], bqueue := [], reserved := 0, rot := 0, defCount := 0, defMax := 0 }

/-- A die without the events that it keeps while its uplinks are down. -/
def keptBlank (x : DieSt) : DieSt := { x with kept := [] }

/-- The state without what a pass of the checks of die `d` writes: switches and slots, the count of budget holds, and events. -/
def sansPass (d : FDie) (s : State) : State :=
  { s with
    field := vmod s.field d slotsBlank, die := vmod s.die (toDie d) keptBlank, gov := { s.gov with holds := 0 }
    led := State.reset.led, irqStat := State.reset.irqStat }

section
variable {s t : State} {d e : FDie} {k j : Chan}

theorem fld_updField (s : State) (d : FDie) (g : FieldSt → FieldSt) : fld (updField s d g) d = g (fld s d) := updField_at ..

theorem fld_updField_other (s : State) (g : FieldSt → FieldSt) (h : e ≠ d) : fld (updField s d g) e = fld s e := updField_other _ _ h

theorem fld_updChan (s : State) (d : FDie) (k : Chan) (g : ChanSt → ChanSt) :
    fld (updChan s d k g) d = { fld s d with ch := vmod (fld s d).ch k g } := updField_at ..

theorem chan_updChan (s : State) (d : FDie) (k : Chan) (g : ChanSt → ChanSt) : chan (updChan s d k g) d k = g (chan s d k) := updChan_at ..

theorem chan_updChan_other (s : State) (d : FDie) (g : ChanSt → ChanSt) (h : j ≠ k) : chan (updChan s d k g) d j = chan s d j :=
  updChan_other _ _ _ h

/-- A change of a die that leaves its channels. -/
theorem chan_updField {g : FieldSt → FieldSt} (h : ∀ f, (g f).ch = f.ch) : chan (updField s d g) d k = chan s d k := by
  rw [chan, updField_at, h, chan]

/-- The tick count brought to `m` is a change of the clocks. -/
theorem monoTo_clock (s : State) (m : Nat) : ∃ w, monoTo s m = withClock s w ∧ m ≤ w.mono :=
  ⟨clockOf (monoTo s m), monoTo_frame .., monoTo_reaches ..⟩

theorem updField_pass {g : FieldSt → FieldSt} (h : ∀ f, slotsBlank (g f) = slotsBlank f) : sansPass d (updField s d g) = sansPass d s := by
  have hcomp : slotsBlank ∘ g = slotsBlank := funext h
  have hv : vmod (vmod s.field d g) d slotsBlank = vmod s.field d slotsBlank := by rw [vmod_vmod, hcomp]
  exact congrArg (fun v => { sansPass d s with field := v }) hv

theorem updChan_pass {g : ChanSt → ChanSt} (h : ∀ c, switchBlank (g c) = switchBlank c) : sansPass d (updChan s d k g) = sansPass d s :=
  updField_pass fun f =>
    congrArg (fun v => { f with ch := v, queue := [], bqueue := [], reserved := 0, rot := 0, defCount := 0, defMax := 0 }) (map_vmod f.ch k h)

theorem dieLedger_pass (s : State) (d : FDie) (code inst arg : Nat) : sansPass d (dieLedger s (toDie d) code inst arg) = sansPass d s := by
  obtain ⟨kept, hdie⟩ := dieLedger_die s (toDie d) code inst arg
  have hv : vmod (dieLedger s (toDie d) code inst arg).die (toDie d) keptBlank = vmod s.die (toDie d) keptBlank := by
    rw [hdie]
    exact vmod_vmod s.die (toDie d) (fun x => { x with kept := kept }) keptBlank
  rw [dieLedger_frame]
  exact congrArg (fun v => { sansPass d s with die := v }) hv

theorem turnOnNow_pass (s : State) (d : FDie) (k : Chan) : sansPass d (turnOnNow s d k) = sansPass d s := by
  unfold turnOnNow
  extract_lets load c wait s1 s2
  have h1 : sansPass d s1 = sansPass d s := ite_same (updField_pass fun _ => rfl) rfl
  have h2 : sansPass d s2 = sansPass d s1 := updField_pass fun _ => rfl
  clear_value s2 s1
  refine (updChan_pass ?_).trans (h2.trans h1)
  exact fun _ => rfl

theorem serveQueue_pass (d : FDie) (q : List Nat) (s : State) : sansPass d (serveQueue d q s) = sansPass d s := by
  induction q generalizing s with
  | nil => rfl
  | cons i r ih =>
    unfold serveQueue
    split
    · exact (ih _).trans (turnOnNow_pass ..)
    · rfl

theorem serveSlots_pass (s : State) (d : FDie) : sansPass d (serveSlots s d) = sansPass d s := serveQueue_pass ..

theorem slotRequest_pass (d : FDie) (s : State) (k : Chan) : sansPass d (slotRequest d s k) = sansPass d s := by
  refine ite_same (turnOnNow_pass ..) ((updChan_pass ?_).trans (updField_pass ?_)) <;> exact fun _ => rfl

theorem passChecks_pass (refill : Bool) (s : State) (d : FDie) (k : Chan) : sansPass d (passChecks refill s d k) = sansPass d s := by
  unfold passChecks
  extract_lets thermal tollCheck budget
  have hthermal (s : State) : sansPass d (thermal s) = sansPass d s := by
    refine ite_same rfl (ite_same (updChan_pass ?_) (updChan_pass ?_)) <;> exact fun _ => rfl
  have htoll (s : State) : sansPass d (tollCheck s) = sansPass d s := by
    refine ite_same rfl (ite_same (updChan_pass ?_) (ite_same rfl ((dieLedger_pass ..).trans (updChan_pass ?_)))) <;> exact fun _ => rfl
  have hbudget (s : State) : sansPass d (budget s) = sansPass d s := by
    have hheld : sansPass d (updChan (updField s d fun f => { f with bqueue := f.bqueue ++ [k.val] }) d k fun c => { c with bhold := true }) =
        sansPass d s := by
      refine (updChan_pass ?_).trans (updField_pass ?_) <;> exact fun _ => rfl
    refine ite_same rfl (ite_same ((updChan_pass ?_).trans (updField_pass ?_)) (ite_same rfl hheld)) <;> exact fun _ => rfl
  clear_value thermal tollCheck budget
  exact (hbudget _).trans ((htoll _).trans (hthermal _))

theorem waitPass_pass (refill : Bool) (s : State) (d : FDie) : sansPass d (waitPass refill s d) = sansPass d s := by
  unfold waitPass
  extract_lets waiting s1 passed s2 s3 new s4
  have h1 : sansPass d s1 = sansPass d s := foldl_same (fun t k => passChecks_pass refill t d k) _ _
  have h2 : sansPass d s2 = sansPass d s1 := foldl_same (fun t k => turnOnNow_pass t d k) _ _
  have h3 : sansPass d s3 = sansPass d s2 := serveSlots_pass ..
  have h4 : sansPass d s4 = sansPass d s3 := foldl_same (slotRequest_pass d) _ _
  have hrot (rot : Nat) : sansPass d (updField s4 d fun f => { f with rot := rot }) = sansPass d s4 := updField_pass fun _ => rfl
  exact ite_same (h3.trans (h2.trans h1)) ((hrot _).trans (h4.trans (h3.trans (h2.trans h1))))

/-! ### What is read off -/

theorem sansPass_field (h : sansPass d t = sansPass d s) : slotsBlank (fld t d) = slotsBlank (fld s d) := by
  have := congrArg (fun u : State => fld u d) h
  simpa only [fld, sansPass, vmod_same] using this

theorem sansPass_other (h : sansPass d t = sansPass d s) (he : e ≠ d) : fld t e = fld s e := by
  have := congrArg (fun u : State => fld u e) h
  simpa only [fld, sansPass, vmod_other _ _ he] using this

theorem sansPass_chan (h : sansPass d t = sansPass d s) (k : Chan) : switchBlank (chan t d k) = switchBlank (chan s d k) := by
  have := congrArg (fun f : FieldSt => f.ch[k]) (sansPass_field h)
  simpa only [slotsBlank, chan, fld, Fin.getElem_fin, Vector.getElem_map] using this

theorem sansPass_die (h : sansPass d t = sansPass d s) (x : Die) : keptBlank t.die[x] = keptBlank s.die[x] := by
  have hx := congrArg (fun u : State => u.die[x]) h
  by_cases he : x = toDie d
  · subst he
    simpa only [sansPass, vmod_same] using hx
  · simp only [sansPass, vmod_other _ _ he] at hx
    rw [hx]

end

/-! ## Turning on and off (R221, R231, R241, Table 8.4) -/

section
variable {s t : State} {d e : FDie} {k j : Chan}

theorem updField_updField (s : State) (d : FDie) (f g : FieldSt → FieldSt) : updField (updField s d f) d g = updField s d (g ∘ f) := by
  unfold updField
  rw [vmod_vmod]

theorem updChan_updChan (s : State) (d : FDie) (k : Chan) (f g : ChanSt → ChanSt) : updChan (updChan s d k f) d k g = updChan s d k (g ∘ f) := by
  unfold updChan
  rw [updField_updField]
  exact congrArg (updField s d) (funext fun x => congrArg (fun v => { x with ch := v }) (vmod_vmod ..))

theorem updField_fixed {f : FieldSt → FieldSt} (h : f (fld s d) = fld s d) : updField s d f = s :=
  congrArg (fun v => { s with field := v }) (vmod_fixed h)

theorem updChan_fixed {f : ChanSt → ChanSt} (h : f (chan s d k) = chan s d k) : updChan s d k f = s :=
  updField_fixed (congrArg (fun v => { fld s d with ch := v }) (vmod_fixed h))

/-- A changed channel is a channel standing at its new value. -/
theorem updChan_chanAt (s : State) (d : FDie) (k : Chan) (f : ChanSt → ChanSt) : updChan s d k f = chanAt s d k (f (chan s d k)) := rfl

/-- Only field die `d` differs, and no clock. -/
theorem chansOnly_of_sans (h : sansField d t = sansField d s) : ChansOnly s t d :=
  ⟨fun _ he => sansField_field h he, by rw [sansField_frame h]⟩

theorem slotsUsed_eq (f : FieldSt) : slotsUsed f = ((f.ch.map fun c => c.slot).toList.filter id).length := by
  rw [slotsUsed, Vector.toList_map, List.filter_map, List.length_map]
  rfl

theorem slotsUsed_updChan {g : ChanSt → ChanSt} (h : ∀ c, (g c).slot = c.slot) : slotsUsed (fld (updChan s d k g) d) = slotsUsed (fld s d) := by
  rw [slotsUsed_eq, slotsUsed_eq, updChan, fld_updField]
  exact congrArg (fun v : Vector Bool 16 => (v.toList.filter id).length) (map_vmod _ _ h)

/-! ### Row 2 -/

/-- A channel that turns on at the tick count `now` with the profile `load`. -/
def turnedOn (load now : Nat) (c : ChanSt) : ChanSt :=
  { c with
    st := if profB load = 0 then .on else .inrush
    onAt := now, condAt := now, olFrom := now, load := load, slot := decide (0 < profW load)
    retries := if c.retry then satAdd 255 c.retries 1 else c.retries
    defers := if c.queued then satAdd 255 c.defers 1 else c.defers
    retry := false, stage := 0, resv := 0, queued := false, bhold := false, thold := false, toll := false }

theorem turnOnNow_frame (s : State) (d : FDie) (k : Chan) : ∃ g : FieldSt → FieldSt, (∀ f, (g f).ch = f.ch) ∧
    (∀ f, (g f).queue = f.queue.filter fun j => j != k.val) ∧
    turnOnNow s d k = updChan (updField s d g) d k (turnedOn (chField s d k.val 0 4 3) s.mono) := by
  by_cases hq : (chan s d k).queued = true
  · refine ⟨fun f => { f with
      defMax := max f.defMax (min 65535 ((s.mono - (chan s d k).demandAt) / 1000)), defCount := (f.defCount + 1) % 65536
      queue := f.queue.filter fun j => j != k.val, bqueue := f.bqueue.filter fun j => j != k.val }, fun _ => rfl, fun _ => rfl, ?_⟩
    unfold turnOnNow
    extract_lets load c wait s1 s2
    have h1 : s1 = updField s d fun f =>
      { f with defMax := max f.defMax (min 65535 wait), defCount := (f.defCount + 1) % 65536 } := if_pos hq
    have h2 : s2 = updField s d _ := (congrArg (updField · d _) h1).trans (updField_updField ..)
    rw [h2]
    rfl
  · refine ⟨fun f => { f with
      queue := f.queue.filter fun j => j != k.val, bqueue := f.bqueue.filter fun j => j != k.val }, fun _ => rfl, fun _ => rfl, ?_⟩
    unfold turnOnNow
    extract_lets load c wait s1 s2
    have h1 : s1 = s := if_neg hq
    have h2 : s2 = updField s d _ := congrArg (updField · d _) h1
    rw [h2]
    rfl

theorem turnOnNow_at (s : State) (d : FDie) (k : Chan) :
    chan (turnOnNow s d k) d k = turnedOn (chField s d k.val 0 4 3) s.mono (chan s d k) := by
  obtain ⟨g, hch, -, hon⟩ := turnOnNow_frame s d k
  rw [hon, chan_updChan, chan_updField hch]

theorem turnOnNow_other (s : State) (h : j ≠ k) : chan (turnOnNow s d k) d j = chan s d j := by
  obtain ⟨g, hch, -, hon⟩ := turnOnNow_frame s d k
  rw [hon, chan_updChan_other _ _ _ h, chan_updField hch]

theorem turnOnNow_queue (s : State) (d : FDie) (k : Chan) : (fld (turnOnNow s d k) d).queue = (fld s d).queue.filter fun j => j != k.val := by
  obtain ⟨g, -, hqueue, hon⟩ := turnOnNow_frame s d k
  rw [hon, updChan, fld_updField, fld_updField, hqueue]

theorem turnOnNow_sans (s : State) (d : FDie) (k : Chan) : sansField d (turnOnNow s d k) = sansField d s := by
  obtain ⟨g, -, -, hon⟩ := turnOnNow_frame s d k
  rw [hon]
  exact (updChan_sans ..).trans (updField_sans ..)

/-- An empty queue takes no slot. -/
theorem serveSlots_empty (h : (fld s d).queue = []) : serveSlots s d = s := by
  rw [serveSlots, h]
  rfl

/-! ### A request that is alone and passes every check (R221) -/

/-- A list in which `k` stands once, kept by a test that only `k` passes. -/
theorem filter_one {l : List Chan} (hl : l.count k = 1) {p : Chan → Bool} (hp : ∀ j, p j = (j == k)) : l.filter p = [k] := by
  rw [funext hp, List.filter_beq, hl]
  rfl

theorem rot_reaches (rot : Nat) (k : Chan) : (rot + (k.val + 16 - rot % 16) % 16) % 16 = k.val := by
  have hle : rot % 16 ≤ k.val + 16 := (Nat.mod_lt rot (by decide)).le.trans (Nat.le_add_left 16 _)
  have hsum : rot + (k.val + 16 - rot % 16) = k.val + 16 * (rot / 16 + 1) := by
    rw [← Nat.add_sub_assoc hle, Nat.sub_eq_iff_eq_add (hle.trans (Nat.le_add_left _ _)), Nat.mul_add, Nat.mul_one]
    conv_lhs => rw [← Nat.div_add_mod rot 16]
    ac_rfl
  rw [Nat.add_mod_mod, hsum, Nat.add_mul_mod_self_left, Nat.mod_eq_of_lt k.isLt]

theorem count_rotOrder (rot : Nat) (k : Chan) : (rotOrder rot).count k = 1 := by
  refine List.count_eq_one_of_mem (List.nodup_range.map_on fun i hi j hj h => ?_)
    (List.mem_map.mpr ⟨_, List.mem_range.mpr (Nat.mod_lt _ (by decide)), Fin.ext (rot_reaches rot k)⟩)
  have hv : rot + i ≡ rot + j [MOD 16] := congrArg Fin.val h
  exact (Nat.ModEq.add_left_cancel' rot hv).eq_of_lt_of_lt (List.mem_range.mp hi) (List.mem_range.mp hj)

/-- The reservation of a request that passes the budget check (R240). -/
def reserve (n : Nat) (k : Chan) (f : FieldSt) : FieldSt := { f with reserved := f.reserved + n, bqueue := f.bqueue.filter fun j => j != k.val }

/-- A request that passes the checks one after the other: thermal hold, toll, budget. -/
def passedCool (c : ChanSt) : ChanSt := { c with thold := false, stage := 1 }
def passedToll (c : ChanSt) : ChanSt := { c with toll := false, stage := 2 }
def passedBudget (n : Nat) (c : ChanSt) : ChanSt := { c with bhold := false, resv := n, stage := 3 }

/-- The state in which channel `k` has passed its checks. -/
def granted (s : State) (d : FDie) (k : Chan) : State :=
  updChan (updField (updChan (updChan s d k passedCool) d k passedToll) d (reserve (addition s d k) k)) d k (passedBudget (addition s d k))

/-- A request that no check of R221 stops: cool, its bucket filled, and its addition within the allowance, no other waiting for the budget. -/
structure Passes (s : State) (d : FDie) (k : Chan) : Prop where
  stage : (chan s d k).stage = 0
  toll : (chan s d k).toll = false
  bqueue : (fld s d).bqueue = []
  cool : hotOf s d k ≤ trel s d k.val
  filled : tollPass s d k = true
  budget : (fld s d).reserved + addition s d k ≤ allowance s d * 1000000000000

theorem tollPass_updChan {g : ChanSt → ChanSt} (he : ∀ c, (g c).elast = c.elast) (hl : ∀ c, (g c).level = c.level) :
    tollPass (updChan s d k g) d k = tollPass s d k := by
  unfold tollPass
  rw [chan_updChan, he, hl]
  rfl

theorem addition_updChan {g : ChanSt → ChanSt} (hi : ∀ c, (g c).ilast = c.ilast) : addition (updChan s d k g) d k = addition s d k := by
  unfold addition
  rw [chan_updChan, hi]
  rfl

theorem allowance_updChan (s : State) (d : FDie) (k : Chan) (g : ChanSt → ChanSt) : allowance (updChan s d k g) d = allowance s d := by
  unfold allowance
  rw [fld_updChan]
  rfl

/-- The budget check grants `n` to channel `k`: none waits for the budget, and the addition is within the allowance (R240). -/
structure Affords (s : State) (d : FDie) (k : Chan) (n : Nat) : Prop where
  bqueue : (fld s d).bqueue = []
  adds : addition s d k = n
  within : (fld s d).reserved + n ≤ allowance s d * 1000000000000

theorem Affords.updChan {n : Nat} (h : Affords s d k n) {g : ChanSt → ChanSt} (hi : ∀ c, (g c).ilast = c.ilast) : Affords (updChan s d k g) d k n := by
  obtain ⟨hbq, hadd, hwithin⟩ := h
  refine ⟨?_, ?_, ?_⟩
  · rw [fld_updChan]; exact hbq
  · rw [addition_updChan hi, hadd]
  · rw [fld_updChan, allowance_updChan]; exact hwithin

theorem passChecks_granted (h : Passes s d k) : passChecks false s d k = granted s d k := by
  obtain ⟨hstage, htoll, hbq, hcool, hfill, hbudget⟩ := h
  have hn : ¬0 < (chan s d k).stage := Nat.not_lt.mpr (Nat.le_of_eq hstage)
  have hafford : Affords (updChan s d k passedCool) d k (addition s d k) := Affords.updChan ⟨hbq, rfl, hbudget⟩ fun _ => rfl
  have hstage1 : ¬(chan (updChan s d k passedCool) d k).stage ≠ 1 := by rw [chan_updChan]; exact fun h => h rfl
  have hpass : (tollPass (updChan s d k passedCool) d k && (false || !(chan (updChan s d k passedCool) d k).toll)) = true := by
    rw [tollPass_updChan (g := passedCool) (fun _ => rfl) fun _ => rfl, hfill, chan_updChan]
    exact congrArg Bool.not htoll
  unfold passChecks granted
  extract_lets thermal tollCheck budget
  have h1 : thermal s = updChan s d k passedCool := (if_neg hn).trans (if_neg (Int.not_lt.mpr hcool))
  rw [h1]
  clear_value thermal
  generalize updChan s d k passedCool = u at hafford hstage1 hpass
  have h2 : tollCheck u = updChan u d k passedToll := (if_neg hstage1).trans (if_pos hpass)
  have hstage2 : ¬(chan (updChan u d k passedToll) d k).stage ≠ 2 := by rw [chan_updChan]; exact fun h => h rfl
  obtain ⟨hbq2, hadd2, hwithin2⟩ := hafford.updChan (g := passedToll) fun _ => rfl
  rw [h2]
  generalize updChan u d k passedToll = v at hstage2 hbq2 hadd2 hwithin2
  refine (if_neg hstage2).trans ?_
  rw [hadd2, hbq2]
  exact if_pos (by rw [decide_eq_true hwithin2]; rfl)

theorem chan_reserve (s : State) (n : Nat) (j : Chan) : chan (updField s d (reserve n k)) d j = chan s d j := chan_updField fun _ => rfl

theorem granted_at (s : State) (d : FDie) (k : Chan) :
    chan (granted s d k) d k = passedBudget (addition s d k) (passedToll (passedCool (chan s d k))) := by
  rw [granted, chan_updChan, chan_reserve, chan_updChan, chan_updChan]

theorem granted_other (s : State) (h : j ≠ k) : chan (granted s d k) d j = chan s d j := by
  rw [granted, chan_updChan_other _ _ _ h, chan_reserve, chan_updChan_other _ _ _ h, chan_updChan_other _ _ _ h]

theorem granted_queue (s : State) (d : FDie) (k : Chan) : (fld (granted s d k) d).queue = (fld s d).queue := by
  simp only [granted, updChan, fld_updField, reserve]

theorem granted_slots (s : State) (d : FDie) (k : Chan) : slotsUsed (fld (granted s d k) d) = slotsUsed (fld s d) := by
  rw [granted, slotsUsed_updChan (g := passedBudget _) fun _ => rfl, fld_updField]
  show slotsUsed (fld (updChan (updChan s d k passedCool) d k passedToll) d) = _
  rw [slotsUsed_updChan (g := passedToll) fun _ => rfl, slotsUsed_updChan (g := passedCool) fun _ => rfl]

/-- A register of a channel is read off its die's settings. -/
theorem chField_of_die (h : t.die = s.die) (d : FDie) (n w lo m : Nat) : chField t d n w lo m = chField s d n w lo m := by
  unfold chField fdField fdSet
  rw [h]

theorem granted_sans (s : State) (d : FDie) (k : Chan) : sansField d (granted s d k) = sansField d s :=
  (updChan_sans ..).trans ((updField_sans ..).trans ((updChan_sans ..).trans (updChan_sans ..)))

theorem granted_die (s : State) (d : FDie) (k : Chan) : (granted s d k).die = s.die := (congrArg State.die (granted_sans s d k) :)

theorem granted_mono (s : State) (d : FDie) (k : Chan) : (granted s d k).mono = s.mono := (congrArg State.mono (granted_sans s d k) :)

/-- A request of the die that waits alone, with a slot free and none queued. -/
structure Lone (s : State) (d : FDie) (k : Chan) : Prop where
  waits : (chan s d k).st = .wait
  unqueued : (chan s d k).queued = false
  alone : ∀ j : Chan, j ≠ k → (chan s d j).st ≠ .wait
  queue : (fld s d).queue = []
  slots : slotsUsed (fld s d) < 4

/-- The request that has passed is still the same request. -/
theorem granted_waits (s : State) (d : FDie) (k : Chan) : (chan (granted s d k) d k).st = (chan s d k).st ∧
    (chan (granted s d k) d k).queued = (chan s d k).queued ∧ (chan (granted s d k) d k).stage = 3 := by
  rw [granted_at]
  exact ⟨rfl, rfl, rfl⟩

/-- A request that has passed its checks and stands in no queue. -/
def hasPassed (s : State) (d : FDie) (k : Chan) : Bool :=
  (chan s d k).st = .wait && !(chan s d k).queued && decide ((chan s d k).stage = 3)

/-- A pass after its checks: requests without an inrush window turn on, the others go for the slots (R241 to R244). -/
def grantSlots (waiting : List Chan) (s : State) (d : FDie) : State :=
  let s2 := (waiting.filter fun k => hasPassed s d k && decide (profW (chField s d k.val 0 4 3) = 0)).foldl (fun s k => turnOnNow s d k) s
  let s3 := serveSlots s2 d
  let new := (rotOrder (fld s3 d).rot).filter fun k => hasPassed s d k && decide (0 < profW (chField s d k.val 0 4 3))
  if new = [] then s3 else updField (new.foldl (slotRequest d) s3) d fun f => { f with rot := nextRot s3 (new.foldl (slotRequest d) s3) d new }

theorem waitPass_eq (refill : Bool) (s : State) (d : FDie) {waiting : List Chan}
    (h : (passOrder (fld s d)).filter (fun k => (chan s d k).st = .wait && !(chan s d k).queued) = waiting) :
    waitPass refill s d = grantSlots waiting (waiting.foldl (fun s k => passChecks refill s d k) s) d := by
  subst h
  rfl

/-- One request that has passed, with no queue and a slot free, turns on. -/
theorem grantSlots_lone (hpassed : ∀ j, hasPassed s d j = (j == k)) (hqueue : (fld s d).queue = []) (hslots : slotsUsed (fld s d) < 4) :
    ∃ rot, grantSlots [k] s d = updField (turnOnNow s d k) d fun f => { f with rot := rot } := by
  unfold grantSlots
  extract_lets s2 s3 new
  by_cases hzero : profW (chField s d k.val 0 4 3) = 0
  · have h2 : s2 = turnOnNow s d k := by
      have hone : s2 = [k].foldl (fun s k => turnOnNow s d k) s := by
        refine congrArg (List.foldl _ s) (List.filter_cons_of_pos ?_)
        rw [hpassed, beq_self_eq_true, decide_eq_true hzero]; rfl
      rw [hone, List.foldl_cons, List.foldl_nil]
    have h3 : s3 = turnOnNow s d k := by
      have hserve : s3 = serveSlots s2 d := rfl
      rw [hserve, h2]
      exact serveSlots_empty (by rw [turnOnNow_queue, hqueue]; rfl)
    have hnew : new = [] := List.filter_eq_nil_iff.mpr fun j _ => by
      rw [hpassed]
      by_cases hj : j = k
      · rw [hj, hzero, decide_eq_false (Nat.lt_irrefl 0), Bool.and_false]; exact Bool.false_ne_true
      · rw [beq_false_of_ne hj]; exact Bool.false_ne_true
    rw [if_pos hnew, h3]
    exact ⟨_, (updField_fixed rfl).symm⟩
  · have h2 : s2 = s := by
      have hnone : s2 = [].foldl (fun s k => turnOnNow s d k) s := by
        refine congrArg (List.foldl _ s) (List.filter_cons_of_neg ?_)
        rw [decide_eq_false hzero, Bool.and_false]; exact Bool.false_ne_true
      rw [hnone, List.foldl_nil]
    have h3 : s3 = s := by
      have hserve : s3 = serveSlots s2 d := rfl
      rw [hserve, h2]
      exact serveSlots_empty hqueue
    have hnew : new = [k] := filter_one (count_rotOrder _ k) fun j => by
      rw [hpassed]
      by_cases hj : j = k
      · rw [hj, decide_eq_true (Nat.pos_of_ne_zero hzero), Bool.and_true]
      · rw [beq_false_of_ne hj]; rfl
    have h4 : new.foldl (slotRequest d) s3 = turnOnNow s d k := by
      rw [hnew, List.foldl_cons, List.foldl_nil, h3]
      exact if_pos ⟨hslots, hqueue⟩
    rw [if_neg (by rw [hnew]; exact List.cons_ne_nil _ _), h4]
    exact ⟨_, rfl⟩

/-- A pass with one request, which every check lets through, turns it on. -/
theorem waitPass_lone (hl : Lone s d k) (hp : Passes s d k) :
    ∃ rot, waitPass false s d = updField (turnOnNow (granted s d k) d k) d fun f => { f with rot := rot } := by
  obtain ⟨hwait, hunq, halone, hqueue, hslots⟩ := hl
  obtain ⟨hgst, hgq, hgstage⟩ := granted_waits s d k
  have horder : passOrder (fld s d) = chans16 := by
    rw [passOrder, hp.bqueue]
    exact List.filter_eq_self.mpr fun _ _ => rfl
  have hwaiting : (passOrder (fld s d)).filter (fun k => (chan s d k).st = .wait && !(chan s d k).queued) = [k] := by
    rw [horder]
    refine filter_one (count_chans16 k) fun j => ?_
    by_cases hj : j = k
    · rw [hj, hunq, decide_eq_true hwait, beq_self_eq_true]; rfl
    · rw [decide_eq_false (halone j hj), beq_false_of_ne hj]; rfl
  have hpassed (j : Chan) : hasPassed (granted s d k) d j = (j == k) := by
    unfold hasPassed
    by_cases hj : j = k
    · rw [hj, decide_eq_true (hgst.trans hwait), hgq, hunq, decide_eq_true hgstage, beq_self_eq_true]; rfl
    · rw [granted_other s hj, decide_eq_false (halone j hj), beq_false_of_ne hj]; rfl
  rw [waitPass_eq false s d hwaiting, List.foldl_cons, List.foldl_nil, passChecks_granted hp]
  exact grantSlots_lone hpassed ((granted_queue s d k).trans hqueue) ((granted_slots s d k).trans_lt hslots)

theorem turnOn_runs (hl : Lone s d k) (hp : Passes s d k) (hlimp : inLimp s d k = false) :
    ∃ t, exec (.turnOn d k) s = .next t ∧ (chan t d k).onAt = s.mono ∧ (chan t d k).condAt = s.mono ∧ (chan t d k).resv = 0 ∧
      (chan t d k).st = (if profB (chField s d k.val 0 4 3) = 0 then .on else .inrush) ∧
      (chan t d k).slot = decide (0 < profW (chField s d k.val 0 4 3)) ∧
      (∀ j : Chan, j ≠ k → chan t d j = chan s d j) ∧ ChansOnly s t d ∧ t.time = s.time := by
  obtain ⟨rot, hpass⟩ := waitPass_lone hl hp
  have hrun : exec (.turnOn d k) s = .next (waitPass false s d) :=
    congrArg Host.Outcome.next (if_pos ⟨hl.waits, by rw [hlimp]; rfl⟩)
  rw [hpass] at hrun
  have hon := turnOnNow_at (granted s d k) d k
  have hother (j : Chan) (hj : j ≠ k) := (turnOnNow_other (granted s d k) hj).trans (granted_other s hj)
  have hsans := (turnOnNow_sans (granted s d k) d k).trans (granted_sans s d k)
  rw [granted_mono, chField_of_die (granted_die s d k)] at hon
  generalize granted s d k = g at hrun hon hother hsans
  generalize turnOnNow g d k = u at hrun hon hother hsans
  obtain ⟨t, ht⟩ : ∃ t, updField u d (fun f => { f with rot := rot }) = t := ⟨_, rfl⟩
  have hch (j : Chan) : chan t d j = chan u d j := by rw [← ht]; exact chan_updField fun _ => rfl
  have htsans : sansField d t = sansField d s := by rw [← ht]; exact (updField_sans ..).trans hsans
  rw [ht] at hrun
  rw [← hch] at hon
  refine ⟨t, hrun, ?_, ?_, ?_, ?_, ?_, fun j hj => by rw [hch]; exact hother j hj, chansOnly_of_sans htsans, (congrArg State.time htsans :)⟩
  iterate 5 rw [hon]; rfl

/-! ### Row 5 -/

theorem endConduction_eq (hq : (fld s d).queue = []) : endConduction s d k = updChan s d k fun c => { c with
    slot := false, condAcc := c.condAcc + (s.mono - c.condAt), olAcc := if c.st = .on then c.olAcc + (s.mono - c.olFrom) else c.olAcc } :=
  serveSlots_empty (by rw [updChan, fld_updField]; exact hq)

theorem turnOff_runs (i : Nat) (cl : Bool) (hon : stOn (chan s d k).st = true) (hlimp : inLimp s d k = false) (hdem : demandOf s d k = false)
    (hq : (fld s d).queue = []) (hstop : (fld s d).stopped.getLsbD k.val = false) : exec (.turnOff d k i cl) s =
      .next (chanAt s d k { chan s d k with
        st := .off, slot := false, limit := false, ilast := i % 2 ^ 32, clamp := cl,
        condAcc := (chan s d k).condAcc + (s.mono - (chan s d k).condAt)
        olAcc := if (chan s d k).st = .on then (chan s d k).olAcc + (s.mono - (chan s d k).olFrom) else (chan s d k).olAcc }) := by
  have hcond : stOn (chan s d k).st ∧ !inLimp s d k ∧ !demandOf s d k ∧ !(fld s d).stopped.getLsbD k.val :=
    ⟨hon, by rw [hlimp]; rfl, by rw [hdem]; rfl, by rw [hstop]; rfl⟩
  have hq' : (fld (updChan s d k (stageOpens (i % 2 ^ 32) cl)) d).queue = [] := by rw [updChan, fld_updField]; exact hq
  refine congrArg Host.Outcome.next ((if_pos hcond).trans ?_)
  rw [openSwitch, endConduction_eq hq', updChan_updChan, updChan_updChan, updChan_chanAt]
  rfl

/-! ### Rows 4, 7 and 8, the slot and RLEFT -/

theorem blankingEnd_runs (h : (chan s d k).st = .inrush) : ∃ t, exec (.blankingEnd d k) s = .next t ∧
    t.field = (chanAt s d k { chan s d k with st := .on, olFrom := t.mono }).field ∧
    (chan s d k).onAt + profB (chan s d k).load ≤ t.mono ∧ ChansOnly s t d := by
  obtain ⟨w, hto, hreach⟩ := monoTo_clock s ((chan s d k).onAt + profB (chan s d k).load)
  refine ⟨updChan (withClock s w) d k fun c => { c with st := .on, olFrom := w.mono }, ?_, rfl, hreach,
    fun e he => fld_updField_other _ _ he, rfl⟩
  refine congrArg Host.Outcome.next ((if_pos h).trans ?_)
  simp only [hto]
  rfl

theorem inrushWindowEnd_runs (h : (chan s d k).slot = true) (hq : (fld s d).queue = []) : ∃ t, exec (.inrushWindowEnd d k) s = .next t ∧
    t.field = (chanAt s d k { chan s d k with slot := false }).field ∧
    (chan s d k).onAt + profW (chan s d k).load ≤ t.mono ∧ ChansOnly s t d := by
  obtain ⟨w, hto, hreach⟩ := monoTo_clock s ((chan s d k).onAt + profW (chan s d k).load)
  refine ⟨updChan (withClock s w) d k fun c => { c with slot := false }, ?_, rfl, hreach,
    fun e he => fld_updField_other _ _ he, rfl⟩
  refine congrArg Host.Outcome.next ((if_pos h).trans ?_)
  simp only [hto]
  exact serveSlots_empty (by rw [updChan, fld_updField]; exact hq)

theorem retryConditionsMet_runs (h : (chan s d k).st = .rwait) (hcool : hotOf s d k ≤ trel s d k.val) (hlimp : inLimp s d k = false) :
    ∃ t, exec (.retryConditionsMet d k) s = .next t ∧ (chan t d k).st = (if demandOf t d k then .wait else .off) ∧
      (chan s d k).tripAt + chField s d k.val 2 16 8 * 10000000 ≤ t.mono ∧
      (∀ j : Chan, j ≠ k → chan t d j = chan s d j) ∧ ChansOnly s t d := by
  obtain ⟨w, hto, hreach⟩ := monoTo_clock s ((chan s d k).tripAt + chField s d k.val 2 16 8 * 10000000)
  have hrun : exec (.retryConditionsMet d k) s = .next
      (if demandOf (withClock s w) d k then
        updChan (withClock s w) d k fun c => { c with st := .wait, retry := true, stage := 0, demandAt := w.mono }
      else updChan (withClock s w) d k fun c => { c with st := .off }) := by
    refine congrArg Host.Outcome.next ((if_pos ⟨h, hcool, by rw [hlimp]; rfl⟩).trans ?_)
    simp only [hto]
    rfl
  have hsame {g : ChanSt → ChanSt} (hg : ∀ c, rowsBlank (g c) = rowsBlank c) :=
    demandOf_of_rows (updChan_rows (s := (withClock s w)) (d := d) (k := k) hg) k
  by_cases hd : demandOf (withClock s w) d k = true
  · rw [if_pos hd] at hrun
    refine ⟨_, hrun, ?_, hreach, fun j hj => chan_updChan_other _ _ _ hj, fun e he => fld_updField_other _ _ he, rfl⟩
    rw [if_pos ((hsame ?_).trans hd), chan_updChan]
    exact fun _ => rfl
  · rw [if_neg hd] at hrun
    refine ⟨_, hrun, ?_, hreach, fun j hj => chan_updChan_other _ _ _ hj, fun e he => fld_updField_other _ _ he, rfl⟩
    rw [if_neg fun h => hd ((hsame ?_).symm.trans h), chan_updChan]
    exact fun _ => rfl

theorem rleftReload_runs (h : stOn (chan s d k).st = true) (hneed : chField s d k.val 2 24 8 ≠ 0) : ∃ t, exec (.rleftReload d k) s = .next t ∧
    t.field = (chanAt s d k { chan s d k with rleft := chField s d k.val 2 1 4 }).field ∧ ChansOnly s t d ∧
    (chan s d k).condAt + (chField s d k.val 2 24 8 * 100000000 - (chan s d k).condAcc) ≤ t.mono := by
  obtain ⟨w, hto, hreach⟩ :=
    monoTo_clock s ((chan s d k).condAt + (chField s d k.val 2 24 8 * 100000000 - (chan s d k).condAcc))
  refine ⟨updChan (withClock s w) d k fun c => { c with rleft := chField s d k.val 2 1 4 }, ?_, rfl,
    ⟨fun e he => fld_updField_other _ _ he, rfl⟩, hreach⟩
  refine congrArg Host.Outcome.next ((if_pos ⟨h, Nat.mul_ne_zero hneed (by decide)⟩).trans ?_)
  simp only [hto]

end

/-- Settles O47: the rows of Table 8.4 and the windows one by one; a turn-on is a pass of the checks with one request. -/
theorem channelTable : Obligations.ChannelTable := by
  intro s d k i cl
  refine ⟨fun hwait hlimp hunq hstage htoll halone hqueue hbq hcool hfill hbudget hslots => ?_, turnOff_runs i cl, blankingEnd_runs,
    inrushWindowEnd_runs, retryConditionsMet_runs, rleftReload_runs⟩
  exact turnOn_runs ⟨hwait, hunq, halone, hqueue, hslots⟩ ⟨hstage, htoll, hbq, hcool, hfill, hbudget⟩ hlimp

/-! ## Events of a field die (R414, R415)

`sansEvents` blanks out a field die with what its events write; `DieOnly` is read off it. -/

/-- The state without field die `d`, the dies' kept events and the ledger. -/
def sansEvents (d : FDie) (s : State) : State :=
  sansField d { s with die := State.reset.die, led := State.reset.led, irqStat := State.reset.irqStat }

section
variable {s t : State} {d : FDie} {k j : Chan}

theorem sansEvents_of_field (h : sansField d t = sansField d s) : sansEvents d t = sansEvents d s :=
  (congrArg (fun u : State => { u with die := State.reset.die, led := State.reset.led, irqStat := State.reset.irqStat }) h :)

theorem dieLedger_events (s : State) (d : FDie) (x : Die) (code inst arg : Nat) : sansEvents d (dieLedger s x code inst arg) = sansEvents d s := by
  rw [dieLedger_frame]
  rfl

theorem dieLedger_field (s : State) (x : Die) (code inst arg : Nat) : (dieLedger s x code inst arg).field = s.field := by rw [dieLedger_frame]

theorem chan_dieLedger (s : State) (d : FDie) (k : Chan) (x : Die) (code inst arg : Nat) : chan (dieLedger s x code inst arg) d k = chan s d k := by
  rw [chan, dieLedger_field, chan]

theorem dieOnly_of_events (h : sansEvents d t = sansEvents d s) : DieOnly s t d :=
  ⟨fun _ he => sansField_field h he,
    congrArg (fun u : State => { u with
      field := t.field, die := t.die, led := t.led, irqStat := t.irqStat, mono := t.mono, time := t.time, tm := t.tm }) h⟩

theorem sansEvents_mono (h : sansEvents d t = sansEvents d s) : t.mono = s.mono := (congrArg State.mono h :)

theorem uplinksDown_of_die {x : Die} (h : t.die = s.die) : uplinksDown t x = uplinksDown s x := by
  unfold uplinksDown
  rw [h]

/-- An event of a die leaves all that does not read its kept events. -/
theorem dieLedger_keeps {β : Type} {π : DieSt → β} (hπ : ∀ y kept, π { y with kept := kept } = π y) (s : State) (x : Die) (code inst arg : Nat) :
    π (dieLedger s x code inst arg).die[x] = π s.die[x] := by
  obtain ⟨kept, hdie⟩ := dieLedger_die s x code inst arg
  rw [hdie]
  exact (congrArg π (Vector.getElem_set_self _)).trans (hπ ..)

theorem dieLedger_uplinks (s : State) (x : Die) (code inst arg : Nat) : uplinksDown (dieLedger s x code inst arg) x = uplinksDown s x :=
  dieLedger_keeps (π := fun y => y.up.toList.all fun l => !l.up) (fun _ _ => rfl) ..

theorem vset_getElem {α : Type} {n i : Nat} (v : Vector α n) (x : α) (h : i < n) : (vset v i x)[i]'h = x := by
  simp only [vset, dif_pos h, Vector.getElem_set_self]

theorem vset_getElem_ne {α : Type} {n i j : Nat} (v : Vector α n) (x : α) (h : j < n) (hne : i ≠ j) : (vset v i x)[j]'h = v[j]'h := by
  unfold vset
  split
  · exact Vector.getElem_set_ne _ _ hne
  · rfl

/-- Sticky bit `i` of LEDGER_1 (R415). -/
def sticky1 (s : State) (i : Nat) : Bool := s.led.bits[1].getLsbD i

theorem dieLedger_bits {x : Die} (code inst arg : Nat) (hu : uplinksDown s x = false) : (dieLedger s x code inst arg).led.bits =
    vset s.led.bits (code / 32) (vget s.led.bits (code / 32) 0 ||| place (code % 32) 1) := by
  rw [dieLedger, if_neg (by rw [hu]; decide)]
  exact ledgerAt_bit ..

theorem place_one_bit {i : Nat} (h : i < 32) : (place i 1).getLsbD i = true := by
  rw [place_bit, decide_eq_true h, decide_eq_true (Nat.le_refl i), Nat.sub_self]
  rfl

theorem dieLedger_sticky1 {x : Die} {i : Nat} (inst arg : Nat) (hi : i < 32) (hu : uplinksDown s x = false) :
    sticky1 (dieLedger s x (32 + i) inst arg) i = true := by
  have hw : (32 + i) / 32 = 1 := by rw [Nat.add_div_left _ (by decide), Nat.div_eq_of_lt hi]
  have hb : (32 + i) % 32 = i := by rw [Nat.add_mod_left, Nat.mod_eq_of_lt hi]
  rw [sticky1, dieLedger_bits _ _ _ hu, hw, hb, vset_getElem, BitVec.getLsbD_or, place_one_bit hi, Bool.or_true]

/-- A sticky bit stands through a later event. -/
theorem dieLedger_sticky1_stays {x : Die} {i : Nat} (code inst arg : Nat) (hu : uplinksDown s x = false) (hi : sticky1 s i = true) :
    sticky1 (dieLedger s x code inst arg) i = true := by
  rw [sticky1, dieLedger_bits _ _ _ hu]
  by_cases hw : code / 32 = 1
  · have hold : (vget s.led.bits 1 0).getLsbD i = true := hi
    rw [hw, vset_getElem, BitVec.getLsbD_or, hold, Bool.true_or]
  · rw [vset_getElem_ne _ _ _ hw]
    exact hi

/-! ## Trips (R225, R229 to R231, Tables 8.4, 8.6 and 8.7) -/

theorem serveSlots_sans (s : State) (d : FDie) : sansField d (serveSlots s d) = sansField d s := by
  have hqueue (q : List Nat) (s : State) : sansField d (serveQueue d q s) = sansField d s := by
    induction q generalizing s with
    | nil => rfl
    | cons i r ih =>
      unfold serveQueue
      split
      · exact (ih _).trans (turnOnNow_sans ..)
      · rfl
  exact hqueue ..

theorem openSwitch_sans (s : State) (d : FDie) (k : Chan) (i : Nat) (cl : Bool) : sansField d (openSwitch s d k i cl) = sansField d s :=
  (serveSlots_sans ..).trans ((updChan_sans ..).trans (updChan_sans ..))

theorem sansPass_trips {t : State} (h : sansPass d t = sansPass d s) (k : Chan) : (chan t d k).trips = (chan s d k).trips :=
  (congrArg ChanSt.trips (sansPass_chan h k) :)

theorem updChan_trips {g : ChanSt → ChanSt} (h : ∀ c, (g c).trips = c.trips) : (chan (updChan s d k g) d k).trips = (chan s d k).trips := by
  rw [chan_updChan, h]

/-- A switch that opens leaves the count of its channel's trips, whoever takes the slot. -/
theorem openSwitch_trips (s : State) (d : FDie) (k : Chan) (i : Nat) (cl : Bool) :
    (chan (openSwitch s d k i cl) d k).trips = (chan s d k).trips := by
  rw [openSwitch, endConduction, sansPass_trips (serveSlots_pass _ d), updChan_trips, updChan_trips] <;> intro c <;> rfl

/-- The examination of a channel leaves one that is neither off nor waiting in its state. -/
theorem settleChan_st (hoff : (chan s d k).st ≠ .off) (hwait : (chan s d k).st ≠ .wait) (j : Chan) :
    (chan (settleChan d s j) d k).st = (chan s d k).st := by
  by_cases hj : k = j
  · subst hj
    unfold settleChan
    extract_lets dm c s1
    have h1 : (chan s1 d k).st = (chan s d k).st :=
      ite_same (π := fun u => (chan u d k).st) rfl (congrArg ChanSt.st (chan_updChan ..) :)
    clear_value s1 dm
    refine ite_same (π := fun u => (chan u d k).st) rfl ?_
    rw [if_neg fun h => hoff h.1, if_neg fun h => hwait h.1]
    exact h1
  · exact (congrArg ChanSt.st (settleChan_other d s hj) :)

theorem settle_st (hoff : (chan s d k).st ≠ .off) (hwait : (chan s d k).st ≠ .wait) : (chan (settle s d) d k).st = (chan s d k).st := by
  refine List.foldlRecOn chans16 (settleChan d) (motive := fun u => (chan u d k).st = (chan s d k).st) rfl fun u hu j _ => ?_
  exact (settleChan_st (by rw [hu]; exact hoff) (by rw [hu]; exact hwait) j).trans hu

/-- A trip latches: after a sensor fault, with RMODE 0, or with no retry left (Table 8.7). -/
def latches (s : State) (d : FDie) (k : Chan) (cause : Nat) : Bool :=
  decide (cause = 6) || !chBit s d k.val 2 0 || decide ((chan s d k).rleft = 0)

theorem latches_iff (cause : Nat) : latches s d k cause = true ↔ (cause = 6 ∨ chBit s d k.val 2 0 = false ∨ (chan s d k).rleft = 0) := by
  simp only [latches, Bool.or_eq_true, decide_eq_true_eq, Bool.not_eq_true', or_assoc]

/-- A channel that trips at the tick count `now` with `rleft` retries left, latched or not. -/
def tripMark (latch lbc : Bool) (rleft cause now : Nat) (c : ChanSt) : ChanSt :=
  { c with
    st := if latch then .latched else .rwait, lbc := lbc, rleft := if latch then (if lbc then 0 else rleft) else rleft - 1
    cause := cause, tripAt := now, condAcc := 0, condAt := now, trips := satAdd 255 c.trips 1 }

/-- The events of a trip: CH_TRIP, and CH_LATCH with a latch. -/
def tripEvents (latch lbc : Bool) (s : State) (d : FDie) (k : Chan) (cause : Nat) : State :=
  if latch then dieLedger (dieLedger s (toDie d) 39 k.val cause) (toDie d) 40 k.val (if lbc then 1 else 0)
  else dieLedger s (toDie d) 39 k.val cause

theorem tripEvents_run (latch lbc : Bool) (s : State) (d : FDie) (k : Chan) (cause : Nat) : ∃ t, tripEvents latch lbc s d k cause = t ∧
    sansEvents d t = sansEvents d s ∧ chan t d k = chan s d k ∧ (uplinksDown s (toDie d) = false → sticky1 t 7 = true) := by
  have hev := dieLedger_events s d (toDie d) 39 k.val cause
  have hsame := chan_dieLedger s d k (toDie d) 39 k.val cause
  have hup := dieLedger_uplinks s (toDie d) 39 k.val cause
  have hbit : uplinksDown s (toDie d) = false → _ := dieLedger_sticky1 (i := 7) k.val cause (by decide)
  unfold tripEvents
  generalize dieLedger s (toDie d) 39 k.val cause = u at hev hsame hup hbit
  cases latch with
  | true =>
    exact ⟨_, rfl, (dieLedger_events ..).trans hev, (chan_dieLedger ..).trans hsame,
      fun hu => dieLedger_sticky1_stays _ _ _ (hup.trans hu) (hbit hu)⟩
  | false => exact ⟨u, rfl, hev, hsame, hbit⟩

theorem trip_eq (s : State) (d : FDie) (k : Chan) (cause i : Nat) (cl : Bool) : ∃ lbc, trip s d k cause i cl =
    settle (tripEvents (latches s d k cause) lbc (updChan (openSwitch s d k i cl) d k
      (tripMark (latches s d k cause) lbc (chan s d k).rleft cause s.mono)) d k cause) d := ⟨_, rfl⟩

/-- The examination leaves a channel that is tripped as it is. -/
theorem settle_tripped {latch lbc : Bool} {rleft cause now : Nat} {c : ChanSt} (h : chan s d k = tripMark latch lbc rleft cause now c) :
    (chan (settle s d) d k).st = (if latch then .latched else .rwait) ∧
      rowsBlank (chan (settle s d) d k) = rowsBlank (tripMark latch lbc rleft cause now c) := by
  have hst : (chan s d k).st = if latch then .latched else .rwait := by rw [h]; rfl
  have hne (o : OutSt) (hl : o ≠ .latched) (hr : o ≠ .rwait) : (chan s d k).st ≠ o := by
    rw [hst]
    cases latch
    · exact hr.symm
    · exact hl.symm
  refine ⟨(settle_st (hne .off (by decide) (by decide)) (hne .wait (by decide) (by decide))).trans hst, ?_⟩
  rw [← h]
  exact sansRows_chan (settle_rows s d) k

/-- A trip follows Tables 8.6 and 8.7, whatever the channel stood at (row 6). -/
theorem trip_tripped (s : State) (d : FDie) (k : Chan) (cause i : Nat) (cl : Bool) : ∃ t, trip s d k cause i cl = t ∧
    Tripped s t d k cause s.mono ∧ t.mono = s.mono := by
  obtain ⟨lbc, htrip⟩ := trip_eq s d k cause i cl
  have hlatch := latches_iff (s := s) (d := d) (k := k) cause
  generalize latches s d k cause = latch at htrip hlatch
  have htrips := openSwitch_trips s d k i cl
  have hsans := openSwitch_sans s d k i cl
  generalize openSwitch s d k i cl = s1 at htrip htrips hsans
  have hch := chan_updChan s1 d k (tripMark latch lbc (chan s d k).rleft cause s.mono)
  have hsans2 := (updChan_sans s1 d k (tripMark latch lbc (chan s d k).rleft cause s.mono)).trans hsans
  generalize updChan s1 d k (tripMark latch lbc (chan s d k).rleft cause s.mono) = s2 at htrip hch hsans2
  obtain ⟨u, hu, hev, hsame, hbit⟩ := tripEvents_run latch lbc s2 d k cause
  rw [hu] at htrip
  obtain ⟨hst, hrow⟩ := settle_tripped (hsame.trans hch)
  have hev' := (sansEvents_of_field (settle_sans u d)).trans (hev.trans (sansEvents_of_field hsans2))
  have hled : (settle u d).led = u.led := by rw [settle_frame]
  generalize settle u d = t at htrip hst hrow hev' hled
  have hcount : (chan t d k).trips = satAdd 255 (chan s d k).trips 1 := by rw [← htrips]; exact (congrArg ChanSt.trips hrow :)
  obtain ⟨hother, hframe⟩ := dieOnly_of_events hev'
  have hup : uplinksDown s2 (toDie d) = uplinksDown s (toDie d) := uplinksDown_of_die (congrArg State.die hsans2 :)
  refine ⟨t, htrip, ⟨(congrArg ChanSt.cause hrow :), (congrArg ChanSt.tripAt hrow :), hcount, fun h => ?_, fun hc hr hl => ?_, fun hu => ?_,
    hother, hframe⟩, sansEvents_mono hev'⟩
  · rw [hlatch.mpr h] at hst
    exact hst
  · have hno : latch = false := Bool.eq_false_iff.mpr fun h => by
      obtain h | h | h := hlatch.mp h
      · exact hc h
      · rw [hr] at h; exact absurd h (by decide)
      · exact hl h
    rw [hno] at hst hrow
    exact ⟨hst, (congrArg ChanSt.rleft hrow :)⟩
  · have hled7 : sticky1 t 7 = sticky1 u 7 := by rw [sticky1, hled, sticky1]
    exact hled7.trans (hbit (hup.trans hu))

/-! ### The trip commands -/

theorem govOf_self (h : isUpper s d k.val = false) : govOf s d k = k := if_neg (by rw [h]; decide)

/-- A trip condition that holds trips a conducting channel at once. -/
theorem tripCmd_trips (hg : Governed s d k) (hon : stOn (chan s d k).st = true) (cause i : Nat) (cl : Bool) :
    ∃ t, tripCmd s d k cause i cl true = t ∧ Tripped s t d k cause s.mono ∧ t.mono = s.mono := by
  obtain ⟨-, hup, hlimp⟩ := hg
  have hrun : tripCmd s d k cause i cl true = trip s d k cause (i % 2 ^ 32) cl := by
    have hst : stOn (chan s d k).st = true := hon
    simp only [tripCmd, govOf_self hup, hst, hlimp, Bool.not_false, Bool.and_self, if_true]
  rw [hrun]
  exact trip_tripped ..

/-- A trip condition that does not hold changes nothing. -/
theorem tripCmd_fails (s : State) (d : FDie) (k : Chan) (cause i : Nat) (cl : Bool) : tripCmd s d k cause i cl false = s := by
  simp only [tripCmd, Bool.and_false, Bool.false_eq_true, if_false]

/-- A trip condition that has held from some tick count on trips at `m`. -/
theorem tripCmd_after (hg : Governed s d k) (hon : stOn (chan s d k).st = true) (m cause i : Nat) (cl : Bool) :
    ∃ t, tripCmd (monoTo s m) d k cause i cl true = t ∧ Tripped s t d k cause t.mono ∧ m ≤ t.mono := by
  obtain ⟨w, hto, hreach⟩ := monoTo_clock s m
  obtain ⟨t, hrun, htrip, hmono⟩ := tripCmd_trips (s := (withClock s w)) hg hon cause i cl
  rw [← hmono] at htrip
  rw [hto]
  exact ⟨t, hrun, htrip, hmono ▸ hreach⟩

/-- A trip condition judged at one instant trips, or changes nothing. -/
theorem tripCmd_decide (hg : Governed s d k) (hon : stOn (chan s d k).st = true) (cause i : Nat) (cl : Bool) (p : Prop) [Decidable p] :
    (p → ∃ t, tripCmd s d k cause i cl (decide p) = t ∧ Tripped s t d k cause s.mono) ∧ (¬p → tripCmd s d k cause i cl (decide p) = s) := by
  refine ⟨fun h => ?_, fun h => ?_⟩
  · obtain ⟨t, hrun, htrip, -⟩ := tripCmd_trips hg hon cause i cl
    exact ⟨t, by rw [decide_eq_true h, hrun], htrip⟩
  · rw [decide_eq_false h, tripCmd_fails]

theorem otTrip_judged (hg : Governed s d k) (hon : stOn (chan s d k).st = true) (i : Nat) (cl : Bool) :
    (175000000 ≤ hotOf s d k → ∃ t, exec (.otTrip d k i cl) s = .next t ∧ Tripped s t d k 1 s.mono) ∧
    (hotOf s d k < 175000000 → exec (.otTrip d k i cl) s = .next s) := by
  have hrun : exec (.otTrip d k i cl) s = .next (tripCmd s d k 1 i cl (decide (175000000 ≤ hotOf s d k))) := by
    show execOtTrip d k i cl s = _
    rw [execOtTrip, govOf_self hg.2.1]
  obtain ⟨hyes, hno⟩ := tripCmd_decide hg hon 1 i cl (175000000 ≤ hotOf s d k)
  refine ⟨fun h => ?_, fun h => by rw [hrun, hno (Int.not_le.mpr h)]⟩
  obtain ⟨t, ht, htrip⟩ := hyes h
  exact ⟨t, by rw [hrun, ht], htrip⟩

theorem dtTrip_judged (hg : Governed s d k) (hon : stOn (chan s d k).st = true) (i : Nat) (cl : Bool) :
    (90 * 16 ≤ (pairMax s d k fun c => c.tj) - (fld s d).tsub → ∃ t, exec (.dtTrip d k i cl) s = .next t ∧ Tripped s t d k 2 s.mono) ∧
    ((pairMax s d k fun c => c.tj) - (fld s d).tsub < 90 * 16 → exec (.dtTrip d k i cl) s = .next s) := by
  have hrun : exec (.dtTrip d k i cl) s =
      .next (tripCmd s d k 2 i cl (decide (90 * 16 ≤ (pairMax s d k fun c => c.tj) - (fld s d).tsub))) := by
    show execDtTrip d k i cl s = _
    rw [execDtTrip, govOf_self hg.2.1]
  obtain ⟨hyes, hno⟩ := tripCmd_decide hg hon 2 i cl (90 * 16 ≤ (pairMax s d k fun c => c.tj) - (fld s d).tsub)
  refine ⟨fun h => ?_, fun h => by rw [hrun, hno (Int.not_le.mpr h)]⟩
  obtain ⟨t, ht, htrip⟩ := hyes h
  exact ⟨t, by rw [hrun, ht], htrip⟩

theorem scFastTrip_judged (hg : Governed s d k) (hon : stOn (chan s d k).st = true) (ua i : Nat) (cl : Bool) :
    (12000000 ≤ ua → Config.part 4 (16 * d.val + k.val) ≤ ua → ∃ t, exec (.scFastTrip d k ua i cl) s = .next t ∧ Tripped s t d k 4 s.mono) ∧
    (ua < 12000000 → exec (.scFastTrip d k ua i cl) s = .next s) := by
  have hrun : exec (.scFastTrip d k ua i cl) s =
      .next (tripCmd s d k 4 i cl (decide (12000000 ≤ ua ∧ max 12000000 (Config.part 4 (16 * d.val + k.val)) ≤ ua))) := by
    rw [Bool.decide_and]
    rfl
  obtain ⟨hyes, hno⟩ := tripCmd_decide hg hon 4 i cl (12000000 ≤ ua ∧ max 12000000 (Config.part 4 (16 * d.val + k.val)) ≤ ua)
  refine ⟨fun h hp => ?_, fun h => by rw [hrun, hno fun q => Nat.not_le.mpr h q.1]⟩
  obtain ⟨t, ht, htrip⟩ := hyes ⟨h, Nat.max_le.mpr ⟨h, hp⟩⟩
  exact ⟨t, by rw [hrun, ht], htrip⟩

theorem sensorTrip_judged {t0 : Nat} (hg : Governed s d k) (hon : stOn (chan s d k).st = true) (i : Nat) (cl : Bool) :
    ((chan s d k).diffAt = some t0 → ∃ t, exec (.sensorTrip d k i cl) s = .next t ∧ Tripped s t d k 6 t.mono ∧ t0 + 1000000 ≤ t.mono) ∧
    ((chan s d k).diffAt = none → exec (.sensorTrip d k i cl) s = .next s) := by
  refine ⟨fun h => ?_, fun h => ?_⟩
  · obtain ⟨t, ht, htrip⟩ := tripCmd_after hg hon (t0 + 1000000) 6 i cl
    refine ⟨t, ?_, htrip⟩
    show execSensorTrip d k i cl s = _
    simp only [execSensorTrip, h, ht]
  · show execSensorTrip d k i cl s = _
    simp only [execSensorTrip, h]

theorem conducts_limitPastB {t0 : Nat} (hg : Governed s d k) (h : limitPastB s d k = some t0) : stOn (chan s d k).st = true := by
  simp only [limitPastB, govOf_self hg.2.1] at h
  split at h
  · next hc => exact congrArg stOn hc.1
  · exact absurd h (by simp)

theorem scTrip_judged {t0 : Nat} (hg : Governed s d k) (h : limitPastB s d k = some t0) (mv : Int) (i : Nat) (cl : Bool) :
    (4 * mv < (fld s d).vbb → ∃ t, exec (.scTrip d k mv i cl) s = .next t ∧ Tripped s t d k 3 t.mono ∧ t0 + 200000 ≤ t.mono) ∧
    ((fld s d).vbb ≤ 4 * mv → exec (.scTrip d k mv i cl) s = .next s) := by
  have hrun : exec (.scTrip d k mv i cl) s =
      .next (if 4 * mv < (fld s d).vbb then tripCmd (monoTo s (t0 + 200000)) d k 3 i cl true else s) := by
    show execScTrip d k mv i s cl = _
    rw [execScTrip, h]
  refine ⟨fun hlow => ?_, fun hhigh => by rw [hrun, if_neg (Int.not_lt.mpr hhigh)]⟩
  obtain ⟨t, ht, htrip⟩ := tripCmd_after hg (conducts_limitPastB hg h) (t0 + 200000) 3 i cl
  exact ⟨t, by rw [hrun, if_pos hlow, ht], htrip⟩

theorem limtimeTrip_runs {t0 : Nat} (hg : Governed s d k) (h : limitPastB s d k = some t0) (i : Nat) (cl : Bool) (hlt : chField s d k.val 1 8 8 ≠ 0) :
    ∃ t, exec (.limtimeTrip d k i cl) s = .next t ∧ Tripped s t d k 5 t.mono ∧ t0 + chField s d k.val 1 8 8 * 1000000 ≤ t.mono := by
  obtain ⟨t, ht, htrip⟩ := tripCmd_after hg (conducts_limitPastB hg h) (t0 + chField s d k.val 1 8 8 * 1000000) 5 i cl
  refine ⟨t, ?_, htrip⟩
  show execLimtimeTrip d k i cl s = _
  rw [execLimtimeTrip, govOf_self hg.2.1, h, ← ht]
  exact congrArg Host.Outcome.next (if_neg hlt)

/-! ### CURRENT_LIMIT and LH_TRIP -/

theorem currentLimit_regulates {ua : Nat} (hg : Governed s d k) (hc : conducts s d k = true)
    (hne : (chan s d k).limit ≠ decide (stageLimit s d k * 62500 < ua)) : exec (.currentLimit d k ua) s =
      .next (chanAt s d k { chan s d k with
        limit := decide (stageLimit s d k * 62500 < ua)
        limitAt := if stageLimit s d k * 62500 < ua then s.mono else (chan s d k).limitAt }) := by
  show execCurrentLimit d k ua s = _
  unfold execCurrentLimit
  rw [govOf_self hg.2.1]
  simp only [hc, Bool.true_and, if_pos hne, decide_eq_true_eq]
  rfl

theorem currentLimit_ends (ua : Nat) (hg : Governed s d k) (hc : conducts s d k = false) (hl : (chan s d k).limit = true) :
    exec (.currentLimit d k ua) s = .next (chanAt s d k { chan s d k with limit := false }) := by
  show execCurrentLimit d k ua s = _
  unfold execCurrentLimit
  rw [govOf_self hg.2.1]
  simp only [hc, Bool.false_and, hl]
  rfl

theorem lhTrip_runs {cause : BitVec 4} (hlimp : inLimp s d k = true) (hon : (chan s d k).lhOn = true)
    (hc : (cause = 1 ∧ 175 * 16 ≤ pairMax s d k fun c => c.tj) ∨ cause = 4) : ∃ t, exec (.lhTrip d k cause) s = .next t ∧
      t.field = (chanAt s d k { chan s d k with
        lhOn := false, lhShut := true, limit := false, ilast := freeCurrent s, clamp := freeClamp s }).field ∧
      DieOnly { s with freeCtr := t.freeCtr } t d := by
  let opened : State := updChan (lhOpens d s k) d k fun c => { c with lhShut := true }
  have hrun : exec (.lhTrip d k cause) s = .next (if powered s (toDie d) then dieLedger opened (toDie d) 51 k.val cause.toNat else opened) :=
    congrArg Host.Outcome.next (if_pos ⟨hlimp, hon, hc⟩)
  have hopened : opened = chanAt (useFree s) d k { chan s d k with
      lhOn := false, lhShut := true, limit := false, ilast := freeCurrent s, clamp := freeClamp s } := by
    show updChan (updChan (useFree s) d k _) d k _ = _
    rw [updChan_updChan, updChan_chanAt]
    rfl
  have hfield : opened.field = (chanAt s d k { chan s d k with
      lhOn := false, lhShut := true, limit := false, ilast := freeCurrent s, clamp := freeClamp s }).field := by rw [hopened]; rfl
  have hev : sansEvents d opened = sansEvents d { s with freeCtr := opened.freeCtr } := by
    rw [hopened, ← updChan_chanAt (useFree s) d k fun _ => _]
    exact sansEvents_of_field (updChan_sans ..)
  clear_value opened
  by_cases hp : powered s (toDie d) = true
  · rw [if_pos hp] at hrun
    have hev' := (dieLedger_events opened d (toDie d) 51 k.val cause.toNat).trans hev
    refine ⟨_, hrun, (dieLedger_field ..).trans hfield, dieOnly_of_events ?_⟩
    rw [hev', dieLedger_frame]
  · rw [if_neg hp] at hrun
    exact ⟨_, hrun, hfield, dieOnly_of_events hev⟩

end

/-- Settles O48: each command by the lemma on its condition; the condition's trip is `trip_tripped`. -/
theorem trips : Obligations.Trips := by
  intro s d k i t0 ua mv cl cause hg
  refine ⟨fun hon => ?_, fun hpast => ?_, currentLimit_regulates hg, currentLimit_ends ua hg, fun l m hlimp hon hc => lhTrip_runs hlimp hon hc⟩
  · obtain ⟨hot, hcool⟩ := otTrip_judged hg hon i cl
    obtain ⟨hsteep, hflat⟩ := dtTrip_judged hg hon i cl
    obtain ⟨hfast, hslow⟩ := scFastTrip_judged hg hon ua i cl
    obtain ⟨hapart, hclose⟩ := sensorTrip_judged hg hon i cl
    exact ⟨hot, hcool, hsteep, hflat, hfast, hslow, hapart, hclose⟩
  · obtain ⟨hlow, hhigh⟩ := scTrip_judged hg hpast mv i cl
    exact ⟨hlow, hhigh, limtimeTrip_runs hg hpast i cl⟩

/-! ## Thermal samples, clamp events and the toll (R226 to R228, R234 to R236) -/

section
variable {s t : State} {d e : FDie} {k j : Chan}

theorem lhCool_other (tj : List Int) (s : State) (h : j ≠ k) : chan (lhCool tj d s k) d j = chan s d j :=
  ite_same (π := fun u => (chan u d j)) (chan_updChan_other _ _ _ h) rfl

theorem thermalChan_other (tsub : Int) (tj : List Int) (p uA : List Nat) (s : State) (h : j ≠ k) :
    chan (thermalChan tsub tj p uA d s k) d j = chan s d j :=
  (lhCool_other _ _ h).trans (chan_updChan_other _ _ _ h)

/-- Sensor and model of a channel. -/
def readings (d : FDie) (k : Chan) (s : State) : Int × Int := ((chan s d k).tj, (chan s d k).tm)

theorem readings_updField {g : FieldSt → FieldSt} (h : ∀ f, (g f).ch = f.ch) : readings d k (updField s d g) = readings d k s := by
  rw [readings, chan_updField h, readings]

/-- The readings that a thermal sample makes of `x`. -/
def sampled (tsub : Int) (j : Int → Int) (p : Nat) (x : Int × Int) : Int × Int := (satInt 16 (j x.1), modelStep x.2 (tsub * 62500) p)

theorem lhCool_readings (tj : List Int) (s : State) (d : FDie) (k : Chan) : readings d k (lhCool tj d s k) = readings d k s := by
  refine ite_same (π := readings d k) ?_ rfl
  rw [readings, chan_updChan]
  rfl

theorem thermalChan_at (tsub : Int) (tj : List Int) (p uA : List Nat) (s : State) (d : FDie) (k : Chan) :
    readings d k (thermalChan tsub tj p uA d s k) = sampled tsub (tj.getD k.val) (p.getD k.val 0) (readings d k s) := by
  refine (lhCool_readings ..).trans ?_
  rw [readings, chan_updChan]
  rfl

theorem updChan_tsub (s : State) (d : FDie) (k : Chan) (g : ChanSt → ChanSt) : (fld (updChan s d k g) d).tsub = (fld s d).tsub :=
  (congrArg FieldSt.tsub (fld_updField ..) :)

theorem thermalChan_tsub (tsub : Int) (tj : List Int) (p uA : List Nat) (d : FDie) (s : State) (k : Chan) :
    (fld (thermalChan tsub tj p uA d s k) d).tsub = (fld s d).tsub :=
  (ite_same (π := fun u => (fld u d).tsub) (updChan_tsub ..) rfl).trans (updChan_tsub ..)

theorem thermalChan_sans (tsub : Int) (tj : List Int) (p uA : List Nat) (d : FDie) (s : State) (k : Chan) :
    sansField d (thermalChan tsub tj p uA d s k) = sansField d s :=
  (ite_same (updChan_sans ..) rfl).trans (updChan_sans ..)

/-- What a pass of the checks leaves of its die, -/
theorem sansPass_monitors (h : sansPass d t = sansPass d s) :
    (fld t d).tsub = (fld s d).tsub ∧ (fld t d).tollAt = (fld s d).tollAt ∧ (fld t d).allow = (fld s d).allow := by
  have hf := sansPass_field h
  exact ⟨(congrArg FieldSt.tsub hf :), (congrArg FieldSt.tollAt hf :), (congrArg FieldSt.allow hf :)⟩

/-- of a channel, -/
theorem sansPass_readings (h : sansPass d t = sansPass d s) (k : Chan) :
    readings d k t = readings d k s ∧ (chan t d k).level = (chan s d k).level := by
  have hc := sansPass_chan h k
  exact ⟨Prod.ext (congrArg ChanSt.tj hc :) (congrArg ChanSt.tm hc :), (congrArg ChanSt.level hc :)⟩

/-- and of the clocks, the power and the governor. -/
theorem sansPass_clocks (h : sansPass d t = sansPass d s) : t.mono = s.mono ∧ t.time = s.time ∧ t.pwr = s.pwr ∧ t.gov.est = s.gov.est :=
  ⟨(congrArg State.mono h :), (congrArg State.time h :), (congrArg State.pwr h :), (congrArg (fun u : State => u.gov.est) h :)⟩

theorem thermalSample_eq (hon : dieOn s d = true) (ts : Int) (tj : List Int) (pw uas : List Nat) {u : State}
    (hto : monoTo s ((fld s d).thermAt + 10000) = u) : exec (.thermalSample d ts tj pw uas) s =
      .next (waitPass false (chans16.foldl (thermalChan (satInt 16 ts) tj pw uas d)
        (updField u d fun f => { f with tsub := satInt 16 ts, thermAt := u.mono })) d) := by
  show execThermalSample d ts tj pw s uas = _
  simp only [execThermalSample, hon, Bool.not_true, Bool.false_eq_true, if_false, hto]

/-- The channels take their readings: the clocks and the substrate stand, and each channel is sampled once. -/
theorem thermalChans_run (tsub : Int) (tj : List Int) (p uA : List Nat) (s : State) (d : FDie) (k : Chan) :
    ∃ t, chans16.foldl (thermalChan tsub tj p uA d) s = t ∧ t.mono = s.mono ∧ (fld t d).tsub = (fld s d).tsub ∧
      readings d k t = sampled tsub (tj.getD k.val) (p.getD k.val 0) (readings d k s) := by
  have hsans := foldl_same (thermalChan_sans tsub tj p uA d) chans16 s
  have htsub := foldl_same (π := fun u : State => (fld u d).tsub) (thermalChan_tsub tsub tj p uA d) chans16 s
  have hread := foldl_count (π := readings d k) (fun u => thermalChan_at tsub tj p uA u d k)
    (fun u b hb => congrArg (fun c : ChanSt => (c.tj, c.tm)) (thermalChan_other tsub tj p uA u (Ne.symm hb))) chans16 s
  rw [count_chans16, Function.iterate_one] at hread
  generalize chans16.foldl (thermalChan tsub tj p uA d) s = t at hsans htsub hread
  exact ⟨t, rfl, (congrArg State.mono hsans :), htsub, hread⟩

theorem thermalSample_runs (hon : dieOn s d = true) (ts : Int) (tj : List Int) (pw uas : List Nat) (k : Chan) :
    ∃ t, exec (.thermalSample d ts tj pw uas) s = .next t ∧ (fld s d).thermAt + 10000 ≤ t.mono ∧
      (fld t d).tsub = satInt 16 ts ∧ (chan t d k).tj = satInt 16 (tj.getD k.val (chan s d k).tj) ∧
      (chan t d k).tm = modelStep (chan s d k).tm (satInt 16 ts * 62500) (pw.getD k.val 0) := by
  obtain ⟨w, hto, hreach⟩ := monoTo_clock s ((fld s d).thermAt + 10000)
  have hrun := thermalSample_eq hon ts tj pw uas hto
  obtain ⟨u, hu, hmono, htsub, hread⟩ := thermalChans_run (satInt 16 ts) tj pw uas
    (updField (withClock s w) d fun f => { f with tsub := satInt 16 ts, thermAt := (withClock s w).mono }) d k
  rw [hu] at hrun
  have hpass := waitPass_pass false u d
  generalize waitPass false u d = t at hrun hpass
  rw [fld_updField] at htsub
  rw [readings_updField (by exact fun _ => rfl)] at hread
  have hend := (sansPass_readings hpass k).1.trans hread
  refine ⟨t, hrun, ?_, (sansPass_monitors hpass).1.trans htsub, congrArg Prod.fst hend, congrArg Prod.snd hend⟩
  rw [(sansPass_clocks hpass).1, hmono]
  exact hreach

theorem clampEventEnd_runs (e : Nat) (h : (chan s d k).clamp = true) : exec (.clampEventEnd d k e) s =
    .next (chanAt s d k { chan s d k with
      clamp := false, clampEnd := s.mono, elast := e % 2 ^ 32,
      level := if chField s d k.val 3 0 10 = 0 then (chan s d k).level else satInt 32 ((chan s d k).level - (e : Int)) }) :=
  congrArg Host.Outcome.next (if_pos h)

/-- The next instant of a refill is a whole multiple of 1 ms, and another than the last. -/
theorem nextMs_mod (now last : Nat) : nextMs now last % 1000000 = 0 ∧ nextMs now last ≠ last := by
  unfold nextMs
  dsimp only
  split <;> omega

theorem dieTime_of_clocks {x : Die} (hmono : t.mono = s.mono) (htime : t.time = s.time) (hoff : t.die[x].offset = s.die[x].offset)
    (hcorr : t.die[x].corrFrom = s.die[x].corrFrom) : dieTime t x = dieTime s x := by
  simp only [dieTime, curOffset, hmono, htime, hoff, hcorr]

theorem sansPass_dieTime (h : sansPass d t = sansPass d s) (x : Die) : dieTime t x = dieTime s x := by
  obtain ⟨hmono, htime, -, -⟩ := sansPass_clocks h
  have hdie := sansPass_die h x
  exact dieTime_of_clocks hmono htime (congrArg DieSt.offset hdie :) (congrArg DieSt.corrFrom hdie :)

theorem sansField_dieTime (h : sansField d t = sansField d s) (x : Die) : dieTime t x = dieTime s x :=
  dieTime_of_clocks (congrArg State.mono h :) (congrArg State.time h :) (congrArg (fun u : State => u.die[x].offset) h :)
    (congrArg (fun u : State => u.die[x].corrFrom) h :)

/-- A fold over channels, each changed by what the dies' settings say. -/
theorem foldl_chan_updChan {f : State → Chan → ChanSt → ChanSt} (hf : ∀ u v j, u.die = v.die → f u j = f v j) (d : FDie) (k : Chan) (l : List Chan)
    (s : State) : (chan (l.foldl (fun s j => updChan s d j (f s j)) s) d k) = (f s k)^[l.count k] (chan s d k) := by
  induction l generalizing s with
  | nil => rfl
  | cons j l ih =>
    rw [List.foldl_cons, ih, hf (updChan s d j (f s j)) s k rfl]
    by_cases hj : j = k
    · subst hj
      rw [chan_updChan, List.count_cons_self, Function.iterate_succ_apply]
    · rw [chan_updChan_other _ _ _ (Ne.symm hj), List.count_cons_of_ne hj]

/-- The refill of a channel's bucket (R235). -/
def refilled (d : FDie) (s : State) (k : Chan) (c : ChanSt) : ChanSt :=
  { c with level := satInt 32 (min ((chField s d k.val 3 0 10 * 1000 : Nat) : Int) (c.level + (chField s d k.val 3 16 9 : Nat))) }

/-- Every bucket of the die refills once; what else is read later stands. -/
theorem refills_run (s : State) (d : FDie) (k : Chan) : ∃ t, chans16.foldl (fun s j => updChan s d j (refilled d s j)) s = t ∧
    sansField d t = sansField d s ∧ (fld t d).tollAt = (fld s d).tollAt ∧ chan t d k = refilled d s k (chan s d k) := by
  have hsans := foldl_same (fun u j => updChan_sans u d j (refilled d u j)) chans16 s
  have htoll := foldl_same (π := fun u : State => (fld u d).tollAt) (f := fun s j => updChan s d j (refilled d s j))
    (fun u j => (congrArg FieldSt.tollAt (fld_updField ..) :)) chans16 s
  have hchan := foldl_chan_updChan (f := refilled d) (fun u v j h => funext fun c => by simp only [refilled, chField_of_die h]) d k chans16 s
  rw [count_chans16, Function.iterate_one] at hchan
  generalize chans16.foldl (fun s j => updChan s d j (refilled d s j)) s = t at hsans htoll hchan
  exact ⟨t, rfl, hsans, htoll, hchan⟩

theorem tollRefill_eq (hon : dieOn s d = true) {at_ : Nat} (hat : nextMs (dieTime s (toDie d)) (fld s d).tollAt = at_) :
    exec (.tollRefill d) s = .next (waitPass true (chans16.foldl (fun s j => updChan s d j (refilled d s j))
      (updField (dieTimeTo s (toDie d) at_) d fun f => { f with tollAt := at_ })) d) := by
  show execTollRefill d s = _
  simp only [execTollRefill, hon, Bool.not_true, Bool.false_eq_true, if_false, hat]
  rfl

theorem tollRefill_runs (hon : dieOn s d = true) (k : Chan) : ∃ t, exec (.tollRefill d) s = .next t ∧ (fld t d).tollAt % 1000000 = 0 ∧
    (fld t d).tollAt ≠ (fld s d).tollAt ∧
    (curOffset s (toDie d) = 0 → (fld t d).tollAt ≤ 2 ^ 64 - 8 → (fld t d).tollAt ≤ dieTime t (toDie d)) ∧
    (chan t d k).level = satInt 32 (min ((chField s d k.val 3 0 10 * 1000 : Nat) : Int)
      ((chan s d k).level + (chField s d k.val 3 16 9 : Nat))) := by
  obtain ⟨hmod, hne⟩ := nextMs_mod (dieTime s (toDie d)) (fld s d).tollAt
  obtain ⟨at_, hat⟩ : ∃ at_, nextMs (dieTime s (toDie d)) (fld s d).tollAt = at_ := ⟨_, rfl⟩
  obtain ⟨time, mono, tm, hto⟩ := dieTimeTo_frame s (toDie d) at_
  have hrun := tollRefill_eq hon hat
  obtain ⟨u, hu, hsans, htoll, hchan⟩ := refills_run (updField (dieTimeTo s (toDie d) at_) d fun f => { f with tollAt := at_ }) d k
  rw [hu] at hrun
  have hpass := waitPass_pass true u d
  generalize waitPass true u d = t at hrun hpass
  rw [fld_updField] at htoll
  have htollAt : (fld t d).tollAt = at_ := (sansPass_monitors hpass).2.1.trans htoll
  rw [hat] at hmod hne
  refine ⟨t, hrun, ?_, ?_, fun ho hlast => ?_, ?_⟩
  · rw [htollAt]; exact hmod
  · rw [htollAt]; exact hne
  · rw [htollAt] at hlast ⊢
    rw [sansPass_dieTime hpass, sansField_dieTime hsans, sansField_dieTime (updField_sans ..)]
    exact dieTimeTo_reaches ho hlast
  · rw [(sansPass_readings hpass k).2, hchan, hto, chan_updField (by exact fun _ => rfl)]
    rfl

end

/-! ## Open load and short to battery (R237, R238, Table 8.8) -/

section
variable {s t : State} {d e : FDie} {k : Chan}

theorem chanAt_other (s : State) (x : ChanSt) (he : e ≠ d) : fld (chanAt s d k x) e = fld s e :=
  Vector.getElem_set_ne d.isLt e.isLt fun hv => he (Fin.ext hv.symm)

/-- A flag of a channel set with its event. -/
theorem flagged_dieOnly (s : State) (d : FDie) (k : Chan) (g : ChanSt → ChanSt) (code inst arg : Nat) :
    (dieLedger (updChan s d k g) (toDie d) code inst arg).field = (chanAt s d k (g (chan s d k))).field ∧
      DieOnly s (dieLedger (updChan s d k g) (toDie d) code inst arg) d :=
  ⟨dieLedger_field .., dieOnly_of_events ((dieLedger_events ..).trans (sansEvents_of_field (updChan_sans ..)))⟩

theorem atOrAbove_above {v lo hi : Nat} (kind idx : Nat) (h : hi ≤ v) : atOrAbove v lo hi kind idx = true := if_pos h

theorem atOrAbove_below {v lo hi : Nat} (kind idx : Nat) (h : v < lo) (hle : lo ≤ hi) : atOrAbove v lo hi kind idx = false := by
  rw [atOrAbove, if_neg (Nat.not_le.mpr (h.trans_le hle)), if_pos h]

theorem olAtOrAbove_above {ua : Nat} (pct : Nat) (h : (olThreshold s d k.val + olTolerance s d k.val) * pct / 100 ≤ ua) :
    olAtOrAbove s d k.val ua pct = true := atOrAbove_above _ _ h

theorem olAtOrAbove_below {ua : Nat} (pct : Nat) (h : ua < (olThreshold s d k.val - olTolerance s d k.val) * pct / 100) :
    olAtOrAbove s d k.val ua pct = false :=
  atOrAbove_below _ _ h (Nat.div_le_div_right (Nat.mul_le_mul_right _ ((Nat.sub_le ..).trans (Nat.le_add_right ..))))

theorem olOnDetect_sets {ua : Nat} (hact : olOnActive s d k = true) (hlow : ua < olThreshold s d k.val - olTolerance s d k.val)
    (hol : (chan s d k).ol = false) (hu : uplinksDown s (toDie d) = false) : ∃ t, exec (.olOnDetect d k ua) s = .next t ∧
      t.field = (chanAt s d k { chan s d k with ol := true }).field ∧
      (chan s d k).olFrom + (chField s d k.val 4 8 8 * 1000000 - (chan s d k).olAcc) ≤ t.mono ∧
      sticky1 t 10 = true ∧ DieOnly s t d := by
  have hbelow : olAtOrAbove s d k.val ua 100 = false := olAtOrAbove_below 100 (by rwa [Nat.mul_div_cancel _ (by decide)])
  obtain ⟨w, hto, hreach⟩ :=
    monoTo_clock s ((chan s d k).olFrom + (chField s d k.val 4 8 8 * 1000000 - (chan s d k).olAcc))
  have hrun : exec (.olOnDetect d k ua) s = .next (dieLedger
      (updChan (withClock s w) d k fun c => { c with ol := true }) (toDie d) 42 k.val 0) := by
    show execOlOnDetect d k s ua = _
    simp only [execOlOnDetect, hact, hbelow, hol, hto, Bool.not_true, Bool.false_eq_true, if_false]
  obtain ⟨hfield, hother, hframe⟩ := flagged_dieOnly (withClock s w) d k (fun c => { c with ol := true }) 42 k.val 0
  refine ⟨_, hrun, hfield, ?_, dieLedger_sticky1 (i := 10) _ _ (by decide) hu, hother, hframe⟩
  rw [dieLedger_frame]
  exact hreach

theorem olOnDetect_restarts {ua : Nat} (hact : olOnActive s d k = true) (h : olThreshold s d k.val + olTolerance s d k.val ≤ ua) :
    exec (.olOnDetect d k ua) s = .next (chanAt s d k { chan s d k with olAcc := 0, olFrom := s.mono }) := by
  have habove : olAtOrAbove s d k.val ua 100 = true := olAtOrAbove_above 100 (by rwa [Nat.mul_div_cancel _ (by decide)])
  show execOlOnDetect d k s ua = _
  simp only [execOlOnDetect, hact, habove, Bool.not_true, Bool.false_eq_true, if_false, if_true]
  rfl

theorem olOnClear_clears {ua : Nat} (hact : olOnActive s d k = true) (h : (olThreshold s d k.val + olTolerance s d k.val) * 110 / 100 ≤ ua) :
    ∃ t, exec (.olOnClear d k ua) s = .next t ∧
      t.field = (chanAt s d k { chan s d k with ol := false, olAcc := 0, olFrom := t.mono }).field ∧
      (chan s d k).olFrom + 1000000 ≤ t.mono ∧ ChansOnly s t d := by
  obtain ⟨w, hto, hreach⟩ := monoTo_clock s ((chan s d k).olFrom + 1000000)
  have hrun : exec (.olOnClear d k ua) s =
      .next (chanAt (withClock s w) d k { chan s d k with ol := false, olAcc := 0, olFrom := w.mono }) := by
    refine congrArg Host.Outcome.next ((if_pos ⟨hact, olAtOrAbove_above 110 h⟩).trans ?_)
    simp only [hto, olRestart]
    exact updChan_updChan ..
  exact ⟨_, hrun, rfl, hreach, fun e he => chanAt_other _ _ he, rfl⟩

theorem olOnClear_below {ua : Nat} (h : ua < (olThreshold s d k.val - olTolerance s d k.val) * 110 / 100) :
    exec (.olOnClear d k ua) s = .next s :=
  congrArg Host.Outcome.next (if_neg fun q => absurd q.2 (by rw [olAtOrAbove_below 110 h]; decide))

theorem olOffTest_sets {mv : Nat} (hact : olOffActive s d k = true) (h : 4000 < mv) : ∃ t, exec (.olOffTest d k mv) s = .next t ∧
    t.field = (chanAt s d k { chan s d k with ol := true }).field ∧ DieOnly s t d := by
  show ∃ t, execOlOffTest d k mv s = .next t ∧ _
  simp only [execOlOffTest, hact, Bool.not_true, Bool.false_eq_true, if_false, if_pos h]
  by_cases hol : (chan s d k).ol = true
  · have hsame : updChan s d k (fun c => { c with ol := true }) = s := updChan_fixed (by rw [← hol])
    refine ⟨s, congrArg Host.Outcome.next (if_pos hol), (congrArg State.field hsame).symm, fun _ _ => rfl, rfl⟩
  · obtain ⟨hfield, hdie⟩ := flagged_dieOnly s d k (fun c => { c with ol := true }) 42 k.val 1
    exact ⟨_, congrArg Host.Outcome.next (if_neg hol), hfield, hdie⟩

theorem olOffTest_clears {mv : Nat} (hact : olOffActive s d k = true) (h : mv < 2500) :
    exec (.olOffTest d k mv) s = .next (chanAt s d k { chan s d k with ol := false }) := by
  show execOlOffTest d k mv s = _
  simp only [execOlOffTest, hact, Bool.not_true, Bool.false_eq_true, if_false, if_neg (show ¬4000 < mv by omega), if_pos h]
  rfl

theorem olOffTest_between {mv : Nat} (hact : olOffActive s d k = true) (hlo : 2500 ≤ mv) (hhi : mv ≤ 4000) :
    exec (.olOffTest d k mv) s = .next s := by
  show execOlOffTest d k mv s = _
  simp only [execOlOffTest, hact, Bool.not_true, Bool.false_eq_true, if_false, if_neg (Nat.not_lt.mpr hhi), if_neg (Nat.not_lt.mpr hlo)]

theorem stbDetect_sets {mi : Int} (hgov : isGov s d k.val = true) (hc : conducts s d k = false) (hon : dieOn s d = true)
    (hstb : (chan s d k).stb = false) (h : (fld s d).vbb - 2000 < mi) : ∃ t, exec (.stbDetect d k mi) s = .next t ∧
      t.field = (chanAt s d k { chan s d k with stb := true }).field ∧ DieOnly s t d := by
  obtain ⟨hfield, hdie⟩ := flagged_dieOnly s d k (fun c => { c with stb := true }) 43 k.val (codeOf 32 mi)
  refine ⟨_, congrArg Host.Outcome.next (if_pos ⟨hgov, ?_, hon, ?_, h⟩), hfield, hdie⟩
  · rw [hc]; rfl
  · rw [hstb]; rfl

theorem stbDetect_below {mi : Int} (h : mi ≤ (fld s d).vbb - 2000) : exec (.stbDetect d k mi) s = .next s :=
  congrArg Host.Outcome.next (if_neg fun ⟨_, _, _, _, q⟩ => absurd q (Int.not_lt.mpr h))

theorem stbClear_clears {mi : Int} (hc : conducts s d k = false) (h : mi < (fld s d).vbb - 3000) :
    exec (.stbClear d k mi) s = .next (chanAt s d k { chan s d k with stb := false }) :=
  congrArg Host.Outcome.next (if_pos ⟨by rw [hc]; rfl, h⟩)

theorem stbClear_above {mi : Int} (h : (fld s d).vbb - 3000 ≤ mi) : exec (.stbClear d k mi) s = .next s :=
  congrArg Host.Outcome.next (if_neg fun q => absurd q.2 (Int.not_lt.mpr h))

/-! ## The governor (R239, R240, R253) -/

/-- Slice `l` reaches the die, and the die is on. -/
def reached (l : Lane) (d : FDie) (s : State) : Bool := s.die[toDie d].down[l].up && dieOn s d

/-- What an allowance rests on at a die: those it holds, the tick count, and whether the slice reaches it. -/
structure AllowanceView where
  allow : Vector (Nat × Option Nat) 3
  mono : Nat
  reached : Bool

def allowanceView (l : Lane) (d : FDie) (s : State) : AllowanceView := ⟨(fld s d).allow, s.mono, reached l d s⟩

/-- The view after an allowance of `a` mW of slice `l`. -/
def AllowanceView.taken (l : Lane) (a : Nat) (v : AllowanceView) : AllowanceView :=
  if v.reached then { v with allow := vset v.allow l.val (a, some v.mono) } else v

/-- The die with the allowance of slice `l`. -/
def allowed (l : Lane) (a now : Nat) (f : FieldSt) : FieldSt :=
  { f with allow := vset f.allow l.val (a, some now), reserved := waitingResv f }

/-- A die takes the allowance of slice `l`, and its held requests resume. -/
def takeAllowance (l : Lane) (a : Nat) (s : State) (d : FDie) : State :=
  if s.die[toDie d].down[l].up ∧ dieOn s d then waitPass false (updField s d (allowed l a s.mono)) d else s

theorem takeAllowance_reached (a : Nat) (h : reached l d s = true) :
    takeAllowance l a s d = waitPass false (updField s d (allowed l a s.mono)) d := if_pos ((Bool.and_eq_true ..).mp h)

theorem takeAllowance_missed (a : Nat) (h : reached l d s = false) : takeAllowance l a s d = s :=
  if_neg fun q => absurd ((Bool.and_eq_true ..).mpr q) (by rw [show (_ && _) = false from h]; decide)

theorem dieOn_of_pwr (h : t.pwr = s.pwr) (d : FDie) : dieOn t d = dieOn s d := by
  unfold dieOn powered
  rw [h]

theorem sansPass_reached (h : sansPass e t = sansPass e s) (l : Lane) (d : FDie) : reached l d t = reached l d s := by
  obtain ⟨-, -, hpwr, -⟩ := sansPass_clocks h
  have hdown : t.die[toDie d].down = s.die[toDie d].down := (congrArg DieSt.down (sansPass_die h (toDie d)) :)
  rw [reached, hdown, dieOn_of_pwr hpwr, reached]

theorem takeAllowance_at (l : Lane) (a : Nat) (s : State) (d : FDie) :
    allowanceView l d (takeAllowance l a s d) = (allowanceView l d s).taken l a := by
  cases hc : reached l d s with
  | true =>
    have hpass := waitPass_pass false (updField s d (allowed l a s.mono)) d
    rw [takeAllowance_reached a hc]
    generalize waitPass false (updField s d (allowed l a s.mono)) d = t at hpass
    obtain ⟨-, -, hallow⟩ := sansPass_monitors hpass
    obtain ⟨hmono, -, -, -⟩ := sansPass_clocks hpass
    rw [fld_updField] at hallow
    have hreached : reached l d t = true := (sansPass_reached hpass l d).trans hc
    rw [allowanceView, allowanceView, hallow, hmono, hreached, hc]
    rfl
  | false =>
    rw [takeAllowance_missed a hc, allowanceView, hc]
    rfl

theorem takeAllowance_pass (l : Lane) (a : Nat) (s : State) (d : FDie) : ∃ g, sansPass d (takeAllowance l a s d) = sansPass d (updField s d g) := by
  cases hc : reached l d s with
  | true => exact ⟨_, by rw [takeAllowance_reached a hc, waitPass_pass]⟩
  | false => exact ⟨id, by rw [takeAllowance_missed a hc, updField_fixed rfl]⟩

theorem takeAllowance_other (l : Lane) (a : Nat) (s : State) (h : e ≠ d) : allowanceView l d (takeAllowance l a s e) = allowanceView l d s := by
  obtain ⟨g, hpass⟩ := takeAllowance_pass l a s e
  generalize takeAllowance l a s e = t at hpass
  obtain ⟨hmono, -, -, -⟩ := sansPass_clocks hpass
  have hfield : fld t d = fld s d := (sansPass_other hpass h.symm).trans (fld_updField_other _ _ h.symm)
  rw [allowanceView, hfield, hmono, sansPass_reached hpass]
  rfl

theorem takeAllowance_clocks (l : Lane) (a : Nat) (s : State) (d : FDie) :
    ((takeAllowance l a s d).gov.est, (takeAllowance l a s d).time) = (s.gov.est, s.time) := by
  obtain ⟨g, hpass⟩ := takeAllowance_pass l a s d
  generalize takeAllowance l a s d = t at hpass
  obtain ⟨-, htime, -, hest⟩ := sansPass_clocks hpass
  rw [hest, htime]
  rfl

theorem count_fdies4 (d : FDie) : fdies4.count d = 1 := by
  revert d
  decide

/-- The dies take the allowance: each once, if the slice reaches it; the estimates and the clocks stand. -/
theorem takeAllowances_run (l : Lane) (a : Nat) (s : State) : ∃ t, fdies4.foldl (takeAllowance l a) s = t ∧ t.gov.est = s.gov.est ∧ t.time = s.time ∧
    ∀ d, reached l d s = true → (fld t d).allow = vset (fld s d).allow l.val (a, some t.mono) := by
  have hclocks := foldl_same (π := fun u : State => (u.gov.est, u.time)) (takeAllowance_clocks l a) fdies4 s
  have hview (d : FDie) := foldl_count (π := allowanceView l d) (fun u => takeAllowance_at l a u d) (fun u e he => takeAllowance_other l a u he) fdies4 s
  generalize fdies4.foldl (takeAllowance l a) s = t at hclocks hview
  refine ⟨t, rfl, congrArg Prod.fst hclocks, congrArg Prod.snd hclocks, fun d hd => ?_⟩
  have hd' := hview d
  rw [count_fdies4, Function.iterate_one, AllowanceView.taken, if_pos (by exact hd)] at hd'
  have hmono : t.mono = s.mono := (congrArg AllowanceView.mono hd' :)
  rw [hmono]
  exact (congrArg AllowanceView.allow hd' :)

/-- EST of a slice: the static share, the reported dissipations and the inputs' (R239, R253). -/
def estimate (s : State) (diss : List Nat) : Nat :=
  cfgField s 8 9 0 16 + diss.foldl (· + ·) 0 + (inputMw s 0 + inputMw s 1 + inputMw s 2 + inputMw s 3)

theorem fdies4_sum (f : FDie → Nat) : (fdies4.map f).foldl (fun a x => a + x) 0 = f 0 + f 1 + f 2 + f 3 := by
  have hsum : (fdies4.map f).foldl (fun a x => a + x) 0 = 0 + f 0 + f 1 + f 2 + f 3 := rfl
  rw [hsum, Nat.zero_add]

/-- An event recorded or not: only the ledger and its interrupt differ. -/
theorem ledger_if_frame (s : State) (c : Prop) [Decidable c] (code unit inst arg : Nat) :
    ∃ led irqStat, (if c then ledger s code unit inst arg else s) = { s with led := led, irqStat := irqStat } := by
  by_cases hc : c
  · exact ⟨_, _, (if_pos hc).trans (ledger_frame ..)⟩
  · exact ⟨s.led, s.irqStat, if_neg hc⟩

theorem timeTo_useFree (s : State) (i : Nat) : (timeTo (useFree s) i).gov = s.gov ∧ (timeTo (useFree s) i).die = s.die ∧
    (timeTo (useFree s) i).pwr = s.pwr ∧ s.time ≤ (timeTo (useFree s) i).time := by
  have hforward := timeTo_forward (useFree s) i
  obtain ⟨time, mono, tm, hto, -⟩ := timeTo_event (useFree s) i
  rw [hto] at hforward ⊢
  exact ⟨rfl, rfl, rfl, hforward⟩

/-- The state in which slice `l` has its estimate `est` of the instant `i`, with PKG_OVER at a rise of OVER (R240). -/
def estimated (l : Lane) (i est budget : Nat) (s : State) : State :=
  let s2 := { s with gov := { s.gov with est := vset s.gov.est l.val est, at_ := vset s.gov.at_ l.val i } }
  let ovr := decide (budget < vget s2.gov.est (govLane s2) 0)
  let s3 := { s2 with gov := { s2.gov with overBudget := ovr } }
  if ovr ∧ !s2.gov.overBudget then ledger s3 16 0 0 (vget s3.gov.est (govLane s3) 0) else s3

theorem estimated_run (l : Lane) (i est budget : Nat) (s : State) : ∃ t, estimated l i est budget s = t ∧
    t.gov.est = vset s.gov.est l.val est ∧ t.die = s.die ∧ t.pwr = s.pwr ∧ t.time = s.time := by
  unfold estimated
  extract_lets g2 s2 ovr g3 s3
  obtain ⟨led, irqStat, h4⟩ := ledger_if_frame s3 (ovr = true ∧ (!s2.gov.overBudget) = true) 16 0 0 (vget s3.gov.est (govLane s3) 0)
  exact ⟨_, h4, rfl, rfl, rfl, rfl⟩

theorem govAllowance_eq (l : Lane) (diss : List Nat) (s : State) : exec (.govAllowance l diss) s =
    .next (fdies4.foldl (takeAllowance l ((cfgField s 8 8 0 16 - estimate s diss) / 4))
      (estimated l (nextMs s.time s.gov.at_[l]) (estimate s diss) (cfgField s 8 8 0 16)
        (timeTo (useFree s) (nextMs s.time s.gov.at_[l])))) := by
  rw [estimate, ← fdies4_sum (inputMw s)]
  rfl

/-- GOV_ALLOWANCE: the slice's estimate, and a quarter of what is left to each die that it reaches. -/
theorem govAllowance_runs (l : Lane) (diss : List Nat) (s : State) : ∃ t, exec (.govAllowance l diss) s = .next t ∧
    t.gov.est = vset s.gov.est l.val (estimate s diss) ∧ s.time ≤ t.time ∧ ∀ d, reached l d s = true →
      ∃ old, (fld t d).allow = vset old l.val ((cfgField s 8 8 0 16 - estimate s diss) / 4, some t.mono) := by
  have hrun := govAllowance_eq l diss s
  obtain ⟨hgov, hsdie, hspwr, hforward⟩ := timeTo_useFree s (nextMs s.time s.gov.at_[l])
  generalize timeTo (useFree s) (nextMs s.time s.gov.at_[l]) = s1 at hrun hgov hsdie hspwr hforward
  obtain ⟨u, hu, hest, hdie, hpwr, htime⟩ :=
    estimated_run l (nextMs s.time s.gov.at_[l]) (estimate s diss) (cfgField s 8 8 0 16) s1
  rw [hu] at hrun
  obtain ⟨t, ht, htest, httime, hallow⟩ := takeAllowances_run l ((cfgField s 8 8 0 16 - estimate s diss) / 4) u
  rw [ht] at hrun
  refine ⟨t, hrun, by rw [htest, hest, hgov], hforward.trans (httime.trans htime).ge, fun d hd => ⟨_, hallow d ?_⟩⟩
  rw [← hd, reached, hdie, hsdie, dieOn_of_pwr (hpwr.trans hspwr), reached]

end

/-! ## The sum of a die's currents, the sense output and the stuck switch (R211, R246, R271) -/

section
variable {s t : State} {d : FDie} {k j : Chan}

theorem dieSumOver_runs (hon : dieOn s d = true) (ma : Nat) : ∃ t, exec (.dieSumOver d ma) s = .next t ∧
    t.field = s.field.set d { fld s d with sumOver := decide (16000 < ma) } ∧ DieOnly s t d := by
  have hrun : exec (.dieSumOver d ma) s = execDieSumOver d ma s := rfl
  simp only [hrun, execDieSumOver, hon, Bool.not_true, Bool.false_eq_true, if_false]
  have hsans : sansField d (updField s d fun f => { f with sumOver := decide (16000 < ma) }) = sansField d s := updField_sans ..
  split
  · exact ⟨_, rfl, dieLedger_field .., dieOnly_of_events ((dieLedger_events ..).trans (sansEvents_of_field hsans))⟩
  · exact ⟨_, rfl, rfl, dieOnly_of_events (sansEvents_of_field hsans)⟩

/-! ### The sense pointer (R246) -/

/-- The channel that the search of R246 stops at: masked, and the first one after `cur`. -/
theorem nextMasked_found {mask cur : Nat} (hmask : mask ≠ 0) (hlt : mask < 2 ^ 16) : ∃ i, nextMasked mask cur = (cur + 1 + i) % 16 ∧
    mask.testBit ((cur + 1 + i) % 16) = true ∧ ∀ j, j < i → mask.testBit ((cur + 1 + j) % 16) = false := by
  obtain ⟨b, hb⟩ := Nat.exists_testBit_of_ne_zero hmask
  have hb16 : b < 16 := by
    by_contra hge
    rw [Nat.testBit_lt_two_pow (hlt.trans_le (Nat.pow_le_pow_right (by decide) (Nat.not_lt.mp hge)))] at hb
    exact absurd hb (by decide)
  unfold nextMasked
  split
  · next i hi =>
    obtain ⟨hset, -, hclear⟩ := List.find?_range_eq_some.mp hi
    exact ⟨i, rfl, hset, fun j hj => by simpa using hclear j hj⟩
  · next hnone =>
    have hclear := List.find?_eq_none.mp hnone ((b + 16 - (cur + 1) % 16) % 16) (List.mem_range.mpr (Nat.mod_lt _ (by decide)))
    rw [rot_reaches (cur + 1) ⟨b, hb16⟩] at hclear
    exact absurd hb hclear

/-- From 15 on, the search finds the lowest masked channel. -/
theorem nextMasked_lowest {mask j : Nat} (hmask : mask ≠ 0) (hlt : mask < 2 ^ 16) (h : j < nextMasked mask 15) : mask.testBit j = false := by
  obtain ⟨i, hi, -, hclear⟩ := nextMasked_found (cur := 15) hmask hlt
  rw [hi, Nat.add_mod_left 16 i] at h
  have hj := hclear j (h.trans_le (Nat.mod_le i 16))
  rwa [Nat.add_mod_left 16 j, Nat.mod_eq_of_lt (h.trans (Nat.mod_lt i (by decide)))] at hj

theorem nextMasked_masked {mask : Nat} (hmask : mask ≠ 0) (hlt : mask < 2 ^ 16) (cur : Nat) : mask.testBit (nextMasked mask cur) = true := by
  obtain ⟨i, hi, hset, -⟩ := nextMasked_found (cur := cur) hmask hlt
  rwa [hi]

theorem sselStep_runs (hen : fdBit s d 4 1 = true) (hmask : fdField s d 4 16 16 ≠ 0) (hon : dieOn s d = true) (long : Bool) :
    ∃ t, exec (.sselStep d long) s = .next t ∧ (fdField s d 4 16 16).testBit (fld t d).snsCur = true ∧
      (long = true → ∀ j, j < (fld t d).snsCur → (fdField s d 4 16 16).testBit j = false) ∧
      t.field = s.field.set d { fld s d with snsCur := (fld t d).snsCur } ∧ t = { s with field := t.field } := by
  have hlt : fdField s d 4 16 16 < 2 ^ 16 := fieldOf_lt ..
  have hrun : exec (.sselStep d long) s = .next (updField s d fun f =>
      { f with snsCur := if long then nextMasked (fdField s d 4 16 16) 15 else nextMasked (fdField s d 4 16 16) f.snsCur }) :=
    congrArg Host.Outcome.next (if_pos ⟨hen, hmask, hon⟩)
  refine ⟨_, hrun, ?_, fun hlong j hj => ?_, ?_, rfl⟩
  · rw [fld_updField]
    dsimp only
    split <;> exact nextMasked_masked hmask hlt _
  · rw [fld_updField] at hj
    dsimp only at hj
    rw [if_pos hlong] at hj
    exact nextMasked_lowest hmask hlt hj
  · rw [fld_updField]
    rfl

/-! ### A stuck switch (R265 to R267, R271) -/

theorem chan_dropBits (s : State) (d : FDie) (i : Nat) (j : Chan) : chan (dropBits s d i) d j = chan s d j := by
  rw [dropBits, sweepStore, chan_updField (by exact fun _ => rfl), chan_updField (by exact fun _ => rfl)]

/-- What a change of one channel leaves of each channel. -/
theorem updChan_keeps {β : Type} {π : ChanSt → β} {g : ChanSt → ChanSt} (h : ∀ c, π (g c) = π c) (s : State) (d : FDie) (k j : Chan) :
    π (chan (updChan s d k g) d j) = π (chan s d j) := by
  by_cases hj : j = k
  · subst hj
    rw [chan_updChan, h]
  · rw [chan_updChan_other _ _ _ hj]

/-- A change of the deciding cause writes the held command and the coast window of a channel. -/
theorem causeChanged_keeps {β : Type} {π : ChanSt → β} (hπ : ∀ c held coast, π { c with held := held, coast := coast } = π c)
    (s : State) (d : FDie) (k j : Chan) (old : Nat) : π (chan (causeChanged s d k old) d j) = π (chan s d j) := by
  unfold causeChanged
  extract_lets c new newHold oldHold s1
  have h1 : chan s1 d j = chan s d j := ite_same (π := fun u => chan u d j) (chan_dropBits ..) rfl
  clear_value s1
  rw [← h1]
  refine ite_same (π := fun u => π (chan u d j)) (by rw [h1]) (ite_same (π := fun u => π (chan u d j)) (updChan_keeps ?_ ..)
    (ite_same (π := fun u => π (chan u d j)) rfl (updChan_keeps ?_ ..)))
  · exact fun c => hπ ..
  · exact fun c => hπ c c.held none

theorem setCauses_stuck (s : State) (d : FDie) (k j : Chan) (clear set : BitVec 8) :
    (chan (setCauses s d k clear set) d j).stuck = (chan s d j).stuck := by
  refine (causeChanged_keeps (π := ChanSt.stuck) (fun _ _ _ => rfl) ..).trans (updChan_keeps (π := ChanSt.stuck) ?_ ..)
  exact fun _ => rfl

theorem setCauses_causes (s : State) (d : FDie) (k : Chan) (clear set : BitVec 8) :
    (chan (setCauses s d k clear set) d k).causes = ((chan s d k).causes &&& ~~~clear) ||| set := by
  refine (causeChanged_keeps (π := ChanSt.causes) (fun _ _ _ => rfl) ..).trans ?_
  rw [chan_updChan]

/-- Cause 4 of the governing channel `g` of a stuck switch (R271). -/
def stuckSafe (s : State) (d : FDie) (g : Chan) : State := if isGov s d g.val then settle (setCauses s d g 0 (causeBit 4)) d else s

theorem stuckSafe_run (s : State) (d : FDie) (g k : Chan) : ∃ t, stuckSafe s d g = t ∧ sansField d t = sansField d s ∧
    (chan t d k).stuck = (chan s d k).stuck ∧ (isGov s d g.val = true → (chan t d g).causes.getLsbD 4 = true) := by
  unfold stuckSafe
  by_cases hg : isGov s d g.val = true
  · have hstuck := setCauses_stuck s d g k 0 (causeBit 4)
    have hcauses := setCauses_causes s d g 0 (causeBit 4)
    have hsans := setCauses_sans s d g 0 (causeBit 4)
    generalize setCauses s d g 0 (causeBit 4) = u at hstuck hcauses hsans
    have hrows := settle_rows u d
    have hsettle := (settle_sans u d).trans hsans
    refine ⟨_, if_pos hg, ?_⟩
    generalize settle u d = t at hrows hsettle
    have hstands : (chan t d k).stuck = (chan u d k).stuck := (congrArg ChanSt.stuck (sansRows_chan hrows k) :)
    have hactive : (chan t d g).causes = (chan u d g).causes := (congrArg ChanSt.causes (sansRows_chan hrows g) :)
    have hbit : (causeBit 4).getLsbD 4 = true := by decide
    refine ⟨hsettle, hstands.trans hstuck, fun _ => ?_⟩
    rw [hactive, hcauses, BitVec.getLsbD_or, hbit, Bool.or_true]
  · exact ⟨s, if_neg hg, rfl, rfl, fun h => absurd h hg⟩

/-- Which channel governs rests on the settings of its die. -/
theorem governing_of_settings (h : t.die[toDie d].settings = s.die[toDie d].settings) (k : Chan) :
    govOf t d k = govOf s d k ∧ isGov t d k.val = isGov s d k.val := by
  have hset (page off : Nat) : fdSet t d page off = fdSet s d page off := by rw [fdSet, h, fdSet]
  have hbit (n w i : Nat) : chBit t d n w i = chBit s d n w i := by rw [chBit, fdBit, hset, chBit, fdBit]
  have hmode (n : Nat) : chMode t d n = chMode s d n := by rw [chMode, chField, fdField, hset, chMode, chField, fdField]
  have hupper (n : Nat) : isUpper t d n = isUpper s d n := by rw [isUpper, hbit, isUpper]
  exact ⟨by rw [govOf, hupper, govOf], by rw [isGov, isOutput, hmode, hupper, isGov, isOutput]⟩

def switchStuck (c : ChanSt) : ChanSt := { c with stuck := true }

/-- A switch found stuck, with its event. -/
theorem stuckNoted_run (s : State) (d : FDie) (k : Chan) (ua : Nat) :
    ∃ t, dieLedger (updChan s d k switchStuck) (toDie d) 44 k.val ua = t ∧ (chan t d k).stuck = true ∧ sansEvents d t = sansEvents d s ∧
      t.die[toDie d].settings = s.die[toDie d].settings ∧ (uplinksDown s (toDie d) = false → sticky1 t 12 = true) := by
  have hsans := updChan_sans s d k switchStuck
  have hch := chan_updChan s d k switchStuck
  generalize updChan s d k switchStuck = u at hsans hch
  have hdie : u.die = s.die := (congrArg State.die hsans :)
  refine ⟨_, rfl, ?_, (dieLedger_events ..).trans (sansEvents_of_field hsans), ?_, fun hup => ?_⟩
  · rw [chan_dieLedger, hch]
    rfl
  · exact (dieLedger_keeps (π := DieSt.settings) (fun _ _ => rfl) ..).trans (by rw [hdie])
  · exact dieLedger_sticky1 (i := 12) _ _ (by decide) ((uplinksDown_of_die hdie).trans hup)

theorem chStuck_eq {t0 ua : Nat} {v : State} (hp : powered s (toDie d) = true) (hoff : stageOn s d k = false)
    (hst : (chan s d k).stuck = false) (h : (chan s d k).highSince = some t0)
    (hv : dieLedger (updChan (monoTo s (t0 + 1000000)) d k switchStuck) (toDie d) 44 k.val ua = v) :
    exec (.chStuck d k ua) s = .next (stuckSafe v d (govOf v d k)) := by
  subst hv
  have hrun : exec (.chStuck d k ua) s = execChStuck d k ua s := rfl
  rw [hrun, execChStuck]
  simp only [h, hp, hoff, hst, Bool.not_false, and_self, if_true]
  rfl

theorem chStuck_runs {t0 : Nat} (hp : powered s (toDie d) = true) (hoff : stageOn s d k = false) (hst : (chan s d k).stuck = false)
    (h : (chan s d k).highSince = some t0) (ua : Nat) : ∃ t, exec (.chStuck d k ua) s = .next t ∧ (chan t d k).stuck = true ∧
      t0 + 1000000 ≤ t.mono ∧ (isGov s d (govOf s d k).val = true → (chan t d (govOf s d k)).causes.getLsbD 4 = true) ∧
      (uplinksDown s (toDie d) = false → sticky1 t 12 = true) ∧ DieOnly s t d := by
  obtain ⟨w, hto, hreach⟩ := monoTo_clock s (t0 + 1000000)
  obtain ⟨v, hv, hflag, hframe, hset, hbit⟩ := stuckNoted_run (withClock s w) d k ua
  have hrun := chStuck_eq (v := v) hp hoff hst h (by rw [hto]; exact hv)
  have hgov (j : Chan) := governing_of_settings (s := s) hset j
  rw [(hgov k).1] at hrun
  obtain ⟨t, ht, hsans, hstuck, hcause⟩ := stuckSafe_run v d (govOf s d k) k
  rw [ht] at hrun
  have hall : sansEvents d t = sansEvents d (withClock s w) := (sansEvents_of_field hsans).trans hframe
  have hled : t.led = v.led := (congrArg State.led hsans :)
  obtain ⟨hother, honly⟩ := dieOnly_of_events hall
  refine ⟨t, hrun, hstuck.trans hflag, ?_, fun hg => hcause ((hgov _).2.trans hg), fun hup => ?_, hother, honly⟩
  · rw [sansEvents_mono hall]
    exact hreach
  · rw [sticky1, hled]
    exact hbit hup

theorem chStuck_idle (h : (chan s d k).highSince = none) (ua : Nat) : exec (.chStuck d k ua) s = .next s := by
  have hrun : exec (.chStuck d k ua) s = execChStuck d k ua s := rfl
  rw [hrun, execChStuck]
  simp only [h]

end

/-- EST of slice `l`. -/
def estOf (s : State) (l : Lane) : Nat := s.gov.est[l]

theorem govAllowance_clauses (l : Lane) (diss : List Nat) (s : State) (d : FDie) : ∃ t, exec (.govAllowance l diss) s = .next t ∧
    estOf t l = estimate s diss ∧
    (reached l d s = true → vget (fld t d).allow l.val (0, none) = ((cfgField s 8 8 0 16 - estOf t l) / 4, some t.mono)) ∧
    (∀ m : Lane, m ≠ l → estOf t m = estOf s m) ∧ s.time ≤ t.time := by
  obtain ⟨t, hrun, hest, htime, hallow⟩ := govAllowance_runs l diss s
  have hl : estOf t l = estimate s diss := by rw [estOf, hest]; exact vset_getElem _ _ l.isLt
  refine ⟨t, hrun, hl, fun hd => ?_, fun m hm => ?_, htime⟩
  · obtain ⟨old, hold⟩ := hallow d hd
    rw [hold, hl, vget, dif_pos l.isLt]
    exact vset_getElem _ _ l.isLt
  · rw [estOf, hest]
    exact vset_getElem_ne _ _ m.isLt fun q => hm (Fin.ext q.symm)

/-- Settles O49: each command's effect is the lemma named after it; a pass of the checks or an event of the die leaves what the command wrote. -/
theorem dieMonitors : Obligations.DieMonitors := by
  intro s d k l ts mi tj pw uas diss e mv ua ma t0 long
  refine ⟨fun hon => thermalSample_runs hon ts tj pw uas k, clampEventEnd_runs e, fun hon => tollRefill_runs hon k, fun hact => ?_, fun hact => ?_,
    fun hgov hc hon hstb => ?_, fun hc => ⟨stbClear_clears hc, stbClear_above⟩, ?_, fun hon => dieSumOver_runs hon ma,
    fun hen hmask hon => sselStep_runs hen hmask hon long, fun hp hoff hst => ?_⟩
  · exact ⟨olOnDetect_sets hact, olOnDetect_restarts hact, olOnClear_clears hact, olOnClear_below⟩
  · exact ⟨olOffTest_sets hact, olOffTest_clears hact, olOffTest_between hact⟩
  · exact ⟨stbDetect_sets hgov hc hon hstb, stbDetect_below⟩
  · obtain ⟨t, hrun, hest, hallow, hrest⟩ := govAllowance_clauses l diss s d
    exact ⟨t, hrun, hest, fun hup hon => hallow ((Bool.and_eq_true ..).mpr ⟨hup, hon⟩), hrest⟩
  · exact ⟨fun h => chStuck_runs hp hoff hst h ua, fun h => chStuck_idle h ua⟩

end Sys2Proof.Machine
